-- ==== Sys2Proof/Word.lean ====
section
/-! DEFINITION. The word types of the device and the type of its sparse tables (R13: every structure
is made of little-endian bytes; R869, R888: registers are 32-bit words). -/

namespace Sys2Proof

/-- One byte. -/
abbrev Byte := BitVec 8

/-- One register word. -/
abbrev Word := BitVec 32

/-- A run of bytes, the lowest address first. -/
abbrev Bytes := List Byte

/-- A sparse table: (key, value) pairs, keys strictly rising, no pair equal to what an unlisted key reads as.
The operations that keep this form are in `Sys2Proof/Machine/Table.lean`. -/
abbrev Table (α : Type) := List (Nat × α)

end Sys2Proof
end

