-- ==== Sys2Proof/Syntax.lean ====
section
/-! DEFINITION. The commands of the block (one constructor per row of the table of operations and events) and the
plain data they carry. -/

namespace Sys2Proof

/-- Who sends an access (R25, R872 and the initiator table of R734): the supervisor, an application core, the debug
access port, the host through BAR0 in endpoint mode, or a unit that masters the fabric. -/
inductive Initiator where
  | sup
  | cpu (n : Nat)
  | jtag
  | host
  | tc (n : Nat)
  | sfe
  | wch
  | fmt
  | dpp
  | venc (n : Nat)
  | vdec
  | pcie
  | eth (n : Nat)
  deriving DecidableEq, Repr

/-- The QoS classes of memory traffic. -/
inductive Qos where
  | line | live | tensor | ctrl | bulk
  deriving DecidableEq, Repr

/-- A 128-bit instruction without its opcode, which the row names (R201, R202). -/
structure Insn where
  flags : Nat := 0
  opa   : Nat := 0
  opb   : Nat := 0
  dst   : Nat := 0
  nest  : Nat := 0
  mod   : Nat := 0
  deriving DecidableEq, Repr

/-- One CSI-2 long packet as the lane receiver hands it on (R107): link, virtual channel, data type and payload, whose length
is its word count; whether the payload CRC fails, whether a single-bit error of the header was corrected. -/
structure Packet where
  link    : Nat
  vc      : Nat
  dt      : Nat
  payload : Bytes
  crcBad  : Bool := false
  fixed   : Bool := false
  deriving DecidableEq, Repr

/-- The mailbox page a supervisor command comes from (R759). -/
inductive Page where
  | host | driver
  deriving DecidableEq, Repr

/-- The kind of an application core's access. -/
inductive AccessKind where
  | load | store | fetch | walk | amo
  deriving DecidableEq, Repr

/-- The transactions of the control ring (R592), and a scrub (R613). -/
inductive CohKind where
  | getS | getM | upgrade | syncKeep | syncDrop | drop | scrub
  deriving DecidableEq, Repr

/-- The audited blocks (R862). -/
inductive AuditBlock where
  | pass | wch | mem
  deriving DecidableEq, Repr

/-- The units of a tensor core that hold operations in flight (R157), and the sequencer. -/
inductive TcUnit where
  | seq | dpa | vxu | plu | ldu | stu | pqu
  deriving DecidableEq, Repr

/-- What a sequence parameter set says (R551, R553, R562, R563): its number, whether profile and frame_mbs_only_flag lie
within R551, level_idc, the coded size, the output rectangle, the maximum DPB size, monochrome, and matrix_coeffs with
video_full_range_flag where it has a VUI. -/
structure SpsInfo where
  id        : Nat
  profileOk : Bool
  level     : Nat
  w         : Nat
  h         : Nat
  x0        : Nat
  y0        : Nat
  ow        : Nat
  oh        : Nat
  dpb       : Nat
  mono      : Bool
  vui       : Option (Nat × Bool)
  deriving DecidableEq, Repr

/-- What the standard's parsing of a slice gives: its SPS, whether its other parameter sets are present and undamaged,
whether it begins a picture, is of a random-access, an IDR, a RASL picture, is an I slice, whether the picture is output and
used for reference, its order count, its references (list 0 first; none: not in the DPB), the buffers that stay marked,
the 16x16 areas completely decoded, and what each reads: (area, buffer or the present picture, area read). -/
structure SliceInfo where
  sps      : Nat
  setsOk   : Bool
  first    : Bool
  rap      : Bool
  idr      : Bool
  rasl     : Bool
  intra    : Bool
  out      : Bool
  isRef    : Bool
  poc      : Int
  refs     : List (Option Nat)
  keep     : List Nat
  areas    : List Nat
  reads    : List (Nat × Option Nat × Nat)
  deriving DecidableEq, Repr

/-- The kinds of NAL unit that the decoder treats differently. -/
inductive NalBody where
  | other
  | sps (i : SpsInfo)
  | slice (i : SliceInfo)
  deriving DecidableEq, Repr

/-- One NAL unit as the decoder's parser reads it: its length with its start code, its body, and the first error in it, if
any (R569): whether it is a failed bounds check, its byte offset, its coding unit. -/
structure NalUnit where
  bytes : Nat
  body  : NalBody
  err   : Option (Bool × Nat × Nat)
  deriving DecidableEq, Repr

/-- One supervisor image slot as the boot ROM finds it (R727): whether an image is there and fits, whether its key's hash
and its signature are right, its security version, its SHA-384 digest. -/
structure BootImage where
  present : Bool
  sigOk   : Bool
  sv      : Nat
  digest  : Bytes
  deriving DecidableEq, Repr

/-- One Ethernet frame as the MAC receives it. -/
structure EthFrame where
  data : Bytes
  crcBad : Bool
  deriving DecidableEq, Repr

/-- What the thermal governor samples in one millisecond. -/
structure GovernorInput where
  temps : List Int
  power : Nat
  deriving DecidableEq, Repr

/-- The commands of the block: one constructor per row of `spec/opcode_table.json`. -/
inductive Instr where
  -- Register
  /-- `REGISTER_WRITE`. -/
  | registerWrite (who : Initiator) (addr : Nat) (size : Nat) (value : BitVec 64)
  /-- `MULTIWORD_CAPTURE_READ`. -/
  | multiwordCaptureRead (who : Initiator) (addr : Nat)
  -- Lpt
  /-- `LINE_BOUNDARY`. -/
  | lineBoundary (d : Nat)
  /-- `DOMAIN_START`. -/
  | domainStart (d : Nat)
  /-- `DOMAIN_ENABLE`. -/
  | domainEnable (d : Nat) (value : Word)
  /-- `DOMAIN_DISABLE`. -/
  | domainDisable (d : Nat) (value : Word)
  /-- `LPT_ENABLE`. -/
  | lptEnable
  /-- `LPT_DISABLE`. -/
  | lptDisable
  /-- `PREDICTED_FRAME_START`. -/
  | predictedFrameStart (d : Nat)
  /-- `FS_WINDOW_END`. -/
  | fsWindowEnd (d : Nat)
  -- Sfe
  /-- `FRAME_START`. -/
  | frameStart (link : Nat) (vc : Nat) (fixed : Bool)
  /-- `COUNTED_LINE`. -/
  | countedLine (pkt : Packet)
  /-- `FRAME_END_PACKET`. -/
  | frameEndPacket (link : Nat) (vc : Nat) (fixed : Bool)
  /-- `EMBEDDED_DATA_PACKET`. -/
  | embeddedDataPacket (link : Nat) (vc : Nat) (payload : Bytes) (crcBad : Bool) (fixed : Bool)
  /-- `GENERIC_SHORT_PACKET`. -/
  | genericShortPacket (link : Nat) (vc : Nat) (dt : Nat) (fixed : Bool)
  /-- `DESKEW_CALIBRATION`. -/
  | deskewCalibration (phy : Nat) (ok : Bool) (lanes : Nat)
  /-- `ULPS_ENTRY_EXIT`. -/
  | ulpsEntryExit (phy : Nat) (lane : Nat) (enter : Bool)
  /-- `GROUP_FS_BOUND_EXPIRY`. -/
  | groupFsBoundExpiry (sc : Nat)
  /-- `CONDITIONING_BURST`. -/
  | conditioningBurst
  /-- `STRIPE_PUSH`. -/
  | stripePush (sc : Nat)
  /-- `STATS_PUSH`. -/
  | statsPush (sc : Nat)
  /-- `SFE_CTX_ENABLE`. -/
  | sfeCtxEnable (sc : Nat) (value : Word)
  /-- `UNCORRECTABLE_HEADER`. -/
  | uncorrectableHeader (link : Nat)
  /-- `UNMATCHED_PACKET`. -/
  | unmatchedPacket (link : Nat) (vc : Nat) (dt : Nat) (fixed : Bool)
  -- Sched
  /-- `NONE`. -/
  | schedNone (n : Nat)
  /-- `FSYNC_SET`. -/
  | fsyncSet (n : Nat)
  /-- `FSYNC_CLR`. -/
  | fsyncClr (n : Nat)
  /-- `FSYNC_TRIM_EDGE`. -/
  | fsyncTrimEdge (pin : Nat)
  /-- `FSYNC_AUTO_PULSE_END`. -/
  | fsyncAutoPulseEnd (pin : Nat)
  /-- `FSYNC_DOMAIN_WRITE`. -/
  | fsyncDomainWrite (pin : Nat) (value : Word)
  /-- `ILL_ON`. -/
  | illOn (n : Nat)
  /-- `ILL_OFF`. -/
  | illOff (n : Nat)
  /-- `CTX_WAKE`. -/
  | ctxWake (n : Nat)
  /-- `FMT_START`. -/
  | fmtStart (n : Nat)
  /-- `VENC_SLICE`. -/
  | vencSlice (n : Nat)
  /-- `IRQ`. -/
  | irq (n : Nat)
  /-- `MAINT_OPEN`. -/
  | maintOpen (n : Nat)
  /-- `MAINT_CLOSE`. -/
  | maintClose (n : Nat)
  /-- `SCHED_ENTRY_WRITE`. -/
  | schedEntryWrite (n : Nat) (word : Nat) (value : Word)
  /-- `COMMIT`. -/
  | schedCommit
  /-- `MAINT_JOB_GRANT`. -/
  | maintJobGrant
  /-- `RETRAIN_FORCE`. -/
  | retrainForce
  -- Tod
  /-- `TOD_STEP_GO`. -/
  | todStepGo
  /-- `TOD_SRC_WRITE`. -/
  | todSrcWrite (value : Word)
  /-- `PPS_IN_EDGE`. -/
  | ppsInEdge
  /-- `PPS_MISS`. -/
  | ppsMiss
  /-- `PPS_OUT_RISE`. -/
  | ppsOutRise
  /-- `PPS_OUT_FALL`. -/
  | ppsOutFall
  -- Context
  /-- `GO`. -/
  | goCtx (core : Nat) (cx : Nat)
  /-- `STOP`. -/
  | stopCtx (core : Nat) (cx : Nat)
  /-- `CONTEXT_STOPPED`. -/
  | contextStopped (core : Nat) (cx : Nat)
  /-- `RESUME`. -/
  | resumeCtx (core : Nat) (cx : Nat)
  /-- `RESET`. -/
  | resetCtx (core : Nat) (cx : Nat)
  /-- `HALT_REQ`. -/
  | haltReq (core : Nat)
  /-- `HALT_REQ_CLEAR`. -/
  | haltReqClear (core : Nat)
  /-- `INSTRUCTION_FETCH`. -/
  | instructionFetch (core : Nat) (cx : Nat)
  -- Control
  /-- `NOP`. -/
  | nopI (core : Nat) (cx : Nat) (w : Insn)
  /-- `HALT`. -/
  | haltI (core : Nat) (cx : Nat) (w : Insn)
  /-- `YIELD`. -/
  | yieldI (core : Nat) (cx : Nat) (w : Insn)
  /-- `YIELD_TIMEOUT`. -/
  | yieldTimeout (core : Nat) (cx : Nat)
  /-- `FENCE`. -/
  | fenceI (core : Nat) (cx : Nat) (w : Insn)
  /-- `DEPMARK`. -/
  | depmarkI (core : Nat) (cx : Nat) (w : Insn)
  /-- `BARRIER`. -/
  | barrierI (core : Nat) (cx : Nat) (w : Insn)
  /-- `DRAIN`. -/
  | drainI (core : Nat) (cx : Nat) (w : Insn)
  /-- `NEST_IMPLIED_SYNC`. -/
  | nestImpliedSync (core : Nat) (cx : Nat)
  /-- `WAITLINE`. -/
  | waitlineI (core : Nat) (cx : Nat) (w : Insn)
  /-- `WAITLINE_SETPFX`. -/
  | waitlineSetpfx (core : Nat) (cx : Nat) (w : Insn)
  /-- `WAITLINE_RELEASE`. -/
  | waitlineRelease (core : Nat) (cx : Nat)
  /-- `DEADLINE`. -/
  | deadlineI (core : Nat) (cx : Nat) (w : Insn)
  /-- `DEADLINE_MISS`. -/
  | deadlineMiss (core : Nat) (cx : Nat)
  /-- `SIGNAL`. -/
  | signalI (core : Nat) (cx : Nat) (w : Insn)
  -- Movement
  /-- `LOAD`. -/
  | loadI (core : Nat) (cx : Nat) (w : Insn)
  /-- `LOAD_DATA_RETURN`. -/
  | loadDataReturn (core : Nat) (op : Nat) (line : Nat)
  /-- `STORE`. -/
  | storeI (core : Nat) (cx : Nat) (w : Insn)
  /-- `LOADW`. -/
  | loadwI (core : Nat) (cx : Nat) (w : Insn)
  /-- `COPY`. -/
  | copyI (core : Nat) (cx : Nat) (w : Insn)
  /-- `FILL`. -/
  | fillI (core : Nat) (cx : Nat) (w : Insn)
  -- Compute
  /-- `MMUL`. -/
  | mmulI (core : Nat) (cx : Nat) (w : Insn)
  /-- `CONV`. -/
  | convI (core : Nat) (cx : Nat) (w : Insn)
  /-- `DWCONV`. -/
  | dwconvI (core : Nat) (cx : Nat) (w : Insn)
  /-- `CX0_PREEMPT_START`. -/
  | cx0PreemptStart (core : Nat) (unit : TcUnit)
  /-- `VOP`. -/
  | vopI (core : Nat) (cx : Nat) (w : Insn)
  /-- `ACT`. -/
  | actI (core : Nat) (cx : Nat) (w : Insn)
  /-- `REQ`. -/
  | reqI (core : Nat) (cx : Nat) (w : Insn)
  /-- `REDUCE`. -/
  | reduceI (core : Nat) (cx : Nat) (w : Insn)
  /-- `SHUF`. -/
  | shufI (core : Nat) (cx : Nat) (w : Insn)
  /-- `POOLMAX`. -/
  | poolmaxI (core : Nat) (cx : Nat) (w : Insn)
  /-- `POOLAVG`. -/
  | poolavgI (core : Nat) (cx : Nat) (w : Insn)
  -- PassI
  /-- `PQPOP`. -/
  | pqpopI (core : Nat) (cx : Nat) (w : Insn)
  /-- `PQPUSH`. -/
  | pqpushI (core : Nat) (cx : Nat) (w : Insn)
  /-- `HALLOC`. -/
  | hallocI (core : Nat) (cx : Nat) (w : Insn)
  /-- `HREL`. -/
  | hrelI (core : Nat) (cx : Nat) (w : Insn)
  /-- `DETSUB`. -/
  | detsubI (core : Nat) (cx : Nat) (w : Insn)
  /-- `DETWAIT`. -/
  | detwaitI (core : Nat) (cx : Nat) (w : Insn)
  /-- `CONTEXT_WAKE_PASS`. -/
  | contextWakePass (core : Nat) (cx : Nat)
  -- Flow
  /-- `LOOP`. -/
  | loopI (core : Nat) (cx : Nat) (w : Insn)
  /-- `ENDLOOP`. -/
  | endloopI (core : Nat) (cx : Nat) (w : Insn)
  /-- `JUMP`. -/
  | jumpI (core : Nat) (cx : Nat) (w : Insn)
  /-- `BRZ`. -/
  | brzI (core : Nat) (cx : Nat) (w : Insn)
  /-- `BRNZ`. -/
  | brnzI (core : Nat) (cx : Nat) (w : Insn)
  /-- `SETS`. -/
  | setsI (core : Nat) (cx : Nat) (w : Insn)
  /-- `ADDS`. -/
  | addsI (core : Nat) (cx : Nat) (w : Insn)
  /-- `BUCKET`. -/
  | bucketI (core : Nat) (cx : Nat) (w : Insn)
  -- TcEvent
  /-- `OPERATION_RETIRE`. -/
  | operationRetire (core : Nat) (op : Nat)
  /-- `PARITY_ERROR`. -/
  | parityError (core : Nat) (op : Nat) (addr : Nat)
  /-- `PARITY_REPLAY_REISSUE`. -/
  | parityReplayReissue (core : Nat) (op : Nat)
  /-- `ACC_PARITY_ERROR`. -/
  | accParityError (core : Nat) (op : Nat) (entry : Nat)
  /-- `DEBUG_WINDOW_READ`. -/
  | debugWindowRead (who : Initiator) (addr : Nat) (size : Nat)
  /-- `DEBUG_WINDOW_WRITE`. -/
  | debugWindowWrite (who : Initiator) (addr : Nat) (data : Bytes)
  /-- `SPM_INIT`. -/
  | spmInit (core : Nat)
  /-- `SPM_POWERUP_INIT_DONE`. -/
  | spmPowerupInitDone (core : Nat)
  /-- `SPM_RES_VALID_WRITE`. -/
  | spmResValidWrite (core : Nat) (k : Nat) (value : Word)
  /-- `ACTTAB_WRITE`. -/
  | acttabWrite (core : Nat) (t : Nat) (word : Nat) (value : Word)
  -- Wch
  /-- `WCH_GROUP_FETCH`. -/
  | wchGroupFetch (head : Bool) (grp : Nat)
  /-- `WCH_MATCH_TIMEOUT`. -/
  | wchMatchTimeout (head : Bool) (grp : Nat)
  /-- `WCH_PACKET_HOP`. -/
  | wchPacketHop (hop : Nat) (upset : Nat)
  /-- `WCH_BYPASS_SWITCH`. -/
  | wchBypassSwitch (core : Nat)
  /-- `WCH_SPLIT_WRITE`. -/
  | wchSplitWrite (value : Word)
  -- Pass
  /-- `PQ_ENABLE`. -/
  | pqEnable (n : Nat) (value : Word)
  /-- `PQ_DISABLE`. -/
  | pqDisable (n : Nat) (value : Word)
  /-- `PQ_FLUSH`. -/
  | pqFlush (n : Nat)
  /-- `PQ_FLUSH_COMPLETE`. -/
  | pqFlushComplete (n : Nat)
  /-- `POOL_REVOKE`. -/
  | poolRevoke (pl : Nat) (hi : Bool) (mask : Word)
  /-- `POOL_BUMP_COMPLETE`. -/
  | poolBumpComplete (pl : Nat)
  /-- `PASS_CTRL_WRITE`. -/
  | passCtrlWrite (value : Word)
  /-- `SW_POP`. -/
  | swPop (who : Initiator) (k : Nat)
  /-- `SW_ALLOC`. -/
  | swAlloc (who : Initiator) (k : Nat)
  /-- `SW_RELEASE`. -/
  | swRelease (who : Initiator) (k : Nat)
  /-- `SW_PUSH`. -/
  | swPush (who : Initiator) (k : Nat) (value : Word)
  /-- `PASS_AUDIT`. -/
  | passAudit
  /-- `WCH_AUDIT`. -/
  | wchAudit
  /-- `MEM_AUDIT`. -/
  | memAudit
  /-- `AUDIT_COMPLETE`. -/
  | auditComplete (blk : AuditBlock)
  -- Fmt
  /-- `FMT_SOURCE_POP`. -/
  | fmtSourcePop (src : Nat)
  /-- `FMT_STREAM_PUSH`. -/
  | fmtStreamPush (os : Nat)
  /-- `FMT_DEADLINE`. -/
  | fmtDeadline (os : Nat)
  /-- `FMT_SOURCE_ENABLE`. -/
  | fmtSourceEnable (src : Nat) (value : Word)
  /-- `FMT_STREAM_ENABLE`. -/
  | fmtStreamEnable (os : Nat) (value : Word)
  /-- `FMT_STREAM_DISABLE`. -/
  | fmtStreamDisable (os : Nat) (value : Word)
  /-- `FMT_SOURCE_DISABLE`. -/
  | fmtSourceDisable (src : Nat) (value : Word)
  /-- `FMT_COEF_WRITE`. -/
  | fmtCoefWrite (b : Nat) (word : Nat) (value : Word)
  -- Dpp
  /-- `DPP_SUBMIT`. -/
  | dppSubmit (value : Word)
  /-- `DPP_BIND_POP`. -/
  | dppBindPop (k : Nat)
  /-- `DPP_JOB_START`. -/
  | dppJobStart
  /-- `DPP_JOB_COMPLETE`. -/
  | dppJobComplete
  /-- `DPP_ITEM_PUSH`. -/
  | dppItemPush (slot : Nat)
  /-- `DPP_SLOT_ABORT`. -/
  | dppSlotAbort (slot : Nat)
  /-- `DPP_DISABLE`. -/
  | dppDisable
  -- Venc
  /-- `VENC_PICTURE_POP`. -/
  | vencPicturePop (e : Nat) (ss : Nat)
  /-- `VENC_PICTURE_START`. -/
  | vencPictureStart (e : Nat) (ss : Nat)
  /-- `VENC_ROW_BOUNDARY`. -/
  | vencRowBoundary (e : Nat)
  /-- `VENC_PICTURE_COMPLETE`. -/
  | vencPictureComplete (e : Nat) (ss : Nat)
  /-- `VENC_DEADLINE`. -/
  | vencDeadline (e : Nat) (ss : Nat)
  /-- `VENC_SESSION_ENABLE`. -/
  | vencSessionEnable (e : Nat) (ss : Nat) (value : Word)
  /-- `VENC_SESSION_DISABLE`. -/
  | vencSessionDisable (e : Nat) (ss : Nat) (value : Word)
  /-- `VENC_CMD_TAIL_WRITE`. -/
  | vencCmdTailWrite (e : Nat) (value : Word)
  /-- `FORCE_IDR`. -/
  | forceIdr (e : Nat)
  /-- `MARK_LONG`. -/
  | markLong (e : Nat)
  /-- `UNMARK`. -/
  | unmark (e : Nat)
  /-- `HOLD`. -/
  | holdCmd (e : Nat)
  /-- `RELEASE`. -/
  | releaseCmd (e : Nat)
  /-- `SET_RATE`. -/
  | setRate (e : Nat)
  /-- `SET_QP`. -/
  | setQp (e : Nat)
  /-- `END_SESSION`. -/
  | endSession (e : Nat)
  -- Vdec
  /-- `VDEC_INPUT_POP`. -/
  | vdecInputPop (ss : Nat)
  /-- `VDEC_PICTURE_START`. -/
  | vdecPictureStart
  /-- `VDEC_NAL_UNIT`. -/
  | vdecNalUnit (ss : Nat) (nal : NalUnit)
  /-- `VDEC_BUDGET_EXHAUSTED`. -/
  | vdecBudgetExhausted (ss : Nat) (nalBudget : Bool)
  /-- `VDEC_PICTURE_COMPLETE`. -/
  | vdecPictureComplete (ss : Nat)
  /-- `VDEC_OUTPUT`. -/
  | vdecOutput (ss : Nat) (buf : Nat)
  /-- `VDEC_DRAIN`. -/
  | vdecDrain (ss : Nat)
  /-- `VDEC_SESSION_DISABLE`. -/
  | vdecSessionDisable (ss : Nat) (value : Word)
  -- Coh
  /-- `GET_S`. -/
  | getS (cpu : Nat) (line : Nat)
  /-- `GET_M`. -/
  | getM (cpu : Nat) (line : Nat) (lr : Bool)
  /-- `UPGRADE`. -/
  | upgrade (cpu : Nat) (line : Nat)
  /-- `PUT_DIRTY`. -/
  | putDirty (cpu : Nat) (line : Nat)
  /-- `SYNC_KEEP`. -/
  | syncKeep (cpu : Nat) (line : Nat)
  /-- `SYNC_DROP`. -/
  | syncDrop (cpu : Nat) (line : Nat)
  /-- `DROP`. -/
  | dropLine (cpu : Nat) (line : Nat)
  /-- `CBO_CLEAN`. -/
  | cboClean (cpu : Nat) (addr : Nat)
  /-- `CBO_FLUSH`. -/
  | cboFlush (cpu : Nat) (addr : Nat)
  /-- `CBO_INVAL`. -/
  | cboInval (cpu : Nat) (addr : Nat) (cbie : Nat)
  /-- `CPU_POISON_ACCESS`. -/
  | cpuPoisonAccess (cpu : Nat) (addr : Nat) (kind : AccessKind)
  /-- `SNOOP_TIMEOUT`: a snoop of `core` that the home of `line` sent at tick `sent`. -/
  | snoopTimeout (core : Nat) (line : Nat) (requester : Nat) (kind : CohKind) (sent : Nat)
  /-- `COH_SCRUB`. -/
  | cohScrub (value : Word)
  /-- `FLUSH_ALL`. -/
  | flushAll (cpu : Nat)
  /-- `FLUSH_ALL_DONE`. -/
  | flushAllDone (cpu : Nat)
  /-- `CPU_STORE_HIT`. -/
  | cpuStoreHit (cpu : Nat) (addr : Nat) (data : Bytes)
  /-- `CACHE_LINE_EVICTION`. -/
  | cacheLineEviction (cpu : Nat) (line : Nat)
  -- Mem
  /-- `MEM_INIT`. -/
  | memInit
  /-- `MEM_INIT_DONE`. -/
  | memInitDone
  /-- `MEM_READ`. -/
  | memRead (who : Initiator) (cls : Qos) (addr : Nat) (ce : Nat) (ue : Nat)
  /-- `MEM_WRITE`. -/
  | memWrite (who : Initiator) (cls : Qos) (addr : Nat) (data : Bytes) (mask : Nat) (poison : Nat) (errs : Nat) (more : Bool)
  /-- `MEM_CE_WRITEBACK`. -/
  | memCeWriteback (addr : Nat)
  /-- `MEM_STARVE`. -/
  | memStarve (slice : Nat)
  /-- `MEM_LINE_WINDOW`. -/
  | memLineWindow (slice : Nat)
  /-- `MR4_POLL`. -/
  | mr4Poll (ch : Nat) (rate : Nat) (temp : Nat)
  /-- `REFRESH_DUE`. -/
  | refreshDue (ch : Nat) (bank : Nat) (lineWaiting : Bool)
  /-- `REFRESH_FORCED`. -/
  | refreshForced (ch : Nat) (bank : Nat)
  /-- `RETRAIN_DUE`. -/
  | retrainDue (ch : Nat)
  /-- `RETRAIN_COMPLETE`. -/
  | retrainComplete (ch : Nat) (ok : Bool)
  /-- `DRAM_WRITE_COMPLETE`. -/
  | dramWriteComplete (slice : Nat)
  -- Pcie
  /-- `PCIE_LINK_TRAIN`. -/
  | pcieLinkTrain (port : Nat)
  /-- `PCIE_INBOUND_REQUEST`. -/
  | pcieInboundRequest (port : Nat) (write : Bool) (bar : Nat) (addr : Nat) (data : Bytes) (ep : Bool)
  /-- `PCIE_COMPLETION_TIMEOUT`. -/
  | pcieCompletionTimeout (port : Nat) (tag : Nat)
  /-- `PCIE_LINK_DOWN`. -/
  | pcieLinkDown (port : Nat) (cut : Nat)
  /-- `PCIE_PERST`. -/
  | pciePerst
  /-- `PCIE_EP_IRQ`. -/
  | pcieEpIrq (value : Word)
  /-- `MSIX_UNMASK`. -/
  | msixUnmask (v : Nat)
  /-- `PCIE_OUTBOUND_REQUEST`. -/
  | pcieOutboundRequest (who : Initiator) (addr : Nat) (write : Bool)
  /-- `PCIE_COMPLETION_RECEIVED`. -/
  | pcieCompletionReceived (port : Nat) (tag : Nat) (poisoned : Bool)
  /-- `PCIE_LINK_UP`. -/
  | pcieLinkUp (port : Nat) (width : Nat) (speed : Nat)
  /-- `PCIE_INTERRUPT_RECEIVED`. -/
  | pcieInterruptReceived (intx : Bool) (v : Nat)
  -- Eth
  /-- `ETH_TAIL_WRITE`. -/
  | ethTailWrite (n : Nat) (q : Nat) (value : Word)
  /-- `ETH_TX_FRAME`. -/
  | ethTxFrame (n : Nat)
  /-- `ETH_RX_FRAME`. -/
  | ethRxFrame (n : Nat) (frame : EthFrame)
  /-- `MDIO_GO`. -/
  | mdioGo (n : Nat) (value : Word)
  /-- `ETH_LINK_CHANGE`. -/
  | ethLinkChange (n : Nat) (up : Bool) (speed : Nat) (an : Bool)
  -- Periph
  /-- `I3C_COMMAND`. -/
  | i3cCommand (n : Nat) (value : Word)
  /-- `I3C_WAIT_RELEASE`. -/
  | i3cWaitRelease (n : Nat)
  /-- `I3C_TRANSFER_COMPLETE`. -/
  | i3cTransferComplete (n : Nat) (status : Nat) (count : Nat) (data : Bytes)
  /-- `I3C_IBI`. -/
  | i3cIbi (n : Nat) (word : Word)
  /-- `I3C_ABORT`. -/
  | i3cAbort (n : Nat)
  /-- `I3C_RESP_READ`. -/
  | i3cRespRead (n : Nat)
  /-- `I3C_IBI_READ`. -/
  | i3cIbiRead (n : Nat)
  /-- `UART_RX_BYTE`. -/
  | uartRxByte (n : Nat) (b : Byte)
  /-- `GPIO_EDGE`. -/
  | gpioEdge (pin : Nat) (rising : Bool)
  /-- `GPIO_CAP_FRAME_READ`. -/
  | gpioCapFrameRead (k : Nat)
  -- Ill
  /-- `ILL_BLANK_END`. -/
  | illBlankEnd (ch : Nat)
  /-- `ILL_FAST_TRIP`. -/
  | illFastTrip (ch : Nat)
  /-- `ILL_NORMAL_TRIP`. -/
  | illNormalTrip (ch : Nat)
  /-- `ILL_MAXON_EXPIRY`. -/
  | illMaxonExpiry (ch : Nat)
  /-- `ILL_GATE_UV`. -/
  | illGateUv
  /-- `ILL_GATE_UV_RECOVER`. -/
  | illGateUvRecover
  /-- `ILL_FAULT_CLEAR`. -/
  | illFaultClear (ch : Nat) (value : Word)
  /-- `ILL_CHANNEL_DISABLE`. -/
  | illChannelDisable (ch : Nat) (value : Word)
  -- Dsv
  /-- `BOOT_ROM`. -/
  | bootRom (a : BootImage) (b : BootImage)
  /-- `SUPERVISOR_BOOT`. -/
  | supervisorBoot (loader : Bytes) (sig : Bytes) (tagOk : Bool)
  /-- `GET_INFO`. -/
  | getInfo (page : Page)
  /-- `GET_DEVICE_CERT`. -/
  | getDeviceCert (page : Page)
  /-- `ATTEST`. -/
  | attest (page : Page)
  /-- `PROPOSE`. -/
  | propose (page : Page)
  /-- `ENDORSE`. -/
  | endorse (page : Page) (stored : Bool)
  /-- `CANCEL`. -/
  | cancelProposal (page : Page)
  /-- `GET_PROTECTION`. -/
  | getProtection (page : Page)
  /-- `CHAIN_FLUSH`. -/
  | chainFlush (page : Page)
  /-- `GET_DEVICE_TAG`. -/
  | getDeviceTag (page : Page)
  /-- `SET_DEVICE_TAG`. -/
  | setDeviceTag (page : Page)
  /-- `FLASH_READ`. -/
  | flashRead (page : Page)
  /-- `FLASH_WRITE`. -/
  | flashWrite (page : Page)
  /-- `MAILBOX_MALFORMED`. -/
  | mailboxMalformed (page : Page)
  /-- `ENDORSE_LOCKOUT_END`. -/
  | endorseLockoutEnd
  /-- `DEBUG_LOCK`. -/
  | debugLock
  /-- `EVID_ITEM_POP`. -/
  | evidItemPop (e : Nat)
  /-- `SEGMENT_TIMEOUT`. -/
  | segmentTimeout (e : Nat) (ss : Nat)
  /-- `DOORBELL_WHILE_BUSY`. -/
  | doorbellWhileBusy (page : Page)
  -- Power
  /-- `GET_POWER`. -/
  | getPower (page : Page)
  /-- `SET_POWER`. -/
  | setPower (page : Page)
  /-- `GET_RAILS`. -/
  | getRails (page : Page)
  /-- `WAKE_N_FALL`. -/
  | wakeNFall
  /-- `WAKE_ALARM`. -/
  | wakeAlarm
  /-- `POWER_GRACE_END`. -/
  | powerGraceEnd
  /-- `POWER_UP_STEP`. -/
  | powerUpStep
  /-- `POWER_DOWN_STEP`. -/
  | powerDownStep
  /-- `PG_TIMEOUT`. -/
  | pgTimeout (rail : Nat)
  /-- `PG_FALL`. -/
  | pgFall (rail : Nat)
  /-- `HARDWARE_TRIP`. -/
  | hardwareTrip (sensor : Nat)
  /-- `REFCLK_LOSS`. -/
  | refclkLoss
  /-- `REFCLK_RESUME`. -/
  | refclkResume (ms : Nat)
  /-- `POWER_ON_RESET`. -/
  | powerOnReset
  /-- `WARM_RESET`. -/
  | warmReset
  -- Reset
  /-- `UNIT_RESET_TC`. -/
  | unitResetTc (n : Nat)
  /-- `UNIT_RESET_CPU`. -/
  | unitResetCpu (n : Nat)
  /-- `UNIT_RESET_SFE`. -/
  | unitResetSfe
  /-- `UNIT_RESET_FMT`. -/
  | unitResetFmt
  /-- `UNIT_RESET_DPP`. -/
  | unitResetDpp
  /-- `UNIT_RESET_VENC`. -/
  | unitResetVenc (e : Nat)
  /-- `UNIT_RESET_VDEC`. -/
  | unitResetVdec
  /-- `UNIT_RESET_PCIE`. -/
  | unitResetPcie
  /-- `UNIT_RESET_ETH`. -/
  | unitResetEth (n : Nat)
  /-- `UNIT_RESET_I3C`. -/
  | unitResetI3c
  /-- `UNIT_RESET_RELEASE`. -/
  | unitResetRelease (bit : Nat)
  -- Clock
  /-- `TC_GATE`. -/
  | tcGate (value : Word)
  /-- `TC_POWER_UP`. -/
  | tcPowerUp (n : Nat)
  /-- `CPU_GATE`. -/
  | cpuGate (value : Word)
  /-- `CPU_GATE_TIMEOUT`. -/
  | cpuGateTimeout (cpu : Nat)
  /-- `WFI_ENTRY`. -/
  | wfiEntry (cpu : Nat)
  /-- `TCLK_REQUEST`. -/
  | tclkRequest (value : Word)
  /-- `CPU_CLOCK_REQUEST`. -/
  | cpuClockRequest (value : Word)
  /-- `CLOCK_STEP`. -/
  | clockStep (cpu : Bool)
  /-- `AVS_EVALUATE`. -/
  | avsEvaluate (cpu : Bool) (monitorMv : Nat)
  /-- `PMBUS_TRANSACTION_DONE`. -/
  | pmbusTransactionDone (cpu : Bool) (ok : Bool)
  /-- `RAIL_SETTLED`. -/
  | railSettled (cpu : Bool)
  -- Thermal
  /-- `GOVERNOR_SAMPLE`. -/
  | governorSample (g : GovernorInput)
  /-- `THM_CAL_UNPLACED`. -/
  | thmCalUnplaced
  /-- `FLOW_WINDOW`. -/
  | flowWindow (pulses : Nat)
  /-- `NTC_SAMPLE`. -/
  | ntcSample (inlet : Int) (outlet : Int)
  /-- `PUMP_STALL`. -/
  | pumpStall
  /-- `THM_CAL_DUE`. -/
  | thmCalDue
  /-- `THM_CAL_END`. -/
  | thmCalEnd
  /-- `GET_THERMAL`. -/
  | getThermal (page : Page)
  /-- `GET_TRIP_LOG`. -/
  | getTripLog (page : Page)
  -- Errors
  /-- `ERROR_RECORD_POST`. -/
  | errorRecordPost
  /-- `ERROR_RING_WRITE`. -/
  | errorRingWrite
  /-- `RATE_LIMIT_INTERVAL_END`. -/
  | rateLimitIntervalEnd (key : Nat)
  /-- `TELEMETRY_SNAPSHOT`. -/
  | telemetrySnapshot
  /-- `TELEMETRY_UNPLACED`. -/
  | telemetryUnplaced
  deriving DecidableEq, Repr

end Sys2Proof
end

