-- ==== Sys2Proof/WellFormed.lean ====
section
/-! DEFINITION. Which commands name things the device has: numbers of units, entries, queues and channels within their
counts, operands of an instruction within their fields. -/

namespace Sys2Proof

/-- Whether an initiator exists. -/
def Initiator.wf : Initiator → Bool
  | .cpu n => decide (n < 4)
  | .tc n => decide (n < 8)
  | .venc n => decide (n < 2)
  | .eth n => decide (n < 2)
  | _ => true

/-- Whether an instruction's fields fit their widths (R201, R202). -/
def Insn.wf (w : Insn) : Bool :=
  decide (w.flags < 2 ^ 8) && decide (w.opa < 2 ^ 16) && decide (w.opb < 2 ^ 16) && decide (w.dst < 2 ^ 16) && decide (w.nest < 2 ^ 16)
    && decide (w.mod < 2 ^ 48)

/-- Whether a packet's identifiers fit (R107). -/
def Packet.wf (p : Packet) : Bool := decide (p.link < 16) && decide (p.vc < 32) && decide (p.dt < 64)

/-- Whether a command is well formed. -/
def Instr.wf : Instr → Bool
  | .registerWrite who _ size _ => who.wf && (decide (size = 4) || decide (size = 8))
  | .multiwordCaptureRead who _ => who.wf
  | .lineBoundary d => decide (d < 8)
  | .domainStart d => decide (d < 8)
  | .domainEnable d _ => decide (d < 8)
  | .domainDisable d _ => decide (d < 8)
  | .lptEnable => true
  | .lptDisable => true
  | .predictedFrameStart d => decide (d < 8)
  | .fsWindowEnd d => decide (d < 8)
  | .frameStart link vc _ => decide (link < 16) && decide (vc < 32)
  | .countedLine pkt => pkt.wf
  | .frameEndPacket link vc _ => decide (link < 16) && decide (vc < 32)
  | .embeddedDataPacket link vc _ _ _ => decide (link < 16) && decide (vc < 32)
  | .genericShortPacket link vc dt _ => decide (link < 16) && decide (vc < 32) && decide (dt < 64)
  | .deskewCalibration phy _ _ => decide (phy < 8)
  | .ulpsEntryExit phy lane _ => decide (phy < 8) && decide (lane < 4)
  | .groupFsBoundExpiry sc => decide (sc < 16)
  | .conditioningBurst => true
  | .stripePush sc => decide (sc < 16)
  | .statsPush sc => decide (sc < 16)
  | .sfeCtxEnable sc _ => decide (sc < 16)
  | .uncorrectableHeader link => decide (link < 16)
  | .unmatchedPacket link vc dt _ => decide (link < 16) && decide (vc < 32) && decide (dt < 64)
  | .schedNone n => decide (n < 512)
  | .fsyncSet n => decide (n < 512)
  | .fsyncClr n => decide (n < 512)
  | .fsyncTrimEdge pin => decide (pin < 16)
  | .fsyncAutoPulseEnd pin => decide (pin < 16)
  | .fsyncDomainWrite pin _ => decide (pin < 16)
  | .illOn n => decide (n < 512)
  | .illOff n => decide (n < 512)
  | .ctxWake n => decide (n < 512)
  | .fmtStart n => decide (n < 512)
  | .vencSlice n => decide (n < 512)
  | .irq n => decide (n < 512)
  | .maintOpen n => decide (n < 512)
  | .maintClose n => decide (n < 512)
  | .schedEntryWrite n word _ => decide (n < 512) && decide (word < 4)
  | .schedCommit => true
  | .maintJobGrant => true
  | .retrainForce => true
  | .todStepGo => true
  | .todSrcWrite _ => true
  | .ppsInEdge => true
  | .ppsMiss => true
  | .ppsOutRise => true
  | .ppsOutFall => true
  | .goCtx core cx => decide (core < 8) && decide (cx < 4)
  | .stopCtx core cx => decide (core < 8) && decide (cx < 4)
  | .contextStopped core cx => decide (core < 8) && decide (cx < 4)
  | .resumeCtx core cx => decide (core < 8) && decide (cx < 4)
  | .resetCtx core cx => decide (core < 8) && decide (cx < 4)
  | .haltReq core => decide (core < 8)
  | .haltReqClear core => decide (core < 8)
  | .instructionFetch core cx => decide (core < 8) && decide (cx < 4)
  | .nopI core cx w => decide (core < 8) && decide (cx < 4) && w.wf
  | .haltI core cx w => decide (core < 8) && decide (cx < 4) && w.wf
  | .yieldI core cx w => decide (core < 8) && decide (cx < 4) && w.wf
  | .yieldTimeout core cx => decide (core < 8) && decide (cx < 4)
  | .fenceI core cx w => decide (core < 8) && decide (cx < 4) && w.wf
  | .depmarkI core cx w => decide (core < 8) && decide (cx < 4) && w.wf
  | .barrierI core cx w => decide (core < 8) && decide (cx < 4) && w.wf
  | .drainI core cx w => decide (core < 8) && decide (cx < 4) && w.wf
  | .nestImpliedSync core cx => decide (core < 8) && decide (cx < 4)
  | .waitlineI core cx w => decide (core < 8) && decide (cx < 4) && w.wf
  | .waitlineSetpfx core cx w => decide (core < 8) && decide (cx < 4) && w.wf
  | .waitlineRelease core cx => decide (core < 8) && decide (cx < 4)
  | .deadlineI core cx w => decide (core < 8) && decide (cx < 4) && w.wf
  | .deadlineMiss core cx => decide (core < 8) && decide (cx < 4)
  | .signalI core cx w => decide (core < 8) && decide (cx < 4) && w.wf
  | .loadI core cx w => decide (core < 8) && decide (cx < 4) && w.wf
  | .loadDataReturn core _ line => decide (core < 8) && decide (line % 64 = 0)
  | .storeI core cx w => decide (core < 8) && decide (cx < 4) && w.wf
  | .loadwI core cx w => decide (core < 8) && decide (cx < 4) && w.wf
  | .copyI core cx w => decide (core < 8) && decide (cx < 4) && w.wf
  | .fillI core cx w => decide (core < 8) && decide (cx < 4) && w.wf
  | .mmulI core cx w => decide (core < 8) && decide (cx < 4) && w.wf
  | .convI core cx w => decide (core < 8) && decide (cx < 4) && w.wf
  | .dwconvI core cx w => decide (core < 8) && decide (cx < 4) && w.wf
  | .cx0PreemptStart core _ => decide (core < 8)
  | .vopI core cx w => decide (core < 8) && decide (cx < 4) && w.wf
  | .actI core cx w => decide (core < 8) && decide (cx < 4) && w.wf
  | .reqI core cx w => decide (core < 8) && decide (cx < 4) && w.wf
  | .reduceI core cx w => decide (core < 8) && decide (cx < 4) && w.wf
  | .shufI core cx w => decide (core < 8) && decide (cx < 4) && w.wf
  | .poolmaxI core cx w => decide (core < 8) && decide (cx < 4) && w.wf
  | .poolavgI core cx w => decide (core < 8) && decide (cx < 4) && w.wf
  | .pqpopI core cx w => decide (core < 8) && decide (cx < 4) && w.wf
  | .pqpushI core cx w => decide (core < 8) && decide (cx < 4) && w.wf
  | .hallocI core cx w => decide (core < 8) && decide (cx < 4) && w.wf
  | .hrelI core cx w => decide (core < 8) && decide (cx < 4) && w.wf
  | .detsubI core cx w => decide (core < 8) && decide (cx < 4) && w.wf
  | .detwaitI core cx w => decide (core < 8) && decide (cx < 4) && w.wf
  | .contextWakePass core cx => decide (core < 8) && decide (cx < 4)
  | .loopI core cx w => decide (core < 8) && decide (cx < 4) && w.wf
  | .endloopI core cx w => decide (core < 8) && decide (cx < 4) && w.wf
  | .jumpI core cx w => decide (core < 8) && decide (cx < 4) && w.wf
  | .brzI core cx w => decide (core < 8) && decide (cx < 4) && w.wf
  | .brnzI core cx w => decide (core < 8) && decide (cx < 4) && w.wf
  | .setsI core cx w => decide (core < 8) && decide (cx < 4) && w.wf
  | .addsI core cx w => decide (core < 8) && decide (cx < 4) && w.wf
  | .bucketI core cx w => decide (core < 8) && decide (cx < 4) && w.wf
  | .operationRetire core _ => decide (core < 8)
  | .parityError core _ _ => decide (core < 8)
  | .parityReplayReissue core _ => decide (core < 8)
  | .accParityError core _ _ => decide (core < 8)
  | .debugWindowRead who _ _ => who.wf
  | .debugWindowWrite who _ _ => who.wf
  | .spmInit core => decide (core < 8)
  | .spmPowerupInitDone core => decide (core < 8)
  | .spmResValidWrite core k _ => decide (core < 8) && decide (k < 16)
  | .acttabWrite core t word _ => decide (core < 8) && decide (t < 8) && decide (word < 128)
  | .wchGroupFetch _ grp => decide (grp < 16)
  | .wchMatchTimeout _ grp => decide (grp < 16)
  | .wchPacketHop hop _ => decide (hop < 8)
  | .wchBypassSwitch core => decide (core < 8)
  | .wchSplitWrite _ => true
  | .pqEnable n _ => decide (n < 64)
  | .pqDisable n _ => decide (n < 64)
  | .pqFlush n => decide (n < 64)
  | .pqFlushComplete n => decide (n < 64)
  | .poolRevoke pl _ _ => decide (pl < 32)
  | .poolBumpComplete pl => decide (pl < 32)
  | .passCtrlWrite _ => true
  | .swPop who k => who.wf && decide (k < 4)
  | .swAlloc who k => who.wf && decide (k < 4)
  | .swRelease who k => who.wf && decide (k < 4)
  | .swPush who k _ => who.wf && decide (k < 4)
  | .passAudit => true
  | .wchAudit => true
  | .memAudit => true
  | .auditComplete _ => true
  | .fmtSourcePop src => decide (src < 16)
  | .fmtStreamPush os => decide (os < 48)
  | .fmtDeadline os => decide (os < 48)
  | .fmtSourceEnable src _ => decide (src < 16)
  | .fmtStreamEnable os _ => decide (os < 48)
  | .fmtStreamDisable os _ => decide (os < 48)
  | .fmtSourceDisable src _ => decide (src < 16)
  | .fmtCoefWrite b word _ => decide (b < 8) && decide (word < 448)
  | .dppSubmit _ => true
  | .dppBindPop k => decide (k < 4)
  | .dppJobStart => true
  | .dppJobComplete => true
  | .dppItemPush slot => decide (slot < 8)
  | .dppSlotAbort slot => decide (slot < 8)
  | .dppDisable => true
  | .vencPicturePop e ss => decide (e < 2) && decide (ss < 16)
  | .vencPictureStart e ss => decide (e < 2) && decide (ss < 16)
  | .vencRowBoundary e => decide (e < 2)
  | .vencPictureComplete e ss => decide (e < 2) && decide (ss < 16)
  | .vencDeadline e ss => decide (e < 2) && decide (ss < 16)
  | .vencSessionEnable e ss _ => decide (e < 2) && decide (ss < 16)
  | .vencSessionDisable e ss _ => decide (e < 2) && decide (ss < 16)
  | .vencCmdTailWrite e _ => decide (e < 2)
  | .forceIdr e => decide (e < 2)
  | .markLong e => decide (e < 2)
  | .unmark e => decide (e < 2)
  | .holdCmd e => decide (e < 2)
  | .releaseCmd e => decide (e < 2)
  | .setRate e => decide (e < 2)
  | .setQp e => decide (e < 2)
  | .endSession e => decide (e < 2)
  | .vdecInputPop ss => decide (ss < 8)
  | .vdecPictureStart => true
  | .vdecNalUnit ss _ => decide (ss < 8)
  | .vdecBudgetExhausted ss _ => decide (ss < 8)
  | .vdecPictureComplete ss => decide (ss < 8)
  | .vdecOutput ss buf => decide (ss < 8) && decide (buf < 64)
  | .vdecDrain ss => decide (ss < 8)
  | .vdecSessionDisable ss _ => decide (ss < 8)
  | .getS cpu _ => decide (cpu < 4)
  | .getM cpu _ _ => decide (cpu < 4)
  | .upgrade cpu _ => decide (cpu < 4)
  | .putDirty cpu _ => decide (cpu < 4)
  | .syncKeep cpu _ => decide (cpu < 4)
  | .syncDrop cpu _ => decide (cpu < 4)
  | .dropLine cpu _ => decide (cpu < 4)
  | .cboClean cpu _ => decide (cpu < 4)
  | .cboFlush cpu _ => decide (cpu < 4)
  | .cboInval cpu _ cbie => decide (cpu < 4) && decide (cbie < 4)
  | .cpuPoisonAccess cpu _ _ => decide (cpu < 4)
  | .snoopTimeout core _ requester _ _ => decide (core < 4) && decide (requester < 4)
  | .cohScrub _ => true
  | .flushAll cpu => decide (cpu < 4)
  | .flushAllDone cpu => decide (cpu < 4)
  | .cpuStoreHit cpu _ _ => decide (cpu < 4)
  | .cacheLineEviction cpu _ => decide (cpu < 4)
  | .memInit => true
  | .memInitDone => true
  | .memRead who _ _ _ _ => who.wf
  | .memWrite who _ _ _ _ _ _ _ => who.wf
  | .memCeWriteback _ => true
  | .memStarve slice => decide (slice < 8)
  | .memLineWindow slice => decide (slice < 8)
  | .mr4Poll ch _ _ => decide (ch < 16)
  | .refreshDue ch bank _ => decide (ch < 16) && decide (bank < 16)
  | .refreshForced ch bank => decide (ch < 16) && decide (bank < 16)
  | .retrainDue ch => decide (ch < 16)
  | .retrainComplete ch _ => decide (ch < 16)
  | .dramWriteComplete slice => decide (slice < 8)
  | .pcieLinkTrain port => decide (port < 2)
  | .pcieInboundRequest port _ bar _ _ _ => decide (port < 2) && decide (bar < 6)
  | .pcieCompletionTimeout port tag => decide (port < 2) && decide (tag < 256)
  | .pcieLinkDown port _ => decide (port < 2)
  | .pciePerst => true
  | .pcieEpIrq _ => true
  | .msixUnmask v => decide (v < 64)
  | .pcieOutboundRequest who _ _ => who.wf
  | .pcieCompletionReceived port tag _ => decide (port < 2) && decide (tag < 256)
  | .pcieLinkUp port _ _ => decide (port < 2)
  | .pcieInterruptReceived _ v => decide (v < 64)
  | .ethTailWrite n q _ => decide (n < 2) && decide (q < 4)
  | .ethTxFrame n => decide (n < 2)
  | .ethRxFrame n _ => decide (n < 2)
  | .mdioGo n _ => decide (n < 2)
  | .ethLinkChange n _ _ _ => decide (n < 2)
  | .i3cCommand n _ => decide (n < 8)
  | .i3cWaitRelease n => decide (n < 8)
  | .i3cTransferComplete n _ _ _ => decide (n < 8)
  | .i3cIbi n _ => decide (n < 8)
  | .i3cAbort n => decide (n < 8)
  | .i3cRespRead n => decide (n < 8)
  | .i3cIbiRead n => decide (n < 8)
  | .uartRxByte n _ => decide (n < 2)
  | .gpioEdge pin _ => decide (pin < 40)
  | .gpioCapFrameRead k => decide (k < 8)
  | .illBlankEnd ch => decide (ch < 8)
  | .illFastTrip ch => decide (ch < 8)
  | .illNormalTrip ch => decide (ch < 8)
  | .illMaxonExpiry ch => decide (ch < 8)
  | .illGateUv => true
  | .illGateUvRecover => true
  | .illFaultClear ch _ => decide (ch < 8)
  | .illChannelDisable ch _ => decide (ch < 8)
  | .bootRom _ _ => true
  | .supervisorBoot _ _ _ => true
  | .getInfo _ => true
  | .getDeviceCert _ => true
  | .attest _ => true
  | .propose _ => true
  | .endorse _ _ => true
  | .cancelProposal _ => true
  | .getProtection _ => true
  | .chainFlush _ => true
  | .getDeviceTag _ => true
  | .setDeviceTag _ => true
  | .flashRead _ => true
  | .flashWrite _ => true
  | .mailboxMalformed _ => true
  | .endorseLockoutEnd => true
  | .debugLock => true
  | .evidItemPop e => decide (e < 2)
  | .segmentTimeout e ss => decide (e < 2) && decide (ss < 16)
  | .doorbellWhileBusy _ => true
  | .getPower _ => true
  | .setPower _ => true
  | .getRails _ => true
  | .wakeNFall => true
  | .wakeAlarm => true
  | .powerGraceEnd => true
  | .powerUpStep => true
  | .powerDownStep => true
  | .pgTimeout rail => decide (rail < 13)
  | .pgFall rail => decide (rail < 13)
  | .hardwareTrip sensor => decide (sensor < 24)
  | .refclkLoss => true
  | .refclkResume _ => true
  | .powerOnReset => true
  | .warmReset => true
  | .unitResetTc n => decide (n < 8)
  | .unitResetCpu n => decide (n < 4)
  | .unitResetSfe => true
  | .unitResetFmt => true
  | .unitResetDpp => true
  | .unitResetVenc e => decide (e < 2)
  | .unitResetVdec => true
  | .unitResetPcie => true
  | .unitResetEth n => decide (n < 2)
  | .unitResetI3c => true
  | .unitResetRelease bit => decide (bit < 22)
  | .tcGate _ => true
  | .tcPowerUp n => decide (n < 8)
  | .cpuGate _ => true
  | .cpuGateTimeout cpu => decide (cpu < 4)
  | .wfiEntry cpu => decide (cpu < 4)
  | .tclkRequest _ => true
  | .cpuClockRequest _ => true
  | .clockStep _ => true
  | .avsEvaluate _ _ => true
  | .pmbusTransactionDone _ _ => true
  | .railSettled _ => true
  | .governorSample _ => true
  | .thmCalUnplaced => true
  | .flowWindow _ => true
  | .ntcSample _ _ => true
  | .pumpStall => true
  | .thmCalDue => true
  | .thmCalEnd => true
  | .getThermal _ => true
  | .getTripLog _ => true
  | .errorRecordPost => true
  | .errorRingWrite => true
  | .rateLimitIntervalEnd _ => true
  | .telemetrySnapshot => true
  | .telemetryUnplaced => true

end Sys2Proof
end

