-- ==== Sys2Proof/Decode.lean ====
section
/-! DEFINITION. The table of operations gives its rows no bits: a command comes from outside as itself, and no word spells
one. (The instruction words of the tensor cores are read by `decodeInsn` of `Sys2Proof/Machine/TcOps.lean`.) -/

namespace Sys2Proof

/-- The command that a word spells by the table's bits: none, since no row has bits. -/
def decodeTableWord (_nbits _w : Nat) : Option Instr := none

end Sys2Proof
end

