-- ==== Sys2Proof/Machine/Table.lean ====
section
/-! DEFINITION. The operations of a sparse table (see `Sys2Proof/Word.lean`): reading, erasing and writing an entry,
and the canonical form they keep. `d k` is what the unlisted key `k` reads as. Bit fields of a register word. -/

namespace Sys2Proof.Machine

/-- What key `k` reads as. -/
def tget {α : Type} (d : Nat → α) : Table α → Nat → α
  | [], k => d k
  | (i, v) :: r, k => if i = k then v else tget d r k

/-- The table without key `k`. -/
def tdel {α : Type} : Table α → Nat → Table α
  | [], _ => []
  | (i, v) :: r, k => if i = k then tdel r k else (i, v) :: tdel r k

/-- The table with a pair put before the first larger key. -/
def tins {α : Type} : Table α → Nat → α → Table α
  | [], k, v => [(k, v)]
  | (i, w) :: r, k, v => if k < i then (k, v) :: (i, w) :: r else (i, w) :: tins r k v

/-- The table with key `k` reading as `v`. Writing what an unlisted key reads as removes the entry. -/
def tset {α : Type} [DecidableEq α] (d : Nat → α) (t : Table α) (k : Nat) (v : α) : Table α :=
  if v = d k then tdel t k else tins (tdel t k) k v

/-- Every key of the table is above `b`, the keys rise, and no entry equals what its key reads as unlisted. -/
def twfFrom {α : Type} [DecidableEq α] (d : Nat → α) : Option Nat → Table α → Bool
  | _, [] => true
  | b, (i, v) :: r => (match b with | none => true | some x => decide (x < i)) && decide (v ≠ d i) && twfFrom d (some i) r

/-- The canonical form of a table. -/
def twf {α : Type} [DecidableEq α] (d : Nat → α) (t : Table α) : Bool := twfFrom d none t

/-- Bits [hi:lo] of a word. -/
def fld (w : Word) (hi lo : Nat) : Nat := (w.toNat / 2 ^ lo) % 2 ^ (hi + 1 - lo)

/-- Bit `i` of a word. -/
def bit (w : Word) (i : Nat) : Bool := (w.toNat / 2 ^ i) % 2 == 1

/-- A word with bits [hi:lo] replaced by `v`. -/
def setFld (w : Word) (hi lo v : Nat) : Word :=
  BitVec.ofNat 32 (w.toNat - fld w hi lo * 2 ^ lo + (v % 2 ^ (hi + 1 - lo)) * 2 ^ lo)

/-- A Nat as a word. -/
def w32 (n : Nat) : Word := BitVec.ofNat 32 n

/-- 1 for true. -/
def b2n (b : Bool) : Nat := if b then 1 else 0

/-- A count that saturates at 2^32 - 1. -/
def satInc (w : Word) (n : Nat) : Word := w32 (min (w.toNat + n) 0xFFFFFFFF)

/-- The signed value of an `n`-bit number. -/
def sx (n v : Nat) : Int := if v % 2 ^ n < 2 ^ (n - 1) then (v % 2 ^ n : Nat) else (v % 2 ^ n : Nat) - (2 ^ n : Nat)

/-- The `n`-bit two's-complement pattern of a number. -/
def ux (n : Nat) (v : Int) : Nat := (v % (2 ^ n : Nat)).toNat

/-- A quotient rounded up. -/
def cdiv (a b : Nat) : Nat := (a + b - 1) / b

/-- `n` little-endian bytes of a number (R13). -/
def leBytes : Nat → Nat → Bytes
  | 0, _ => []
  | n + 1, v => BitVec.ofNat 8 v :: leBytes n (v / 256)

/-- The number a run of little-endian bytes holds (R13). -/
def leNat : Bytes → Nat
  | [] => 0
  | b :: r => b.toNat + 256 * leNat r

/-- Element `i` of a list, or `d` past its end. -/
def lget {α : Type} (d : α) : List α → Nat → α
  | [], _ => d
  | x :: _, 0 => x
  | _ :: r, i + 1 => lget d r i

/-- The list with element `i` replaced. -/
def lset {α : Type} : List α → Nat → α → List α
  | [], _, _ => []
  | _ :: r, 0, v => v :: r
  | x :: r, i + 1, v => x :: lset r i v

end Sys2Proof.Machine
end

