-- ==== Sys2Proof/Machine/Float.lean ====
section
/-! DEFINITION. Exact floating-point arithmetic for the array, the vector unit and the pooling unit (R237, R342, R345,
R349, R355, R357): a value is a NaN, an infinity or a signed integer times a power of two; each operation is exact and
one rounding, to nearest with ties to even, gives the result. -/

namespace Sys2Proof.Machine

/-- A floating-point value: `fin neg m e` is (-1)^neg * m * 2^e. -/
inductive Fv where
  | nan
  | inf (neg : Bool)
  | fin (neg : Bool) (m : Nat) (e : Int)
  deriving DecidableEq, Repr

/-- A binary format: fraction bits and exponent bits. -/
structure Fmt where
  frac : Nat
  exp  : Nat
  deriving DecidableEq, Repr

/-- FP32. -/
def fp32 : Fmt := ⟨23, 8⟩
/-- FP16. -/
def fp16 : Fmt := ⟨10, 5⟩
/-- BF16. -/
def bf16 : Fmt := ⟨7, 8⟩

/-- The exponent bias of a format. -/
def Fmt.bias (f : Fmt) : Int := (2 ^ (f.exp - 1) : Nat) - 1

/-- The value of a bit pattern. -/
def Fmt.dec (f : Fmt) (b : Nat) : Fv :=
  let neg := (b / 2 ^ (f.frac + f.exp)) % 2 == 1
  let ex := (b / 2 ^ f.frac) % 2 ^ f.exp
  let fr := b % 2 ^ f.frac
  if ex = 2 ^ f.exp - 1 then (if fr = 0 then .inf neg else .nan)
  else if ex = 0 then .fin neg fr (1 - f.bias - f.frac)
  else .fin neg (fr + 2 ^ f.frac) (ex - f.bias - f.frac)

/-- The number of bits of a Nat, up to `fuel`. -/
def bitLen : Nat → Nat → Nat
  | 0, _ => 0
  | k + 1, n => if n < 2 ^ k then bitLen k n else k + 1

/-- m / 2^k to nearest, ties to even. -/
def rneShift (m k : Nat) : Nat :=
  let q := m / 2 ^ k
  let r := m % 2 ^ k
  if 2 * r < 2 ^ k then q else if 2 ^ k < 2 * r then q + 1 else q + q % 2

/-- The number of bits of a Nat. -/
def nbits (n : Nat) : Nat := if n = 0 then 0 else Nat.log2 n + 1

/-- The bit pattern of a value rounded to a format (R345: canonical NaN). -/
def Fmt.enc (f : Fmt) : Fv → Nat
  | .nan => (2 ^ f.exp - 1) * 2 ^ f.frac + 2 ^ (f.frac - 1)
  | .inf n => b2n n * 2 ^ (f.frac + f.exp) + (2 ^ f.exp - 1) * 2 ^ f.frac
  | .fin n m e =>
    let s := b2n n * 2 ^ (f.frac + f.exp)
    if m = 0 then s else
    let emin : Int := 1 - f.bias - f.frac
    let want : Int := e + nbits m - (f.frac + 1)
    let q := max want emin
    let mq := if q ≤ e then m * 2 ^ (e - q).toNat else rneShift m (q - e).toNat
    let got := if mq = 2 ^ (f.frac + 1) then (2 ^ f.frac, q + 1) else (mq, q)
    let mq := got.1
    let q := got.2
    if mq < 2 ^ f.frac then s + mq
    else
      let ex := q + f.frac + f.bias
      if ex < (2 ^ f.exp - 1 : Nat) then s + ex.toNat * 2 ^ f.frac + (mq - 2 ^ f.frac)
      else s + (2 ^ f.exp - 1) * 2 ^ f.frac

/-- A value rounded to a format. -/
def Fmt.round (f : Fmt) (v : Fv) : Fv := f.dec (f.enc v)

/-- The exact value of an integer. -/
def Fv.ofInt (i : Int) : Fv := .fin (decide (i < 0)) i.natAbs 0

/-- The exact product. -/
def Fv.mul : Fv → Fv → Fv
  | .nan, _ => .nan
  | _, .nan => .nan
  | .inf a, .inf b => .inf (a != b)
  | .inf a, .fin b m _ => if m = 0 then .nan else .inf (a != b)
  | .fin a m _, .inf b => if m = 0 then .nan else .inf (a != b)
  | .fin a m e, .fin b n g => .fin (a != b) (m * n) (e + g)

/-- The signed mantissa of a finite value at exponent `q`, which is at most its own. -/
def smant (neg : Bool) (m : Nat) (e q : Int) : Int :=
  let v : Int := (m * 2 ^ (e - q).toNat : Nat)
  if neg then -v else v

/-- The exact sum. -/
def Fv.add : Fv → Fv → Fv
  | .nan, _ => .nan
  | _, .nan => .nan
  | .inf a, .inf b => if a = b then .inf a else .nan
  | .inf a, .fin _ _ _ => .inf a
  | .fin _ _ _, .inf b => .inf b
  | .fin a m e, .fin b n g =>
    let q := min e g
    let v := smant a m e q + smant b n g q
    if v = 0 then .fin (a && b) 0 q else .fin (decide (v < 0)) v.natAbs q

/-- The opposite value. -/
def Fv.neg : Fv → Fv
  | .nan => .nan
  | .inf a => .inf (!a)
  | .fin a m e => .fin (!a) m e

/-- The absolute value. -/
def Fv.abs : Fv → Fv
  | .nan => .nan
  | .inf _ => .inf false
  | .fin _ m e => .fin false m e

/-- Whether a is below b; no NaN is, and the zeros are equal. -/
def Fv.lt : Fv → Fv → Bool
  | .nan, _ => false
  | _, .nan => false
  | .inf a, .inf b => a && !b
  | .inf a, .fin _ _ _ => a
  | .fin _ _ _, .inf b => !b
  | .fin a m e, .fin b n g => decide (smant a m e (min e g) < smant b n g (min e g))

/-- Whether a value carries the minus sign. -/
def Fv.sign : Fv → Bool
  | .nan => false
  | .inf a => a
  | .fin a _ _ => a

/-- The greater value, +0 above -0; a NaN input gives NaN (R345, R347). -/
def Fv.max (a b : Fv) : Fv :=
  match a, b with
  | .nan, _ => .nan
  | _, .nan => .nan
  | a, b => if a.lt b then b else if b.lt a then a else if a.sign then b else a

/-- The lesser value, -0 below +0; a NaN input gives NaN. -/
def Fv.min (a b : Fv) : Fv :=
  match a, b with
  | .nan, _ => .nan
  | _, .nan => .nan
  | a, b => if a.lt b then a else if b.lt a then b else if a.sign then a else b

/-- The quotient by a positive integer, with enough bits that one later rounding to a 24-bit format is right: the last
bit stands for everything below it. -/
def Fv.divNat (a : Fv) (n : Nat) : Fv :=
  match a with
  | .nan => .nan
  | .inf s => if n = 0 then .nan else .inf s
  | .fin s m e =>
    if n = 0 then .nan else
    let k := 64 + nbits n
    let x := m * 2 ^ k
    let q := x / n
    .fin s (2 * q + (if x % n = 0 then 0 else 1)) (e - k - 1)

/-- A finite value to the nearest integer, ties to even; saturated between the bounds, NaN to 0 (R355, R357). -/
def Fv.toInt (v : Fv) (lo hi : Int) : Int :=
  match v with
  | .nan => 0
  | .inf s => if s then lo else hi
  | .fin s m e =>
    let r : Nat := if 0 ≤ e then m * 2 ^ e.toNat else rneShift m (-e).toNat
    let i : Int := if s then -(r : Int) else r
    Min.min (Max.max i lo) hi

/-- The exact sum of a list. -/
def fvSum : List Fv → Fv
  | [] => .fin false 0 0
  | [x] => x
  | x :: r => x.add (fvSum r)

end Sys2Proof.Machine
end

