-- ==== Sys2Proof/Config.lean ====
section
/-! DEFINITION. What an implementation fixes or the spec leaves open: constants with no body, so that nothing can be
proved of their values. Each is named in a row of the assumption log. -/

namespace Sys2Proof.Config

/-- A value the spec leaves open, drawn afresh: applied to the counter `fresh` of the state. -/
opaque freeWord : Nat → Word

/-- A byte the spec leaves open, drawn afresh: applied to the counter `fresh` and a position. -/
opaque freeByte : Nat → Nat → Byte

/-- The SHA-384 digest of a message, as the supervisor's hash unit gives it (48 bytes). -/
opaque sha384 : Bytes → Bytes

/-- An ECDSA signature by a key slot or the device key over a digest (96 bytes); the signature's random part is
drawn by the counter. -/
opaque sign : Nat → Nat → Bytes → Bytes

/-- Whether a signature over a digest verifies under a public key. -/
opaque verify : Bytes → Bytes → Bytes → Bool

/-- The SHA-256 digest of a message, as the supervisor's hash unit gives it (32 bytes). -/
opaque sha256 : Bytes → Bytes

/-- The Brodquel root public key, whose hash the OTP holds (R726, R730). -/
opaque rootKey : Bytes

/-- The device's public key and its certificate, as GET_DEVICE_CERT gives them. -/
opaque deviceCert : Bytes

/-- The load address and the entry of a loader image (R729). -/
opaque loaderBase : Bytes → Nat

/-- The entry of a loader image (R729). -/
opaque loaderEntry : Bytes → Nat

/-- MEM_CFG as the supervisor writes it for the DRAM that the board carries (R626). -/
opaque memCfg : Word

/-- ECC_EN as the supervisor writes it (R626). -/
opaque eccEn : Bool

/-- The all-bank refresh time tRFCab in ns of a channel capacity (CAP of MEM_CFG), which JESD209-5B gives (R640). -/
opaque trfcAb : Nat → Nat

/-- Whether the part is a ZS8-E1000-L; else it is a ZS8-A1200-L (R7). -/
opaque partE : Bool

/-- The balls PCIE_MODE[1:0] (R664). -/
opaque pcieMode : Nat

/-- The voltage in mV that the board gives a rail it chooses (R769): 10, 11, 12 the banks VDDIO_A, B, C, 13 VDD_GATE. -/
opaque bankMv : Nat → Nat

/-- The failure code that the boot ROM reports when both slots fail (R728). -/
opaque bootFailCode : Nat → Nat

/-- The digest of an applied protection record (R731): of its sequence number, its keys and its registers. -/
opaque protDigest : Nat → List (Nat × Nat × Bytes) → List (Nat × Word) → Bytes

/-- How the items of a mailbox response are laid out in its payload (R761, R799, R838): the command and the items. -/
opaque respLayout : Nat → List Bytes → Bytes

/-- Which part of the boot flash an offset lies in: 1 the user partition, 2 a staging slot, 3 image slot A, 4 image slot B,
another value none of these. -/
opaque flashPart : Nat → Nat

/-- The FP32 result of activation tables 2-7 (R358: within 3 units in the last place, equal for equal inputs): the
table and the FP32 pattern of the input. -/
opaque actFn : Nat → Nat → Nat

/-- The pattern of a sum that does not fit its destination type (REDUCE SUM): the type and the exact sum. -/
opaque sumNarrow : Nat → Int → Nat

/-- The pattern of a pooled or averaged element all of whose inputs are excluded (R172; it is poisoned): its type. -/
opaque emptyWindow : Nat → Nat

/-- Whether depth to space (R240) takes the block position as the slower part of the channel index. -/
opaque blockOuter : Bool

/-- A Lanczos-3 coefficient of bank 0 before the renormalisation of R441: whether vertical, the phase, the tap. -/
opaque lanczos : Bool → Nat → Nat → Int

/-- A component of a scaled pixel none of whose taps lies inside both the crop rectangle and the valid region. -/
opaque noTap : Nat

/-- exp as the post-processor evaluates it (R482: within 3 units in the last place, equal for equal inputs): the FP32
pattern of the result from that of the input. -/
opaque exp32 : Nat → Nat

/-- The sigmoid as the post-processor evaluates it (R482, R483), on FP32 patterns. -/
opaque sigmoid32 : Nat → Nat

/-- The coder state of an encoder after the units that open a picture (access unit delimiter, parameter sets, SEI, R505,
R506): of the settings, the SEI payload and the state before. -/
opaque vencOpen : List Nat → Bytes → Nat → Nat

/-- The coder state after a row (R511, R516-R522, R537): of the settings, the QP of each group, which units are coded from
fill, the input samples of each unit, the samples of the reference windows, the state before. -/
opaque vencRow : List Nat → List Nat → List Bool → List Bytes → List Bytes → Nat → Nat

/-- The coder state after the filler data that may end a CBR picture (R521). -/
opaque vencFiller : Nat → Nat

/-- The bytes that the step to a coder state put into the stream: their number. -/
opaque vencLen : Nat → Nat

/-- Byte `i` of what the step to a coder state wrote: 0 the stream, 1 the reconstruction, 2 the motion data. -/
opaque vencByte : Nat → Nat → Nat → Byte

/-- The QP that rate control chooses for the next row in a coder state (R520). -/
opaque vencRowQp : Nat → Nat

/-- Whether a coder state is one in which the picture would exceed the coded picture buffer (R521). -/
opaque vencOver : Nat → Bool

/-- What the mark field of REF_MARK reads for a buffer that holds a reconstruction. -/
opaque reconMark : Nat

/-- The decoder's state after a NAL unit (R561): of its bytes, the bytes of the reference areas read, the state before. -/
opaque vdecNal : Bytes → Bytes → Nat → Nat

/-- Byte `i` of the samples of an area decoded in a decoder state: the state, the area, `i`. -/
opaque vdecByte : Nat → Nat → Nat → Byte

/-- The multicast hash bin of a destination address (R677). -/
opaque mcHash : Bytes → Nat

end Sys2Proof.Config
end

