-- ==== Sys2Proof/Machine/RegTable.lean ====
section
/-! DEFINITION. The register map (R871, R888): every register of the device with its address, its instances, its
access code, its reset value and its fields with the values each field accepts (R20). Written from the register
summary of chapter 22 and the register tables of the owning chapters. -/

namespace Sys2Proof.Machine

/-- The registers of the device. -/
inductive RegId where
  | sfeCtrl | sfeStatus | sfePhyCfg | sfePhyLanemap | sfePhyStatus | sfeLnkCfg | sfeLnkUnmatched | sfeLnkEcc
  | sfeCtxTag | sfeCtxCtrl | sfeCtxSrc | sfeCtxSize | sfeCtxFmt | sfeCtxBl | sfeCtxLsc | sfeCtxDefect
  | sfeCtxUncorr | sfeCtxExtra | sfeCtxOut | sfeCtxStat | sfeCtxStatXy | sfeCtxStatWh | sfeCtxSatThr | sfeCtxEmbMax
  | sfePwl | sfeLsctab | sfeDfl | lptCtrl | lptStatus | lptTodSrc | lptHoldover | lptTodSec
  | lptTodTick | lptTodRate | lptTodStepTick | lptTodStepSec | lptTodStepGo | lptPpsTsSec | lptPpsTsTick | lptPpsOutCtrl
  | lptLdPeriod | lptLdFlen | lptLdCtrl | lptLdPos | lptLdFrame | lptLdAnchor | lptFsync | lptMaintStatus
  | lptMaintPending | lptSchedCtrl | lptSchedSkip | lptSchedUnreach | lptSchedLate | lptEvtStatus | lptEvtMask | lptLdTag
  | lptSchedEnt | tcCtrl | tcStatus | tcArb | tcWin | tcSbStatus | tcReplayCnt | tcParityLast
  | tcCxCtrl | tcCxState | tcCxEntry | tcCxPc | tcCxErr | tcCxMiss | tcCxPexcl | tcCxS
  | tcTag | tcCxTag | spmCtrl | spmStatus | spmParityCnt | spmConflict | spmDissolved | spmDbgLast
  | spmResCtrl | spmResSize | spmResOrgLo | spmResOrgHi | tcActtab | passCtrl | passStatus | passPqLockLo
  | passPqLockHi | passAuditCtrl | passAuditStatus | passBarMask | passBarArrived | passSwSel | passSwHandle | passSwMetaLo
  | passSwMetaHi | passSwVreg | passSwCmd | passSwStatus | passSwAddr | passPqCfg | passPqStatus | passPqFlush
  | passPqWmark | passPlBaseLo | passPlBaseHi | passPlSize | passPlCfg | passPlStat | passPlRevokeLo | passPlRevokeHi
  | passPlTag | wchCtrl | wchStatus | wchMatchTo | wchBypassForce | wchAuditCtrl | wchAuditStatus | wchParityCnt
  | wchBytesA | wchBytesB | fmtCtrl | fmtStatus | fmtLsUsed | fmtSrcCfg | fmtSrcSize | fmtSrcStride
  | fmtSrcStatus | fmtOsCtrl | fmtOsFmt | fmtOsCropXy | fmtOsCropWh | fmtOsOutWh | fmtOsPadWh | fmtOsStride
  | fmtOsDest | fmtOsNorm | fmtOsFscale | fmtOsFoff | fmtOsPadval | fmtOsFrames | fmtOsSkips | fmtOsProws
  | fmtOsTag | fmtCoef | dppCtrl | dppStatus | dppJobs | dppCycles | dppSubmitLo | dppSubmitHi
  | dppSubmitTicket | dppSlotStatus | dppSlotAbort | dppBindCfg | dppBindMap | dppBindTmplLo | dppBindTmplHi | dppTag
  | vencCtrl | vencStatus | vencCmdBaseLo | vencCmdBaseHi | vencCmdSize | vencCmdTail | vencCmdHead | vencSliceCredit
  | vencRefBaseLo | vencRefBaseHi | vencRefSize | vencRefCfg | vencRefMark | vencRefOwner | vencEvidSess | vencEvidCfg
  | vencBusy | vencTag | vencSCtrl | vencSSize | vencSGop | vencSRc | vencSBitrate | vencSMaxrate
  | vencSVbv | vencSQp | vencSFps | vencSIo | vencSMap | vencSDeadline | vencSPics | vencSLastbits
  | vencSSkips | vencSTag | vdecCtrl | vdecStatus | vdecDpbBaseLo | vdecDpbBaseHi | vdecDpbSize | vdecDpbCfg
  | vdecBusy | vdecTag | vdecSCtrl | vdecSMaxsize | vdecSIo | vdecSDpb | vdecSStride | vdecSBudget
  | vdecSPicbud | vdecSStatus | vdecSPics | vdecSConceal | vdecSAbandon | vdecSTag | memCtrl | memCfg
  | memStatus | memTopLo | memTopHi | memStarve | memRetrain | memAuditCtrl | memAuditStatus | memCeCnt
  | memUeCnt | memPwCnt | memMsCredits | memMsLine | memMsRefOwed | memMsUeLo | memMsUeHi | memMsPwLo
  | memMsPwHi | memChStatus | memChRetrains | memChForced | cohSnoopTo | cohStatus | cohLastToLo | cohLastToHi
  | cohScrubLo | cohScrubHi | cohScrubStatus | cohToCnt | cohCpuCtrl | cohCpuStatus | cohCpuPoison | cohHnStatus
  | cohHnWaits | pcieCtrl | pcieStatus | pcieCto | pcieErrCnt | pcieObOffset | pcieBar2Cfg | pcieBar2TgtLo
  | pcieBar2TgtHi | pcieMsiTgt | pcieMsiStatus | pcieEpIrq | ethCtrl | ethStatus | ethTsLat | ethAddr
  | ethMchash | ethMdio | ethQBase | ethQSize | ethQTail | ethQHead | ethRxDrop | ethTag
  | i3cCtrl | i3cStatus | i3cCmdLo | i3cCmdHi | i3cData | i3cResp | i3cIbi | i3cCnt
  | xspiCtrl | xspiCmd | xspiData | uartCtrl | uartBaud | uartData | uartStatus | gpioDir
  | gpioOut | gpioIn | gpioPull | gpioIrqRise | gpioIrqFall | gpioIrqStatus | gpioCapCfg | gpioCapSec
  | gpioCapTick | gpioCapPos | gpioCapFrame | illCtrl | illStatus | illCfg | illMaxon | illChStatus
  | illStrobes | illTrips | illTag | dsvDoorbell | dsvMbstatus | dsvCmdbuf | dsvRespbuf | dsvBootStatus
  | dsvProtSeq | dsvDcWindow | dsvDebug | dsvEvidFwd | dsvSegCfg | dsvChainBase | dsvChainSize | dsvChainHead
  | dsvChainTail | dsvChainSeq | dsvDcFails | dsvTag | dsvFwBase | dsvFwLimit | dsvFwPerm | dsvFwCtrl
  | dsvKsInfo | dsvErrCtrl | dsvErrHostMask | dsvErrDBase | dsvErrDSize | dsvErrDHead | dsvErrDTail | dsvErrHBase
  | dsvErrHSize | dsvErrHHead | dsvErrHTail | dsvErrCnt | dsvErrLost | dsvErrFifo | dsvRsvdStatus | dsvRsvdLast
  | dsvTelCtrl | dsvTelPeriod | dsvTelBase | dsvTelSize | dsvTelHead | dsvTelTail | dsvTelLost | thmCtrl
  | thmStatus | thmTj | thmRamp | thmRth | thmRampFloor | thmBallast | thmBudget | thmRampExcess
  | thmCal | thmFlow | thmFlowK | thmNtcIn | thmNtcOut | thmPump | thmPumpTach | thmTripLast
  | thmTripTod | thmTripCnt | thmTs | pwrState | pwrRailStatus | pwrTcGate | pwrTcStatus | pwrCpuGate
  | pwrCpuStatus | pwrRst | pwrRstStatus | pwrCpuRvbar | pwrGrace | pwrAvsCfg | pwrVcore | pwrVcpu
  | pwrPmbus | clkStatus | clkTclkReq | clkTclk | clkCpuReq | clkCpu
  deriving DecidableEq, Repr

/-- The access codes of chapter 00. -/
inductive Acc where
  | rw | ro | wo | w1c | rwl | rwd
  deriving DecidableEq, Repr

/-- A field of a register: bits [hi:lo], the ranges of values it accepts (none listed: all), and its own access
where that differs from the register's. -/
structure Field where
  hi : Nat
  lo : Nat
  accepts : List (Nat × Nat)
  acc : Option Acc
  deriving DecidableEq, Repr

/-- A register of the map. `dims` lists count and stride of each index, the outermost first. -/
structure RegDesc where
  id     : RegId
  base   : Nat
  dims   : List (Nat × Nat)
  words  : Nat
  acc    : Acc
  reset  : Nat
  fields : List (List Field)
  deriving DecidableEq, Repr

/-- A field that takes its register's access and accepts every value. -/
def fl (hi lo : Nat) : Field := ⟨hi, lo, [], none⟩

/-- A field that accepts the listed ranges only. -/
def fr (hi lo : Nat) (a : List (Nat × Nat)) : Field := ⟨hi, lo, a, none⟩

/-- A field with an access of its own. -/
def fa (hi lo : Nat) (a : Acc) : Field := ⟨hi, lo, [], some a⟩

/-- The registers of block SFE. -/
def sfeRegs : List RegDesc :=
  [
    ⟨.sfeCtrl, 0x10000000, [], 1, .rw, 0x0, [[fl 0 0]]⟩,
    ⟨.sfeStatus, 0x10000004, [], 1, .ro, 0x0, [[fl 15 0]]⟩,
    ⟨.sfePhyCfg, 0x10000100, [(8, 0x40)], 1, .rw, 0x0, [[fl 7 6, fl 5 4, fl 1 0]]⟩,
    ⟨.sfePhyLanemap, 0x10000104, [(8, 0x40)], 1, .rw, 0x3210, [[fl 15 0, fl 19 16, fr 22 20 [(0, 5)], fr 25 23 [(0, 5)], fr 28 26 [(0, 5)]]]⟩,
    ⟨.sfePhyStatus, 0x10000108, [(8, 0x40)], 1, .ro, 0x0, [[fl 7 4, fl 1 1, fl 0 0]]⟩,
    ⟨.sfeLnkCfg, 0x10000400, [(16, 0x20)], 1, .rw, 0x0, [[fl 31 31, fl 1 1]]⟩,
    ⟨.sfeLnkUnmatched, 0x10000404, [(16, 0x20)], 1, .ro, 0x0, [[fl 31 0]]⟩,
    ⟨.sfeLnkEcc, 0x10000408, [(16, 0x20)], 1, .ro, 0x0, [[fl 31 0]]⟩,
    ⟨.sfeCtxTag, 0x10000C00, [(16, 0x20)], 8, .rw, 0x0, [[fl 31 0]]⟩,
    ⟨.sfeCtxCtrl, 0x10001000, [(16, 0x100)], 1, .rw, 0x0, [[fl 31 31, fl 30 30, fl 29 29, fl 28 28, fl 27 27, fl 26 26, fl 25 25, fl 2 0]]⟩,
    ⟨.sfeCtxSrc, 0x10001004, [(16, 0x100)], 1, .rw, 0x0, [[fl 19 16, fl 11 8, fl 5 0]]⟩,
    ⟨.sfeCtxSize, 0x10001008, [(16, 0x100)], 1, .rw, 0x0, [[fl 31 16, fl 13 0]]⟩,
    ⟨.sfeCtxFmt, 0x1000100C, [(16, 0x100)], 1, .rw, 0x0, [[fr 10 8 [(0, 4)], fl 4 4, fl 3 0]]⟩,
    ⟨.sfeCtxBl, 0x10001010, [(16, 0x100), (4, 0x4)], 1, .rw, 0x0, [[fl 19 0]]⟩,
    ⟨.sfeCtxLsc, 0x10001020, [(16, 0x100)], 1, .rw, 0x0, [[fr 29 24 [(2, 33)], fr 21 16 [(2, 33)], fr 11 8 [(3, 10)], fr 3 0 [(3, 10)]]]⟩,
    ⟨.sfeCtxDefect, 0x10001024, [(16, 0x100)], 1, .rw, 0x0, [[fr 12 0 [(0, 4096)], fa 28 16 .ro]]⟩,
    ⟨.sfeCtxUncorr, 0x10001028, [(16, 0x100)], 1, .ro, 0x0, [[fl 31 0]]⟩,
    ⟨.sfeCtxExtra, 0x1000102C, [(16, 0x100)], 1, .ro, 0x0, [[fl 31 0]]⟩,
    ⟨.sfeCtxOut, 0x10001030, [(16, 0x100)], 1, .rw, 0x0, [[fl 29 24, fl 20 16, fl 13 8, fl 4 0]]⟩,
    ⟨.sfeCtxStat, 0x10001034, [(16, 0x100)], 1, .rw, 0x0, [[fl 31 28, fl 27 26, fl 25 25, fl 20 16, fl 12 8]]⟩ ]
  ++ [
    ⟨.sfeCtxStatXy, 0x10001038, [(16, 0x100)], 1, .rw, 0x0, [[fl 31 16, fl 15 0]]⟩,
    ⟨.sfeCtxStatWh, 0x1000103C, [(16, 0x100)], 1, .rw, 0x0, [[fl 31 16, fl 15 0]]⟩,
    ⟨.sfeCtxSatThr, 0x10001040, [(16, 0x100)], 1, .rw, 0xFFFFF, [[fl 19 0]]⟩,
    ⟨.sfeCtxEmbMax, 0x10001044, [(16, 0x100)], 1, .rw, 0x0, [[fr 13 0 [(0, 8192)]]]⟩,
    ⟨.sfePwl, 0x10010000, [(32, 0x100)], 64, .rw, 0x0, [[fl 31 0]]⟩,
    ⟨.sfeLsctab, 0x10020000, [(32, 0x4000)], 4096, .rw, 0x0, [[fl 31 0]]⟩,
    ⟨.sfeDfl, 0x100A0000, [(32, 0x4000)], 4096, .rw, 0x0, [[fl 31 0]]⟩ ]

/-- The registers of block LPT. -/
def lptRegs : List RegDesc :=
  [
    ⟨.lptCtrl, 0x11000000, [], 1, .rw, 0x0, [[fl 0 0]]⟩,
    ⟨.lptStatus, 0x11000004, [], 1, .ro, 0x0, [[fl 15 8, fl 7 0]]⟩,
    ⟨.lptTodSrc, 0x11000008, [], 1, .rw, 0x40000000, [[fl 31 31, fa 30 30 .ro, fl 1 0]]⟩,
    ⟨.lptHoldover, 0x1100000C, [], 1, .ro, 0x0, [[fl 31 0]]⟩,
    ⟨.lptTodSec, 0x11000010, [], 2, .ro, 0x0, [[fl 31 0], [fl 31 0]]⟩,
    ⟨.lptTodTick, 0x11000018, [], 1, .ro, 0x0, [[fl 30 0]]⟩,
    ⟨.lptTodRate, 0x11000020, [], 1, .rw, 0x0, [[fl 31 0]]⟩,
    ⟨.lptTodStepTick, 0x11000024, [], 1, .rw, 0x0, [[fl 31 0]]⟩,
    ⟨.lptTodStepSec, 0x11000028, [], 1, .rw, 0x0, [[fl 31 0]]⟩,
    ⟨.lptTodStepGo, 0x1100002C, [], 1, .wo, 0x0, [[fl 0 0]]⟩,
    ⟨.lptPpsTsSec, 0x11000030, [], 2, .ro, 0x0, [[fl 31 0], [fl 31 0]]⟩,
    ⟨.lptPpsTsTick, 0x11000038, [], 1, .ro, 0x0, [[fl 30 0]]⟩,
    ⟨.lptPpsOutCtrl, 0x1100003C, [], 1, .rw, 0x0, [[fl 31 31, fr 9 0 [(1, 999)]]]⟩,
    ⟨.lptLdPeriod, 0x11000040, [(8, 0x4)], 1, .rw, 0x0, [[fr 31 0 [(0, 0), (134217728, 4294967295)]]]⟩,
    ⟨.lptLdFlen, 0x11000060, [(8, 0x4)], 1, .rw, 0x0, [[fr 31 24 [(0, 254)], fr 15 0 [(1, 65535)]]]⟩,
    ⟨.lptLdCtrl, 0x11000080, [(8, 0x4)], 1, .rw, 0x0, [[fl 31 31, fr 30 29 [(0, 1)], fr 28 27 [(0, 2)], fl 26 26, fl 19 16, fl 15 0]]⟩,
    ⟨.lptLdPos, 0x110000C0, [(8, 0x4)], 1, .ro, 0x0, [[fl 23 8, fl 7 0]]⟩,
    ⟨.lptLdFrame, 0x110000E0, [(8, 0x4)], 1, .ro, 0x0, [[fl 31 0]]⟩,
    ⟨.lptLdAnchor, 0x11000100, [(8, 0x8)], 2, .rw, 0x0, [[fl 30 0], [fr 7 0 [(1, 240)]]]⟩,
    ⟨.lptFsync, 0x11000140, [(16, 0x4)], 1, .rw, 0x0, [[fl 31 31, fl 30 30, fl 29 27, fl 23 12, fl 11 0]]⟩ ]
  ++ [
    ⟨.lptMaintStatus, 0x11000180, [], 1, .ro, 0x0, [[fl 31 31, fl 7 0]]⟩,
    ⟨.lptMaintPending, 0x11000184, [], 1, .ro, 0x0, [[fl 3 0]]⟩,
    ⟨.lptSchedCtrl, 0x11000200, [], 1, .rw, 0x0, [[fa 1 1 .wo, fl 0 0]]⟩,
    ⟨.lptSchedSkip, 0x11000204, [], 1, .ro, 0x0, [[fl 31 0]]⟩,
    ⟨.lptSchedUnreach, 0x11000208, [], 1, .ro, 0x0, [[fl 31 0]]⟩,
    ⟨.lptSchedLate, 0x1100020C, [], 1, .ro, 0x0, [[fl 31 0]]⟩,
    ⟨.lptEvtStatus, 0x11000210, [], 1, .w1c, 0x0, [[fl 31 0]]⟩,
    ⟨.lptEvtMask, 0x11000214, [], 1, .rw, 0x0, [[fl 31 0]]⟩,
    ⟨.lptLdTag, 0x11000400, [(8, 0x20)], 8, .rw, 0x0, [[fl 31 0]]⟩,
    ⟨.lptSchedEnt, 0x11001000, [(512, 0x10)], 4, .rw, 0x0, [[fl 31 31, fl 30 28, fr 27 24 [(0, 10)], fl 23 16, fl 15 0], [fl 31 16, fl 15 8, fl 7 0], [fl 31 0], [fl 31 0]]⟩ ]

/-- The registers of block TC. -/
def tcRegs : List RegDesc :=
  [
    ⟨.tcCtrl, 0x12000000, [(8, 0x100000)], 1, .rw, 0x0, [[fl 31 31, fl 1 1]]⟩,
    ⟨.tcStatus, 0x12000004, [(8, 0x100000)], 1, .ro, 0x0, [[fl 31 31, fl 11 8, fl 3 0]]⟩,
    ⟨.tcArb, 0x12000008, [(8, 0x100000)], 1, .rw, 0x1110, [[fl 16 16, fr 15 12 [(1, 15)], fr 11 8 [(1, 15)], fr 7 4 [(1, 15)]]]⟩,
    ⟨.tcWin, 0x1200000C, [(8, 0x100000)], 1, .rw, 0x4444, [[fl 15 12, fl 11 8, fl 7 4, fl 3 0]]⟩,
    ⟨.tcSbStatus, 0x12000010, [(8, 0x100000)], 1, .ro, 0x0, [[fl 13 8, fl 5 0]]⟩,
    ⟨.tcReplayCnt, 0x12000014, [(8, 0x100000)], 1, .ro, 0x0, [[fl 31 0]]⟩,
    ⟨.tcParityLast, 0x12000018, [(8, 0x100000)], 1, .ro, 0x0, [[fl 31 31, fl 20 16, fl 10 0]]⟩,
    ⟨.tcCxCtrl, 0x12000100, [(8, 0x100000), (4, 0x40)], 1, .wo, 0x0, [[fl 31 31, fl 30 30, fl 29 29, fl 28 28]]⟩,
    ⟨.tcCxState, 0x12000104, [(8, 0x100000), (4, 0x40)], 1, .ro, 0x0, [[fl 31 31, fl 30 30, fl 19 16, fl 13 8, fl 2 0]]⟩,
    ⟨.tcCxEntry, 0x12000108, [(8, 0x100000), (4, 0x40)], 2, .rw, 0x0, [[fl 31 6], [fl 7 0]]⟩,
    ⟨.tcCxPc, 0x12000110, [(8, 0x100000), (4, 0x40)], 1, .ro, 0x0, [[fl 31 0]]⟩,
    ⟨.tcCxErr, 0x12000114, [(8, 0x100000), (4, 0x40)], 1, .ro, 0x0, [[fl 15 0]]⟩,
    ⟨.tcCxMiss, 0x12000118, [(8, 0x100000), (4, 0x40)], 1, .ro, 0x0, [[fl 31 0]]⟩,
    ⟨.tcCxPexcl, 0x1200011C, [(8, 0x100000), (4, 0x40)], 1, .ro, 0x0, [[fl 31 0]]⟩,
    ⟨.tcCxS, 0x12000400, [(8, 0x100000), (4, 0x80), (16, 0x4)], 1, .rw, 0x0, [[fl 31 0]]⟩,
    ⟨.tcTag, 0x12000600, [(8, 0x100000)], 8, .rw, 0x0, [[fl 31 0]]⟩,
    ⟨.tcCxTag, 0x12000620, [(8, 0x100000), (4, 0x20)], 8, .rw, 0x0, [[fl 31 0]]⟩,
    ⟨.spmCtrl, 0x12001000, [(8, 0x100000)], 1, .rw, 0x0, [[fl 31 31, fa 0 0 .wo]]⟩,
    ⟨.spmStatus, 0x12001004, [(8, 0x100000)], 1, .ro, 0x0, [[fl 31 31, fl 15 0]]⟩,
    ⟨.spmParityCnt, 0x12001008, [(8, 0x100000)], 1, .ro, 0x0, [[fl 31 0]]⟩ ]
  ++ [
    ⟨.spmConflict, 0x1200100C, [(8, 0x100000)], 1, .ro, 0x0, [[fl 31 0]]⟩,
    ⟨.spmDissolved, 0x12001010, [(8, 0x100000)], 1, .w1c, 0x0, [[fl 15 0]]⟩,
    ⟨.spmDbgLast, 0x12001014, [(8, 0x100000)], 1, .ro, 0x0, [[fl 31 31, fl 30 30, fl 21 0]]⟩,
    ⟨.spmResCtrl, 0x12001100, [(8, 0x100000), (16, 0x10)], 1, .rw, 0x0, [[fl 31 31, fl 21 0]]⟩,
    ⟨.spmResSize, 0x12001104, [(8, 0x100000), (16, 0x10)], 1, .rw, 0x0, [[fl 22 0]]⟩,
    ⟨.spmResOrgLo, 0x12001108, [(8, 0x100000), (16, 0x10)], 1, .rw, 0x0, [[fl 31 6]]⟩,
    ⟨.spmResOrgHi, 0x1200110C, [(8, 0x100000), (16, 0x10)], 1, .rw, 0x0, [[fl 7 0]]⟩,
    ⟨.tcActtab, 0x12002000, [(8, 0x100000), (8, 0x200)], 128, .rw, 0x0, [[fl 31 0]]⟩ ]

/-- The registers of block PASS. -/
def passRegs : List RegDesc :=
  [
    ⟨.passCtrl, 0x13000000, [], 1, .rw, 0x0, [[fl 0 0]]⟩,
    ⟨.passStatus, 0x13000004, [], 1, .ro, 0x0, [[fl 31 31, fl 30 30]]⟩,
    ⟨.passPqLockLo, 0x13000008, [], 1, .rwd, 0x0, [[fl 31 0]]⟩,
    ⟨.passPqLockHi, 0x1300000C, [], 1, .rwd, 0x0, [[fl 31 0]]⟩,
    ⟨.passAuditCtrl, 0x13000010, [], 1, .wo, 0x0, [[fl 0 0]]⟩,
    ⟨.passAuditStatus, 0x13000014, [], 1, .ro, 0x0, [[fl 31 30, fl 24 24, fl 21 16]]⟩,
    ⟨.passBarMask, 0x13000040, [(16, 0x4)], 1, .ro, 0x0, [[fl 31 0]]⟩,
    ⟨.passBarArrived, 0x13000080, [(16, 0x4)], 1, .ro, 0x0, [[fl 31 0]]⟩,
    ⟨.passSwSel, 0x13000100, [(4, 0x20)], 1, .rw, 0x0, [[fl 20 16, fl 5 0]]⟩,
    ⟨.passSwHandle, 0x13000104, [(4, 0x20)], 1, .rw, 0x0, [[fl 31 0]]⟩,
    ⟨.passSwMetaLo, 0x13000108, [(4, 0x20)], 1, .rw, 0x0, [[fl 31 0]]⟩,
    ⟨.passSwMetaHi, 0x1300010C, [(4, 0x20)], 1, .rw, 0x0, [[fl 31 0]]⟩,
    ⟨.passSwVreg, 0x13000110, [(4, 0x20)], 1, .rw, 0xFFFFFFFF, [[fl 31 0]]⟩,
    ⟨.passSwCmd, 0x13000114, [(4, 0x20)], 1, .wo, 0x0, [[fr 1 0 [(0, 2)]]]⟩,
    ⟨.passSwStatus, 0x13000118, [(4, 0x20)], 1, .ro, 0x0, [[fl 2 0]]⟩,
    ⟨.passSwAddr, 0x1300011C, [(4, 0x20)], 1, .ro, 0x0, [[fl 31 0]]⟩,
    ⟨.passPqCfg, 0x13001000, [(64, 0x10)], 1, .rw, 0x0, [[fl 31 31, fr 4 0 [(1, 16)]]]⟩,
    ⟨.passPqStatus, 0x13001004, [(64, 0x10)], 1, .ro, 0x0, [[fl 31 31, fl 20 16, fl 12 8, fl 4 0]]⟩,
    ⟨.passPqFlush, 0x13001008, [(64, 0x10)], 1, .wo, 0x0, [[fl 0 0]]⟩,
    ⟨.passPqWmark, 0x1300100C, [(64, 0x10)], 1, .rw, 0x0, [[fl 31 31, fl 4 0]]⟩ ]
  ++ [
    ⟨.passPlBaseLo, 0x13002000, [(32, 0x20)], 1, .rw, 0x0, [[fl 31 6]]⟩,
    ⟨.passPlBaseHi, 0x13002004, [(32, 0x20)], 1, .rw, 0x0, [[fl 7 0]]⟩,
    ⟨.passPlSize, 0x13002008, [(32, 0x20)], 1, .rw, 0x0, [[fl 28 6]]⟩,
    ⟨.passPlCfg, 0x1300200C, [(32, 0x20)], 1, .rw, 0x0, [[fa 23 16 .ro, fr 12 0 [(0, 4096)]]]⟩,
    ⟨.passPlStat, 0x13002010, [(32, 0x20)], 1, .ro, 0x0, [[fl 28 16, fl 12 0]]⟩,
    ⟨.passPlRevokeLo, 0x13002014, [(32, 0x20)], 1, .wo, 0x0, [[fl 31 0]]⟩,
    ⟨.passPlRevokeHi, 0x13002018, [(32, 0x20)], 1, .wo, 0x0, [[fl 3 0]]⟩,
    ⟨.passPlTag, 0x13003000, [(32, 0x20)], 8, .rw, 0x0, [[fl 31 0]]⟩ ]

/-- The registers of block WCH. -/
def wchRegs : List RegDesc :=
  [
    ⟨.wchCtrl, 0x13100000, [], 1, .rw, 0x0, [[fl 31 31, fl 0 0]]⟩,
    ⟨.wchStatus, 0x13100004, [], 1, .ro, 0x80000000, [[fl 31 31, fl 23 16, fl 12 8, fl 4 0]]⟩,
    ⟨.wchMatchTo, 0x13100008, [], 1, .rw, 0x3E8, [[fr 15 0 [(1, 65535)]]]⟩,
    ⟨.wchBypassForce, 0x1310000C, [], 1, .rw, 0x0, [[fl 7 0]]⟩,
    ⟨.wchAuditCtrl, 0x13100010, [], 1, .wo, 0x0, [[fl 0 0]]⟩,
    ⟨.wchAuditStatus, 0x13100014, [], 1, .ro, 0x0, [[fl 31 30, fl 2 0]]⟩,
    ⟨.wchParityCnt, 0x13100018, [], 1, .ro, 0x0, [[fl 31 0]]⟩,
    ⟨.wchBytesA, 0x13100020, [], 1, .ro, 0x0, [[fl 31 0]]⟩,
    ⟨.wchBytesB, 0x13100024, [], 1, .ro, 0x0, [[fl 31 0]]⟩ ]

/-- The registers of block FMT. -/
def fmtRegs : List RegDesc :=
  [
    ⟨.fmtCtrl, 0x14000000, [], 1, .rw, 0x0, [[fl 0 0]]⟩,
    ⟨.fmtStatus, 0x14000004, [], 1, .ro, 0x0, [[fl 15 0]]⟩,
    ⟨.fmtLsUsed, 0x14000008, [], 1, .ro, 0x0, [[fl 31 0]]⟩,
    ⟨.fmtSrcCfg, 0x14000100, [(16, 0x20)], 1, .rw, 0x0, [[fl 31 31, fr 26 24 [(0, 4)], fl 21 16, fr 13 0 [(1, 8192)]]]⟩,
    ⟨.fmtSrcSize, 0x14000104, [(16, 0x20)], 1, .rw, 0x0, [[fl 15 0]]⟩,
    ⟨.fmtSrcStride, 0x14000108, [(16, 0x20)], 1, .rw, 0x0, [[fl 23 6]]⟩,
    ⟨.fmtSrcStatus, 0x1400010C, [(16, 0x20)], 1, .ro, 0x0, [[fl 31 16, fl 10 0]]⟩,
    ⟨.fmtOsCtrl, 0x14001000, [(48, 0x80)], 1, .rw, 0x0, [[fl 31 31, fl 30 30, fl 27 24, fl 23 20, fr 19 16 [(0, 7)], fl 11 8, fl 7 0]]⟩,
    ⟨.fmtOsFmt, 0x14001004, [(48, 0x80)], 1, .rw, 0x0, [[fr 31 28 [(0, 8)], fr 25 24 [(0, 2)], fl 23 23, fl 22 22, fr 21 20 [(0, 2)]]]⟩,
    ⟨.fmtOsCropXy, 0x14001008, [(48, 0x80)], 1, .rw, 0x0, [[fl 31 16, fl 15 0]]⟩,
    ⟨.fmtOsCropWh, 0x1400100C, [(48, 0x80)], 1, .rw, 0x0, [[fl 31 16, fl 15 0]]⟩,
    ⟨.fmtOsOutWh, 0x14001010, [(48, 0x80)], 1, .rw, 0x0, [[fl 31 16, fl 15 0]]⟩,
    ⟨.fmtOsPadWh, 0x14001014, [(48, 0x80)], 1, .rw, 0x0, [[fl 31 16, fl 15 0]]⟩,
    ⟨.fmtOsStride, 0x14001018, [(48, 0x80)], 1, .rw, 0x0, [[fl 23 6]]⟩,
    ⟨.fmtOsDest, 0x1400101C, [(48, 0x80)], 1, .rw, 0x0, [[fl 29 24, fl 20 16]]⟩,
    ⟨.fmtOsNorm, 0x14001020, [(48, 0x80), (3, 0x4)], 1, .rw, 0x0, [[fl 31 16, fl 15 0]]⟩,
    ⟨.fmtOsFscale, 0x14001030, [(48, 0x80), (3, 0x4)], 1, .rw, 0x0, [[fl 31 0]]⟩,
    ⟨.fmtOsFoff, 0x14001040, [(48, 0x80), (3, 0x4)], 1, .rw, 0x0, [[fl 31 0]]⟩,
    ⟨.fmtOsPadval, 0x14001050, [(48, 0x80), (3, 0x4)], 1, .rw, 0x0, [[fl 15 0]]⟩,
    ⟨.fmtOsFrames, 0x14001060, [(48, 0x80)], 1, .ro, 0x0, [[fl 31 0]]⟩ ]
  ++ [
    ⟨.fmtOsSkips, 0x14001064, [(48, 0x80)], 1, .ro, 0x0, [[fl 31 0]]⟩,
    ⟨.fmtOsProws, 0x14001068, [(48, 0x80)], 1, .ro, 0xFFFF, [[fl 31 16, fl 15 0]]⟩,
    ⟨.fmtOsTag, 0x14004000, [(48, 0x20)], 8, .rw, 0x0, [[fl 31 0]]⟩,
    ⟨.fmtCoef, 0x14008000, [(8, 0x800)], 512, .rw, 0x0, [[fl 31 0]]⟩ ]

/-- The registers of block DPP. -/
def dppRegs : List RegDesc :=
  [
    ⟨.dppCtrl, 0x15000000, [], 1, .rw, 0x0, [[fl 0 0]]⟩,
    ⟨.dppStatus, 0x15000004, [], 1, .ro, 0x0, [[fl 31 31, fl 7 0]]⟩,
    ⟨.dppJobs, 0x15000008, [], 1, .ro, 0x0, [[fl 31 0]]⟩,
    ⟨.dppCycles, 0x1500000C, [], 1, .ro, 0x0, [[fl 31 0]]⟩,
    ⟨.dppSubmitLo, 0x15000010, [], 1, .wo, 0x0, [[fl 31 0]]⟩,
    ⟨.dppSubmitHi, 0x15000014, [], 1, .rw, 0x0, [[fl 1 0]]⟩,
    ⟨.dppSubmitTicket, 0x15000018, [], 1, .ro, 0xFFFFFFFF, [[fl 31 0]]⟩,
    ⟨.dppSlotStatus, 0x15000040, [(8, 0x4)], 1, .ro, 0x0, [[fl 31 31, fl 30 28, fl 27 24, fl 12 0]]⟩,
    ⟨.dppSlotAbort, 0x15000060, [(8, 0x4)], 1, .wo, 0x0, [[fl 0 0]]⟩,
    ⟨.dppBindCfg, 0x15000100, [(4, 0x20)], 1, .rw, 0x0, [[fl 31 31, fl 29 24, fl 21 16, fl 13 8, fl 4 0]]⟩,
    ⟨.dppBindMap, 0x15000104, [(4, 0x20)], 1, .rw, 0x0, [[fl 4 0]]⟩,
    ⟨.dppBindTmplLo, 0x15000108, [(4, 0x20)], 1, .rw, 0x0, [[fl 31 6]]⟩,
    ⟨.dppBindTmplHi, 0x1500010C, [(4, 0x20)], 1, .rw, 0x0, [[fl 7 0]]⟩,
    ⟨.dppTag, 0x15000200, [], 8, .rw, 0x0, [[fl 31 0]]⟩ ]

/-- The registers of block VENC. -/
def vencRegs : List RegDesc :=
  [
    ⟨.vencCtrl, 0x16000000, [(2, 0x100000)], 1, .rw, 0x0, [[fl 0 0]]⟩,
    ⟨.vencStatus, 0x16000004, [(2, 0x100000)], 1, .ro, 0x0, [[fl 31 31, fl 30 30, fl 19 16, fl 15 0]]⟩,
    ⟨.vencCmdBaseLo, 0x16000008, [(2, 0x100000)], 1, .rw, 0x0, [[fl 31 6]]⟩,
    ⟨.vencCmdBaseHi, 0x1600000C, [(2, 0x100000)], 1, .rw, 0x0, [[fl 7 0]]⟩,
    ⟨.vencCmdSize, 0x16000010, [(2, 0x100000)], 1, .rw, 0x4, [[fr 3 0 [(4, 12)]]]⟩,
    ⟨.vencCmdTail, 0x16000014, [(2, 0x100000)], 1, .rw, 0x0, [[fl 11 0]]⟩,
    ⟨.vencCmdHead, 0x16000018, [(2, 0x100000)], 1, .ro, 0x0, [[fl 11 0]]⟩,
    ⟨.vencSliceCredit, 0x1600001C, [(2, 0x100000)], 1, .ro, 0x0, [[fl 15 0]]⟩,
    ⟨.vencRefBaseLo, 0x16000020, [(2, 0x100000)], 1, .rw, 0x0, [[fl 31 6]]⟩,
    ⟨.vencRefBaseHi, 0x16000024, [(2, 0x100000)], 1, .rw, 0x0, [[fl 7 0]]⟩,
    ⟨.vencRefSize, 0x16000028, [(2, 0x100000)], 1, .rw, 0x0, [[fl 29 6]]⟩,
    ⟨.vencRefCfg, 0x1600002C, [(2, 0x100000)], 1, .rw, 0x0, [[fr 6 0 [(0, 64)]]]⟩,
    ⟨.vencRefMark, 0x16000030, [(2, 0x100000), (4, 0x4)], 1, .ro, 0x0, [[fl 31 0]]⟩,
    ⟨.vencRefOwner, 0x16000040, [(2, 0x100000), (8, 0x4)], 1, .ro, 0x0, [[fl 31 0]]⟩,
    ⟨.vencEvidSess, 0x16000060, [(2, 0x100000)], 1, .rwd, 0x0, [[fl 15 0]]⟩,
    ⟨.vencEvidCfg, 0x16000064, [(2, 0x100000)], 1, .rwd, 0x0, [[fl 13 8, fl 4 0]]⟩,
    ⟨.vencBusy, 0x16000068, [(2, 0x100000)], 1, .ro, 0x0, [[fl 31 0]]⟩,
    ⟨.vencTag, 0x16000080, [(2, 0x100000)], 8, .rw, 0x0, [[fl 31 0]]⟩,
    ⟨.vencSCtrl, 0x16001000, [(2, 0x100000), (16, 0x80)], 1, .rw, 0x0, [[fl 31 31, fl 30 30, fl 29 28, fr 27 26 [(0, 1)], fr 25 24 [(0, 2)], fl 23 16, fr 15 8 [(1, 255)], fl 4 4, fl 3 3, fr 2 1 [(0, 2)]]]⟩,
    ⟨.vencSSize, 0x16001004, [(2, 0x100000), (16, 0x80)], 1, .rw, 0x0, [[fl 31 16, fl 15 0]]⟩ ]
  ++ [
    ⟨.vencSGop, 0x16001008, [(2, 0x100000), (16, 0x80)], 1, .rw, 0x0, [[fl 31 28, fr 27 24 [(0, 4)], fr 23 20 [(1, 4)], fl 15 0]]⟩,
    ⟨.vencSRc, 0x1600100C, [(2, 0x100000), (16, 0x80)], 1, .rw, 0x0, [[fr 14 8 [(1, 100)], fr 1 0 [(0, 2)]]]⟩,
    ⟨.vencSBitrate, 0x16001010, [(2, 0x100000), (16, 0x80)], 1, .rw, 0x0, [[fl 23 0]]⟩,
    ⟨.vencSMaxrate, 0x16001014, [(2, 0x100000), (16, 0x80)], 1, .rw, 0x0, [[fl 23 0]]⟩,
    ⟨.vencSVbv, 0x16001018, [(2, 0x100000), (16, 0x80)], 1, .rw, 0x0, [[fl 23 0]]⟩,
    ⟨.vencSQp, 0x1600101C, [(2, 0x100000), (16, 0x80)], 1, .rw, 0x33001E1C, [[fl 31 24, fl 23 16, fl 15 8, fl 7 0]]⟩,
    ⟨.vencSFps, 0x16001020, [(2, 0x100000), (16, 0x80)], 1, .rw, 0x0, [[fl 31 16, fl 15 0]]⟩,
    ⟨.vencSIo, 0x16001024, [(2, 0x100000), (16, 0x80)], 1, .rw, 0x0, [[fl 29 24, fl 21 16, fl 13 8, fl 4 0]]⟩,
    ⟨.vencSMap, 0x16001028, [(2, 0x100000), (16, 0x80)], 1, .rw, 0x0, [[fl 31 31, fr 25 24 [(0, 2)], fl 23 16, fl 15 0]]⟩,
    ⟨.vencSDeadline, 0x1600102C, [(2, 0x100000), (16, 0x80)], 1, .rw, 0x0, [[fl 31 31, fr 15 0 [(1, 65535)]]]⟩,
    ⟨.vencSPics, 0x16001030, [(2, 0x100000), (16, 0x80)], 1, .ro, 0x0, [[fl 31 0]]⟩,
    ⟨.vencSLastbits, 0x16001034, [(2, 0x100000), (16, 0x80)], 1, .ro, 0x0, [[fl 31 0]]⟩,
    ⟨.vencSSkips, 0x16001038, [(2, 0x100000), (16, 0x80)], 1, .ro, 0x0, [[fl 31 0]]⟩,
    ⟨.vencSTag, 0x16001040, [(2, 0x100000), (16, 0x80)], 8, .rw, 0x0, [[fl 31 0]]⟩ ]

/-- The registers of block VDEC. -/
def vdecRegs : List RegDesc :=
  [
    ⟨.vdecCtrl, 0x16200000, [], 1, .rw, 0x0, [[fl 0 0]]⟩,
    ⟨.vdecStatus, 0x16200004, [], 1, .ro, 0x0, [[fl 31 31, fl 18 16, fl 7 0]]⟩,
    ⟨.vdecDpbBaseLo, 0x16200008, [], 1, .rw, 0x0, [[fl 31 6]]⟩,
    ⟨.vdecDpbBaseHi, 0x1620000C, [], 1, .rw, 0x0, [[fl 7 0]]⟩,
    ⟨.vdecDpbSize, 0x16200010, [], 1, .rw, 0x0, [[fl 29 6]]⟩,
    ⟨.vdecDpbCfg, 0x16200014, [], 1, .rw, 0x0, [[fr 6 0 [(0, 64)]]]⟩,
    ⟨.vdecBusy, 0x16200018, [], 1, .ro, 0x0, [[fl 31 0]]⟩,
    ⟨.vdecTag, 0x16200080, [], 8, .rw, 0x0, [[fl 31 0]]⟩,
    ⟨.vdecSCtrl, 0x16201000, [(8, 0x80)], 1, .rw, 0x0, [[fl 31 31, fa 30 30 .wo, fr 27 26 [(0, 1)], fl 25 25, fl 24 24, fl 23 22, fr 21 20 [(0, 2)], fl 19 18, fr 17 16 [(0, 2)]]]⟩,
    ⟨.vdecSMaxsize, 0x16201004, [(8, 0x80)], 1, .rw, 0x0, [[fr 31 16 [(64, 8192)], fr 15 0 [(64, 8192)]]]⟩,
    ⟨.vdecSIo, 0x16201008, [(8, 0x80)], 1, .rw, 0x0, [[fl 29 24, fl 21 16, fl 4 0]]⟩,
    ⟨.vdecSDpb, 0x1620100C, [(8, 0x80)], 1, .rw, 0x2, [[fr 4 0 [(2, 17)]]]⟩,
    ⟨.vdecSStride, 0x16201010, [(8, 0x80)], 1, .rw, 0x0, [[fl 23 6]]⟩,
    ⟨.vdecSBudget, 0x16201014, [(8, 0x80)], 1, .rw, 0x4000500, [[fr 31 16 [(256, 65535)], fr 15 8 [(1, 255)]]]⟩,
    ⟨.vdecSPicbud, 0x16201018, [(8, 0x80)], 1, .rw, 0x190, [[fr 10 0 [(100, 1600)]]]⟩,
    ⟨.vdecSStatus, 0x1620101C, [(8, 0x80)], 1, .ro, 0x0, [[fl 31 31, fl 30 30, fl 15 0]]⟩,
    ⟨.vdecSPics, 0x16201020, [(8, 0x80)], 1, .ro, 0x0, [[fl 31 0]]⟩,
    ⟨.vdecSConceal, 0x16201024, [(8, 0x80)], 1, .ro, 0x0, [[fl 31 0]]⟩,
    ⟨.vdecSAbandon, 0x16201028, [(8, 0x80)], 1, .ro, 0x0, [[fl 31 0]]⟩,
    ⟨.vdecSTag, 0x16201040, [(8, 0x80)], 8, .rw, 0x0, [[fl 31 0]]⟩ ]

/-- The registers of block MEM. -/
def memRegs : List RegDesc :=
  [
    ⟨.memCtrl, 0x17000000, [], 1, .rw, 0x0, [[fl 2 2, fl 1 1, fa 0 0 .wo]]⟩,
    ⟨.memCfg, 0x17000004, [], 1, .rwl, 0x0, [[fr 9 8 [(0, 2)], fr 5 4 [(0, 2)], fl 0 0]]⟩,
    ⟨.memStatus, 0x17000008, [], 1, .ro, 0x0, [[fl 31 31, fl 15 0]]⟩,
    ⟨.memTopLo, 0x1700000C, [], 1, .ro, 0x0, [[fl 31 6]]⟩,
    ⟨.memTopHi, 0x17000010, [], 1, .ro, 0x0, [[fl 7 0]]⟩,
    ⟨.memStarve, 0x17000014, [], 1, .rw, 0xFA0, [[fr 15 0 [(256, 65535)]]]⟩,
    ⟨.memRetrain, 0x17000018, [], 1, .rw, 0x500FA, [[fr 23 16 [(1, 20)], fr 15 0 [(10, 2000)]]]⟩,
    ⟨.memAuditCtrl, 0x1700001C, [], 1, .wo, 0x0, [[fl 0 0]]⟩,
    ⟨.memAuditStatus, 0x17000020, [], 1, .ro, 0x0, [[fl 31 30, fl 24 24, fl 2 0]]⟩,
    ⟨.memCeCnt, 0x17000024, [], 1, .ro, 0x0, [[fl 31 0]]⟩,
    ⟨.memUeCnt, 0x17000028, [], 1, .ro, 0x0, [[fl 31 0]]⟩,
    ⟨.memPwCnt, 0x1700002C, [], 1, .ro, 0x0, [[fl 31 0]]⟩,
    ⟨.memMsCredits, 0x17000100, [(8, 0x40)], 1, .ro, 0xFF017F, [[fl 24 16, fl 8 0]]⟩,
    ⟨.memMsLine, 0x17000104, [(8, 0x40)], 1, .ro, 0x0, [[fl 31 16, fl 6 0]]⟩,
    ⟨.memMsRefOwed, 0x17000108, [(8, 0x40)], 1, .ro, 0x0, [[fl 11 8, fl 3 0]]⟩,
    ⟨.memMsUeLo, 0x1700010C, [(8, 0x40)], 1, .ro, 0x0, [[fl 31 5]]⟩,
    ⟨.memMsUeHi, 0x17000110, [(8, 0x40)], 1, .ro, 0x0, [[fl 7 0]]⟩,
    ⟨.memMsPwLo, 0x17000114, [(8, 0x40)], 1, .ro, 0x0, [[fl 31 5]]⟩,
    ⟨.memMsPwHi, 0x17000118, [(8, 0x40)], 1, .ro, 0x0, [[fl 22 16, fl 7 0]]⟩,
    ⟨.memChStatus, 0x17000400, [(16, 0x10)], 1, .ro, 0x0, [[fl 31 31, fl 30 30, fl 10 8, fl 7 0]]⟩ ]
  ++ [
    ⟨.memChRetrains, 0x17000404, [(16, 0x10)], 1, .ro, 0x0, [[fl 31 0]]⟩,
    ⟨.memChForced, 0x17000408, [(16, 0x10)], 1, .ro, 0x0, [[fl 31 0]]⟩ ]

/-- The registers of block COH. -/
def cohRegs : List RegDesc :=
  [
    ⟨.cohSnoopTo, 0x18000000, [], 1, .rw, 0xA, [[fr 9 0 [(1, 1000)]]]⟩,
    ⟨.cohStatus, 0x18000004, [], 1, .ro, 0x0, [[fl 19 16, fl 3 0]]⟩,
    ⟨.cohLastToLo, 0x18000008, [], 1, .ro, 0x0, [[fl 31 6, fl 1 0]]⟩,
    ⟨.cohLastToHi, 0x1800000C, [], 1, .ro, 0x0, [[fl 7 0]]⟩,
    ⟨.cohScrubLo, 0x18000010, [], 1, .rw, 0x0, [[fl 31 6]]⟩,
    ⟨.cohScrubHi, 0x18000014, [], 1, .rw, 0x0, [[fl 7 0]]⟩,
    ⟨.cohScrubStatus, 0x18000018, [], 1, .ro, 0x0, [[fl 31 31, fl 15 0]]⟩,
    ⟨.cohToCnt, 0x1800001C, [], 1, .ro, 0x0, [[fl 31 0]]⟩,
    ⟨.cohCpuCtrl, 0x18000100, [(4, 0x10)], 1, .wo, 0x0, [[fl 0 0]]⟩,
    ⟨.cohCpuStatus, 0x18000104, [(4, 0x10)], 1, .ro, 0x0, [[fl 2 2, fl 1 1, fl 0 0]]⟩,
    ⟨.cohCpuPoison, 0x18000108, [(4, 0x10)], 1, .ro, 0x0, [[fl 31 0]]⟩,
    ⟨.cohHnStatus, 0x18000200, [(8, 0x4)], 1, .ro, 0x0, [[fl 22 16, fl 6 0]]⟩,
    ⟨.cohHnWaits, 0x18000240, [(8, 0x4)], 1, .ro, 0x0, [[fl 31 0]]⟩ ]

/-- The registers of block PCIE. -/
def pcieRegs : List RegDesc :=
  [
    ⟨.pcieCtrl, 0x19000000, [], 1, .rw, 0x0, [[fl 31 31, fl 1 0]]⟩,
    ⟨.pcieStatus, 0x19000004, [], 1, .ro, 0x0, [[fl 29 28, fl 27 24, fl 15 0]]⟩,
    ⟨.pcieCto, 0x19000008, [], 1, .rw, 0x32, [[fr 9 0 [(1, 1000)]]]⟩,
    ⟨.pcieErrCnt, 0x1900000C, [], 1, .ro, 0x0, [[fl 31 0]]⟩,
    ⟨.pcieObOffset, 0x19000010, [(2, 0x8)], 2, .rw, 0x0, [[fl 31 0], [fl 31 0]]⟩,
    ⟨.pcieBar2Cfg, 0x19000020, [], 1, .rwl, 0x1E, [[fl 31 31, fr 5 0 [(20, 36)]]]⟩,
    ⟨.pcieBar2TgtLo, 0x19000024, [], 1, .rwl, 0x0, [[fl 31 20]]⟩,
    ⟨.pcieBar2TgtHi, 0x19000028, [], 1, .rwl, 0x0, [[fl 7 0]]⟩,
    ⟨.pcieMsiTgt, 0x19000030, [], 2, .rw, 0x0, [[fl 31 0], [fl 31 0]]⟩,
    ⟨.pcieMsiStatus, 0x19000038, [], 2, .w1c, 0x0, [[fl 31 0], [fl 31 0]]⟩,
    ⟨.pcieEpIrq, 0x19000040, [], 1, .wo, 0x0, [[fl 5 0]]⟩ ]

/-- The registers of block ETH. -/
def ethRegs : List RegDesc :=
  [
    ⟨.ethCtrl, 0x19100000, [(2, 0x100000)], 1, .rw, 0x0, [[fl 31 31, fr 9 8 [(0, 2)], fl 5 5, fl 4 4, fl 3 3, fl 2 2, fl 1 1, fl 0 0]]⟩,
    ⟨.ethStatus, 0x19100004, [(2, 0x100000)], 1, .ro, 0x0, [[fl 31 31, fl 9 8, fl 0 0]]⟩,
    ⟨.ethTsLat, 0x19100008, [(2, 0x100000)], 1, .rw, 0x0, [[fl 27 16, fl 11 0]]⟩,
    ⟨.ethAddr, 0x19100010, [(2, 0x100000), (8, 0x8)], 2, .rw, 0x0, [[fl 31 0], [fl 31 31, fl 15 0]]⟩,
    ⟨.ethMchash, 0x19100050, [(2, 0x100000)], 2, .rw, 0x0, [[fl 31 0], [fl 31 0]]⟩,
    ⟨.ethMdio, 0x19100058, [(2, 0x100000)], 1, .rw, 0x0, [[fl 31 31, fl 30 30, fl 25 21, fl 20 16, fl 15 0]]⟩,
    ⟨.ethQBase, 0x19100100, [(2, 0x100000), (4, 0x20)], 2, .rw, 0x0, [[fl 31 6], [fl 7 0]]⟩,
    ⟨.ethQSize, 0x19100108, [(2, 0x100000), (4, 0x20)], 1, .rw, 0x4, [[fr 3 0 [(4, 12)]]]⟩,
    ⟨.ethQTail, 0x1910010C, [(2, 0x100000), (4, 0x20)], 1, .rw, 0x0, [[fl 11 0]]⟩,
    ⟨.ethQHead, 0x19100110, [(2, 0x100000), (4, 0x20)], 1, .ro, 0x0, [[fl 11 0]]⟩,
    ⟨.ethRxDrop, 0x19100180, [(2, 0x100000)], 1, .ro, 0x0, [[fl 31 0]]⟩,
    ⟨.ethTag, 0x19100200, [(2, 0x100000)], 8, .rw, 0x0, [[fl 31 0]]⟩ ]

/-- The registers of block I3C. -/
def i3cRegs : List RegDesc :=
  [
    ⟨.i3cCtrl, 0x19300000, [(8, 0x1000)], 1, .rw, 0x0, [[fl 31 31, fa 30 30 .wo, fl 29 29, fl 8 8, fr 1 0 [(0, 2)]]]⟩,
    ⟨.i3cStatus, 0x19300004, [(8, 0x1000)], 1, .ro, 0x0, [[fl 31 31, fl 20 16, fl 12 8, fl 4 0]]⟩,
    ⟨.i3cCmdLo, 0x19300008, [(8, 0x1000)], 1, .rw, 0x0, [[fl 31 31, fl 28 24, fl 22 16, fl 15 15, fr 14 13 [(0, 2)], fl 12 12, fl 11 0]]⟩,
    ⟨.i3cCmdHi, 0x1930000C, [(8, 0x1000)], 1, .wo, 0x0, [[fl 31 16, fl 8 8, fl 7 0]]⟩,
    ⟨.i3cData, 0x19300010, [(8, 0x1000)], 1, .rw, 0x0, [[fl 31 0]]⟩,
    ⟨.i3cResp, 0x19300014, [(8, 0x1000)], 1, .ro, 0x0, [[fl 31 0]]⟩,
    ⟨.i3cIbi, 0x19300018, [(8, 0x1000)], 1, .ro, 0x0, [[fl 31 0]]⟩,
    ⟨.i3cCnt, 0x1930001C, [(8, 0x1000)], 1, .ro, 0x0, [[fl 31 16, fl 15 0]]⟩ ]

/-- The registers of block XSPI. -/
def xspiRegs : List RegDesc :=
  [
    ⟨.xspiCtrl, 0x19400000, [], 1, .rw, 0x0, [[fl 31 31, fl 1 1, fl 0 0]]⟩,
    ⟨.xspiCmd, 0x19400004, [], 1, .rw, 0x0, [[fl 31 0]]⟩,
    ⟨.xspiData, 0x19400008, [], 1, .rw, 0x0, [[fl 31 0]]⟩ ]

/-- The registers of block UART. -/
def uartRegs : List RegDesc :=
  [
    ⟨.uartCtrl, 0x19500000, [(2, 0x100)], 1, .rw, 0x0, [[fl 31 31, fl 30 30, fr 5 4 [(0, 2)], fl 3 3, fl 2 2]]⟩,
    ⟨.uartBaud, 0x19500004, [(2, 0x100)], 1, .rw, 0x1C200, [[fr 21 0 [(1200, 3000000)]]]⟩,
    ⟨.uartData, 0x19500008, [(2, 0x100)], 1, .rw, 0x0, [[fl 7 0]]⟩,
    ⟨.uartStatus, 0x1950000C, [(2, 0x100)], 1, .ro, 0x0, [[fl 22 16, fl 6 0]]⟩ ]

/-- The registers of block GPIO. -/
def gpioRegs : List RegDesc :=
  [
    ⟨.gpioDir, 0x19600000, [], 2, .rw, 0x0, [[fl 31 0], [fl 7 0]]⟩,
    ⟨.gpioOut, 0x19600008, [], 2, .rw, 0x0, [[fl 31 0], [fl 7 0]]⟩,
    ⟨.gpioIn, 0x19600010, [], 2, .ro, 0x0, [[fl 31 0], [fl 7 0]]⟩,
    ⟨.gpioPull, 0x19600018, [], 2, .rw, 0x0, [[fl 31 0], [fl 7 0]]⟩,
    ⟨.gpioIrqRise, 0x19600020, [], 2, .rw, 0x0, [[fl 31 0], [fl 7 0]]⟩,
    ⟨.gpioIrqFall, 0x19600028, [], 2, .rw, 0x0, [[fl 31 0], [fl 7 0]]⟩,
    ⟨.gpioIrqStatus, 0x19600030, [], 2, .w1c, 0x0, [[fl 31 0], [fl 7 0]]⟩,
    ⟨.gpioCapCfg, 0x19600100, [(8, 0x20)], 1, .rw, 0x0, [[fl 31 31, fr 29 28 [(1, 3)], fl 26 24, fr 5 0 [(0, 39)]]]⟩,
    ⟨.gpioCapSec, 0x19600104, [(8, 0x20)], 2, .ro, 0x0, [[fl 31 0], [fl 31 31, fl 30 30, fl 15 0]]⟩,
    ⟨.gpioCapTick, 0x1960010C, [(8, 0x20)], 1, .ro, 0x0, [[fl 30 0]]⟩,
    ⟨.gpioCapPos, 0x19600110, [(8, 0x20)], 1, .ro, 0x0, [[fl 23 8, fl 7 0]]⟩,
    ⟨.gpioCapFrame, 0x19600114, [(8, 0x20)], 1, .ro, 0x0, [[fl 31 0]]⟩ ]

/-- The registers of block ILL. -/
def illRegs : List RegDesc :=
  [
    ⟨.illCtrl, 0x1A000000, [], 1, .rw, 0x0, [[fl 0 0]]⟩,
    ⟨.illStatus, 0x1A000004, [], 1, .ro, 0x0, [[fl 31 31, fl 15 8, fl 7 0]]⟩,
    ⟨.illCfg, 0x1A000100, [(8, 0x20)], 1, .rw, 0x0, [[fl 31 31, fl 26 24, fl 22 20, fl 19 16, fr 9 0 [(10, 500)]]]⟩,
    ⟨.illMaxon, 0x1A000104, [(8, 0x20)], 1, .rw, 0x3E8, [[fr 15 0 [(1, 65535)]]]⟩,
    ⟨.illChStatus, 0x1A000108, [(8, 0x20)], 1, .ro, 0x0, [[fl 31 31, fl 6 4, fa 3 3 .w1c, fl 2 1, fa 0 0 .w1c]]⟩,
    ⟨.illStrobes, 0x1A00010C, [(8, 0x20)], 1, .ro, 0x0, [[fl 31 0]]⟩,
    ⟨.illTrips, 0x1A000110, [(8, 0x20)], 1, .ro, 0x0, [[fl 31 0]]⟩,
    ⟨.illTag, 0x1A000400, [(8, 0x20)], 8, .rw, 0x0, [[fl 31 0]]⟩ ]

/-- The registers of block DSV. -/
def dsvRegs : List RegDesc :=
  [
    ⟨.dsvDoorbell, 0x1B000000, [(2, 0x8000)], 1, .wo, 0x0, [[fl 0 0]]⟩,
    ⟨.dsvMbstatus, 0x1B000004, [(2, 0x8000)], 1, .ro, 0x0, [[fl 31 31, fl 30 30, fa 29 29 .w1c]]⟩,
    ⟨.dsvCmdbuf, 0x1B001000, [(2, 0x8000)], 1024, .rw, 0x0, [[fl 31 0]]⟩,
    ⟨.dsvRespbuf, 0x1B002000, [(2, 0x8000)], 1024, .ro, 0x0, [[fl 31 0]]⟩,
    ⟨.dsvBootStatus, 0x1B010000, [], 1, .ro, 0x0, [[fl 31 31, fl 7 0]]⟩,
    ⟨.dsvProtSeq, 0x1B010004, [], 1, .ro, 0x0, [[fl 31 0]]⟩,
    ⟨.dsvDcWindow, 0x1B010008, [], 1, .rwd, 0x258, [[fr 16 0 [(10, 86400)]]]⟩,
    ⟨.dsvDebug, 0x1B01000C, [], 1, .ro, 0x0, [[fl 31 30, fl 19 0]]⟩,
    ⟨.dsvEvidFwd, 0x1B010010, [], 1, .rw, 0x0, [[fl 29 24, fl 20 16]]⟩,
    ⟨.dsvSegCfg, 0x1B010014, [], 1, .rw, 0x3C07D0, [[fr 23 16 [(1, 255)], fr 15 0 [(100, 60000)]]]⟩,
    ⟨.dsvChainBase, 0x1B010020, [], 2, .rw, 0x0, [[fl 31 6], [fl 7 0]]⟩,
    ⟨.dsvChainSize, 0x1B010028, [], 1, .rw, 0x4, [[fr 3 0 [(4, 12)]]]⟩,
    ⟨.dsvChainHead, 0x1B01002C, [], 1, .ro, 0x0, [[fl 11 0]]⟩,
    ⟨.dsvChainTail, 0x1B010030, [], 1, .rw, 0x0, [[fl 11 0]]⟩,
    ⟨.dsvChainSeq, 0x1B010034, [], 2, .ro, 0x0, [[fl 31 0], [fl 31 0]]⟩,
    ⟨.dsvDcFails, 0x1B010040, [], 1, .ro, 0x0, [[fl 31 0]]⟩,
    ⟨.dsvTag, 0x1B010800, [], 8, .rw, 0x0, [[fl 31 0]]⟩,
    ⟨.dsvFwBase, 0x1B011000, [(64, 0x10)], 1, .rwd, 0x0, [[fl 27 0]]⟩,
    ⟨.dsvFwLimit, 0x1B011004, [(64, 0x10)], 1, .rwd, 0x0, [[fl 27 0]]⟩,
    ⟨.dsvFwPerm, 0x1B011008, [(64, 0x10)], 1, .rwd, 0x0, [[fl 23 0]]⟩ ]
  ++ [
    ⟨.dsvFwCtrl, 0x1B01100C, [(64, 0x10)], 1, .rwd, 0x0, [[fl 31 31]]⟩,
    ⟨.dsvKsInfo, 0x1B012000, [(8, 0x4)], 1, .ro, 0x0, [[fl 1 0]]⟩,
    ⟨.dsvErrCtrl, 0x1B013000, [], 1, .rw, 0x0, [[fl 31 31, fl 30 30, fl 8 8, fl 2 0]]⟩,
    ⟨.dsvErrHostMask, 0x1B013004, [], 1, .rw, 0x30, [[fl 5 0]]⟩,
    ⟨.dsvErrDBase, 0x1B013008, [], 2, .rw, 0x0, [[fl 31 6], [fl 7 0]]⟩,
    ⟨.dsvErrDSize, 0x1B013010, [], 1, .rw, 0x4, [[fr 3 0 [(4, 12)]]]⟩,
    ⟨.dsvErrDHead, 0x1B013014, [], 1, .ro, 0x0, [[fl 11 0]]⟩,
    ⟨.dsvErrDTail, 0x1B013018, [], 1, .rw, 0x0, [[fl 11 0]]⟩,
    ⟨.dsvErrHBase, 0x1B013028, [], 2, .rw, 0x0, [[fl 31 6], [fl 7 0]]⟩,
    ⟨.dsvErrHSize, 0x1B013030, [], 1, .rw, 0x4, [[fr 3 0 [(4, 12)]]]⟩,
    ⟨.dsvErrHHead, 0x1B013034, [], 1, .ro, 0x0, [[fl 11 0]]⟩,
    ⟨.dsvErrHTail, 0x1B013038, [], 1, .rw, 0x0, [[fl 11 0]]⟩,
    ⟨.dsvErrCnt, 0x1B013040, [(6, 0x4)], 1, .ro, 0x0, [[fl 31 0]]⟩,
    ⟨.dsvErrLost, 0x1B013058, [], 1, .ro, 0x0, [[fl 31 0]]⟩,
    ⟨.dsvErrFifo, 0x1B01305C, [], 1, .ro, 0x0, [[fl 8 0]]⟩,
    ⟨.dsvRsvdStatus, 0x1B013060, [], 1, .w1c, 0x0, [[fl 30 0]]⟩,
    ⟨.dsvRsvdLast, 0x1B013064, [], 1, .ro, 0x0, [[fl 31 0]]⟩,
    ⟨.dsvTelCtrl, 0x1B013080, [], 1, .rw, 0x0, [[fl 31 31, fl 9 0]]⟩,
    ⟨.dsvTelPeriod, 0x1B013084, [], 1, .rw, 0x3E8, [[fr 13 0 [(10, 10000)]]]⟩,
    ⟨.dsvTelBase, 0x1B013088, [], 2, .rw, 0x0, [[fl 31 6], [fl 7 0]]⟩ ]
  ++ [
    ⟨.dsvTelSize, 0x1B013090, [], 1, .rw, 0x4, [[fr 3 0 [(4, 12)]]]⟩,
    ⟨.dsvTelHead, 0x1B013094, [], 1, .ro, 0x0, [[fl 11 0]]⟩,
    ⟨.dsvTelTail, 0x1B013098, [], 1, .rw, 0x0, [[fl 11 0]]⟩,
    ⟨.dsvTelLost, 0x1B01309C, [], 1, .ro, 0x0, [[fl 31 0]]⟩ ]

/-- The registers of block THM. -/
def thmRegs : List RegDesc :=
  [
    ⟨.thmCtrl, 0x1B100000, [], 1, .rw, 0x3, [[fl 1 1, fl 0 0]]⟩,
    ⟨.thmStatus, 0x1B100004, [], 1, .ro, 0x0, [[fl 20 16, fl 4 4, fl 3 3, fl 2 2, fl 1 1, fl 0 0]]⟩,
    ⟨.thmTj, 0x1B100008, [], 1, .ro, 0x0, [[fl 15 0]]⟩,
    ⟨.thmRamp, 0x1B10000C, [], 1, .rw, 0x4, [[fr 3 0 [(1, 10)]]]⟩,
    ⟨.thmRth, 0x1B100010, [], 1, .rw, 0x12, [[fr 6 0 [(5, 100)]]]⟩,
    ⟨.thmRampFloor, 0x1B100014, [], 1, .rw, 0x320, [[fr 10 0 [(300, 1200)]]]⟩,
    ⟨.thmBallast, 0x1B100018, [], 1, .rw, 0x28, [[fa 29 24 .ro, fr 6 0 [(0, 80)]]]⟩,
    ⟨.thmBudget, 0x1B10001C, [], 1, .ro, 0x0, [[fl 31 16, fl 15 0]]⟩,
    ⟨.thmRampExcess, 0x1B100020, [], 1, .ro, 0x0, [[fl 31 0]]⟩,
    ⟨.thmCal, 0x1B100024, [], 1, .rw, 0x3C, [[fr 9 0 [(10, 600)]]]⟩,
    ⟨.thmFlow, 0x1B100028, [], 1, .ro, 0x0, [[fl 15 0]]⟩,
    ⟨.thmFlowK, 0x1B10002C, [], 1, .rw, 0xFA0, [[fr 15 0 [(100, 65535)]]]⟩,
    ⟨.thmNtcIn, 0x1B100030, [], 1, .ro, 0x0, [[fl 31 31, fl 15 0]]⟩,
    ⟨.thmNtcOut, 0x1B100034, [], 1, .ro, 0x0, [[fl 31 31, fl 15 0]]⟩,
    ⟨.thmPump, 0x1B100038, [], 1, .rw, 0xFF01F4, [[fl 31 31, fl 23 16, fr 15 0 [(300, 800)]]]⟩,
    ⟨.thmPumpTach, 0x1B10003C, [], 1, .ro, 0x0, [[fl 15 0]]⟩,
    ⟨.thmTripLast, 0x1B100040, [], 1, .ro, 0x0, [[fl 31 27, fl 15 0]]⟩,
    ⟨.thmTripTod, 0x1B100044, [], 1, .ro, 0x0, [[fl 31 0]]⟩,
    ⟨.thmTripCnt, 0x1B100048, [], 1, .ro, 0x0, [[fl 31 0]]⟩,
    ⟨.thmTs, 0x1B100100, [(24, 0x4)], 1, .ro, 0x0, [[fl 31 31, fl 15 0]]⟩ ]

/-- The registers of block PWR. -/
def pwrRegs : List RegDesc :=
  [
    ⟨.pwrState, 0x1B200000, [], 1, .ro, 0x70, [[fl 8 8, fl 6 4, fl 2 0]]⟩,
    ⟨.pwrRailStatus, 0x1B200004, [], 1, .ro, 0x3, [[fl 13 0]]⟩,
    ⟨.pwrTcGate, 0x1B200008, [], 1, .rw, 0xFF, [[fl 7 0]]⟩,
    ⟨.pwrTcStatus, 0x1B20000C, [], 1, .ro, 0x0, [[fl 15 8, fl 7 0]]⟩,
    ⟨.pwrCpuGate, 0x1B200010, [], 1, .rw, 0x0, [[fl 3 0]]⟩,
    ⟨.pwrCpuStatus, 0x1B200014, [], 1, .ro, 0x0, [[fl 7 4, fl 3 0]]⟩,
    ⟨.pwrRst, 0x1B200018, [], 1, .wo, 0x0, [[fl 21 0]]⟩,
    ⟨.pwrRstStatus, 0x1B20001C, [], 1, .ro, 0x0, [[fl 21 0]]⟩,
    ⟨.pwrCpuRvbar, 0x1B200020, [(4, 0x8)], 2, .rw, 0x0, [[fl 31 2], [fl 7 0]]⟩,
    ⟨.pwrGrace, 0x1B200040, [], 1, .rw, 0x64, [[fr 13 0 [(0, 10000)]]]⟩,
    ⟨.pwrAvsCfg, 0x1B200044, [], 1, .ro, 0x1414, [[fl 16 16, fr 15 8 [(1, 255)], fr 4 0 [(1, 20)]]]⟩,
    ⟨.pwrVcore, 0x1B200048, [], 1, .ro, 0x0, [[fl 25 16, fl 9 0]]⟩,
    ⟨.pwrVcpu, 0x1B20004C, [], 1, .ro, 0x0, [[fl 25 16, fl 9 0]]⟩,
    ⟨.pwrPmbus, 0x1B200050, [(6, 0x4)], 1, .ro, 0x0, [[fl 31 31, fl 11 8, fl 6 0]]⟩ ]

/-- The registers of block CLK. -/
def clkRegs : List RegDesc :=
  [
    ⟨.clkStatus, 0x1B300000, [], 1, .ro, 0x0, [[fl 3 0]]⟩,
    ⟨.clkTclkReq, 0x1B300004, [], 1, .rw, 0x320, [[fr 10 0 [(300, 1200)]]]⟩,
    ⟨.clkTclk, 0x1B300008, [], 1, .ro, 0x0, [[fl 26 16, fl 10 0]]⟩,
    ⟨.clkCpuReq, 0x1B30000C, [], 1, .rw, 0x320, [[fr 10 0 [(400, 1600)]]]⟩,
    ⟨.clkCpu, 0x1B300010, [], 1, .ro, 0x0, [[fl 26 16, fl 10 0]]⟩ ]

/-- A block of registers: its base, the bytes of all its instances, its bit in DSV_RSVD_STATUS for instance 0 (R857)
and its registers. -/
structure Block where
  base : Nat
  span : Nat
  regs : List RegDesc
  deriving DecidableEq, Repr

/-- The blocks of register space (R871). -/
def blocks : List Block :=
  [ ⟨0x10000000, 0x200000, sfeRegs⟩, ⟨0x11000000, 0x100000, lptRegs⟩, ⟨0x12000000, 0x800000, tcRegs⟩,
    ⟨0x13000000, 0x100000, passRegs⟩, ⟨0x13100000, 0x100000, wchRegs⟩, ⟨0x14000000, 0x100000, fmtRegs⟩,
    ⟨0x15000000, 0x100000, dppRegs⟩, ⟨0x16000000, 0x200000, vencRegs⟩, ⟨0x16200000, 0x100000, vdecRegs⟩,
    ⟨0x17000000, 0x100000, memRegs⟩, ⟨0x18000000, 0x100000, cohRegs⟩, ⟨0x19000000, 0x100000, pcieRegs⟩,
    ⟨0x19100000, 0x200000, ethRegs⟩ ] ++
  [ ⟨0x19300000, 0x100000, i3cRegs⟩, ⟨0x19400000, 0x100000, xspiRegs⟩, ⟨0x19500000, 0x100000, uartRegs⟩,
    ⟨0x19600000, 0x100000, gpioRegs⟩, ⟨0x1A000000, 0x100000, illRegs⟩, ⟨0x1B000000, 0x100000, dsvRegs⟩,
    ⟨0x1B100000, 0x100000, thmRegs⟩, ⟨0x1B200000, 0x100000, pwrRegs⟩, ⟨0x1B300000, 0x100000, clkRegs⟩ ]

/-- A register found at an address: its row, its indices, and which of its words. -/
structure RegRef where
  desc : RegDesc
  idx  : List Nat
  word : Nat
  deriving DecidableEq, Repr

/-- The indices of offset `o`, and the byte offset left, where every index is inside its count. -/
def decompose : List (Nat × Nat) → Nat → Option (List Nat × Nat)
  | [], o => some ([], o)
  | (n, st) :: r, o =>
    if o / st < n then
      match decompose r (o % st) with
      | some (is, w) => some (o / st :: is, w)
      | none => none
    else none

/-- The register of row `d` at address `a`. -/
def matchDesc (d : RegDesc) (a : Nat) : Option RegRef :=
  if d.base ≤ a then
    match decompose d.dims (a - d.base) with
    | some (is, o) => if o < 4 * d.words then some ⟨d, is, o / 4⟩ else none
    | none => none
  else none

/-- The first row of a list that lies at an address. -/
def findIn : List RegDesc → Nat → Option RegRef
  | [], _ => none
  | d :: r, a =>
    match matchDesc d a with
    | some x => some x
    | none => findIn r a

/-- The block whose span holds an address. -/
def findBlock : List Block → Nat → Option Block
  | [], _ => none
  | b :: r, a => if b.base ≤ a ∧ a < b.base + b.span then some b else findBlock r a

/-- The register at an address of register space, if one lies there (R874). -/
def regAt (a : Nat) : Option RegRef :=
  match findBlock blocks a with
  | some b => findIn b.regs a
  | none => none

/-- The reset value of the register word at an address (R879, R888). -/
def resetOf (a : Nat) : Word :=
  match regAt a with
  | some r => BitVec.ofNat 32 r.desc.reset
  | none => 0

/-- The fields of the register word found. -/
def RegRef.fields (r : RegRef) : List Field := lget (lget [] r.desc.fields 0) r.desc.fields r.word

/-- `SFE_CTRL`. -/
def Addr.sfeCtrl : Nat := 0x10000000
/-- `SFE_STATUS`. -/
def Addr.sfeStatus : Nat := 0x10000004
/-- `SFE_PHY_CFG`. -/
def Addr.sfePhyCfg (i : Nat) : Nat := 0x10000100 + 0x40 * i
/-- `SFE_PHY_LANEMAP`. -/
def Addr.sfePhyLanemap (i : Nat) : Nat := 0x10000104 + 0x40 * i
/-- `SFE_PHY_STATUS`. -/
def Addr.sfePhyStatus (i : Nat) : Nat := 0x10000108 + 0x40 * i
/-- `SFE_LNK_CFG`. -/
def Addr.sfeLnkCfg (i : Nat) : Nat := 0x10000400 + 0x20 * i
/-- `SFE_LNK_UNMATCHED`. -/
def Addr.sfeLnkUnmatched (i : Nat) : Nat := 0x10000404 + 0x20 * i
/-- `SFE_LNK_ECC`. -/
def Addr.sfeLnkEcc (i : Nat) : Nat := 0x10000408 + 0x20 * i
/-- `SFE_CTX_TAG`. -/
def Addr.sfeCtxTag (i : Nat) : Nat := 0x10000C00 + 0x20 * i
/-- `SFE_CTX_CTRL`. -/
def Addr.sfeCtxCtrl (i : Nat) : Nat := 0x10001000 + 0x100 * i
/-- `SFE_CTX_SRC`. -/
def Addr.sfeCtxSrc (i : Nat) : Nat := 0x10001004 + 0x100 * i
/-- `SFE_CTX_SIZE`. -/
def Addr.sfeCtxSize (i : Nat) : Nat := 0x10001008 + 0x100 * i
/-- `SFE_CTX_FMT`. -/
def Addr.sfeCtxFmt (i : Nat) : Nat := 0x1000100C + 0x100 * i
/-- `SFE_CTX_BL`. -/
def Addr.sfeCtxBl (i : Nat) (j : Nat) : Nat := 0x10001010 + 0x100 * i + 0x4 * j
/-- `SFE_CTX_LSC`. -/
def Addr.sfeCtxLsc (i : Nat) : Nat := 0x10001020 + 0x100 * i
/-- `SFE_CTX_DEFECT`. -/
def Addr.sfeCtxDefect (i : Nat) : Nat := 0x10001024 + 0x100 * i
/-- `SFE_CTX_UNCORR`. -/
def Addr.sfeCtxUncorr (i : Nat) : Nat := 0x10001028 + 0x100 * i
/-- `SFE_CTX_EXTRA`. -/
def Addr.sfeCtxExtra (i : Nat) : Nat := 0x1000102C + 0x100 * i
/-- `SFE_CTX_OUT`. -/
def Addr.sfeCtxOut (i : Nat) : Nat := 0x10001030 + 0x100 * i
/-- `SFE_CTX_STAT`. -/
def Addr.sfeCtxStat (i : Nat) : Nat := 0x10001034 + 0x100 * i
/-- `SFE_CTX_STAT_XY`. -/
def Addr.sfeCtxStatXy (i : Nat) : Nat := 0x10001038 + 0x100 * i
/-- `SFE_CTX_STAT_WH`. -/
def Addr.sfeCtxStatWh (i : Nat) : Nat := 0x1000103C + 0x100 * i
/-- `SFE_CTX_SAT_THR`. -/
def Addr.sfeCtxSatThr (i : Nat) : Nat := 0x10001040 + 0x100 * i
/-- `SFE_CTX_EMB_MAX`. -/
def Addr.sfeCtxEmbMax (i : Nat) : Nat := 0x10001044 + 0x100 * i
/-- `SFE_PWL`. -/
def Addr.sfePwl (i : Nat) : Nat := 0x10010000 + 0x100 * i
/-- `SFE_LSCTAB`. -/
def Addr.sfeLsctab (i : Nat) : Nat := 0x10020000 + 0x4000 * i
/-- `SFE_DFL`. -/
def Addr.sfeDfl (i : Nat) : Nat := 0x100A0000 + 0x4000 * i
/-- `LPT_CTRL`. -/
def Addr.lptCtrl : Nat := 0x11000000
/-- `LPT_STATUS`. -/
def Addr.lptStatus : Nat := 0x11000004
/-- `LPT_TOD_SRC`. -/
def Addr.lptTodSrc : Nat := 0x11000008
/-- `LPT_HOLDOVER`. -/
def Addr.lptHoldover : Nat := 0x1100000C
/-- `LPT_TOD_SEC`. -/
def Addr.lptTodSec : Nat := 0x11000010
/-- `LPT_TOD_TICK`. -/
def Addr.lptTodTick : Nat := 0x11000018
/-- `LPT_TOD_RATE`. -/
def Addr.lptTodRate : Nat := 0x11000020
/-- `LPT_TOD_STEP_TICK`. -/
def Addr.lptTodStepTick : Nat := 0x11000024
/-- `LPT_TOD_STEP_SEC`. -/
def Addr.lptTodStepSec : Nat := 0x11000028
/-- `LPT_TOD_STEP_GO`. -/
def Addr.lptTodStepGo : Nat := 0x1100002C
/-- `LPT_PPS_TS_SEC`. -/
def Addr.lptPpsTsSec : Nat := 0x11000030
/-- `LPT_PPS_TS_TICK`. -/
def Addr.lptPpsTsTick : Nat := 0x11000038
/-- `LPT_PPS_OUT_CTRL`. -/
def Addr.lptPpsOutCtrl : Nat := 0x1100003C
/-- `LPT_LD_PERIOD`. -/
def Addr.lptLdPeriod (i : Nat) : Nat := 0x11000040 + 0x4 * i
/-- `LPT_LD_FLEN`. -/
def Addr.lptLdFlen (i : Nat) : Nat := 0x11000060 + 0x4 * i
/-- `LPT_LD_CTRL`. -/
def Addr.lptLdCtrl (i : Nat) : Nat := 0x11000080 + 0x4 * i
/-- `LPT_LD_POS`. -/
def Addr.lptLdPos (i : Nat) : Nat := 0x110000C0 + 0x4 * i
/-- `LPT_LD_FRAME`. -/
def Addr.lptLdFrame (i : Nat) : Nat := 0x110000E0 + 0x4 * i
/-- `LPT_LD_ANCHOR`. -/
def Addr.lptLdAnchor (i : Nat) : Nat := 0x11000100 + 0x8 * i
/-- `LPT_FSYNC`. -/
def Addr.lptFsync (i : Nat) : Nat := 0x11000140 + 0x4 * i
/-- `LPT_MAINT_STATUS`. -/
def Addr.lptMaintStatus : Nat := 0x11000180
/-- `LPT_MAINT_PENDING`. -/
def Addr.lptMaintPending : Nat := 0x11000184
/-- `LPT_SCHED_CTRL`. -/
def Addr.lptSchedCtrl : Nat := 0x11000200
/-- `LPT_SCHED_SKIP`. -/
def Addr.lptSchedSkip : Nat := 0x11000204
/-- `LPT_SCHED_UNREACH`. -/
def Addr.lptSchedUnreach : Nat := 0x11000208
/-- `LPT_SCHED_LATE`. -/
def Addr.lptSchedLate : Nat := 0x1100020C
/-- `LPT_EVT_STATUS`. -/
def Addr.lptEvtStatus : Nat := 0x11000210
/-- `LPT_EVT_MASK`. -/
def Addr.lptEvtMask : Nat := 0x11000214
/-- `LPT_LD_TAG`. -/
def Addr.lptLdTag (i : Nat) : Nat := 0x11000400 + 0x20 * i
/-- `LPT_SCHED_ENT`. -/
def Addr.lptSchedEnt (i : Nat) : Nat := 0x11001000 + 0x10 * i
/-- `TC_CTRL`. -/
def Addr.tcCtrl (i : Nat) : Nat := 0x12000000 + 0x100000 * i
/-- `TC_STATUS`. -/
def Addr.tcStatus (i : Nat) : Nat := 0x12000004 + 0x100000 * i
/-- `TC_ARB`. -/
def Addr.tcArb (i : Nat) : Nat := 0x12000008 + 0x100000 * i
/-- `TC_WIN`. -/
def Addr.tcWin (i : Nat) : Nat := 0x1200000C + 0x100000 * i
/-- `TC_SB_STATUS`. -/
def Addr.tcSbStatus (i : Nat) : Nat := 0x12000010 + 0x100000 * i
/-- `TC_REPLAY_CNT`. -/
def Addr.tcReplayCnt (i : Nat) : Nat := 0x12000014 + 0x100000 * i
/-- `TC_PARITY_LAST`. -/
def Addr.tcParityLast (i : Nat) : Nat := 0x12000018 + 0x100000 * i
/-- `TC_CX_CTRL`. -/
def Addr.tcCxCtrl (i : Nat) (j : Nat) : Nat := 0x12000100 + 0x100000 * i + 0x40 * j
/-- `TC_CX_STATE`. -/
def Addr.tcCxState (i : Nat) (j : Nat) : Nat := 0x12000104 + 0x100000 * i + 0x40 * j
/-- `TC_CX_ENTRY`. -/
def Addr.tcCxEntry (i : Nat) (j : Nat) : Nat := 0x12000108 + 0x100000 * i + 0x40 * j
/-- `TC_CX_PC`. -/
def Addr.tcCxPc (i : Nat) (j : Nat) : Nat := 0x12000110 + 0x100000 * i + 0x40 * j
/-- `TC_CX_ERR`. -/
def Addr.tcCxErr (i : Nat) (j : Nat) : Nat := 0x12000114 + 0x100000 * i + 0x40 * j
/-- `TC_CX_MISS`. -/
def Addr.tcCxMiss (i : Nat) (j : Nat) : Nat := 0x12000118 + 0x100000 * i + 0x40 * j
/-- `TC_CX_PEXCL`. -/
def Addr.tcCxPexcl (i : Nat) (j : Nat) : Nat := 0x1200011C + 0x100000 * i + 0x40 * j
/-- `TC_CX_S`. -/
def Addr.tcCxS (i : Nat) (j : Nat) (k : Nat) : Nat := 0x12000400 + 0x100000 * i + 0x80 * j + 0x4 * k
/-- `TC_TAG`. -/
def Addr.tcTag (i : Nat) : Nat := 0x12000600 + 0x100000 * i
/-- `TC_CX_TAG`. -/
def Addr.tcCxTag (i : Nat) (j : Nat) : Nat := 0x12000620 + 0x100000 * i + 0x20 * j
/-- `SPM_CTRL`. -/
def Addr.spmCtrl (i : Nat) : Nat := 0x12001000 + 0x100000 * i
/-- `SPM_STATUS`. -/
def Addr.spmStatus (i : Nat) : Nat := 0x12001004 + 0x100000 * i
/-- `SPM_PARITY_CNT`. -/
def Addr.spmParityCnt (i : Nat) : Nat := 0x12001008 + 0x100000 * i
/-- `SPM_CONFLICT`. -/
def Addr.spmConflict (i : Nat) : Nat := 0x1200100C + 0x100000 * i
/-- `SPM_DISSOLVED`. -/
def Addr.spmDissolved (i : Nat) : Nat := 0x12001010 + 0x100000 * i
/-- `SPM_DBG_LAST`. -/
def Addr.spmDbgLast (i : Nat) : Nat := 0x12001014 + 0x100000 * i
/-- `SPM_RES_CTRL`. -/
def Addr.spmResCtrl (i : Nat) (j : Nat) : Nat := 0x12001100 + 0x100000 * i + 0x10 * j
/-- `SPM_RES_SIZE`. -/
def Addr.spmResSize (i : Nat) (j : Nat) : Nat := 0x12001104 + 0x100000 * i + 0x10 * j
/-- `SPM_RES_ORG_LO`. -/
def Addr.spmResOrgLo (i : Nat) (j : Nat) : Nat := 0x12001108 + 0x100000 * i + 0x10 * j
/-- `SPM_RES_ORG_HI`. -/
def Addr.spmResOrgHi (i : Nat) (j : Nat) : Nat := 0x1200110C + 0x100000 * i + 0x10 * j
/-- `TC_ACTTAB`. -/
def Addr.tcActtab (i : Nat) (j : Nat) : Nat := 0x12002000 + 0x100000 * i + 0x200 * j
/-- `PASS_CTRL`. -/
def Addr.passCtrl : Nat := 0x13000000
/-- `PASS_STATUS`. -/
def Addr.passStatus : Nat := 0x13000004
/-- `PASS_PQ_LOCK_LO`. -/
def Addr.passPqLockLo : Nat := 0x13000008
/-- `PASS_PQ_LOCK_HI`. -/
def Addr.passPqLockHi : Nat := 0x1300000C
/-- `PASS_AUDIT_CTRL`. -/
def Addr.passAuditCtrl : Nat := 0x13000010
/-- `PASS_AUDIT_STATUS`. -/
def Addr.passAuditStatus : Nat := 0x13000014
/-- `PASS_BAR_MASK`. -/
def Addr.passBarMask (i : Nat) : Nat := 0x13000040 + 0x4 * i
/-- `PASS_BAR_ARRIVED`. -/
def Addr.passBarArrived (i : Nat) : Nat := 0x13000080 + 0x4 * i
/-- `PASS_SW_SEL`. -/
def Addr.passSwSel (i : Nat) : Nat := 0x13000100 + 0x20 * i
/-- `PASS_SW_HANDLE`. -/
def Addr.passSwHandle (i : Nat) : Nat := 0x13000104 + 0x20 * i
/-- `PASS_SW_META_LO`. -/
def Addr.passSwMetaLo (i : Nat) : Nat := 0x13000108 + 0x20 * i
/-- `PASS_SW_META_HI`. -/
def Addr.passSwMetaHi (i : Nat) : Nat := 0x1300010C + 0x20 * i
/-- `PASS_SW_VREG`. -/
def Addr.passSwVreg (i : Nat) : Nat := 0x13000110 + 0x20 * i
/-- `PASS_SW_CMD`. -/
def Addr.passSwCmd (i : Nat) : Nat := 0x13000114 + 0x20 * i
/-- `PASS_SW_STATUS`. -/
def Addr.passSwStatus (i : Nat) : Nat := 0x13000118 + 0x20 * i
/-- `PASS_SW_ADDR`. -/
def Addr.passSwAddr (i : Nat) : Nat := 0x1300011C + 0x20 * i
/-- `PASS_PQ_CFG`. -/
def Addr.passPqCfg (i : Nat) : Nat := 0x13001000 + 0x10 * i
/-- `PASS_PQ_STATUS`. -/
def Addr.passPqStatus (i : Nat) : Nat := 0x13001004 + 0x10 * i
/-- `PASS_PQ_FLUSH`. -/
def Addr.passPqFlush (i : Nat) : Nat := 0x13001008 + 0x10 * i
/-- `PASS_PQ_WMARK`. -/
def Addr.passPqWmark (i : Nat) : Nat := 0x1300100C + 0x10 * i
/-- `PASS_PL_BASE_LO`. -/
def Addr.passPlBaseLo (i : Nat) : Nat := 0x13002000 + 0x20 * i
/-- `PASS_PL_BASE_HI`. -/
def Addr.passPlBaseHi (i : Nat) : Nat := 0x13002004 + 0x20 * i
/-- `PASS_PL_SIZE`. -/
def Addr.passPlSize (i : Nat) : Nat := 0x13002008 + 0x20 * i
/-- `PASS_PL_CFG`. -/
def Addr.passPlCfg (i : Nat) : Nat := 0x1300200C + 0x20 * i
/-- `PASS_PL_STAT`. -/
def Addr.passPlStat (i : Nat) : Nat := 0x13002010 + 0x20 * i
/-- `PASS_PL_REVOKE_LO`. -/
def Addr.passPlRevokeLo (i : Nat) : Nat := 0x13002014 + 0x20 * i
/-- `PASS_PL_REVOKE_HI`. -/
def Addr.passPlRevokeHi (i : Nat) : Nat := 0x13002018 + 0x20 * i
/-- `PASS_PL_TAG`. -/
def Addr.passPlTag (i : Nat) : Nat := 0x13003000 + 0x20 * i
/-- `WCH_CTRL`. -/
def Addr.wchCtrl : Nat := 0x13100000
/-- `WCH_STATUS`. -/
def Addr.wchStatus : Nat := 0x13100004
/-- `WCH_MATCH_TO`. -/
def Addr.wchMatchTo : Nat := 0x13100008
/-- `WCH_BYPASS_FORCE`. -/
def Addr.wchBypassForce : Nat := 0x1310000C
/-- `WCH_AUDIT_CTRL`. -/
def Addr.wchAuditCtrl : Nat := 0x13100010
/-- `WCH_AUDIT_STATUS`. -/
def Addr.wchAuditStatus : Nat := 0x13100014
/-- `WCH_PARITY_CNT`. -/
def Addr.wchParityCnt : Nat := 0x13100018
/-- `WCH_BYTES_A`. -/
def Addr.wchBytesA : Nat := 0x13100020
/-- `WCH_BYTES_B`. -/
def Addr.wchBytesB : Nat := 0x13100024
/-- `FMT_CTRL`. -/
def Addr.fmtCtrl : Nat := 0x14000000
/-- `FMT_STATUS`. -/
def Addr.fmtStatus : Nat := 0x14000004
/-- `FMT_LS_USED`. -/
def Addr.fmtLsUsed : Nat := 0x14000008
/-- `FMT_SRC_CFG`. -/
def Addr.fmtSrcCfg (i : Nat) : Nat := 0x14000100 + 0x20 * i
/-- `FMT_SRC_SIZE`. -/
def Addr.fmtSrcSize (i : Nat) : Nat := 0x14000104 + 0x20 * i
/-- `FMT_SRC_STRIDE`. -/
def Addr.fmtSrcStride (i : Nat) : Nat := 0x14000108 + 0x20 * i
/-- `FMT_SRC_STATUS`. -/
def Addr.fmtSrcStatus (i : Nat) : Nat := 0x1400010C + 0x20 * i
/-- `FMT_OS_CTRL`. -/
def Addr.fmtOsCtrl (i : Nat) : Nat := 0x14001000 + 0x80 * i
/-- `FMT_OS_FMT`. -/
def Addr.fmtOsFmt (i : Nat) : Nat := 0x14001004 + 0x80 * i
/-- `FMT_OS_CROP_XY`. -/
def Addr.fmtOsCropXy (i : Nat) : Nat := 0x14001008 + 0x80 * i
/-- `FMT_OS_CROP_WH`. -/
def Addr.fmtOsCropWh (i : Nat) : Nat := 0x1400100C + 0x80 * i
/-- `FMT_OS_OUT_WH`. -/
def Addr.fmtOsOutWh (i : Nat) : Nat := 0x14001010 + 0x80 * i
/-- `FMT_OS_PAD_WH`. -/
def Addr.fmtOsPadWh (i : Nat) : Nat := 0x14001014 + 0x80 * i
/-- `FMT_OS_STRIDE`. -/
def Addr.fmtOsStride (i : Nat) : Nat := 0x14001018 + 0x80 * i
/-- `FMT_OS_DEST`. -/
def Addr.fmtOsDest (i : Nat) : Nat := 0x1400101C + 0x80 * i
/-- `FMT_OS_NORM`. -/
def Addr.fmtOsNorm (i : Nat) (j : Nat) : Nat := 0x14001020 + 0x80 * i + 0x4 * j
/-- `FMT_OS_FSCALE`. -/
def Addr.fmtOsFscale (i : Nat) (j : Nat) : Nat := 0x14001030 + 0x80 * i + 0x4 * j
/-- `FMT_OS_FOFF`. -/
def Addr.fmtOsFoff (i : Nat) (j : Nat) : Nat := 0x14001040 + 0x80 * i + 0x4 * j
/-- `FMT_OS_PADVAL`. -/
def Addr.fmtOsPadval (i : Nat) (j : Nat) : Nat := 0x14001050 + 0x80 * i + 0x4 * j
/-- `FMT_OS_FRAMES`. -/
def Addr.fmtOsFrames (i : Nat) : Nat := 0x14001060 + 0x80 * i
/-- `FMT_OS_SKIPS`. -/
def Addr.fmtOsSkips (i : Nat) : Nat := 0x14001064 + 0x80 * i
/-- `FMT_OS_PROWS`. -/
def Addr.fmtOsProws (i : Nat) : Nat := 0x14001068 + 0x80 * i
/-- `FMT_OS_TAG`. -/
def Addr.fmtOsTag (i : Nat) : Nat := 0x14004000 + 0x20 * i
/-- `FMT_COEF`. -/
def Addr.fmtCoef (i : Nat) : Nat := 0x14008000 + 0x800 * i
/-- `DPP_CTRL`. -/
def Addr.dppCtrl : Nat := 0x15000000
/-- `DPP_STATUS`. -/
def Addr.dppStatus : Nat := 0x15000004
/-- `DPP_JOBS`. -/
def Addr.dppJobs : Nat := 0x15000008
/-- `DPP_CYCLES`. -/
def Addr.dppCycles : Nat := 0x1500000C
/-- `DPP_SUBMIT_LO`. -/
def Addr.dppSubmitLo : Nat := 0x15000010
/-- `DPP_SUBMIT_HI`. -/
def Addr.dppSubmitHi : Nat := 0x15000014
/-- `DPP_SUBMIT_TICKET`. -/
def Addr.dppSubmitTicket : Nat := 0x15000018
/-- `DPP_SLOT_STATUS`. -/
def Addr.dppSlotStatus (i : Nat) : Nat := 0x15000040 + 0x4 * i
/-- `DPP_SLOT_ABORT`. -/
def Addr.dppSlotAbort (i : Nat) : Nat := 0x15000060 + 0x4 * i
/-- `DPP_BIND_CFG`. -/
def Addr.dppBindCfg (i : Nat) : Nat := 0x15000100 + 0x20 * i
/-- `DPP_BIND_MAP`. -/
def Addr.dppBindMap (i : Nat) : Nat := 0x15000104 + 0x20 * i
/-- `DPP_BIND_TMPL_LO`. -/
def Addr.dppBindTmplLo (i : Nat) : Nat := 0x15000108 + 0x20 * i
/-- `DPP_BIND_TMPL_HI`. -/
def Addr.dppBindTmplHi (i : Nat) : Nat := 0x1500010C + 0x20 * i
/-- `DPP_TAG`. -/
def Addr.dppTag : Nat := 0x15000200
/-- `VENC_CTRL`. -/
def Addr.vencCtrl (i : Nat) : Nat := 0x16000000 + 0x100000 * i
/-- `VENC_STATUS`. -/
def Addr.vencStatus (i : Nat) : Nat := 0x16000004 + 0x100000 * i
/-- `VENC_CMD_BASE_LO`. -/
def Addr.vencCmdBaseLo (i : Nat) : Nat := 0x16000008 + 0x100000 * i
/-- `VENC_CMD_BASE_HI`. -/
def Addr.vencCmdBaseHi (i : Nat) : Nat := 0x1600000C + 0x100000 * i
/-- `VENC_CMD_SIZE`. -/
def Addr.vencCmdSize (i : Nat) : Nat := 0x16000010 + 0x100000 * i
/-- `VENC_CMD_TAIL`. -/
def Addr.vencCmdTail (i : Nat) : Nat := 0x16000014 + 0x100000 * i
/-- `VENC_CMD_HEAD`. -/
def Addr.vencCmdHead (i : Nat) : Nat := 0x16000018 + 0x100000 * i
/-- `VENC_SLICE_CREDIT`. -/
def Addr.vencSliceCredit (i : Nat) : Nat := 0x1600001C + 0x100000 * i
/-- `VENC_REF_BASE_LO`. -/
def Addr.vencRefBaseLo (i : Nat) : Nat := 0x16000020 + 0x100000 * i
/-- `VENC_REF_BASE_HI`. -/
def Addr.vencRefBaseHi (i : Nat) : Nat := 0x16000024 + 0x100000 * i
/-- `VENC_REF_SIZE`. -/
def Addr.vencRefSize (i : Nat) : Nat := 0x16000028 + 0x100000 * i
/-- `VENC_REF_CFG`. -/
def Addr.vencRefCfg (i : Nat) : Nat := 0x1600002C + 0x100000 * i
/-- `VENC_REF_MARK`. -/
def Addr.vencRefMark (i : Nat) (j : Nat) : Nat := 0x16000030 + 0x100000 * i + 0x4 * j
/-- `VENC_REF_OWNER`. -/
def Addr.vencRefOwner (i : Nat) (j : Nat) : Nat := 0x16000040 + 0x100000 * i + 0x4 * j
/-- `VENC_EVID_SESS`. -/
def Addr.vencEvidSess (i : Nat) : Nat := 0x16000060 + 0x100000 * i
/-- `VENC_EVID_CFG`. -/
def Addr.vencEvidCfg (i : Nat) : Nat := 0x16000064 + 0x100000 * i
/-- `VENC_BUSY`. -/
def Addr.vencBusy (i : Nat) : Nat := 0x16000068 + 0x100000 * i
/-- `VENC_TAG`. -/
def Addr.vencTag (i : Nat) : Nat := 0x16000080 + 0x100000 * i
/-- `VENC_S_CTRL`. -/
def Addr.vencSCtrl (i : Nat) (j : Nat) : Nat := 0x16001000 + 0x100000 * i + 0x80 * j
/-- `VENC_S_SIZE`. -/
def Addr.vencSSize (i : Nat) (j : Nat) : Nat := 0x16001004 + 0x100000 * i + 0x80 * j
/-- `VENC_S_GOP`. -/
def Addr.vencSGop (i : Nat) (j : Nat) : Nat := 0x16001008 + 0x100000 * i + 0x80 * j
/-- `VENC_S_RC`. -/
def Addr.vencSRc (i : Nat) (j : Nat) : Nat := 0x1600100C + 0x100000 * i + 0x80 * j
/-- `VENC_S_BITRATE`. -/
def Addr.vencSBitrate (i : Nat) (j : Nat) : Nat := 0x16001010 + 0x100000 * i + 0x80 * j
/-- `VENC_S_MAXRATE`. -/
def Addr.vencSMaxrate (i : Nat) (j : Nat) : Nat := 0x16001014 + 0x100000 * i + 0x80 * j
/-- `VENC_S_VBV`. -/
def Addr.vencSVbv (i : Nat) (j : Nat) : Nat := 0x16001018 + 0x100000 * i + 0x80 * j
/-- `VENC_S_QP`. -/
def Addr.vencSQp (i : Nat) (j : Nat) : Nat := 0x1600101C + 0x100000 * i + 0x80 * j
/-- `VENC_S_FPS`. -/
def Addr.vencSFps (i : Nat) (j : Nat) : Nat := 0x16001020 + 0x100000 * i + 0x80 * j
/-- `VENC_S_IO`. -/
def Addr.vencSIo (i : Nat) (j : Nat) : Nat := 0x16001024 + 0x100000 * i + 0x80 * j
/-- `VENC_S_MAP`. -/
def Addr.vencSMap (i : Nat) (j : Nat) : Nat := 0x16001028 + 0x100000 * i + 0x80 * j
/-- `VENC_S_DEADLINE`. -/
def Addr.vencSDeadline (i : Nat) (j : Nat) : Nat := 0x1600102C + 0x100000 * i + 0x80 * j
/-- `VENC_S_PICS`. -/
def Addr.vencSPics (i : Nat) (j : Nat) : Nat := 0x16001030 + 0x100000 * i + 0x80 * j
/-- `VENC_S_LASTBITS`. -/
def Addr.vencSLastbits (i : Nat) (j : Nat) : Nat := 0x16001034 + 0x100000 * i + 0x80 * j
/-- `VENC_S_SKIPS`. -/
def Addr.vencSSkips (i : Nat) (j : Nat) : Nat := 0x16001038 + 0x100000 * i + 0x80 * j
/-- `VENC_S_TAG`. -/
def Addr.vencSTag (i : Nat) (j : Nat) : Nat := 0x16001040 + 0x100000 * i + 0x80 * j
/-- `VDEC_CTRL`. -/
def Addr.vdecCtrl : Nat := 0x16200000
/-- `VDEC_STATUS`. -/
def Addr.vdecStatus : Nat := 0x16200004
/-- `VDEC_DPB_BASE_LO`. -/
def Addr.vdecDpbBaseLo : Nat := 0x16200008
/-- `VDEC_DPB_BASE_HI`. -/
def Addr.vdecDpbBaseHi : Nat := 0x1620000C
/-- `VDEC_DPB_SIZE`. -/
def Addr.vdecDpbSize : Nat := 0x16200010
/-- `VDEC_DPB_CFG`. -/
def Addr.vdecDpbCfg : Nat := 0x16200014
/-- `VDEC_BUSY`. -/
def Addr.vdecBusy : Nat := 0x16200018
/-- `VDEC_TAG`. -/
def Addr.vdecTag : Nat := 0x16200080
/-- `VDEC_S_CTRL`. -/
def Addr.vdecSCtrl (i : Nat) : Nat := 0x16201000 + 0x80 * i
/-- `VDEC_S_MAXSIZE`. -/
def Addr.vdecSMaxsize (i : Nat) : Nat := 0x16201004 + 0x80 * i
/-- `VDEC_S_IO`. -/
def Addr.vdecSIo (i : Nat) : Nat := 0x16201008 + 0x80 * i
/-- `VDEC_S_DPB`. -/
def Addr.vdecSDpb (i : Nat) : Nat := 0x1620100C + 0x80 * i
/-- `VDEC_S_STRIDE`. -/
def Addr.vdecSStride (i : Nat) : Nat := 0x16201010 + 0x80 * i
/-- `VDEC_S_BUDGET`. -/
def Addr.vdecSBudget (i : Nat) : Nat := 0x16201014 + 0x80 * i
/-- `VDEC_S_PICBUD`. -/
def Addr.vdecSPicbud (i : Nat) : Nat := 0x16201018 + 0x80 * i
/-- `VDEC_S_STATUS`. -/
def Addr.vdecSStatus (i : Nat) : Nat := 0x1620101C + 0x80 * i
/-- `VDEC_S_PICS`. -/
def Addr.vdecSPics (i : Nat) : Nat := 0x16201020 + 0x80 * i
/-- `VDEC_S_CONCEAL`. -/
def Addr.vdecSConceal (i : Nat) : Nat := 0x16201024 + 0x80 * i
/-- `VDEC_S_ABANDON`. -/
def Addr.vdecSAbandon (i : Nat) : Nat := 0x16201028 + 0x80 * i
/-- `VDEC_S_TAG`. -/
def Addr.vdecSTag (i : Nat) : Nat := 0x16201040 + 0x80 * i
/-- `MEM_CTRL`. -/
def Addr.memCtrl : Nat := 0x17000000
/-- `MEM_CFG`. -/
def Addr.memCfg : Nat := 0x17000004
/-- `MEM_STATUS`. -/
def Addr.memStatus : Nat := 0x17000008
/-- `MEM_TOP_LO`. -/
def Addr.memTopLo : Nat := 0x1700000C
/-- `MEM_TOP_HI`. -/
def Addr.memTopHi : Nat := 0x17000010
/-- `MEM_STARVE`. -/
def Addr.memStarve : Nat := 0x17000014
/-- `MEM_RETRAIN`. -/
def Addr.memRetrain : Nat := 0x17000018
/-- `MEM_AUDIT_CTRL`. -/
def Addr.memAuditCtrl : Nat := 0x1700001C
/-- `MEM_AUDIT_STATUS`. -/
def Addr.memAuditStatus : Nat := 0x17000020
/-- `MEM_CE_CNT`. -/
def Addr.memCeCnt : Nat := 0x17000024
/-- `MEM_UE_CNT`. -/
def Addr.memUeCnt : Nat := 0x17000028
/-- `MEM_PW_CNT`. -/
def Addr.memPwCnt : Nat := 0x1700002C
/-- `MEM_MS_CREDITS`. -/
def Addr.memMsCredits (i : Nat) : Nat := 0x17000100 + 0x40 * i
/-- `MEM_MS_LINE`. -/
def Addr.memMsLine (i : Nat) : Nat := 0x17000104 + 0x40 * i
/-- `MEM_MS_REF_OWED`. -/
def Addr.memMsRefOwed (i : Nat) : Nat := 0x17000108 + 0x40 * i
/-- `MEM_MS_UE_LO`. -/
def Addr.memMsUeLo (i : Nat) : Nat := 0x1700010C + 0x40 * i
/-- `MEM_MS_UE_HI`. -/
def Addr.memMsUeHi (i : Nat) : Nat := 0x17000110 + 0x40 * i
/-- `MEM_MS_PW_LO`. -/
def Addr.memMsPwLo (i : Nat) : Nat := 0x17000114 + 0x40 * i
/-- `MEM_MS_PW_HI`. -/
def Addr.memMsPwHi (i : Nat) : Nat := 0x17000118 + 0x40 * i
/-- `MEM_CH_STATUS`. -/
def Addr.memChStatus (i : Nat) : Nat := 0x17000400 + 0x10 * i
/-- `MEM_CH_RETRAINS`. -/
def Addr.memChRetrains (i : Nat) : Nat := 0x17000404 + 0x10 * i
/-- `MEM_CH_FORCED`. -/
def Addr.memChForced (i : Nat) : Nat := 0x17000408 + 0x10 * i
/-- `COH_SNOOP_TO`. -/
def Addr.cohSnoopTo : Nat := 0x18000000
/-- `COH_STATUS`. -/
def Addr.cohStatus : Nat := 0x18000004
/-- `COH_LAST_TO_LO`. -/
def Addr.cohLastToLo : Nat := 0x18000008
/-- `COH_LAST_TO_HI`. -/
def Addr.cohLastToHi : Nat := 0x1800000C
/-- `COH_SCRUB_LO`. -/
def Addr.cohScrubLo : Nat := 0x18000010
/-- `COH_SCRUB_HI`. -/
def Addr.cohScrubHi : Nat := 0x18000014
/-- `COH_SCRUB_STATUS`. -/
def Addr.cohScrubStatus : Nat := 0x18000018
/-- `COH_TO_CNT`. -/
def Addr.cohToCnt : Nat := 0x1800001C
/-- `COH_CPU_CTRL`. -/
def Addr.cohCpuCtrl (i : Nat) : Nat := 0x18000100 + 0x10 * i
/-- `COH_CPU_STATUS`. -/
def Addr.cohCpuStatus (i : Nat) : Nat := 0x18000104 + 0x10 * i
/-- `COH_CPU_POISON`. -/
def Addr.cohCpuPoison (i : Nat) : Nat := 0x18000108 + 0x10 * i
/-- `COH_HN_STATUS`. -/
def Addr.cohHnStatus (i : Nat) : Nat := 0x18000200 + 0x4 * i
/-- `COH_HN_WAITS`. -/
def Addr.cohHnWaits (i : Nat) : Nat := 0x18000240 + 0x4 * i
/-- `PCIE_CTRL`. -/
def Addr.pcieCtrl : Nat := 0x19000000
/-- `PCIE_STATUS`. -/
def Addr.pcieStatus : Nat := 0x19000004
/-- `PCIE_CTO`. -/
def Addr.pcieCto : Nat := 0x19000008
/-- `PCIE_ERR_CNT`. -/
def Addr.pcieErrCnt : Nat := 0x1900000C
/-- `PCIE_OB_OFFSET`. -/
def Addr.pcieObOffset (i : Nat) : Nat := 0x19000010 + 0x8 * i
/-- `PCIE_BAR2_CFG`. -/
def Addr.pcieBar2Cfg : Nat := 0x19000020
/-- `PCIE_BAR2_TGT_LO`. -/
def Addr.pcieBar2TgtLo : Nat := 0x19000024
/-- `PCIE_BAR2_TGT_HI`. -/
def Addr.pcieBar2TgtHi : Nat := 0x19000028
/-- `PCIE_MSI_TGT`. -/
def Addr.pcieMsiTgt : Nat := 0x19000030
/-- `PCIE_MSI_STATUS`. -/
def Addr.pcieMsiStatus : Nat := 0x19000038
/-- `PCIE_EP_IRQ`. -/
def Addr.pcieEpIrq : Nat := 0x19000040
/-- `ETH_CTRL`. -/
def Addr.ethCtrl (i : Nat) : Nat := 0x19100000 + 0x100000 * i
/-- `ETH_STATUS`. -/
def Addr.ethStatus (i : Nat) : Nat := 0x19100004 + 0x100000 * i
/-- `ETH_TS_LAT`. -/
def Addr.ethTsLat (i : Nat) : Nat := 0x19100008 + 0x100000 * i
/-- `ETH_ADDR`. -/
def Addr.ethAddr (i : Nat) (j : Nat) : Nat := 0x19100010 + 0x100000 * i + 0x8 * j
/-- `ETH_MCHASH`. -/
def Addr.ethMchash (i : Nat) : Nat := 0x19100050 + 0x100000 * i
/-- `ETH_MDIO`. -/
def Addr.ethMdio (i : Nat) : Nat := 0x19100058 + 0x100000 * i
/-- `ETH_Q_BASE`. -/
def Addr.ethQBase (i : Nat) (j : Nat) : Nat := 0x19100100 + 0x100000 * i + 0x20 * j
/-- `ETH_Q_SIZE`. -/
def Addr.ethQSize (i : Nat) (j : Nat) : Nat := 0x19100108 + 0x100000 * i + 0x20 * j
/-- `ETH_Q_TAIL`. -/
def Addr.ethQTail (i : Nat) (j : Nat) : Nat := 0x1910010C + 0x100000 * i + 0x20 * j
/-- `ETH_Q_HEAD`. -/
def Addr.ethQHead (i : Nat) (j : Nat) : Nat := 0x19100110 + 0x100000 * i + 0x20 * j
/-- `ETH_RX_DROP`. -/
def Addr.ethRxDrop (i : Nat) : Nat := 0x19100180 + 0x100000 * i
/-- `ETH_TAG`. -/
def Addr.ethTag (i : Nat) : Nat := 0x19100200 + 0x100000 * i
/-- `I3C_CTRL`. -/
def Addr.i3cCtrl (i : Nat) : Nat := 0x19300000 + 0x1000 * i
/-- `I3C_STATUS`. -/
def Addr.i3cStatus (i : Nat) : Nat := 0x19300004 + 0x1000 * i
/-- `I3C_CMD_LO`. -/
def Addr.i3cCmdLo (i : Nat) : Nat := 0x19300008 + 0x1000 * i
/-- `I3C_CMD_HI`. -/
def Addr.i3cCmdHi (i : Nat) : Nat := 0x1930000C + 0x1000 * i
/-- `I3C_DATA`. -/
def Addr.i3cData (i : Nat) : Nat := 0x19300010 + 0x1000 * i
/-- `I3C_RESP`. -/
def Addr.i3cResp (i : Nat) : Nat := 0x19300014 + 0x1000 * i
/-- `I3C_IBI`. -/
def Addr.i3cIbi (i : Nat) : Nat := 0x19300018 + 0x1000 * i
/-- `I3C_CNT`. -/
def Addr.i3cCnt (i : Nat) : Nat := 0x1930001C + 0x1000 * i
/-- `XSPI_CTRL`. -/
def Addr.xspiCtrl : Nat := 0x19400000
/-- `XSPI_CMD`. -/
def Addr.xspiCmd : Nat := 0x19400004
/-- `XSPI_DATA`. -/
def Addr.xspiData : Nat := 0x19400008
/-- `UART_CTRL`. -/
def Addr.uartCtrl (i : Nat) : Nat := 0x19500000 + 0x100 * i
/-- `UART_BAUD`. -/
def Addr.uartBaud (i : Nat) : Nat := 0x19500004 + 0x100 * i
/-- `UART_DATA`. -/
def Addr.uartData (i : Nat) : Nat := 0x19500008 + 0x100 * i
/-- `UART_STATUS`. -/
def Addr.uartStatus (i : Nat) : Nat := 0x1950000C + 0x100 * i
/-- `GPIO_DIR`. -/
def Addr.gpioDir : Nat := 0x19600000
/-- `GPIO_OUT`. -/
def Addr.gpioOut : Nat := 0x19600008
/-- `GPIO_IN`. -/
def Addr.gpioIn : Nat := 0x19600010
/-- `GPIO_PULL`. -/
def Addr.gpioPull : Nat := 0x19600018
/-- `GPIO_IRQ_RISE`. -/
def Addr.gpioIrqRise : Nat := 0x19600020
/-- `GPIO_IRQ_FALL`. -/
def Addr.gpioIrqFall : Nat := 0x19600028
/-- `GPIO_IRQ_STATUS`. -/
def Addr.gpioIrqStatus : Nat := 0x19600030
/-- `GPIO_CAP_CFG`. -/
def Addr.gpioCapCfg (i : Nat) : Nat := 0x19600100 + 0x20 * i
/-- `GPIO_CAP_SEC`. -/
def Addr.gpioCapSec (i : Nat) : Nat := 0x19600104 + 0x20 * i
/-- `GPIO_CAP_TICK`. -/
def Addr.gpioCapTick (i : Nat) : Nat := 0x1960010C + 0x20 * i
/-- `GPIO_CAP_POS`. -/
def Addr.gpioCapPos (i : Nat) : Nat := 0x19600110 + 0x20 * i
/-- `GPIO_CAP_FRAME`. -/
def Addr.gpioCapFrame (i : Nat) : Nat := 0x19600114 + 0x20 * i
/-- `ILL_CTRL`. -/
def Addr.illCtrl : Nat := 0x1A000000
/-- `ILL_STATUS`. -/
def Addr.illStatus : Nat := 0x1A000004
/-- `ILL_CFG`. -/
def Addr.illCfg (i : Nat) : Nat := 0x1A000100 + 0x20 * i
/-- `ILL_MAXON`. -/
def Addr.illMaxon (i : Nat) : Nat := 0x1A000104 + 0x20 * i
/-- `ILL_CH_STATUS`. -/
def Addr.illChStatus (i : Nat) : Nat := 0x1A000108 + 0x20 * i
/-- `ILL_STROBES`. -/
def Addr.illStrobes (i : Nat) : Nat := 0x1A00010C + 0x20 * i
/-- `ILL_TRIPS`. -/
def Addr.illTrips (i : Nat) : Nat := 0x1A000110 + 0x20 * i
/-- `ILL_TAG`. -/
def Addr.illTag (i : Nat) : Nat := 0x1A000400 + 0x20 * i
/-- `DSV_DOORBELL`. -/
def Addr.dsvDoorbell (i : Nat) : Nat := 0x1B000000 + 0x8000 * i
/-- `DSV_MBSTATUS`. -/
def Addr.dsvMbstatus (i : Nat) : Nat := 0x1B000004 + 0x8000 * i
/-- `DSV_CMDBUF`. -/
def Addr.dsvCmdbuf (i : Nat) : Nat := 0x1B001000 + 0x8000 * i
/-- `DSV_RESPBUF`. -/
def Addr.dsvRespbuf (i : Nat) : Nat := 0x1B002000 + 0x8000 * i
/-- `DSV_BOOT_STATUS`. -/
def Addr.dsvBootStatus : Nat := 0x1B010000
/-- `DSV_PROT_SEQ`. -/
def Addr.dsvProtSeq : Nat := 0x1B010004
/-- `DSV_DC_WINDOW`. -/
def Addr.dsvDcWindow : Nat := 0x1B010008
/-- `DSV_DEBUG`. -/
def Addr.dsvDebug : Nat := 0x1B01000C
/-- `DSV_EVID_FWD`. -/
def Addr.dsvEvidFwd : Nat := 0x1B010010
/-- `DSV_SEG_CFG`. -/
def Addr.dsvSegCfg : Nat := 0x1B010014
/-- `DSV_CHAIN_BASE`. -/
def Addr.dsvChainBase : Nat := 0x1B010020
/-- `DSV_CHAIN_SIZE`. -/
def Addr.dsvChainSize : Nat := 0x1B010028
/-- `DSV_CHAIN_HEAD`. -/
def Addr.dsvChainHead : Nat := 0x1B01002C
/-- `DSV_CHAIN_TAIL`. -/
def Addr.dsvChainTail : Nat := 0x1B010030
/-- `DSV_CHAIN_SEQ`. -/
def Addr.dsvChainSeq : Nat := 0x1B010034
/-- `DSV_DC_FAILS`. -/
def Addr.dsvDcFails : Nat := 0x1B010040
/-- `DSV_TAG`. -/
def Addr.dsvTag : Nat := 0x1B010800
/-- `DSV_FW_BASE`. -/
def Addr.dsvFwBase (i : Nat) : Nat := 0x1B011000 + 0x10 * i
/-- `DSV_FW_LIMIT`. -/
def Addr.dsvFwLimit (i : Nat) : Nat := 0x1B011004 + 0x10 * i
/-- `DSV_FW_PERM`. -/
def Addr.dsvFwPerm (i : Nat) : Nat := 0x1B011008 + 0x10 * i
/-- `DSV_FW_CTRL`. -/
def Addr.dsvFwCtrl (i : Nat) : Nat := 0x1B01100C + 0x10 * i
/-- `DSV_KS_INFO`. -/
def Addr.dsvKsInfo (i : Nat) : Nat := 0x1B012000 + 0x4 * i
/-- `DSV_ERR_CTRL`. -/
def Addr.dsvErrCtrl : Nat := 0x1B013000
/-- `DSV_ERR_HOST_MASK`. -/
def Addr.dsvErrHostMask : Nat := 0x1B013004
/-- `DSV_ERR_D_BASE`. -/
def Addr.dsvErrDBase : Nat := 0x1B013008
/-- `DSV_ERR_D_SIZE`. -/
def Addr.dsvErrDSize : Nat := 0x1B013010
/-- `DSV_ERR_D_HEAD`. -/
def Addr.dsvErrDHead : Nat := 0x1B013014
/-- `DSV_ERR_D_TAIL`. -/
def Addr.dsvErrDTail : Nat := 0x1B013018
/-- `DSV_ERR_H_BASE`. -/
def Addr.dsvErrHBase : Nat := 0x1B013028
/-- `DSV_ERR_H_SIZE`. -/
def Addr.dsvErrHSize : Nat := 0x1B013030
/-- `DSV_ERR_H_HEAD`. -/
def Addr.dsvErrHHead : Nat := 0x1B013034
/-- `DSV_ERR_H_TAIL`. -/
def Addr.dsvErrHTail : Nat := 0x1B013038
/-- `DSV_ERR_CNT`. -/
def Addr.dsvErrCnt (i : Nat) : Nat := 0x1B013040 + 0x4 * i
/-- `DSV_ERR_LOST`. -/
def Addr.dsvErrLost : Nat := 0x1B013058
/-- `DSV_ERR_FIFO`. -/
def Addr.dsvErrFifo : Nat := 0x1B01305C
/-- `DSV_RSVD_STATUS`. -/
def Addr.dsvRsvdStatus : Nat := 0x1B013060
/-- `DSV_RSVD_LAST`. -/
def Addr.dsvRsvdLast : Nat := 0x1B013064
/-- `DSV_TEL_CTRL`. -/
def Addr.dsvTelCtrl : Nat := 0x1B013080
/-- `DSV_TEL_PERIOD`. -/
def Addr.dsvTelPeriod : Nat := 0x1B013084
/-- `DSV_TEL_BASE`. -/
def Addr.dsvTelBase : Nat := 0x1B013088
/-- `DSV_TEL_SIZE`. -/
def Addr.dsvTelSize : Nat := 0x1B013090
/-- `DSV_TEL_HEAD`. -/
def Addr.dsvTelHead : Nat := 0x1B013094
/-- `DSV_TEL_TAIL`. -/
def Addr.dsvTelTail : Nat := 0x1B013098
/-- `DSV_TEL_LOST`. -/
def Addr.dsvTelLost : Nat := 0x1B01309C
/-- `THM_CTRL`. -/
def Addr.thmCtrl : Nat := 0x1B100000
/-- `THM_STATUS`. -/
def Addr.thmStatus : Nat := 0x1B100004
/-- `THM_TJ`. -/
def Addr.thmTj : Nat := 0x1B100008
/-- `THM_RAMP`. -/
def Addr.thmRamp : Nat := 0x1B10000C
/-- `THM_RTH`. -/
def Addr.thmRth : Nat := 0x1B100010
/-- `THM_RAMP_FLOOR`. -/
def Addr.thmRampFloor : Nat := 0x1B100014
/-- `THM_BALLAST`. -/
def Addr.thmBallast : Nat := 0x1B100018
/-- `THM_BUDGET`. -/
def Addr.thmBudget : Nat := 0x1B10001C
/-- `THM_RAMP_EXCESS`. -/
def Addr.thmRampExcess : Nat := 0x1B100020
/-- `THM_CAL`. -/
def Addr.thmCal : Nat := 0x1B100024
/-- `THM_FLOW`. -/
def Addr.thmFlow : Nat := 0x1B100028
/-- `THM_FLOW_K`. -/
def Addr.thmFlowK : Nat := 0x1B10002C
/-- `THM_NTC_IN`. -/
def Addr.thmNtcIn : Nat := 0x1B100030
/-- `THM_NTC_OUT`. -/
def Addr.thmNtcOut : Nat := 0x1B100034
/-- `THM_PUMP`. -/
def Addr.thmPump : Nat := 0x1B100038
/-- `THM_PUMP_TACH`. -/
def Addr.thmPumpTach : Nat := 0x1B10003C
/-- `THM_TRIP_LAST`. -/
def Addr.thmTripLast : Nat := 0x1B100040
/-- `THM_TRIP_TOD`. -/
def Addr.thmTripTod : Nat := 0x1B100044
/-- `THM_TRIP_CNT`. -/
def Addr.thmTripCnt : Nat := 0x1B100048
/-- `THM_TS`. -/
def Addr.thmTs (i : Nat) : Nat := 0x1B100100 + 0x4 * i
/-- `PWR_STATE`. -/
def Addr.pwrState : Nat := 0x1B200000
/-- `PWR_RAIL_STATUS`. -/
def Addr.pwrRailStatus : Nat := 0x1B200004
/-- `PWR_TC_GATE`. -/
def Addr.pwrTcGate : Nat := 0x1B200008
/-- `PWR_TC_STATUS`. -/
def Addr.pwrTcStatus : Nat := 0x1B20000C
/-- `PWR_CPU_GATE`. -/
def Addr.pwrCpuGate : Nat := 0x1B200010
/-- `PWR_CPU_STATUS`. -/
def Addr.pwrCpuStatus : Nat := 0x1B200014
/-- `PWR_RST`. -/
def Addr.pwrRst : Nat := 0x1B200018
/-- `PWR_RST_STATUS`. -/
def Addr.pwrRstStatus : Nat := 0x1B20001C
/-- `PWR_CPU_RVBAR`. -/
def Addr.pwrCpuRvbar (i : Nat) : Nat := 0x1B200020 + 0x8 * i
/-- `PWR_GRACE`. -/
def Addr.pwrGrace : Nat := 0x1B200040
/-- `PWR_AVS_CFG`. -/
def Addr.pwrAvsCfg : Nat := 0x1B200044
/-- `PWR_VCORE`. -/
def Addr.pwrVcore : Nat := 0x1B200048
/-- `PWR_VCPU`. -/
def Addr.pwrVcpu : Nat := 0x1B20004C
/-- `PWR_PMBUS`. -/
def Addr.pwrPmbus (i : Nat) : Nat := 0x1B200050 + 0x4 * i
/-- `CLK_STATUS`. -/
def Addr.clkStatus : Nat := 0x1B300000
/-- `CLK_TCLK_REQ`. -/
def Addr.clkTclkReq : Nat := 0x1B300004
/-- `CLK_TCLK`. -/
def Addr.clkTclk : Nat := 0x1B300008
/-- `CLK_CPU_REQ`. -/
def Addr.clkCpuReq : Nat := 0x1B30000C
/-- `CLK_CPU`. -/
def Addr.clkCpu : Nat := 0x1B300010

end Sys2Proof.Machine
end

