-- ==== Sys2Proof/Machine/State.lean ====
section
/-! DEFINITION. The state of the device as plain data: one structure for each kind of thing the spec names, and
`State` itself. The sparse tables are canonical (`Sys2Proof/Machine/Table.lean`). -/

namespace Sys2Proof.Machine

/-- Why the machine stops with a fault. No command of this block has such a stop: the spec gives every row of the
table an effect. The constructor is raised by nothing; were it raised, stopping would be safe. -/
inductive Fault where
  /-- A command with no effect in the spec. Raised by no meaning; safe. -/
  | noEffect
  deriving DecidableEq, Repr

/-- Why a command is refused. -/
inductive Refusal where
  /-- A command that has no meaning in the model yet. Raised only by arms of `exec`; safe. -/
  | notModelled (mnemonic : String)
  deriving DecidableEq, Repr

/-- The error codes of R844. -/
inductive Code where
  | cfg | recLost | audit | fsLate | domainStopped | schedRange | schedSkip | sfeOverflow | csiCrc | csiLen | csiEcc
  | csiSync | sfeShort | groupDrop | tile | illegalOp | desc | fetchPoison | deadline | parityReplayed | parityPoisoned
  | accParity | dbgWindow | staleHandle | swHandle | flushed | barrier | barrierShort | wchMatch | wchParity | wchOff
  | fmtSkip | fmtLate | fmtGap | dppJob | dppAbort | vencInput | vencSkip | vencNoref | vencLate | vencMap | vencEvid
  | vencCmd | vdecSyntax | vdecNoref | vdecBudget | vdecBounds | vdecUnsup | vdecInput | vdecSkip | snoopTimeout
  | cpuPoison | memCe | memUe | partialWrite | memRange | memForced | memTrain | pcieUr | pciePoison | pcieCto | pcieLink
  | ethOverrun | ethPoison | i3cXfer | uartOverrun | gpioCap | illShort | illOvercurrent | illMaxon | illUv | bootImage
  | fwDeny | dcReject | evidExposed | tagIntegrity | pwrSeq | pwrPg | refclk | pmbus | thmTrip | thmSoft | thmSensor
  | coolantLoss | coolantHot | thmBudget | pumpStall
  deriving DecidableEq, Repr

/-- The fault classes of R52. -/
inductive Cls where
  | corrected | replayed | poisoned | dropped | halted | fatal
  deriving DecidableEq, Repr

/-- An error record (R845). -/
structure ErrRec where
  code     : Code
  cls      : Cls
  kind     : Nat
  inst     : Nat
  tagHash  : Word
  pos      : Option (Nat × Nat)          -- the position word of bytes 8-11 is built from (domain, word)
  todSec   : Nat
  todTick  : Nat
  holdover : Bool
  detail   : List (Nat × Nat)            -- (size in bytes, value), in the order of R850
  deriving DecidableEq, Repr

/-- One rate-limit interval (R910): the tick it opened, if it is open, the occurrences counted and the record of the first
of them. -/
structure RateIv where
  opened : Option Nat := none
  count  : Nat := 0
  first  : Option ErrRec := none
  deriving DecidableEq, Repr

/-- A record in the collector's FIFO, with the rings that have still to take it (R854). -/
structure FifoRec where
  record : ErrRec
  driver : Bool
  host   : Bool
  deriving DecidableEq, Repr

/-- A telemetry snapshot not yet written (R858): its records of 64 bytes and the time it was taken. -/
structure Snapshot where
  records : List Bytes
  at_     : Nat
  deriving DecidableEq, Repr

/-- The record collector (R844-R868, R910). `telDue` is the tick at which the next snapshot falls due (R858, R866). -/
structure Collector where
  posted  : List ErrRec := []
  fifo    : List FifoRec := []
  lost    : List Nat := [0, 0, 0, 0, 0, 0]
  owed    : Bool := false
  rates   : Table RateIv := []
  snaps   : List Snapshot := []
  gap     : Bool := false
  seq     : Nat := 0
  telDue  : Nat := 0
  deriving DecidableEq, Repr

/-- The time of day and its discipline (R79-R83, R913, R914). Raw times are in ticks. `placed` says that reset or a step put
the counter where it stands, so that it has not reached it by advancing (R81). -/
structure Tod where
  sec        : Nat := 0
  tick       : Nat := 0
  frac       : Nat := 0
  placed     : Bool := true
  holdover   : Bool := true
  holdFrom   : Nat := 0
  holdLast   : Nat := 0
  ppsExpect  : Option Nat := none
  ppsIdle    : Nat := 0
  ppsMisses  : Nat := 0
  ppsRun     : Nat := 0
  ppsLast    : Nat := 0
  ppsOut     : Bool := false
  ppsOutEnd  : Nat := 0
  deriving DecidableEq, Repr

/-- A line domain (R55-R67, R84, R94, R97-R99, R911). Times are in 2^-16 ticks; positions within a frame are in
1/256 lines. `open_` holds the ends of windows that are still open of frames begun by prediction before the present one
(R66, R97). -/
structure Dom where
  running     : Bool := false
  arming      : Option Nat := none
  waiting     : Bool := false
  slaved      : Bool := false
  issued      : Bool := false
  frame       : Nat := 0
  line        : Nat := 0
  lineAt      : Nat := 0
  frameAt     : Nat := 0
  period      : Nat := 0
  flenM1      : Nat := 0
  fswinM1     : Nat := 0
  members     : Nat := 0
  membersNext : Option Nat := none
  adj         : Int := 0
  ivs         : List Nat := []
  floor       : Nat := 0
  hold        : Nat := 0
  accepted    : Bool := false
  provisional : Bool := false
  open_       : List Nat := []
  coasted     : Nat := 0
  late        : Nat := 0
  maintOpen   : Bool := false
  deriving DecidableEq, Repr

/-- An FSYNC_OUT pin (R62, R87, R95): at its active level, the edges still delayed, the ends of its AUTO pulses, the
tick of its last scheduled clear. -/
structure Pin where
  active  : Bool := false
  edges   : List (Nat × Bool) := []
  ends    : List Nat := []
  clrAt   : Option Nat := none
  deriving DecidableEq, Repr

/-- The four words of a schedule entry (R71). -/
structure Ent where
  w0 : Word := 0
  w1 : Word := 0
  w2 : Word := 0
  w3 : Word := 0
  deriving DecidableEq, Repr

/-- What the schedule table holds beside the entries in force, which are its registers (R86, R88, R89): shadow and
committed copies, the frame each entry last fired or was passed in, the counts of the entries of one tick, how often
each event line fired (R694), when the background job granted last ends (R77). -/
structure Sched where
  shadow    : Table (Option Ent) := []
  committed : Table (Option Ent) := []
  firedIn   : Table (Option Nat) := []
  tickOf    : Nat := 0
  pinCount  : Nat := 0
  intCount  : Nat := 0
  evts      : Table Nat := []
  jobEnd    : Option Nat := none
  deriving DecidableEq, Repr

/-- An item of a pass queue (R381). -/
structure Item where
  handle : Word := 0
  md     : BitVec 64 := 0
  vreg   : Word := 0
  deriving DecidableEq, Repr

/-- A pass queue. Waiters are holder codes, the first to wait first (R392). -/
structure Queue where
  items    : List Item := []
  credits  : Nat := 0
  flushing : Bool := false
  popWait  : List Nat := []
  pushWait : List Nat := []
  deriving DecidableEq, Repr

/-- A handle pool (R388, R389, R397): the free indices in the order they became free, the held ones with their holders,
the queued ones, the generation, and a bump under way with the holders it names. -/
structure Pool where
  free   : List Nat := []
  held   : List (Nat × Nat) := []
  queued : List Nat := []
  gen    : Nat := 0
  bump   : Option (List Nat) := none
  deriving DecidableEq, Repr

/-- An open barrier instance (R406): the mask and the participants arrived. -/
structure Barrier where
  mask    : Nat
  arrived : List Nat
  deriving DecidableEq, Repr

/-- An audit taken and not yet reported (R412, R656): the status word it will report. -/
structure Audit where
  result : Word
  raise  : List (Nat × Nat)
  deriving DecidableEq, Repr

/-- The pass unit. -/
structure Pass where
  queues   : Table Queue := []
  pools    : Table Pool := []
  barriers : Table (Option Barrier) := []
  audit    : Option Audit := none
  staged   : Table Bool := []
  pqStats  : Table (List Nat) := []
  plStats  : Table (List Nat) := []
  deriving DecidableEq, Repr

/-- How an illuminator gate is driven (R706-R717). -/
inductive Gate where
  | off | rampUp | rampDown | softSink | hardSink
  deriving DecidableEq, Repr

/-- An illuminator channel: its gate and the tick that drive began, the ILL_ON tick and its position, whether it is in
blanking, whether the gate was off at the ILL_ON, the settings in force for this strobe (R723), its fault and flags,
the tick of its last scheduled ILL_OFF (R87), the tick and the record of its last MAXON expiry with the flag as it was before
(R722). -/
structure Illum where
  gate     : Gate := .off
  since    : Nat := 0
  onAt     : Nat := 0
  onPos    : Nat := 0
  onFrame  : Nat := 0
  blank    : Bool := false
  fromOff  : Bool := true
  cfg      : Word := 0
  maxon    : Nat := 0
  domain   : Nat := 0
  maxonHit : Bool := false
  cause    : Nat := 0
  faulted  : Bool := false
  offAt    : Option Nat := none
  claimed  : Option (Nat × ErrRec × Bool) := none
  deriving DecidableEq, Repr

/-- The states of a tensor-core context (R182). -/
inductive CxState where
  | off | ready | waitLine | waitPass | waitSync | stopped | done | halted
  deriving DecidableEq, Repr

/-- What a waiting context waits for: a published position (none: a CTX_WAKE alone), the timed position of an instruction that
waits to be dispatched (R164, R182), an item or a credit of a queue, a DRAIN, a barrier id, the entry of the sync that a nest
implies (R317), a DPP ticket, the retirement of the instructions before a HALT. -/
inductive CxWait where
  | none
  | line (dom : Nat) (pos : Option (Nat × Nat))
  | timed (dom frame pos : Nat)
  | pass (q : Nat) (push : Bool)
  | drain
  | barrier (id : Nat)
  | nest
  | det (ticket : Word)
  | halt
  deriving DecidableEq, Repr

/-- An operand descriptor (R214). -/
structure Desc where
  addr  : Nat := 0
  dtype : Nat := 0
  space : Nat := 0
  offS  : Nat := 0
  offEn : Bool := false
  ext   : List Nat := [0, 0, 0, 0]
  str   : List Nat := [0, 0, 0]
  deriving DecidableEq, Repr

/-- A level of a loop nest (R303). -/
structure Level where
  count : Nat := 0
  sa    : Int := 0
  sb    : Int := 0
  sd    : Int := 0
  drow  : Int := 0
  dcol  : Int := 0
  deriving DecidableEq, Repr

/-- A loop-nest descriptor (R302). `zeros` says every field that must be zero is. -/
structure Nest where
  nlev    : Nat := 0
  split   : Nat := 0
  between : Nat := 0
  cores   : Nat := 0
  barId   : Nat := 0
  rlev    : Nat := 0
  clev    : Nat := 0
  vmask   : Bool := false
  row0    : Nat := 0
  col0    : Nat := 0
  levels  : List Level := []
  zeros   : Bool := true
  deriving DecidableEq, Repr

/-- A range of the scoreboard (R161): space 0 in 64-byte rows, 1 in groups of 32 entries, 2 in lines; `hi` exclusive. -/
structure Range where
  space : Nat
  lo    : Nat
  hi    : Nat
  write : Bool
  deriving DecidableEq, Repr

/-- A line of DRAM that a LOAD or a chain fill waits for: the line and the (destination byte, DRAM byte) pairs it fills;
the destination space is the slot's. -/
structure Pend where
  line  : Nat
  bytes : List (Nat × Nat)
  deriving DecidableEq, Repr

/-- A write request of a STORE (R272): a DRAM line, its byte mask, its 64 bytes, the poison of its two beats. -/
structure WReq where
  line   : Nat
  mask   : Nat
  data   : Bytes
  poison : Nat
  deriving DecidableEq, Repr

/-- An entry of the issue window (R155, R156), and with it the operation in flight that the instruction became: whether its
unit executes it and has started it; its ranges; the lines that it has not asked for yet and those it has (R273), the writes
that it has not sent and how many it has (R273); its destination space; the scalars it will write; whether its destination is
also an input (R178), whether an input of it has been overwritten (R176); the fill group it waits for; the position of a
DEADLINE; the item of a pass instruction; whether it waits on a queue or a ticket; the byte of the word that failed parity and
aborted it, the byte of a bad word that its reads met (R267), the producer found for the aborting word (none: a refill) and
whether the refill is under way, its aborts, the last failed byte, whether it gave up and is poisoned (R178); its place in the
core's order of issue, the scalars and the valid region of its issue; the scratchpad bytes of its weights. -/
structure Slot where
  id       : Nat
  cx       : Nat
  idx      : Nat
  op       : Nat
  w        : Insn
  unit     : TcUnit
  issued   : Bool := false
  retired  : Bool := false
  running  : Bool := false
  started  : Bool := false
  ranges   : List Range := []
  pend     : List Pend := []
  sent     : List Pend := []
  outw     : List WReq := []
  nOut     : Nat := 0
  space    : Nat := 0
  writes   : List (Nat × Word) := []
  inPlace  : Bool := false
  stale    : Bool := false
  group    : Option Nat := none
  pos      : Option (Nat × Nat × Nat) := none
  item     : Option Item := none
  waits    : Bool := false
  bad      : Option Nat := none
  found    : Option Nat := none
  producer : Option Nat := none
  refill   : Bool := false
  aborts   : Nat := 0
  lastBad  : Nat := 0
  gaveUp   : Bool := false
  seqNo    : Nat := 0
  env      : List Word := []
  region   : Option (Nat × Nat) := none
  weights  : Nat × Nat := (0, 0)
  deriving DecidableEq, Repr

/-- A context of a tensor core. Of its fields: `sync` is the sync that a nest implies (kind, barrier id, cores, slot), `synced`
whether it has been entered; `released` says that the timed position of the next instruction to dispatch counts as reached
(R169); `fault` is a fault that waits for the earlier instructions to complete (R196); `miss` the tick and the record of the
last deadline miss (R195). -/
structure Ctx where
  state     : CxState := .off
  resume    : CxState := .ready
  stopping  : Bool := false
  wait      : CxWait := .none
  saved     : CxWait := .none
  fetchIdx  : Nat := 0
  hold      : Bool := false
  ended     : Bool := false
  image     : Nat := 0
  instrAt   : Nat := 0
  nInstr    : Nat := 0
  domain    : Nat := 0
  buckets   : List (Nat × Nat × Nat) := []
  descs     : Table Desc := []
  nests     : Table Nest := []
  bucketId  : Nat := 0
  valid     : Option (Nat × Nat) := none
  late      : Bool := false
  excluded  : Bool := false
  poisoned  : Bool := false
  signal    : Bool := false
  prefixPos : Option (Nat × Nat × Nat) := none
  released  : Bool := false
  deadline  : Option (Nat × Nat × Nat) := none
  depOpen   : List Nat := []
  marks     : List (Nat × List Nat) := []
  yieldFor  : List Nat := []
  sync      : Option (Nat × Nat × Nat × Nat) := none
  synced    : Bool := false
  fault     : Option (Nat × Code) := none
  miss      : Option (Nat × ErrRec) := none
  deriving DecidableEq, Repr

/-- A set of the DPU weight registers (R147): the operation it was loaded for, where it came from, what it holds. -/
structure WSet where
  owner : Nat
  base  : Nat
  data  : Bytes
  deriving DecidableEq, Repr

/-- A tensor core: its scratchpad, accumulator and trays with their poison and failed parity; its window; the two sets of
weight registers, the active one first (R147); the context whose turn it is and how often it has issued in it (R149).
`taint`, a field of the model, is the accumulator entry whose failed parity is being traced: none between commands. -/
structure Core where
  spm        : Table Byte := []
  spmPoison  : Table Bool := []
  spmBad     : Table Bool := []
  acc        : Table Word := []
  accPoison  : Table Bool := []
  tray       : Table Byte := []
  trayPoison : Table Bool := []
  slots      : List Slot := []
  nextId     : Nat := 0
  halted     : Bool := false
  initBusy   : Bool := false
  sbHigh     : Nat := 0
  dpaBusy    : Nat := 0
  nextSeq    : Nat := 0
  issues     : List Nat := [0, 0, 0, 0]
  turn       : Nat := 1
  turnUsed   : Nat := 0
  wsets      : List WSet := []
  taint      : Option Nat := none
  deriving DecidableEq, Repr

/-- A request of a fill group: the core, its context, its slot. -/
structure FillReq where
  core : Nat
  cx   : Nat
  slot : Nat
  deriving DecidableEq, Repr

/-- A refill of a 64-byte scratchpad row (R283): the core, the aborted slot, the bytes (destination, source). -/
structure Refill where
  core  : Nat
  slot  : Nat
  pairs : List (Nat × Nat)
  deriving DecidableEq, Repr

/-- A fill group at a chain head (R368): its own number, source, length, mask, requests, whether it is
fetching, for which cores, the bytes already sent down, when the first request came. -/
structure FillGrp where
  gid      : Nat
  src      : Nat
  len      : Nat
  mask     : Nat
  reqs     : List FillReq
  since    : Nat
  fetching : Bool := false
  targets  : Nat := 0
  sent     : Nat := 0
  deriving DecidableEq, Repr

/-- A chain packet (R372) in a hop's buffer: the cores still to deliver, the group it belongs to, the source address of
its payload, the refill it is (KIND 1), its bytes and the poison of its sectors. -/
structure ChainPkt where
  mask   : Nat
  gid    : Nat
  src    : Nat
  refill : Option Refill
  data   : Bytes
  poison : List Bool
  deriving DecidableEq, Repr

/-- The weight chain: groups per head, packets and free buffers per hop, bypassed cores, audit. -/
structure Wch where
  groupsA : Table (Option FillGrp) := []
  groupsB : Table (Option FillGrp) := []
  nextGid : Nat := 0
  hops    : Table (List ChainPkt) := []
  freeBuf : Table Nat := []
  bypass  : Nat := 0
  refills : List Refill := []
  audit   : Option Audit := none
  deriving DecidableEq, Repr

/-- Where a DPP slot stands (R470-R473). -/
inductive DppPhase where
  | free | queued | running | pushOut | pushMap
  deriving DecidableEq, Repr

/-- A job slot of the DPP: its phase, its source code, the slot's submission sequence, the device's order of
submission, the record address, a bound job's input item and buffers (pool, index), the result it will report, and its
output items. -/
structure DppSlot where
  phase   : DppPhase := .free
  src     : Nat := 0
  seq     : Nat := 0
  order   : Nat := 0
  addr    : Nat := 0
  item    : Item := {}
  out     : Option (Nat × Nat) := none
  map     : Option (Nat × Nat) := none
  status  : Nat := 0
  recs    : Nat := 0
  outItem : Item := {}
  mapItem : Item := {}
  deriving DecidableEq, Repr

/-- The buffers a DPP binding has allocated ahead of its pop (R472): pool and index. -/
structure DppBind where
  out : Option (Nat × Nat) := none
  map : Option (Nat × Nat) := none
  deriving DecidableEq, Repr

/-- The detection post-processor. -/
structure Dpp where
  slots : Table DppSlot := []
  binds : Table DppBind := []
  order : Nat := 0
  deriving DecidableEq, Repr


/-- A read that waits in a memory slice (R632, R635, R643): who, its class, its line, its bank (R630), when it came, the
STARVE in force then, whether it is guarded. -/
structure MemReq where
  who     : Initiator
  cls     : Qos
  line    : Nat
  bank    : Nat
  since   : Nat
  starve  : Nat
  guarded : Bool := false
  deriving DecidableEq, Repr

/-- A memory slice: the reads that wait, the write entries held (oldest first, by class), the LINE bytes of the present
8 us window (R636, R638). -/
structure MemSlice where
  waiting   : List MemReq := []
  entries   : List Qos := []
  lineBytes : Nat := 0
  deriving DecidableEq, Repr

/-- A DRAM channel (R639-R645): refresh intervals owed by each bank, when retraining fell due, when it was last
performed, when a failed one is due again, the last temperature read, whether INIT trained it. -/
structure Chan where
  owed   : Table Nat := []
  due    : Option Nat := none
  last   : Nat := 0
  retry  : Option Nat := none
  temp   : Nat := 0
  deriving DecidableEq, Repr

/-- A write request of which a slice has accepted some beats and waits for more (R632, R653). -/
structure OpenWrite where
  who  : Initiator
  addr : Nat
  done : Nat
  deriving DecidableEq, Repr

/-- The memory subsystem: its slices and channels, training by INIT under way, the channels of a retraining that are
still to do and whether it was forced, open writes, lines whose corrected words are to be written back, MEM_CTRL and MEM_CFG
as they stood when the DRAM last entered self-refresh with its contents kept (R801), the audit. -/
structure Mem where
  slices   : Table MemSlice := []
  chans    : Table Chan := []
  training : Bool := false
  train    : List Nat := []
  forced   : Bool := false
  opens    : List OpenWrite := []
  ceBack   : List Nat := []
  kept     : Option (Word × Word) := none
  audit    : Option Audit := none
  deriving DecidableEq, Repr

/-- A source row in the formatter: its number, whether it is treated as poisoned (R430, R431), its pixels (components
of 16 bits, poison). -/
structure FmtRow where
  idx : Nat
  gap : Bool
  px  : List (List Nat × Bool) := []
  deriving DecidableEq, Repr

/-- A formatter source and the frame it is in (R427-R431): the frame's identity and flags, its valid region, the rows
received, how often rows were missing, the last five rows. -/
structure FmtSrc where
  inFrame  : Bool := false
  frame    : Nat := 0
  domain   : Nat := 0
  bucket   : Nat := 0
  excluded : Bool := false
  missing  : Bool := false
  late     : Bool := false
  trunc    : Bool := false
  vreg     : Word := 0
  next     : Nat := 0
  gaps     : Nat := 0
  rows     : List FmtRow := []
  deriving DecidableEq, Repr

/-- A completed output item: metadata, valid region, buffer (pool and index; none for a placeholder). -/
structure FmtDone where
  md   : BitVec 64
  vreg : Word
  buf  : Option (Nat × Nat)
  deriving DecidableEq, Repr

/-- An output stream (R432-R468): whether it processes its source's frame, its buffer, the next output row, the row
before (for chroma), the settings in force for the frame (R462), the first and last filled row, the first row that a
missing row filled, a pending release, the completed item and its deadline. -/
structure FmtOut where
  active   : Bool := false
  buf      : Option (Nat × Nat) := none
  y        : Nat := 0
  prev     : List (List Nat × Bool) := []
  cfg      : List Word := []
  fill     : Option (Nat × Nat) := none
  gapRow   : Option Nat := none
  release  : Bool := false
  done     : Option FmtDone := none
  deadline : Option (Nat × Nat × Nat) := none
  deriving DecidableEq, Repr

/-- The output formatter. -/
structure Fmtr where
  srcs : Table FmtSrc := []
  outs : Table FmtOut := []
  deriving DecidableEq, Repr

/-- A received row in an input FIFO: its number, its pixels (padded or cut), its poison, how many columns are
conditioned, the shaded values so far. -/
structure SfeRow where
  idx    : Nat
  px     : List Nat
  poison : Bool
  col    : Nat := 0
  outv   : List Nat := []
  deriving DecidableEq, Repr

/-- A stripe in progress: its buffer (pool, index), its first row, complete rows, whether a row of it is poisoned. -/
structure SfeStripe where
  pool   : Nat
  buf    : Nat
  first  : Nat
  count  : Nat := 0
  poison : Bool := false
  deriving DecidableEq, Repr

/-- The occurrences of an input fault in one frame of a context (R141): how many, the first affected row, the record of the
first, the detail items between the count and the row. -/
structure SfeFault where
  code   : Code
  count  : Nat
  row    : Nat
  record : ErrRec
  extra  : List (Nat × Nat) := []
  deriving DecidableEq, Repr

/-- A frame of a sensor context: its identity, the settings of its Frame Start (R132), bits per pixel, the time of day
of its Frame Start, rows received and poisoned, whether it takes no more rows, is truncated, is discarded, waits for its
group (R137); rows in the FIFO, the stripe in progress and the completed one before it that no later row has followed yet
(R128), when the last row's stripe is due (R36), the last even row for the zones, histogram and zones, embedded data,
uncorrected defects. -/
structure SfeFrame where
  fid     : Nat
  frame   : Nat
  domain  : Nat
  late    : Bool := false
  cfg     : List Word := []
  bits    : Nat := 8
  todSec  : Nat := 0
  todTick : Nat := 0
  rows    : Nat := 0
  bad     : Nat := 0
  closed  : Bool := false
  trunc   : Bool := false
  drop    : Bool := false
  gated   : Bool := false
  fifo    : List SfeRow := []
  stripe  : Option SfeStripe := none
  full    : Option SfeStripe := none
  due     : Option Nat := none
  prev    : List Nat := []
  hist    : Table Nat := []
  zones   : Table Nat := []
  emb     : Bytes := []
  uncorr  : Nat := 0
  deriving DecidableEq, Repr

/-- A completed stripe item that waits to be pushed (R134, R137), or a placeholder (no buffer); when it is due (R36). -/
structure SfeItem where
  fid    : Nat
  domain : Nat
  gated  : Bool
  q      : Nat
  md     : BitVec 64
  buf    : Option (Nat × Nat)
  due    : Option Nat := none
  deriving DecidableEq, Repr

/-- A frame's statistics that wait for a buffer or to be pushed (R122, R130). -/
structure SfeStat where
  fid    : Nat
  domain : Nat
  gated  : Bool
  q      : Nat
  pool   : Nat
  md     : BitVec 64
  data   : Bytes
  buf    : Option Nat := none
  deriving DecidableEq, Repr

/-- A sensor context: its frames (the first is being conditioned, the last received), completed items and statistics,
whether a frame is open; the lines counted since its Frame Start, whether none has come since (R110), that frame's rows and
bytes of a line (0 where it delivers nothing); the input faults of the open frame and the codes reported since the last
Frame Start (R141); the table bank in force (R133). -/
structure SfeCtx where
  frames  : List SfeFrame := []
  held    : List SfeItem := []
  stats   : List SfeStat := []
  recv    : Bool := false
  lines   : Nat := 0
  first   : Bool := false
  height  : Nat := 0
  lineB   : Nat := 0
  faults  : List SfeFault := []
  told    : List Code := []
  nextFid : Nat := 0
  bank    : Nat := 0
  deriving DecidableEq, Repr

/-- A member's Frame Start that joined a group frame: the context, when, the identity of its frame. -/
structure SfeArrival where
  cx  : Nat
  at_ : Nat
  fid : Nat
  deriving DecidableEq, Repr

/-- A frame of an aligned group (R51, R69, R137-R140): its number, the start its bound runs from (none before the lead of
a slaved domain), the members arrived, those missed, whether it was dropped, its gate opened, it was cut. -/
structure SfeGroup where
  frame   : Nat
  origin  : Option Nat
  arrived : List SfeArrival := []
  missed  : List Nat := []
  late    : Bool := false
  opened  : Bool := false
  cut     : Bool := false
  deriving DecidableEq, Repr

/-- The sensor front end: its contexts, the present frame of each domain's group and one that awaits its lead, the lanes
in the ultra-low-power state (4 * quad + lane). -/
structure Sfe where
  ctxs  : Table SfeCtx := []
  grps  : Table (Option SfeGroup) := []
  early : Table (Option SfeGroup) := []
  ulps  : Table Bool := []
  deriving DecidableEq, Repr

/-- A picture popped by an encoder session (R507): its item, the TOD and the position of its domain at the pop, its full
frame number, its place in the engine's order of pop, whether E_VENC_LATE was raised for it. -/
structure VPic where
  item     : Item
  todSec   : Nat
  todTick  : Nat
  posFrame : Nat
  pos      : Nat
  frame    : Nat
  order    : Nat
  late     : Bool := false
  deriving DecidableEq, Repr

/-- A picture in progress (R509-R533): rows coded, its type, its reconstruction, output buffer and queue, its reference
list, its order count, the coder's state, bytes written, units coded from fill, the sum and number of its group QPs, the
frame of the map used, NOREF, OVERSIZE, whether every unit is skipped. -/
structure VRun where
  pic   : VPic
  row   : Nat := 0
  idr   : Bool
  recon : Option Nat
  pool  : Nat
  buf   : Nat
  q     : Nat
  refs  : List Nat
  poc   : Nat
  key   : Nat
  len   : Nat := 0
  fills : Nat := 0
  qpSum : Nat := 0
  qpNum : Nat := 0
  map   : Option Nat := none
  noref : Bool := false
  beyond : Bool := false
  skip  : Bool := false
  deriving DecidableEq, Repr

/-- An output item of a session that waits to be pushed, and whether it ends the session (R541). -/
structure VDone where
  md   : BitVec 64
  pool : Nat
  buf  : Nat
  q    : Nat
  last : Bool
  deriving DecidableEq, Repr

/-- An encoder session: the picture ready, in progress and waiting to be pushed; the settings in force (R545); a pending
FORCE_IDR and END_SESSION; whether a picture was coded, pictures since the last IDR, the next order count; the routing in
force (queue and pool); the held map (pool, index, domain, frame); the coder's state. -/
structure VSess where
  pic     : Option VPic := none
  run     : Option VRun := none
  done    : Option VDone := none
  cfg     : List Word := []
  force   : Bool := false
  ending  : Bool := false
  started : Bool := false
  since   : Nat := 0
  poc     : Nat := 0
  route   : Option (Nat × Nat) := none
  map     : Option (Nat × Nat × Nat × Nat) := none
  key     : Nat := 0
  deriving DecidableEq, Repr

/-- The mark of a reference buffer (R514). -/
inductive VMark where
  | free | recon | short | long | held
  deriving DecidableEq, Repr

/-- A reference buffer: its mark, its owner, its order count, its long-term index. -/
structure VRef where
  mark  : VMark := .free
  owner : Nat := 0
  poc   : Nat := 0
  long  : Nat := 0
  deriving DecidableEq, Repr

/-- The two encoders: sessions by 16 * engine + session, reference buffers by 64 * engine + buffer, the session whose row
each engine codes, pops so far, the nanoseconds of busy time not yet a microsecond. -/
structure Venc where
  sess  : Table VSess := []
  refs  : Table VRef := []
  cur   : Table (Option Nat) := []
  order : Nat := 0
  ns    : Table Nat := []
  deriving DecidableEq, Repr

/-- Input that a decoder session holds (R555-R557): the item, bytes read, the length, whether a discontinuity lies before
its first byte. -/
structure VdIn where
  item : Item
  at_  : Nat := 0
  len  : Nat
  cut  : Bool
  deriving DecidableEq, Repr

/-- A picture in a DPB buffer: whether the buffer is used, the picture is a reference, awaits output, the stream order it
has (era, order count), its domain and frame, its parameter set, its tainted 16x16 areas (R574). -/
structure VdBuf where
  used   : Bool := false
  isRef  : Bool := false
  out    : Bool := false
  era    : Nat := 0
  poc    : Int := 0
  domain : Nat := 0
  frame  : Nat := 0
  sps    : Option SpsInfo := none
  taint  : Table Bool := []
  deriving DecidableEq, Repr

/-- The errors of one code in a picture (R579): how many, the first one's byte offset and coding unit. -/
structure VdErr where
  code  : Code
  count : Nat
  off   : Nat
  cu    : Nat
  deriving DecidableEq, Repr

/-- A picture being decoded: its buffer, its parameter set, coded bits, the areas decoded, whether it is an I picture, the
first entry of its list 0, what it will be when complete, its errors, whether it was stopped, whether the last NAL unit
failed. -/
structure VdPic where
  buf     : Nat
  sps     : SpsInfo
  bits    : Nat := 0
  areas   : Table Bool := []
  intra   : Bool
  ref0    : Option Nat
  isRef   : Bool
  out     : Bool
  errs    : List VdErr := []
  stopped : Bool := false
  bad     : Bool := false
  deriving DecidableEq, Repr

/-- A picture being output (R562-R565): its DPB buffer, the next row, the output buffer in hand, whether it is written. -/
structure VdOut where
  buf     : Nat
  row     : Nat := 0
  held    : Option Nat := none
  written : Bool := false
  deriving DecidableEq, Repr

/-- Why a decoder session discards pictures until a random-access picture. -/
inductive VdSkip where
  | none | start | unsup | strict
  deriving DecidableEq, Repr

/-- A decoder session: its input, a discontinuity before what comes next, what it skips, its parameter sets and those
reported unsupported, its DPB buffers, the picture in progress, the picture being output, placeholders to push, bytes
parsed, since when it has waited, eras so far, DRAIN asked for and done, the coder's state. -/
structure VdSess where
  inp     : List VdIn := []
  cut     : Bool := false
  skip    : VdSkip := .start
  spss    : Table (Option SpsInfo) := []
  told    : List Nat := []
  bufs    : List Nat := []
  pic     : Option VdPic := none
  out     : Option VdOut := none
  holes   : List (BitVec 64) := []
  off     : Nat := 0
  since   : Nat := 0
  era     : Nat := 0
  drain   : Bool := false
  drained : Bool := false
  key     : Nat := 0
  deriving DecidableEq, Repr

/-- The decoder: sessions, DPB buffers, the session being decoded, pops so far. -/
structure Vdec where
  sess  : Table VdSess := []
  bufs  : Table VdBuf := []
  cur   : Option Nat := none
  order : Nat := 0
  deriving DecidableEq, Repr

/-- The states of a cached line (R590); I is its absence. -/
inductive Moesi where
  | m | o | e | s
  deriving DecidableEq, Repr

/-- A line in an L2: its state, its 64 bytes, the poison of its two sectors (R601). -/
structure CLine where
  st   : Moesi
  data : Bytes
  bad  : Bool × Bool
  deriving DecidableEq, Repr

/-- A line in a core's writeback buffer (R599): core, address, bytes, poison, whether a snoop took its ownership. -/
structure WLine where
  cpu   : Nat
  line  : Nat
  data  : Bytes
  bad   : Bool × Bool
  taken : Bool := false
  deriving DecidableEq, Repr

/-- The control cluster: cached lines by core and line number, writeback buffers, reservations (R600), the lines that a
FLUSH_ALL in progress covers, the harts' trap-value registers (R602), the cores in WFI and their gate requests with the
end of their 1 ms (R785), the values that writes of COH_SNOOP_TO replaced, each with the tick of the write (R621). -/
structure Coh where
  lines : Table (Option CLine) := []
  wbuf  : List WLine := []
  resv  : Table (Option Nat) := []
  flush : Table (List Nat) := []
  tval  : Table Nat := []
  wfi   : Table Bool := []
  gate  : Table (Option Nat) := []
  olds  : List (Nat × Nat) := []
  deriving DecidableEq, Repr

/-- The Ethernet MACs: the last frame each sent with whether its FCS was inverted (R682), and until when a received PAUSE
holds its transmitter. -/
structure Eth where
  sent  : Table (Bytes × Bool) := []
  pause : Table Nat := []
  deriving DecidableEq, Repr

/-- A command queued in an I3C controller (R692): its two words, how often its event had fired when it reached the head,
whether it was released or needs no release. -/
structure I3cCmd where
  lo  : Word
  hi  : Word
  evt : Option Nat := none
  run : Bool := false
  deriving DecidableEq, Repr

/-- An I3C controller: its commands, responses and in-band interrupts (R692-R695), its data FIFOs. -/
structure I3c where
  cmds  : List I3cCmd := []
  resps : List Word := []
  ibis  : List Word := []
  tx    : Bytes := []
  rx    : Bytes := []
  deriving DecidableEq, Repr

/-- The I3C controllers, the receive FIFOs of the UARTs and the bytes in their transmit FIFOs, each with the tick by which it has
left (R696). -/
structure Periph where
  i3c    : Table I3c := []
  uart   : Table Bytes := []
  uartTx : Table (List (Byte × Nat)) := []
  deriving DecidableEq, Repr

/-- A protection record (R729, R732, R738, R746): its PROT_SEQ, the type and public key of the key slots, the words of the
dual-control registers (an unlisted one holds its reset value). -/
structure ProtRec where
  seq  : Nat
  keys : Table (Nat × Bytes) := []
  regs : Table Word := []
  deriving DecidableEq, Repr

/-- The protection record of factory state (R738). -/
def ProtRec.factory : ProtRec :=
  { seq := 0, regs := [(0x1B0113F0, 0x10000), (0x1B0113F4, 0x10FFFFF), (0x1B0113F8, 0x3FFFFF), (0x1B0113FC, 0x80000000)] }

/-- A pending proposal (R739, R742, R743): its identity, the completed record, the tick its window ends. -/
structure Proposal where
  id   : Nat
  data : Bytes
  ends : Nat
  deriving DecidableEq, Repr

/-- An open segment (R750, R752): the sequence number of its record, its picture digests and how many, the first and last
frame, the time of day of its first pop, the flags of its pictures, whether the TOD was in holdover at a pop, the tick of the
first pop. -/
structure Segment where
  seqNo   : Nat
  digests : Bytes := []
  n       : Nat := 0
  first   : Nat
  last    : Nat
  todSec  : Nat
  todTick : Nat
  flags   : Nat := 0
  hold    : Bool := false
  since   : Nat
  deriving DecidableEq, Repr

/-- The supervisor image that runs: whether from slot B, its security version, its digest. -/
structure Firmware where
  slotB  : Bool
  sv     : Nat
  digest : Bytes
  deriving DecidableEq, Repr

/-- The supervisor (chapter 18): the OTP; the image that runs, whether its boot steps are done, boots so far; the
protection record in force and its two copies; the pending proposal, cancelled ones, the next identity, consecutive bad
signatures, the end of a lockout; debug unlock (level, end, proposal); open segments by 16 * engine + session; the chain's
last hash and checkpoint, records that wait for room, a copied item that waits to be pushed; boot measurements; the
device tag; the flash; the pages whose commands wait, in order of their doorbells, and the command that each page submitted last
(R760). -/
structure Dsv where
  otp        : Table Byte := []
  fw         : Option Firmware := none
  booted     : Bool := false
  boots      : Nat := 0
  keys       : Table (Nat × Bytes) := []
  copyA      : Option ProtRec := some ProtRec.factory
  copyB      : Option ProtRec := none
  proposal   : Option Proposal := none
  superseded : List Nat := []
  nextId     : Nat := 1
  badSigs    : Nat := 0
  lockEnd    : Option Nat := none
  unlock     : Option (Nat × Nat × Nat) := none
  segs       : Table (Option Segment) := []
  prevHash   : Bytes := []
  checkpoint : Nat × Bytes := (0, [])
  waiting    : List Bytes := []
  forward    : Option Item := none
  loaderHash : Bytes := []
  protHash   : Bytes := []
  tag        : Bytes := []
  flash      : Table Byte := []
  order      : List Page := []
  cmds       : Table (List Word) := []
  deriving DecidableEq, Repr

/-- An outbound request that waits for its completion (R665, R668, R674): a configuration or a memory request, its address
on the link. -/
structure OutReq where
  port  : Nat
  tag   : Nat
  who   : Initiator
  cfg   : Bool
  addr  : Nat
  write : Bool
  since : Nat
  deriving DecidableEq, Repr

/-- The PCIe block: the MSI-X table by 4 * vector + word and its pending bits (R699, R703), outbound requests, the
ports whose links train. -/
structure Pcie where
  msix  : Table Word := []
  pba   : Table Bool := []
  out   : List OutReq := []
  train : Table Bool := []
  deriving DecidableEq, Repr

/-- The power-state machine (R769-R789, R799-R803): the steps of R777 done, the earliest tick of the next step, the target of
a power-down, the end of a grace period, the wake alarm, the last fault, when the main rails went off, when REFCLK was lost
with the TOD then, the release of each unit held by PWR_RST. -/
structure Power where
  step    : Nat := 0
  ready   : Nat := 0
  target  : Nat := 0
  grace   : Option Nat := none
  alarm   : Nat := 0
  fault   : Nat := 0
  offAt   : Nat := 0
  refLost : Option (Nat × Nat) := none
  held    : Table (Option Nat) := []
  deriving DecidableEq, Repr

/-- An AVS rail (R792-R798), in quarters of a millivolt: its ramps (start tick, from, to), the newest first; a target in mV
not yet issued; attempts of the transaction in progress; the voltage it is settled above. -/
structure Avs where
  ramps   : List (Nat × Nat × Nat) := []
  want    : Option Nat := none
  tries   : Nat := 0
  settled : Nat := 0
  deriving DecidableEq, Repr

/-- The AVS rails (0 VDD_CORE, 1 VDD_CPU) and the PMBus transaction in progress: its rail, its target in mV. -/
structure Clk where
  rails : Table Avs := []
  bus   : Option (Nat × Nat) := none
  deriving DecidableEq, Repr

/-- The thermal governor and coolant monitoring (R815-R843): B in 2^-24 of 0.125 W, P_load in 0.125 W, cap_ramp, the soft
and the coolant-loss caps with the ticks of their last moves, whether the soft limit, coolant loss, the degraded mode hold,
samples since entry to ACTIVE, flow windows (the newest first), milliseconds above the budget; sensors and channels
reported invalid, since when the inlet is hot and whether that was reported; calibration: when it last fell due, whether it
is due, its end; when a sensor last read above 90 degrees, seconds of Tj (the newest first) with the sum and the samples of the present one,
the last 8 trips (sensor, sample, TOD seconds, boot count), when the last one was; the governor's registers as they stood
when a higher loop began (R841). -/
structure Therm where
  b        : Nat := 0
  load     : Nat := 0
  capRamp  : Nat := 0
  softT    : Nat := 0
  softC    : Nat := 0
  lossT    : Nat := 0
  lossC    : Nat := 0
  movedT   : Nat := 0
  movedC   : Nat := 0
  soft     : Bool := false
  loss     : Bool := false
  released : Bool := false
  degraded : Bool := false
  samples  : Nat := 0
  flows    : List Nat := []
  overMs   : Nat := 0
  bad      : List Nat := []
  hotFrom  : Option Nat := none
  hotTold  : Bool := false
  calBase  : Nat := 0
  calDue   : Option Nat := none
  calEnd   : Option Nat := none
  above90  : Option Nat := none
  secs     : List Nat := []
  secSum   : Nat := 0
  secN     : Nat := 0
  trips    : List (Nat × Nat × Nat × Nat) := []
  tripAt   : Option Nat := none
  frozen   : List Word := []
  deriving DecidableEq, Repr

/-- The answer of the last access whose sender waits for one: an error response, the data, a poison bit for each
32-byte beat. -/
structure Resp where
  err    : Bool := false
  data   : Bytes := []
  poison : List Bool := []
  deriving DecidableEq, Repr

/-- The state of the device. -/
structure State where
  /-- raw timebase ticks since reset (R55) -/
  now     : Nat := 0
  /-- register words by address; an unlisted one holds its reset value -/
  regs    : Table Word := []
  /-- the words a wide read captured (R877) -/
  capture : Table Word := []
  tod     : Tod := {}
  doms    : Table Dom := []
  pins    : Table Pin := []
  sched   : Sched := {}
  coll    : Collector := {}
  pass    : Pass := {}
  cores   : Table Core := []
  ctxs    : Table Ctx := []
  wch     : Wch := {}
  ills    : Table Illum := []
  /-- DRAM bytes by address; an unlisted one reads 0 -/
  mem     : List Host.Cell := []
  /-- poisoned 32-byte sectors of DRAM, by address / 32 -/
  memPoison : Table Bool := []
  /-- 64-bit words of DRAM that hold an uncorrectable error (R648), by address / 8 -/
  memUe   : Table Bool := []
  sfe     : Sfe := {}
  fmt     : Fmtr := {}
  dpp     : Dpp := {}
  venc    : Venc := {}
  vdec    : Vdec := {}
  coh     : Coh := {}
  eth     : Eth := {}
  per     : Periph := {}
  dsv     : Dsv := {}
  pcie    : Pcie := {}
  pwr     : Power := {}
  clk     : Clk := {}
  thm     : Therm := {}
  ms      : Mem := {}
  /-- counts that telemetry alone reports (R860), by 65536 * kind + 16 * unit + place -/
  stats   : Table Nat := []
  /-- how often each interrupt line has been raised -/
  irqs    : Table Nat := []
  resp    : Resp := {}
  /-- the model's own counter of free values drawn -/
  fresh   : Nat := 0
  /-- the commands waiting, the first in first -/
  pending : List Instr := []
  deriving DecidableEq, Repr

/-- The device right after reset. -/
def State.reset : State := {}

end Sys2Proof.Machine
end

