-- ==== Sys2Proof/Machine/Ops.lean ====
section
/-! DEFINITION. The operations every family shares: registers, line positions and time, raising an error record
(R844-R851, R910), and a unit's access to DRAM under the firewall (R734-R737) and the usable range (R626-R628, R650,
R651). -/

namespace Sys2Proof.Machine

open Sys2Proof

/-! ## Registers and tables of the state -/

/-- The register word at an address, as it stands in the register file. -/
def State.reg (s : State) (a : Nat) : Word := tget resetOf s.regs a

/-- The state with a register word replaced. -/
def State.setReg (s : State) (a : Nat) (v : Word) : State := { s with regs := tset resetOf s.regs a v }

/-- A field of a register. -/
def State.rf (s : State) (a hi lo : Nat) : Nat := fld (s.reg a) hi lo

/-- A bit of a register. -/
def State.rb (s : State) (a i : Nat) : Bool := bit (s.reg a) i

/-- The state with a field of a register replaced. -/
def State.setRf (s : State) (a hi lo v : Nat) : State := s.setReg a (setFld (s.reg a) hi lo v)

/-- The state with a saturating counter register increased. -/
def State.inc (s : State) (a n : Nat) : State := s.setReg a (satInc (s.reg a) n)

/-- The state with a wrapping counter register increased. -/
def State.incWrap (s : State) (a n : Nat) : State := s.setReg a (s.reg a + w32 n)

/-- A line domain. -/
def State.dom (s : State) (d : Nat) : Dom := tget (fun _ => {}) s.doms d
/-- The state with a line domain replaced. -/
def State.setDom (s : State) (d : Nat) (x : Dom) : State := { s with doms := tset (fun _ => {}) s.doms d x }
/-- An FSYNC_OUT pin. -/
def State.pin (s : State) (i : Nat) : Pin := tget (fun _ => {}) s.pins i
/-- The state with a pin replaced. -/
def State.setPin (s : State) (i : Nat) (x : Pin) : State := { s with pins := tset (fun _ => {}) s.pins i x }
/-- A pass queue. -/
def State.queue (s : State) (n : Nat) : Queue := tget (fun _ => {}) s.pass.queues n
/-- The state with a pass queue replaced. -/
def State.setQueue (s : State) (n : Nat) (x : Queue) : State :=
  { s with pass := { s.pass with queues := tset (fun _ => {}) s.pass.queues n x } }
/-- A handle pool. -/
def State.pool (s : State) (n : Nat) : Pool := tget (fun _ => {}) s.pass.pools n
/-- The state with a pool replaced. -/
def State.setPool (s : State) (n : Nat) (x : Pool) : State :=
  { s with pass := { s.pass with pools := tset (fun _ => {}) s.pass.pools n x } }
/-- A tensor core. -/
def State.core (s : State) (n : Nat) : Core := tget (fun _ => {}) s.cores n
/-- The state with a tensor core replaced. -/
def State.setCore (s : State) (n : Nat) (x : Core) : State := { s with cores := tset (fun _ => {}) s.cores n x }
/-- A context, by 4 * core + context. -/
def State.ctx (s : State) (k : Nat) : Ctx := tget (fun _ => {}) s.ctxs k
/-- The state with a context replaced. -/
def State.setCtx (s : State) (k : Nat) (x : Ctx) : State := { s with ctxs := tset (fun _ => {}) s.ctxs k x }
/-- An illuminator channel. -/
def State.ill (s : State) (n : Nat) : Illum := tget (fun _ => {}) s.ills n
/-- The state with an illuminator channel replaced. -/
def State.setIll (s : State) (n : Nat) (x : Illum) : State := { s with ills := tset (fun _ => {}) s.ills n x }

/-- A count that telemetry alone reports: record kind, unit, place. -/
def State.stat (s : State) (kind unit i : Nat) : Nat := tget (fun _ => 0) s.stats (65536 * kind + 16 * unit + i)

/-- The state with such a count changed. -/
def State.setStat (s : State) (kind unit i : Nat) (f : Nat → Nat) : State :=
  { s with stats := tset (fun _ => 0) s.stats (65536 * kind + 16 * unit + i) (f (s.stat kind unit i)) }

/-- The interrupts the spec names: the LPT event lines, a queue's watermark, the record rings and the mailbox of the
DSV, the power-down notice, GPIO edges, in-band I3C interrupts, PCIe interrupts and MSI-X vectors. -/
inductive Irq where
  | lptEvent | watermark (q : Nat) | dsvError | dsvMail | powerDown | gpio | pcie (v : Nat) | msix (v : Nat)
  deriving DecidableEq, Repr

/-- The key of an interrupt in the table of those raised. -/
def Irq.key : Irq → Nat
  | .lptEvent => 0 | .dsvError => 1 | .dsvMail => 2 | .powerDown => 3 | .gpio => 4
  | .watermark q => 256 + q | .pcie v => 512 + v | .msix v => 1024 + v

/-- An interrupt raised once more. -/
def State.irq (s : State) (i : Irq) : State :=
  { s with irqs := tset (fun _ => 0) s.irqs i.key (tget (fun _ => 0) s.irqs i.key + 1) }

/-- A free value (the counter moves on, so that no two draws are the same application). -/
def State.draw (s : State) : Word × State := (Config.freeWord s.fresh, { s with fresh := s.fresh + 1 })

/-- `f` applied to the state for each number of a list. -/
def forEach (l : List Nat) (f : Nat → State → State) (s : State) : State := l.foldl (fun t i => f i t) s

/-! ## Time and line positions -/

/-- Ticks in a microsecond count, rounded up (R55: 1.2288 GHz). -/
def usTicks (us : Nat) : Nat := cdiv (us * 12288) 10

/-- Ticks in a millisecond count. -/
def msTicks (ms : Nat) : Nat := ms * 1228800

/-- Ticks in a nanosecond count, rounded up. -/
def nsTicks (ns : Nat) : Nat := cdiv (ns * 12288) 10000

/-- Ticks in a second. -/
def tickHz : Nat := 1228800000

/-- The TOD after `k` raw ticks at the trim in force: each advances it by 1 + RATE * 2^-40 ticks. -/
def Tod.advance (t : Tod) (rate : Int) (k : Nat) : Tod :=
  let q : Nat := 2 ^ 40
  let tot : Int := (t.tick * q + t.frac : Nat) + (k : Int) * ((q : Int) + rate)
  let n := tot.toNat
  { t with sec := (t.sec + n / (tickHz * q)) % 2 ^ 48, tick := n / q % tickHz, frac := n % q, placed := t.placed && k == 0 }

/-- The state `k` ticks later. While REFCLK is lost the TOD stands (R788). -/
def State.ticks (s : State) (k : Nat) : State :=
  { s with now := s.now + k, tod := if s.pwr.refLost.isSome then s.tod else s.tod.advance (sx 32 (s.reg Addr.lptTodRate).toNat) k }

/-- The state at tick `t`, or as it is when that tick has passed. -/
def State.goto (s : State) (t : Nat) : State := if s.now < t then s.ticks (t - s.now) else s

/-- The present time in 2^-16 ticks. -/
def State.now16 (s : State) : Nat := s.now * 65536

/-- The first tick not earlier than an exact time (R56). -/
def tickOf16 (t : Nat) : Nat := cdiv t 65536

/-- The line period in force of a domain, in 2^-16 ticks: programmed for a master; the mean of the measured intervals
for a slaved domain, or the programmed one before any (R65, R67). -/
def Dom.per (x : Dom) : Nat :=
  if x.slaved then (match x.ivs with | [] => x.period | l => l.foldl (· + ·) 0 / l.length) else x.period

/-- The start of line `l` of the present frame of a master domain, its anchor correction spread over the lines, to 2^-16
ticks (R55, R84). -/
def Dom.lineStart (x : Dom) (l : Nat) : Nat :=
  ((x.frameAt + l * x.period : Nat) + x.adj * l / (x.flenM1 + 1 : Nat)).toNat

/-- The first tick not earlier than the exact time of position `p` of a master domain's present frame (R55, R56, R84): the
time is taken in units of 2^-16 / (256 N) ticks, in which it is whole. -/
def Dom.posTick (x : Dom) (p : Nat) : Nat :=
  let n := 256 * (x.flenM1 + 1)
  cdiv ((x.frameAt * n + p * x.period * (x.flenM1 + 1) : Nat) + x.adj * p).toNat (n * 65536)

/-- The published position within the frame, in 1/256 lines (R65, R74, R911). -/
def Dom.pub (x : Dom) (t16 : Nat) : Nat :=
  if !x.running then x.hold
  else if x.per = 0 then max x.floor (x.line * 256)
  else
    let p := x.line * 256 + (t16 - x.lineAt) * 256 / x.per
    if x.slaved then max x.floor (min p (x.flenM1 * 256 + 255))
    else min p (x.line * 256 + 255)

/-- The published position of a domain. -/
def State.pub (s : State) (d : Nat) : Nat := (s.dom d).pub s.now16

/-- Frame `b` is later than frame `a`, or exactly 2^31 away counts as reached (R15): whether position (f, p) has been
reached when the domain stands at (g, q). -/
def reached (f p g q : Nat) : Bool :=
  let k := (g + 2 ^ 32 - f % 2 ^ 32) % 2 ^ 32
  if k = 0 then decide (p ≤ q) else decide (k ≤ 2 ^ 31)

/-- Whether a position of a domain has been reached, or the domain is not running (R169, R211). -/
def State.posReached (s : State) (d f p : Nat) : Bool :=
  let x := s.dom d
  !x.running || reached f p x.frame (s.pub d)

/-- LOCKED of a domain: GROUP of LPT_LD_CTRL_n is 1 and it runs (R39). -/
def State.lockedRunning (s : State) (d : Nat) : Bool := (s.dom d).running && s.rf (Addr.lptLdCtrl d) 28 27 == 1

/-- The running LOCKED domains. -/
def State.lockedDomains (s : State) : List Nat := (List.range 8).filter s.lockedRunning

/-- Whether background work runs when it falls due, without placement: no LOCKED domain runs (R40). -/
def State.unplaced (s : State) : Bool := s.lockedDomains == []

/-! ## Error records -/

/-- The number of a code (R844). -/
def Code.num : Code → Nat
  | .cfg => 0x001 | .recLost => 0x002 | .audit => 0x003 | .fsLate => 0x101 | .domainStopped => 0x102
  | .schedRange => 0x103 | .schedSkip => 0x104 | .sfeOverflow => 0x201 | .csiCrc => 0x202 | .csiLen => 0x203
  | .csiEcc => 0x204 | .csiSync => 0x205 | .sfeShort => 0x206 | .groupDrop => 0x207 | .tile => 0x301
  | .illegalOp => 0x302 | .desc => 0x303 | .fetchPoison => 0x304 | .deadline => 0x305 | .parityReplayed => 0x306
  | .parityPoisoned => 0x307 | .accParity => 0x308 | .dbgWindow => 0x309 | .staleHandle => 0x401 | .swHandle => 0x402
  | .flushed => 0x403 | .barrier => 0x404 | .barrierShort => 0x405 | .wchMatch => 0x406 | .wchParity => 0x407
  | .wchOff => 0x408 | .fmtSkip => 0x501 | .fmtLate => 0x502 | .fmtGap => 0x503 | .dppJob => 0x601 | .dppAbort => 0x602
  | .vencInput => 0x701 | .vencSkip => 0x702 | .vencNoref => 0x703 | .vencLate => 0x704 | .vencMap => 0x705
  | .vencEvid => 0x706 | .vencCmd => 0x707 | .vdecSyntax => 0x801 | .vdecNoref => 0x802 | .vdecBudget => 0x803
  | .vdecBounds => 0x804 | .vdecUnsup => 0x805 | .vdecInput => 0x806 | .vdecSkip => 0x807 | .snoopTimeout => 0x901
  | .cpuPoison => 0x902 | .memCe => 0xA01 | .memUe => 0xA02 | .partialWrite => 0xA03 | .memRange => 0xA04
  | .memForced => 0xA05 | .memTrain => 0xA06 | .pcieUr => 0xB01 | .pciePoison => 0xB02 | .pcieCto => 0xB03
  | .pcieLink => 0xB04 | .ethOverrun => 0xB05 | .ethPoison => 0xB06 | .i3cXfer => 0xB07 | .uartOverrun => 0xB08
  | .gpioCap => 0xB09 | .illShort => 0xC01 | .illOvercurrent => 0xC02 | .illMaxon => 0xC03 | .illUv => 0xC04
  | .bootImage => 0xD01 | .fwDeny => 0xD02 | .dcReject => 0xD03 | .evidExposed => 0xD04 | .tagIntegrity => 0xD05
  | .pwrSeq => 0xE01 | .pwrPg => 0xE02 | .refclk => 0xE03 | .pmbus => 0xE04 | .thmTrip => 0xF01 | .thmSoft => 0xF02
  | .thmSensor => 0xF03 | .coolantLoss => 0xF04 | .coolantHot => 0xF05 | .thmBudget => 0xF06 | .pumpStall => 0xF07

/-- The class of a code (R844); where the table names two, the first, and the raiser gives the other. -/
def Code.cls : Code → Cls
  | .audit | .domainStopped | .tile | .illegalOp | .desc | .fetchPoison | .staleHandle | .barrier | .snoopTimeout => .halted
  | .fsLate | .csiEcc | .deadline | .wchMatch | .fmtLate | .vencNoref | .vencLate | .memCe | .memForced | .memTrain
  | .illMaxon | .bootImage | .tagIntegrity | .pmbus | .thmSoft | .thmSensor | .coolantLoss | .coolantHot
  | .pumpStall => .corrected
  | .parityReplayed => .replayed
  | .csiCrc | .csiLen | .parityPoisoned | .accParity | .wchParity | .wchOff | .fmtGap | .vdecSyntax | .vdecNoref
  | .vdecBudget | .vdecBounds | .cpuPoison | .memUe | .pciePoison | .ethPoison => .poisoned
  | .pwrSeq | .pwrPg | .refclk | .thmTrip | .thmBudget => .fatal
  | .cfg | .recLost | .schedRange | .schedSkip | .sfeOverflow | .csiSync | .sfeShort | .groupDrop | .dbgWindow
  | .swHandle | .flushed | .barrierShort | .fmtSkip | .dppJob | .dppAbort | .vencInput | .vencSkip | .vencMap
  | .vencEvid | .vencCmd | .vdecUnsup | .vdecInput | .vdecSkip | .partialWrite | .memRange | .pcieUr | .pcieCto
  | .pcieLink | .ethOverrun | .i3cXfer | .uartOverrun | .gpioCap | .illShort | .illOvercurrent | .illUv | .fwDeny
  | .dcReject | .evidExposed => .dropped

/-- The number of a class (R845). -/
def Cls.num : Cls → Nat
  | .corrected => 0 | .replayed => 1 | .poisoned => 2 | .dropped => 3 | .halted => 4 | .fatal => 5

/-- One bit of a CRC-32 (IEEE 802.3, reflected). -/
def crcBit (c : Nat) : Nat := if c % 2 = 1 then (c / 2).xor 0xEDB88320 else c / 2

/-- One byte of a CRC-32. -/
def crcByte (c : Nat) (b : Byte) : Nat :=
  let x := c.xor b.toNat
  crcBit (crcBit (crcBit (crcBit (crcBit (crcBit (crcBit (crcBit x)))))))

/-- The CRC-32 of a run of bytes (R252). -/
def crc32 (l : Bytes) : Nat := (l.foldl crcByte 0xFFFFFFFF).xor 0xFFFFFFFF

/-- The address of the tag register of a unit (R846). -/
def tagAddr (kind inst : Nat) : Option Nat :=
  match kind with
  | 0x01 => some (Addr.lptLdTag inst)
  | 0x02 => some (Addr.sfeCtxTag inst)
  | 0x03 => some (Addr.tcTag inst)
  | 0x04 => some (Addr.tcCxTag (inst / 4) (inst % 4))
  | 0x06 => some (Addr.passPlTag inst)
  | 0x09 => some (Addr.fmtOsTag inst)
  | 0x0A => some Addr.dppTag
  | 0x0B => some (Addr.vencTag inst)
  | 0x0C => some (Addr.vencSTag (inst / 16) (inst % 16))
  | 0x0D => some Addr.vdecTag
  | 0x0E => some (Addr.vdecSTag inst)
  | 0x12 => some (Addr.ethTag inst)
  | 0x16 => some (Addr.illTag inst)
  | 0x17 => some Addr.dsvTag
  | _ => none

/-- The eight words of a tag register. -/
def State.tagWords (s : State) (a : Nat) : List Word :=
  [0, 1, 2, 3, 4, 5, 6, 7].map fun i => tget (fun _ => 0) s.regs (a + 4 * i)

/-- The unit-tag hash of a unit (R757, R846). -/
def State.tagHash (s : State) (kind inst : Nat) : Word :=
  match tagAddr kind inst with
  | none => 0
  | some a =>
    let ws := s.tagWords a
    if ws.all (· == 0) then 0
    else
      let h := crc32 (ws.flatMap fun w => leBytes 4 w.toNat)
      if h = 0 then 1 else w32 h

/-- A line position as a record packs it (R845): domain, frame, position in 1/256 lines. -/
def posWord (d frame p : Nat) : Nat := d * 2 ^ 29 + frame % 2048 * 2 ^ 18 + p / 256 % 65536 * 4 + p % 256 / 64

/-- The position word of bytes 8-11 of a record (R845, R847): none when no domain applies or it is stopped. -/
def State.recPos (s : State) (dom : Option Nat) : Option (Nat × Nat) :=
  let d := match dom with
    | some d => some d
    | none => if s.rb Addr.dsvErrCtrl 8 then some (s.rf Addr.dsvErrCtrl 2 0) else none
  match d with
  | none => none
  | some d =>
    let x := s.dom d
    if x.running then
      let p := s.pub d
      some (d, posWord d x.frame p)
    else none

/-- The record of an occurrence detected now. -/
def State.mkRec (s : State) (c : Code) (k : Cls) (kind inst : Nat) (dom : Option Nat) (detail : List (Nat × Nat)) : ErrRec :=
  { code := c, cls := k, kind := kind, inst := inst, tagHash := s.tagHash kind inst, pos := s.recPos dom,
    todSec := s.tod.sec % 2 ^ 32, todTick := s.tod.tick, holdover := s.tod.holdover, detail := detail }

/-- A record posted to the collector (R852). -/
def State.postRec (s : State) (r : ErrRec) : State :=
  { s with coll := { s.coll with posted := s.coll.posted ++ [r] } }

/-- A record that another event of its tick undoes, withdrawn before the collector takes it (R195, R722). -/
def State.unpost (s : State) (r : ErrRec) : State :=
  { s with coll := { s.coll with posted := s.coll.posted.erase r } }

/-- A code raised with a class of the raiser's choosing (R847-R851). -/
def State.raiseC (s : State) (c : Code) (k : Cls) (kind inst : Nat) (dom : Option Nat) (detail : List (Nat × Nat)) : State :=
  s.postRec (s.mkRec c k kind inst dom detail)

/-- A code raised with its class. -/
def State.raise (s : State) (c : Code) (kind inst : Nat) (dom : Option Nat) (detail : List (Nat × Nat)) : State :=
  s.raiseC c c.cls kind inst dom detail

/-- E_CFG raised by a unit. -/
def State.cfgErr (s : State) (kind inst : Nat) : State := s.raise .cfg kind inst none []

/-- The key of a rate limit: a code and what it is keyed by. -/
def rateKey (c : Code) (sub : Nat) : Nat := c.num * 65536 + sub

/-- The interval of a key. -/
def State.rate (s : State) (key : Nat) : RateIv := tget (fun _ => {}) s.coll.rates key

/-- The state with a key's interval replaced. -/
def State.setRate (s : State) (key : Nat) (r : RateIv) : State :=
  { s with coll := { s.coll with rates := tset (fun _ => {}) s.coll.rates key r } }

/-- A rate-limited code (R910): a record at once when no interval is open for its key, else counted. The count of the
occurrences the record covers comes first in its detail. -/
def State.raiseKeyed (s : State) (c : Code) (sub kind inst : Nat) (dom : Option Nat) (detail : List (Nat × Nat)) : State :=
  let key := rateKey c sub
  let r := s.rate key
  let rec_ := s.mkRec c c.cls kind inst dom ((4, 1) :: detail)
  if r.opened.isSome then
    s.setRate key { r with count := r.count + 1, first := match r.first with | none => some rec_ | some f => some f }
  else (s.setRate key { opened := some s.now, count := 0, first := none }).postRec rec_

/-! ## DRAM -/

/-- Where DRAM begins (R627, R869). -/
def dramBase : Nat := 0x100000000

/-- The end of the DRAM range of the address map (R869). -/
def dramEnd : Nat := 0x1100000000

/-- The first address above usable DRAM (R627), of the configuration in MEM_CFG and ECC_EN. -/
def State.memTop (s : State) : Nat :=
  let size := 16 * 2 ^ s.rf Addr.memCfg 5 4 * 0x40000000
  dramBase + (if s.rb Addr.memCtrl 1 then size / 8 * 7 else size / 256 * 255)

/-- Whether DRAM answers at an address (R626, R628). -/
def State.memOk (s : State) (a : Nat) : Bool :=
  s.rb Addr.memStatus 31 && decide (dramBase ≤ a) && decide (a < s.memTop)

/-- Bit `i` of a Nat. -/
def nbit (n i : Nat) : Nat := n / 2 ^ i % 2

/-- XOR of the `w`-bit groups of `a` at `o + st * k` for k below `n`. -/
def xorGroups (a o st w : Nat) : Nat → Nat
  | 0 => 0
  | k + 1 => (a / 2 ^ (o + st * k) % 2 ^ w).xor (xorGroups a o st w k)

/-- The slice of a DRAM address (R629). -/
def sliceOf (p : Nat) : Nat := xorGroups ((p - dramBase) % 2 ^ 36) 8 3 3 10

/-- The channel within its slice of a DRAM address (R629). -/
def chanOf (p : Nat) : Nat := xorGroups ((p - dramBase) % 2 ^ 36) 11 4 1 7

/-- The channel-local address of a DRAM address (R629). -/
def localAddr (p : Nat) : Nat := (p - dramBase) % 2 ^ 36 / 4096 * 256 + p % 256

/-- log2 of the bytes of a channel: CAP of MEM_CFG (R625). -/
def State.chanBits (s : State) : Nat := 30 + s.rf Addr.memCfg 5 4

/-- The column of an address within its page (R630). -/
def memCol (p : Nat) : Nat := localAddr p % 2048

/-- The bank of an address within its rank (R630). -/
def memBank (p : Nat) : Nat := (localAddr p / 2 ^ 11 % 16).xor (localAddr p / 2 ^ 15 % 16)

/-- The rank of an address (R630). -/
def State.memRank (s : State) (p : Nat) : Nat := if s.rb Addr.memCfg 0 then localAddr p / 2 ^ (s.chanBits - 1) % 2 else 0

/-- The row of an address (R630). -/
def State.memRow (s : State) (p : Nat) : Nat :=
  localAddr p % 2 ^ (s.chanBits - b2n (s.rb Addr.memCfg 0)) / 2 ^ 15

/-- The bank of an address over the ranks of its channel. -/
def State.bankAt (s : State) (p : Nat) : Nat := 16 * s.memRank p + memBank p

/-- A memory slice. -/
def State.slice (s : State) (i : Nat) : MemSlice := tget (fun _ => {}) s.ms.slices i

/-- The state with a slice replaced. -/
def State.setSlice (s : State) (i : Nat) (x : MemSlice) : State :=
  { s with ms := { s.ms with slices := tset (fun _ => {}) s.ms.slices i x } }

/-- The classes in which an initiator's requests travel, its usual one first (R29, R30, R42, R129, R457, R494, R529, R566,
R589, R671, R683, R756, R855; the chain head's are those of its groups, chapter 09). The spec names no class for JTAG: the
model takes CTRL (DESIGN CHOICE, log entry 82). -/
def qosOf : Initiator → List Qos
  | .sfe => [.line] | .tc _ => [.tensor, .line] | .wch => [.tensor, .line] | .fmt => [.line] | .dpp => [.tensor, .live]
  | .venc _ => [.bulk, .live, .ctrl] | .vdec => [.bulk] | .cpu _ => [.ctrl] | .pcie => [.bulk] | .host => [.bulk]
  | .eth _ => [.bulk] | .jtag => [.ctrl] | .sup => [.bulk, .ctrl]

/-- The class in which an initiator's request travels: the one asked for where the initiator has it. -/
def qosFor (who : Initiator) (cls : Qos) : Qos := if (qosOf who).contains cls then cls else (qosOf who).headD cls

/-- `n` bytes requested from the slice of an address: LINE-class bytes count in its present 8 us window (R637, R638). -/
def State.lineUse (s : State) (cls : Qos) (a n : Nat) : State :=
  if cls = .line then s.setSlice (sliceOf a) { s.slice (sliceOf a) with lineBytes := (s.slice (sliceOf a)).lineBytes + n } else s

/-- The firewall identity of an initiator (table of chapter 18). -/
def fwId : Initiator → Nat
  | .sfe => 0 | .tc _ => 1 | .wch => 1 | .fmt => 2 | .dpp => 3 | .venc n => if n = 0 then 4 else 5 | .vdec => 6
  | .cpu _ => 7 | .pcie => 8 | .host => 8 | .eth n => if n = 0 then 9 else 10 | .jtag => 11 | .sup => 15

/-- Whether window `w` is enabled and contains an address (R734). -/
def State.fwHit (s : State) (w a : Nat) : Bool :=
  let r x := tget (fun _ => 0) s.regs x
  bit (r (Addr.dsvFwCtrl w)) 31 && decide (fld (r (Addr.dsvFwBase w)) 27 0 * 4096 ≤ a) &&
    decide (a ≤ fld (r (Addr.dsvFwLimit w)) 27 0 * 4096 + 4095)

/-- The first window from `w`, `n` windows on, that governs an address. -/
def State.fwFrom (s : State) (a w : Nat) : Nat → Option Nat
  | 0 => none
  | n + 1 => if s.fwHit w a then some w else s.fwFrom a (w + 1) n

/-- The governing window of an address: the lowest-numbered enabled one (R735). -/
def State.fwGov (s : State) (a : Nat) : Option Nat := s.fwFrom a 0 64

/-- Whether the firewall grants an access (R734-R736). -/
def State.fwAllow (s : State) (who : Initiator) (a : Nat) (write : Bool) : Bool :=
  if who = .sup then true else
  match s.fwGov a with
  | none => false
  | some w => bit (tget (fun _ => 0) s.regs (Addr.dsvFwPerm w)) (2 * fwId who + b2n write)

/-- E_FW_DENY for a denied access, with its governing window where the windows judged it (R737). -/
def State.fwDeny (s : State) (who : Initiator) (win : Option Nat) (a : Nat) (write : Bool) : State :=
  let w := win.getD 255
  s.raiseKeyed .fwDeny (fwId who * 256 + w) 0x17 0 none [(1, fwId who), (1, w), (1, b2n write), (5, a)]

/-- E_MEM_RANGE for an address. -/
def State.rangeErr (s : State) (a : Nat) : State :=
  s.raise .memRange 0x10 (sliceOf a) none [(1, sliceOf a), (1, chanOf a)]

/-- The byte of DRAM at an address. -/
def State.byte (s : State) (a : Nat) : Byte := tget (fun _ => 0) s.mem a

/-- The state with a byte of DRAM replaced. -/
def State.setByte (s : State) (a : Nat) (v : Byte) : State := { s with mem := tset (fun _ => 0) s.mem a v }

/-- Consecutive bytes of DRAM replaced. -/
def State.setBytes (s : State) (a : Nat) : Bytes → State
  | [] => s
  | b :: r => (s.setByte a b).setBytes (a + 1) r

/-- The poison of a DRAM sector. -/
def State.secPoison (s : State) (k : Nat) : Bool := tget (fun _ => false) s.memPoison k

/-- The state with the poison of a DRAM sector replaced. -/
def State.setSecPoison (s : State) (k : Nat) (b : Bool) : State :=
  { s with memPoison := tset (fun _ => false) s.memPoison k b }

/-- The poison of the sectors from `k` on after a write of [a, e): set by a poisoned write, cleared where an unpoisoned
write covers the whole sector, else kept (R650, R651). -/
def State.sweepPoison (s : State) (a e : Nat) (poison : Bool) (k : Nat) : Nat → State
  | 0 => s
  | n + 1 =>
    let s := if poison then s.setSecPoison k true
      else if a ≤ 32 * k ∧ 32 * k + 32 ≤ e then s.setSecPoison k false else s
    s.sweepPoison a e poison (k + 1) n

/-- Stored uncorrectable words wholly overwritten by [a, e) hold good data again. -/
def State.sweepUe (s : State) (a e : Nat) (k : Nat) : Nat → State
  | 0 => s
  | n + 1 =>
    let s := if a ≤ 8 * k ∧ 8 * k + 8 ≤ e then { s with memUe := tset (fun _ => false) s.memUe k false } else s
    s.sweepUe a e (k + 1) n

/-- Bytes written to DRAM at an address, with or without poison (R631, R650, R651). -/
def State.dramPut (s : State) (a : Nat) (data : Bytes) (poison : Bool) : State :=
  let e := a + data.length
  if data = [] then s else
  let s := s.setStat 8 (sliceOf a) 2 (· + data.length)
  let s := { s with ms := { s.ms with ceBack := s.ms.ceBack.filter fun l => !(decide (a / 64 ≤ l / 64) && decide (l / 64 ≤ (e - 1) / 64)) } }
  ((s.setBytes a data).sweepPoison a e poison (a / 32) (cdiv e 32 - a / 32)).sweepUe a e (a / 8) (cdiv e 8 - a / 8)

/-- Whether an address lies in the DRAM range. -/
def inDram (a : Nat) : Bool := decide (dramBase ≤ a) && decide (a < dramEnd)

/-- A run of bytes cut at 64-byte lines: (address, bytes) of each line touched. `fuel` bounds the lines. -/
def cutLines : Nat → Nat → Bytes → List (Nat × Bytes)
  | 0, _, _ => []
  | _, _, [] => []
  | fuel + 1, a, l =>
    let n := 64 - a % 64
    (a, l.take n) :: cutLines fuel (a + n) (l.drop n)

/-- Whether the 64-bit word at an address holds an uncorrectable error. -/
def State.ueWord (s : State) (a : Nat) : Bool := tget (fun _ => false) s.memUe (a / 8)

/-- The words that [a, a + n) touches, by address / 8. -/
def wordsOf (a n : Nat) : List Nat := (List.range (cdiv (a + n) 8 - a / 8)).map fun i => a / 8 + i

/-- The report of an uncorrectable error found at a sector (R648, R649). -/
def State.ueReport (s : State) (sec : Nat) : State :=
  let sl := sliceOf sec
  let s := (s.inc Addr.memUeCnt 1).setStat 8 sl 4 (· + 1)
  let s := (s.setReg (Addr.memMsUeLo sl) (w32 (sec / 32 * 32))).setReg (Addr.memMsUeHi sl) (w32 (sec / 2 ^ 32 % 256))
  s.raise .memUe 0x10 sl none [(1, sl), (1, chanOf sec)]

/-- A read finds the uncorrectable words of [a, a + n) that are not in poisoned sectors (R648, R651). -/
def State.ueRead (s : State) (a n : Nat) : State :=
  match (wordsOf a n).filter fun k => s.ueWord (8 * k) && !s.secPoison (k / 4) with
  | [] => s
  | k :: _ => s.ueReport (8 * k)

/-- Words of [a, a + n) that a write covers only in part and that hold an uncorrectable error. -/
def State.ueMerge (s : State) (a n : Nat) : List Nat :=
  (wordsOf a n).filter fun k => s.ueWord (8 * k) && !(decide (a ≤ 8 * k) && decide (8 * k + 8 ≤ a + n))

/-- A write to DRAM, as a read-modify-write where it covers part of a word: the merged sector of an uncorrectable word is
poisoned (R649). -/
def State.dramWrite (s : State) (a : Nat) (data : Bytes) (poison : Bool) : State :=
  let bad := s.ueMerge a data.length
  let s := s.dramPut a data poison
  bad.foldl (fun t k =>
    ({ t with memUe := tset (fun _ => false) t.memUe k false }.setSecPoison (k / 4) true).ueReport (8 * k)) s

/-- Runs of a masked write: (address, bytes) of consecutive bytes whose mask bit is set. -/
def maskRuns : Nat → Nat → Bytes → List (Nat × Bytes)
  | _, _, [] => []
  | a, m, b :: r =>
    let t := maskRuns (a + 1) (m / 2) r
    if m % 2 = 0 then t
    else match t with
      | (a2, bs) :: q => if a2 = a + 1 then (a, b :: bs) :: q else (a, [b]) :: t
      | [] => [(a, [b])]

/-- A run cut at 32-byte sectors. -/
def cutSectors : Nat → Nat → Bytes → List (Nat × Bytes)
  | 0, _, _ => []
  | _, _, [] => []
  | n + 1, a, l => let k := 32 - a % 32; (a, l.take k) :: cutSectors n (a + k) (l.drop k)

/-- The masked bytes of a run put into memory, each beat with its own poison: bit k of `poison` for beat k of the line (R631,
R649-R651). -/
def State.dramBeats (s : State) (a mask : Nat) (data : Bytes) (poison : Nat) : State :=
  (maskRuns a mask data).foldl (fun t r =>
    (cutSectors 4 r.1 r.2).foldl (fun u q => u.dramWrite q.1 q.2 (nbit poison (q.1 / 32 % 2) == 1)) t) s

/-- A unit's write of the part of one line, in its class (R628, R638, R735-R737, R870). The unit's request holds its write
entry within the step alone: the data is in the DRAM when the step ends (R636, log entry 82). -/
def State.writeLine (s : State) (who : Initiator) (cls : Qos) (a : Nat) (data : Bytes) (poison : Bool) : State :=
  if !inDram a then s.fwDeny who none a true
  else if !s.fwAllow who a true then s.fwDeny who (s.fwGov a) a true
  else if !s.memOk a then s.rangeErr a
  else (s.lineUse cls a data.length).dramWrite a data poison

/-- A unit's byte-masked write of one line, in its class (R272, R628, R735-R737, R870). -/
def State.writeMasked (s : State) (who : Initiator) (cls : Qos) (line mask : Nat) (data : Bytes) (poison : Nat) : State :=
  if !inDram line then s.fwDeny who none line true
  else if !s.fwAllow who line true then s.fwDeny who (s.fwGov line) line true
  else if !s.memOk line then s.rangeErr line
  else (s.lineUse cls line ((List.range 64).filter fun i => nbit mask i == 1).length).dramBeats line mask data poison

/-- A unit's write to memory. -/
def State.unitWrite (s : State) (who : Initiator) (cls : Qos) (a : Nat) (data : Bytes) (poison : Bool) : State :=
  (cutLines (data.length + 1) a data).foldl (fun t c => t.writeLine who cls c.1 c.2 poison) s

/-- The bytes of DRAM from an address, each with the poison of its beat (R648, R651). -/
def State.peek (s : State) (a : Nat) : Nat → List (Byte × Bool)
  | 0 => []
  | n + 1 => (s.byte a, s.secPoison (a / 32) || (List.range 4).any fun i => s.ueWord (a / 32 * 32 + 8 * i)) :: s.peek (a + 1) n

/-- `n` free bytes of one draw, marked poisoned. -/
def freeBytes (k : Nat) : Nat → List (Byte × Bool)
  | 0 => []
  | n + 1 => (Config.freeByte k n, true) :: freeBytes k n

/-- A unit's read of the part of one line, in its class: poisoned beats of free data when denied (R737), all ones outside
usable memory (R628). Its read credit is held within the step alone (R636, log entry 82). -/
def State.readLine (s : State) (who : Initiator) (cls : Qos) (a n : Nat) : List (Byte × Bool) × State :=
  if !inDram a then (freeBytes s.fresh n, (s.fwDeny who none a false).draw.2)
  else if !s.fwAllow who a false then (freeBytes s.fresh n, (s.fwDeny who (s.fwGov a) a false).draw.2)
  else if !s.memOk a then (List.replicate n (0xFF, false), s.rangeErr a)
  else (s.peek a n, ((s.lineUse cls a n).ueRead a n).setStat 8 (sliceOf a) 1 (· + n))

/-- The lines of a read: (address, length) of each. -/
def cutRead : Nat → Nat → Nat → List (Nat × Nat)
  | 0, _, _ => []
  | fuel + 1, a, n =>
    if n = 0 then [] else
    let k := min n (64 - a % 64)
    (a, k) :: cutRead fuel (a + k) (n - k)

/-- A unit's read of memory: each byte with its poison. -/
def State.unitRead (s : State) (who : Initiator) (cls : Qos) (a n : Nat) : List (Byte × Bool) × State :=
  (cutRead (n / 64 + 2) a n).foldl
    (fun p c => let (l, t) := p.2.readLine who cls c.1 c.2; (p.1 ++ l, t)) ([], s)

/-- The bytes of a read without their poison. -/
def plain (l : List (Byte × Bool)) : Bytes := l.map (·.1)

/-- Whether any byte of a read came with poison. -/
def anyPoison (l : List (Byte × Bool)) : Bool := l.any (·.2)

end Sys2Proof.Machine
end

