-- ==== Sys2Proof/Machine/Queue.lean ====
section
/-! DEFINITION. The operations of the pass unit that every producer and consumer shares (R381-R394, R397-R404, R421):
handles, allocation, push, pop, release, flush and bump. A holder is named by its producer code (R384); formatter
source s, which has none, by 0x70 + s. -/

namespace Sys2Proof.Machine

open Sys2Proof

/-- Holder code of context m of core n. -/
def hCtx (n m : Nat) : Nat := 4 * n + m
/-- Holder code of a sensor context. -/
def hSc (n : Nat) : Nat := 0x20 + n
/-- Holder code of an output stream. -/
def hOs (n : Nat) : Nat := 0x30 + n
/-- Holder code of an encoder. -/
def hVenc (e : Nat) : Nat := 0x60 + e
/-- Holder code of the decoder. -/
def hVdec : Nat := 0x62
/-- Holder code of the DPP. -/
def hDpp : Nat := 0x63
/-- Holder code of an application core's software. -/
def hCpu (k : Nat) : Nat := 0x64 + k
/-- Holder code of the supervisor. -/
def hSup : Nat := 0x68
/-- Holder code of a formatter source. -/
def hSrc (n : Nat) : Nat := 0x70 + n

/-- POOL of a handle's upper word (R382). -/
def hdPool (h : Word) : Nat := fld h 31 26
/-- GEN of a handle's upper word. -/
def hdGen (h : Word) : Nat := fld h 25 18
/-- INDEX of a handle's upper word. -/
def hdIdx (h : Word) : Nat := fld h 17 6
/-- A handle's upper word. -/
def mkHandle (pool gen idx : Nat) : Word := w32 (pool * 2 ^ 26 + gen % 256 * 2 ^ 18 + idx % 4096 * 2 ^ 6)
/-- The handle of a placeholder, which has no buffer. -/
def placeholder : Word := mkHandle 63 0 0

/-- COUNT of a pool. -/
def State.plCount (s : State) (p : Nat) : Nat := s.rf (Addr.passPlCfg p) 12 0
/-- Whether a pool is enabled: a pool 0-31 with buffers, while the pass unit is enabled (R21, R421). -/
def State.plOn (s : State) (p : Nat) : Bool := decide (p < 32) && decide (s.plCount p ≠ 0) && s.rb Addr.passCtrl 0
/-- BASE of a pool. -/
def State.plBase (s : State) (p : Nat) : Nat := s.rf (Addr.passPlBaseHi p) 7 0 * 2 ^ 32 + s.rf (Addr.passPlBaseLo p) 31 6 * 64
/-- SIZE of a pool. -/
def State.plSize (s : State) (p : Nat) : Nat := s.rf (Addr.passPlSize p) 28 6 * 64
/-- The address of a buffer (R386). -/
def State.bufAddr (s : State) (p i : Nat) : Nat := s.plBase p + i * s.plSize p
/-- The handle of an index at its pool's present generation. -/
def State.handle (s : State) (p i : Nat) : Word := mkHandle p (s.pool p).gen i

/-- The state of an index (R388). -/
inductive HState where
  | free | held (who : Nat) | queued
  deriving DecidableEq, Repr

/-- The holder of an index among the held ones. -/
def holderOf : List (Nat × Nat) → Nat → Option Nat
  | [], _ => none
  | (i, h) :: r, k => if i = k then some h else holderOf r k

/-- The state of an index of a pool. -/
def Pool.state (p : Pool) (i : Nat) : HState :=
  match holderOf p.held i with
  | some h => .held h
  | none => if i ∈ p.queued then .queued else .free

/-- Whether a handle names a buffer of an enabled pool at the pool's generation (R246, R416). -/
def State.fresh? (s : State) (h : Word) : Bool :=
  s.plOn (hdPool h) && decide (hdIdx h < s.plCount (hdPool h)) && decide (hdGen h = (s.pool (hdPool h)).gen)

/-- Whether a queue is enabled. -/
def State.pqOn (s : State) (q : Nat) : Bool := s.rb (Addr.passPqCfg q) 31 && s.rb Addr.passCtrl 0

/-- A statistic of a queue or pool that telemetry reports (R860), changed by `f`. -/
def bumpStat (t : Table (List Nat)) (n i : Nat) (f : Nat → Nat) (dflt : List Nat) : Table (List Nat) :=
  let l := tget (fun _ => dflt) t n
  tset (fun _ => dflt) t n (lset l i (f (lget 0 l i)))

/-- Statistics of a queue: peak occupancy, pushes, pops, pushes that waited, items flushed. -/
def State.pqStat (s : State) (q i : Nat) (f : Nat → Nat) : State :=
  { s with pass := { s.pass with pqStats := bumpStat s.pass.pqStats q i f [0, 0, 0, 0, 0] } }

/-- Statistics of a pool: handles taken below all (COUNT minus lowest FREE), failed allocations, bumps. -/
def State.plStat (s : State) (p i : Nat) (f : Nat → Nat) : State :=
  { s with pass := { s.pass with plStats := bumpStat s.pass.plStats p i f [0, 0, 0] } }

/-- Whether a queue that is flushing holds an item of a pool (R400). -/
def State.flushHolds (s : State) (p : Nat) : Bool :=
  (List.range 64).any fun q => (s.queue q).flushing && (s.queue q).items.any fun it => hdPool it.handle == p

/-- Whether a pool is in a bump, which starts when no queue that holds its items is flushing (R400). -/
def State.bumping (s : State) (p : Nat) : Bool := (s.pool p).bump != none && !s.flushHolds p

/-- An allocation (R388, R389, R400): the oldest free index, held by `who`. -/
def State.alloc (s : State) (who p : Nat) : Option Nat × State :=
  let x := s.pool p
  if s.plOn p = true ∧ s.bumping p = false then
    match x.free with
    | i :: r => (some i, (s.setPool p { x with free := r, held := (i, who) :: x.held }).plStat p 0 (max (s.plCount p - r.length)))
    | [] => (none, s.plStat p 1 (· + 1))
  else (none, s)

/-- The held pairs without index `i`. -/
def dropHeld (l : List (Nat × Nat)) (i : Nat) : List (Nat × Nat) := l.filter fun x => x.1 != i

/-- A release (R388): the index returns to FREE, the last in the order. -/
def State.release (s : State) (p i : Nat) : State :=
  let x := s.pool p
  match x.state i with
  | .held _ => s.setPool p { x with held := dropHeld x.held i, free := x.free ++ [i] }
  | _ => s

/-- The release of a buffer, where there is one. -/
def State.giveBack (s : State) (b : Option (Nat × Nat)) : State :=
  match b with
  | some x => s.release x.1 x.2
  | none => s

/-- The release of an item's buffer. -/
def State.dropItem (s : State) (it : Item) : State :=
  if hdPool it.handle = 63 then s else s.release (hdPool it.handle) (hdIdx it.handle)

/-- Every index of any pool that `who` holds returns to FREE (R394: a unit disabled or reset). -/
def State.releaseAll (s : State) (who : Nat) : State :=
  forEach (List.range 32) (fun p t =>
    let x := t.pool p
    let mine := (x.held.filter fun y => y.2 == who).map (·.1)
    if mine = [] then t
    else t.setPool p { x with held := x.held.filter fun y => y.2 != who, free := x.free ++ mine.reverse }) s

/-- How a push ends (R245, R396). -/
inductive Pushed where
  | done | noCredit | flushed | stale
  deriving DecidableEq, Repr

/-- Whether `who` may act on a queue now: nobody else waits ahead of it for what it wants, of which there are `n`. -/
def turnOf (l : List Nat) (who n : Nat) : Bool :=
  if l.contains who then decide (l.idxOf who < n) else decide (l.length < n)

/-- A push (R388, R390, R392, R401, R404). The handle of a placeholder is not compared (R246). -/
def State.push (s : State) (who q : Nat) (it : Item) : Pushed × State :=
  let x := s.queue q
  let p := hdPool it.handle
  let y := s.pool p
  let isHeld := match y.state (hdIdx it.handle) with | .held _ => true | _ => false
  if p ≠ 63 ∧ ¬ (s.fresh? it.handle = true ∧ isHeld = true) then (.stale, s)
  else if s.pqOn q = false ∨ x.flushing = true then
    (.flushed, s.setQueue q { x with pushWait := x.pushWait.filter (· != who) })
  else if p ≠ 63 ∧ s.bumping p = true then (.noCredit, s)
  else if turnOf x.pushWait who x.credits then
    let s := s.setQueue q { x with items := x.items ++ [it], credits := x.credits - 1, pushWait := x.pushWait.filter (· != who) }
    let s := if p = 63 then s
      else s.setPool p { y with held := dropHeld y.held (hdIdx it.handle), queued := y.queued ++ [hdIdx it.handle] }
    let n := x.items.length + 1
    let s := if s.rb (Addr.passPqWmark q) 31 = true ∧ s.rf (Addr.passPqWmark q) 4 0 = n then s.irq (.watermark q) else s
    (.done, (s.pqStat q 0 (max n)).pqStat q 1 (· + 1))
  else (.noCredit, s)

/-- `who` joins those that wait for a credit of a queue (R392). -/
def State.waitPush (s : State) (who q : Nat) : State :=
  let x := s.queue q
  if who ∈ x.pushWait then s else (s.setQueue q { x with pushWait := x.pushWait ++ [who] }).pqStat q 3 (· + 1)

/-- `who` joins those that wait for an item of a queue (R392). -/
def State.waitPop (s : State) (who q : Nat) : State :=
  let x := s.queue q
  if who ∈ x.popWait then s else s.setQueue q { x with popWait := x.popWait ++ [who] }

/-- `who` waits on a queue no more. -/
def State.unwait (s : State) (who q : Nat) : State :=
  let x := s.queue q
  s.setQueue q { x with popWait := x.popWait.filter (· != who), pushWait := x.pushWait.filter (· != who) }

/-- Whether `who` would receive an item of a queue now (R392, R400, R402, R404). -/
def State.canPop (s : State) (who q : Nat) : Bool :=
  let x := s.queue q
  match x.items with
  | [] => false
  | it :: _ => s.pqOn q && !x.flushing && turnOf x.popWait who x.items.length && !s.bumping (hdPool it.handle)

/-- A pop (R388, R390): the first item, its index held by the popper, its credit returned. -/
def State.pop (s : State) (who q : Nat) : Option Item × State :=
  let x := s.queue q
  match x.items with
  | [] => (none, s)
  | it :: r =>
    if s.canPop who q then
      let s := s.setQueue q { x with items := r, credits := x.credits + 1, popWait := x.popWait.filter (· != who) }
      let p := hdPool it.handle
      let y := s.pool p
      let s := if p = 63 then s
        else s.setPool p { y with queued := y.queued.filter (· != hdIdx it.handle), held := (hdIdx it.handle, who) :: y.held }
      (some it, s.pqStat q 2 (· + 1))
    else (none, s)

/-- A fixed-function unit's pop, which waits when it receives nothing (R394). -/
def State.unitPop (s : State) (who q : Nat) : Option Item × State :=
  match s.pop who q with
  | (some it, t) => (some it, t)
  | (none, _) => (none, s.waitPop who q)

/-- The index of a queued item returns to FREE (R401 step 2). -/
def State.freeQueued (s : State) (it : Item) : State :=
  let p := hdPool it.handle
  if p < 32 then
    let y := s.pool p
    s.setPool p { y with queued := y.queued.filter (· != hdIdx it.handle), free := y.free ++ [hdIdx it.handle] }
  else s

/-- A flush begins (R401 step 1). -/
def State.flushStart (s : State) (q : Nat) : State := s.setQueue q { s.queue q with flushing := true }

/-- A flush ends (R401 steps 2-4, R403). -/
def State.flushEnd (s : State) (q : Nat) : State :=
  let x := s.queue q
  let n := x.items.length
  let t := x.items.foldl State.freeQueued s
  let t := t.setQueue q { t.queue q with items := [], credits := x.credits + n, flushing := false }
  let t := forEach [0, 1, 2, 3] (fun k u =>
    if tget (fun _ => false) u.pass.staged k = true ∧ u.rf (Addr.passSwSel k) 5 0 = q then
      ({ u with pass := { u.pass with staged := tset (fun _ => false) u.pass.staged k false } }).setReg (Addr.passSwStatus k) 2
    else u) t
  let t := t.pqStat q 4 (· + n)
  if n = 0 then t else t.raise .flushed 0x05 q none [(1, n)]

/-- An item with its handle re-stamped where it is of pool `p`. -/
def Item.restamp (p g : Nat) (it : Item) : Item :=
  if hdPool it.handle = p then { it with handle := mkHandle p g (hdIdx it.handle) } else it

/-- A bump (R397): GEN rises by 1 modulo 256, the indices of the named holders return to FREE, the queued handles are
re-stamped. A fixed-function unit's handles are held as pool and index, so they follow the generation. -/
def State.bumpPool (s : State) (p : Nat) (names : List Nat) : State :=
  let x := s.pool p
  let g := (x.gen + 1) % 256
  let back := (x.held.filter fun y => names.contains y.2).map (·.1)
  let s := s.setPool p { x with gen := g, held := x.held.filter fun y => !names.contains y.2,
                                free := x.free ++ back.reverse, bump := none }
  let s := forEach (List.range 64) (fun q t =>
    let y := t.queue q
    if y.items.any (fun it => hdPool it.handle == p) then
      t.setQueue q { y with items := y.items.map (Item.restamp p g) }
    else t) s
  s.plStat p 2 (· + 1)

/-- A metadata word (R383). -/
def mkMeta (producer domain frame bucket flags last first : Nat) : BitVec 64 :=
  BitVec.ofNat 64 (producer % 256 * 2 ^ 56 + domain % 8 * 2 ^ 53 + frame % 2048 * 2 ^ 42 + bucket % 8 * 2 ^ 39
    + flags % 128 * 2 ^ 32 + last % 65536 * 2 ^ 16 + first % 65536)

/-- Flag bits of a metadata word, as `mkMeta` takes them: bit 0 TRUNCATED up to bit 6 EXCLUDED (R383). -/
def fTrunc : Nat := 1
def fLate : Nat := 2
def fMissing : Nat := 4
def fFrameEnd : Nat := 8
def fUser : Nat := 16
def fPoisoned : Nat := 32
def fExcluded : Nat := 64

/-- Bits [hi:lo] of a metadata word. -/
def mfld (m : BitVec 64) (hi lo : Nat) : Nat := m.toNat / 2 ^ lo % 2 ^ (hi + 1 - lo)

/-- A metadata word with bits [hi:lo] replaced. -/
def msetFld (m : BitVec 64) (hi lo v : Nat) : BitVec 64 :=
  BitVec.ofNat 64 (m.toNat - mfld m hi lo * 2 ^ lo + v % 2 ^ (hi + 1 - lo) * 2 ^ lo)

/-- The full frame number whose low 11 bits an item carries: the latest at or before the domain's present frame (R383). -/
def State.fullFrame (s : State) (d low : Nat) : Nat :=
  let f := (s.dom d).frame
  (f + 2 ^ 32 - (f + 2048 - low % 2048) % 2048) % 2 ^ 32

end Sys2Proof.Machine
end

