-- ==== Sys2Proof/Machine/Operands.lean ====
section
/-! DEFINITION. The operands of a tensor-core instruction (R214-R217, R302-R314, R323): element types, element
addresses in the four spaces, loop nests with their splits, footprints, and reading and writing elements with their
poison (R228, R268, R269, R281). A linear address counts bytes: of DRAM, of the scratchpad, of the accumulator (four
to an entry), of the trays (8,192 to a line). -/

namespace Sys2Proof.Machine

open Sys2Proof

/-- The value of an element. -/
inductive Val where
  | int (i : Int)
  | flt (v : Fv)
  deriving DecidableEq, Repr

/-- Nibbles of an element of a type (R215). -/
def dtNib (t : Nat) : Nat := lget 2 [2, 2, 1, 4, 8, 4, 4, 8] t
/-- Whether a type is floating. -/
def dtFlt (t : Nat) : Bool := decide (5 ≤ t)
/-- The format of a floating type. -/
def dtFmt (t : Nat) : Fmt := if t = 5 then fp16 else if t = 6 then bf16 else fp32
/-- The least value of an integer type. -/
def dtLo (t : Nat) : Int := lget 0 [-128, 0, -8, -32768, -2147483648] t
/-- The greatest value of an integer type. -/
def dtHi (t : Nat) : Int := lget 0 [127, 255, 7, 32767, 2147483647] t

/-- The value a bit pattern has in a type. -/
def dtDec (t bits : Nat) : Val :=
  if dtFlt t then .flt ((dtFmt t).dec (bits % 2 ^ (4 * dtNib t)))
  else if t = 1 then .int (bits % 256 : Nat)
  else .int (sx (4 * dtNib t) bits)

/-- The value as a floating one. -/
def Val.fv : Val → Fv
  | .int i => .ofInt i
  | .flt v => v

/-- The integer part of a value held as an integer; 0 for a floating one. -/
def Val.i : Val → Int
  | .int i => i
  | .flt _ => 0

/-- The bit pattern of a value converted to a type (R357): to an integer type saturating, a floating value to the
nearest integer with ties to even; to a floating type to nearest, ties to even. -/
def dtEnc (t : Nat) (v : Val) : Nat :=
  if dtFlt t then (dtFmt t).enc v.fv
  else match v with
    | .int i => ux (4 * dtNib t) (min (max i (dtLo t)) (dtHi t))
    | .flt f => ux (4 * dtNib t) (f.toInt (dtLo t) (dtHi t))

/-- The bytes of a space of a core: 0 scratchpad, 1 accumulator, 2 trays. -/
def Core.sbyte (c : Core) (space a : Nat) : Byte :=
  match space with
  | 0 => tget (fun _ => 0) c.spm a
  | 1 => BitVec.ofNat 8 (fld (tget (fun _ => 0) c.acc (a / 4)) 31 0 / 256 ^ (a % 4))
  | _ => tget (fun _ => 0) c.tray a

/-- The poison of the 32-byte sector that holds a byte of a space; while the failed parity of an accumulator entry is traced,
that entry reads as poisoned (R180). -/
def Core.spois (c : Core) (space a : Nat) : Bool :=
  match space with
  | 0 => tget (fun _ => false) c.spmPoison (a / 32)
  | 1 => c.taint == some (a / 4) || tget (fun _ => false) c.accPoison (a / 32)
  | _ => tget (fun _ => false) c.trayPoison (a / 32)

/-- The core with a byte of a space replaced. -/
def Core.setSbyte (c : Core) (space a : Nat) (v : Byte) : Core :=
  match space with
  | 0 => { c with spm := tset (fun _ => 0) c.spm a v, spmBad := tset (fun _ => false) c.spmBad (a / 4) false }
  | 1 => { c with acc := tset (fun _ => 0) c.acc (a / 4) (setFld (tget (fun _ => 0) c.acc (a / 4)) (8 * (a % 4) + 7) (8 * (a % 4)) v.toNat) }
  | _ => { c with tray := tset (fun _ => 0) c.tray a v }

/-- The core with the poison of a sector of a space replaced. -/
def Core.setSpois (c : Core) (space k : Nat) (b : Bool) : Core :=
  match space with
  | 0 => { c with spmPoison := tset (fun _ => false) c.spmPoison k b }
  | 1 => { c with accPoison := tset (fun _ => false) c.accPoison k b }
  | _ => { c with trayPoison := tset (fun _ => false) c.trayPoison k b }

/-- Consecutive bytes of a space as a number. -/
def Core.sword (c : Core) (space a : Nat) : Nat → Nat
  | 0 => 0
  | n + 1 => (c.sbyte space a).toNat + 256 * c.sword space (a + 1) n

/-- The pattern of an element at nibble address `na` of a space. -/
def Core.elemBits (c : Core) (space na nib : Nat) : Nat :=
  if nib = 1 then (c.sbyte space (na / 2)).toNat / 16 ^ (na % 2) % 16 else c.sword space (na / 2) (nib / 2)

/-- One byte to be written: its address, its value, whether it carries poison. -/
structure BWrite where
  addr   : Nat
  val    : Byte
  poison : Bool
  deriving DecidableEq, Repr

/-- The element writes of an operation: nibble address, nibbles, pattern, poison. -/
structure EWrite where
  na     : Nat
  nib    : Nat
  bits   : Nat
  poison : Bool
  deriving DecidableEq, Repr

/-- What one execution of an operation gives: its element writes, and the sectors that it excluded (R174). -/
structure VRes where
  writes : List EWrite
  excl   : List Nat
  deriving DecidableEq, Repr

/-- A core with an element written. -/
def Core.putElem (c : Core) (space : Nat) (w : EWrite) : Core :=
  if w.nib = 1 then
    let a := w.na / 2
    let o := (c.sbyte space a).toNat
    let v := if w.na % 2 = 0 then o / 16 * 16 + w.bits % 16 else o % 16 + w.bits % 16 * 16
    c.setSbyte space a (BitVec.ofNat 8 v)
  else
    (List.range (w.nib / 2)).foldl (fun c i => c.setSbyte space (w.na / 2 + i) (BitVec.ofNat 8 (w.bits / 256 ^ i))) c

/-- The sectors of a list of element writes, each once. -/
def wSectors (l : List EWrite) : List Nat :=
  (l.flatMap fun w => [w.na / 64, (w.na + w.nib - 1) / 64]).eraseDups

/-- Whether the writes cover every nibble of a sector. -/
def covers (l : List EWrite) (k : Nat) : Bool :=
  (List.range 64).all fun i => l.any fun w => decide (w.na ≤ 64 * k + i) && decide (64 * k + i < w.na + w.nib)

/-- The poison of the sectors written (R170, R268): a sector wholly written takes it from the data, else it keeps its
own beside the data's. -/
def Core.wPoison (c : Core) (space : Nat) (l : List EWrite) : Core :=
  (wSectors l).foldl (fun c k =>
    let p := l.any fun w => w.poison && (w.na / 64 == k || (w.na + w.nib - 1) / 64 == k)
    if p then c.setSpois space k true else if covers l k then c.setSpois space k false else c) c

/-- Words of the scratchpad that fail parity and are written only in part (R269). -/
def Core.mergeBad (c : Core) (l : List EWrite) : List Nat :=
  ((l.flatMap fun w => [w.na / 8, (w.na + w.nib - 1) / 8]).eraseDups).filter fun k =>
    tget (fun _ => false) c.spmBad k &&
      !(List.range 8).all fun i => l.any fun w => decide (w.na ≤ 8 * k + i) && decide (8 * k + i < w.na + w.nib)

/-- The writes of an operation performed on a core: bytes, parity, poison. -/
def Core.perform (c : Core) (space : Nat) (l : List EWrite) : Core :=
  let bad := if space = 0 then c.mergeBad l else []
  let c := (l.foldl (fun c w => c.putElem space w) c).wPoison space l
  bad.foldl (fun c k => c.setSpois 0 (k / 8) true) c

/-- Executions of one operation in turn, each reading what those before it wrote (R305, R309): together they write every element
once, with its last value. -/
def Core.inTurn {α : Type} (c : Core) (space : Nat) (l : List α) (f : Core → α → VRes) : VRes :=
  (l.foldl (fun p a =>
    let r := f p.1 a
    let old := p.2.writes.filter fun w => !(r.writes.any fun v => v.na == w.na && v.nib == w.nib)
    (p.1.perform space r.writes, (⟨old ++ r.writes, p.2.excl ++ r.excl⟩ : VRes))) (c, (⟨[], []⟩ : VRes))).2

/-- E_PARITY_POISONED for a scratchpad word, with its bank and row (R178, R262, R269). -/
def State.parityErr (s : State) (n w : Nat) : State :=
  s.raise .parityPoisoned 0x03 n (some (s.ctx (4 * n)).domain) [(1, w / 16 % 32), (2, w / 512)]

/-- The writes of an operation performed on core `n`, with the record of each partly written bad word (R269). -/
def State.perf (s : State) (n space : Nat) (l : List EWrite) : State :=
  let c := s.core n
  let bad := if space = 0 then c.mergeBad l else []
  bad.foldl (fun t w => t.parityErr n w) (s.setCore n (c.perform space l))

/-- A descriptor's effective base as a linear byte address (R216, R333). -/
def State.effBase (s : State) (n m : Nat) (d : Desc) : Int :=
  let off : Int := if d.offEn then sx 32 (s.reg (Addr.tcCxS n m d.offS)).toNat else 0
  match d.space with
  | 0 => d.addr + off
  | 1 => 4 * (d.addr + off)
  | 2 => 8192 * (d.addr + off)
  | _ => d.addr + 64 * off

/-- A nest stride in bytes of its operand's space (R304). -/
def spUnit (space : Nat) (st : Int) : Int :=
  match space with | 1 => 4 * st | 2 => 8192 * st | _ => st

/-- A descriptor's stride of dimension 1-3 in linear bytes; in the trays STRIDE2 counts lines (R214, R333). -/
def Desc.st (d : Desc) (k : Nat) : Nat :=
  let v := lget 0 d.str (k - 1)
  if d.space = 2 ∧ k = 2 then 8192 * v else v

/-- The nibble offset of an element from its operand's base. -/
def Desc.eoff (d : Desc) (i0 i1 i2 i3 : Nat) : Nat :=
  2 * (i1 * d.st 1 + i2 * d.st 2 + i3 * d.st 3) + i0 * dtNib d.dtype

/-- An extent of a descriptor. -/
def Desc.e (d : Desc) (k : Nat) : Nat := lget 0 d.ext k

/-- Elements of a descriptor. -/
def Desc.size (d : Desc) : Nat := d.e 0 * d.e 1 * d.e 2 * d.e 3

/-- Whether an array, vector or pooling index runs: the four indices of every element, dimension 0 fastest. -/
def Desc.elems (d : Desc) : List (Nat × Nat × Nat × Nat) :=
  (List.range (d.e 3)).flatMap fun l => (List.range (d.e 2)).flatMap fun k =>
    (List.range (d.e 1)).flatMap fun j => (List.range (d.e 0)).map fun i => (i, j, k, l)

/-- Row bands and channel groups of a split (R310). -/
def Nest.bands (t : Nest) : Nat × Nat :=
  match t.split with
  | 1 => (((List.range 8).filter fun i => nbit t.cores i = 1).length, 1)
  | 2 => (4, 2)
  | 3 => (2, 4)
  | 4 => (8, 1)
  | _ => (1, 1)

/-- The position of core `n` in a split (R310). -/
def Nest.place (t : Nest) (n : Nat) : Nat × Nat :=
  match t.split with
  | 1 => (((List.range n).filter fun i => nbit t.cores i = 1).length, 0)
  | 2 => (n / 2, n % 2)
  | 3 => (n / 4, n % 4)
  | 4 => (n, 0)
  | _ => (0, 0)

/-- The first and past-the-last index of part `q` of `b` parts of a bound (R311). -/
def partOf (n b q : Nat) : Nat × Nat :=
  let c := cdiv n b
  (min (q * c) n, min ((q + 1) * c) n)

/-- The range of indices of a level that core `n` executes (R312). -/
def Nest.range (t : Nest) (n l : Nat) : Nat × Nat :=
  let cnt := (lget ({} : Level) t.levels l).count
  if t.split = 0 then (0, cnt)
  else if l = t.rlev then partOf cnt t.bands.1 (t.place n).1
  else if l = t.clev ∧ t.bands.2 > 1 then partOf cnt t.bands.2 (t.place n).2
  else (0, cnt)

/-- Every combination of the indices of levels below `l`, level 0 fastest; each lists level 0 first (R305). -/
def Nest.combos (t : Nest) (n : Nat) : Nat → List (List Nat)
  | 0 => [[]]
  | l + 1 =>
    let r := t.range n l
    (List.range (r.2 - r.1)).flatMap fun i => (t.combos n l).map fun c => c ++ [r.1 + i]

/-- The sum over the levels of an index times a stride; the index counts from the part's first when `loc` (R313). -/
def Nest.sum (t : Nest) (n : Nat) (loc : Bool) (f : Level → Int) : Nat → List Nat → Int
  | _, [] => 0
  | l, i :: r =>
    let k : Nat := if loc then i - (t.range n l).1 else i
    (k : Int) * f (lget {} t.levels l) + t.sum n loc f (l + 1) r

/-- The executions of an instruction on core `n` (R305, R306, R323): the index vectors, those outside the valid region
left out under VMASK. No nest: one execution. -/
def Nest.iters (t : Nest) (n : Nat) (valid : Option (Nat × Nat)) : List (List Nat) :=
  let l := t.combos n t.nlev
  match t.vmask, valid with
  | true, some (h, w) => l.filter fun c =>
      decide (sx 32 (ux 32 (t.row0 + t.sum n false (·.drow) 0 c)) < h) && decide (sx 32 (ux 32 (t.col0 + t.sum n false (·.dcol) 0 c)) < w)
  | _, _ => l

/-- The nest of an instruction: none executes once. -/
def noNest : Nest := {}

/-- Bytes of the dense run of dimension 0 of an operand. -/
def Desc.run (d : Desc) : Nat := cdiv (d.e 0 * dtNib d.dtype) 2

/-- The outer indices (1-3) of a descriptor; none where an extent is zero. -/
def Desc.outer (d : Desc) : List (Nat × Nat × Nat) :=
  if d.e 0 = 0 then [] else
  (List.range (d.e 3)).flatMap fun l => (List.range (d.e 2)).flatMap fun k => (List.range (d.e 1)).map fun j => (j, k, l)

/-- The linear byte base of an operand in one execution (R305, R313). -/
def State.iterBase (s : State) (n m : Nat) (d : Desc) (t : Nest) (f : Level → Int) (c : List Nat) : Int :=
  s.effBase n m d + spUnit d.space (t.sum n (d.space != 3) f 0 c)

/-- The bounding interval [lo, hi) of an operand over the whole instruction (R217, R314); none when it is empty. -/
def State.footprint (s : State) (n m : Nat) (d : Desc) (t : Nest) (f : Level → Int) : Option (Int × Int) :=
  if d.size = 0 ∨ (List.range t.nlev).any (fun l => (t.range n l).1 == (t.range n l).2) = true then none
  else
    let span : Int := ((d.e 1 - 1) * d.st 1 + (d.e 2 - 1) * d.st 2 + (d.e 3 - 1) * d.st 3 + cdiv (d.e 0 * dtNib d.dtype) 2 : Nat)
    let ends := (List.range t.nlev).map fun l =>
      let r := t.range n l
      let o : Nat := if d.space = 3 then 0 else r.1
      let st := spUnit d.space (f (lget {} t.levels l))
      (min ((r.1 - o : Nat) * st) ((r.2 - 1 - o : Nat) * st), max ((r.1 - o : Nat) * st) ((r.2 - 1 - o : Nat) * st))
    let b := s.effBase n m d
    some (b + (ends.map (·.1)).foldl (· + ·) 0, b + (ends.map (·.2)).foldl (· + ·) 0 + span)

/-- A descriptor of a context. -/
def Ctx.desc (x : Ctx) (i : Nat) : Desc := tget (fun _ => {}) x.descs i

/-- The nest an instruction names. -/
def Ctx.nest (x : Ctx) (i : Nat) : Nest := if i < 64 then tget (fun _ => {}) x.nests i else noNest

/-- Bytes of a space read with the poison of the sectors they lie in, as an element (R170). -/
def Core.elem (c : Core) (d : Desc) (base : Int) (i0 i1 i2 i3 : Nat) : Val × Bool :=
  let na := (2 * base).toNat + d.eoff i0 i1 i2 i3
  let nib := dtNib d.dtype
  (dtDec d.dtype (c.elemBits d.space na nib), c.spois d.space (na / 2) || c.spois d.space ((na + nib - 1) / 2))

/-- The write of an element of an operand, converted to its type. -/
def Desc.wr (d : Desc) (base : Int) (i0 i1 i2 i3 : Nat) (v : Val) (p : Bool) : EWrite :=
  ⟨(2 * base).toNat + d.eoff i0 i1 i2 i3, dtNib d.dtype, dtEnc d.dtype v, p⟩

/-- The write of a raw pattern of an operand's element. -/
def Desc.wrBits (d : Desc) (base : Int) (i0 i1 i2 i3 : Nat) (bits : Nat) (p : Bool) : EWrite :=
  ⟨(2 * base).toNat + d.eoff i0 i1 i2 i3, dtNib d.dtype, bits, p⟩

/-! ## Resident weight regions -/

/-- VALID of a region (R280). -/
def State.resValid (s : State) (n k : Nat) : Bool := s.rb (Addr.spmResCtrl n k) 31
/-- BASE of a region. -/
def State.resBase (s : State) (n k : Nat) : Nat := s.rf (Addr.spmResCtrl n k) 21 0
/-- SIZE of a region. -/
def State.resSize (s : State) (n k : Nat) : Nat := s.rf (Addr.spmResSize n k) 22 0
/-- ORIGIN of a region. -/
def State.resOrg (s : State) (n k : Nat) : Nat := s.rf (Addr.spmResOrgHi n k) 7 0 * 2 ^ 32 + s.rf (Addr.spmResOrgLo n k) 31 6 * 64

/-- A region dissolves: VALID clears and its DISSOLVED bit is set (R281). -/
def State.dissolve (s : State) (n k : Nat) : State :=
  (s.setRf (Addr.spmResCtrl n k) 31 31 0).setRf (Addr.spmDissolved n) k k 1

/-- Whether two runs of bytes [lo, hi) share one. -/
def runsMeet (a b : Nat × Nat) : Bool := decide (max a.1 b.1 < min a.2 b.2)

/-- Every valid region of which a write of the given runs of scratchpad bytes touches a byte dissolves (R281), but for those that
`keep` spares (a load from the region's own origin). -/
def State.dissolveAt (s : State) (n : Nat) (runs : List (Nat × Nat)) (keep : Nat → Bool) : State :=
  forEach (List.range 16) (fun k t =>
    if t.resValid n k = true ∧ runs.any (runsMeet (t.resBase n k, t.resBase n k + t.resSize n k)) = true ∧ keep k = false
    then t.dissolve n k else t) s

/-- The ranges of the scoreboard that an interval of a space takes (R161). -/
def rangeOf (space : Nat) (fp : Option (Int × Int)) (write : Bool) : List Range :=
  match fp, space with
  | none, _ => []
  | some _, 3 => []
  | some (a, b), 0 => [⟨0, a.toNat / 64, cdiv b.toNat 64, write⟩]
  | some (a, b), 1 => [⟨1, a.toNat / 128, cdiv b.toNat 128, write⟩]
  | some (a, b), sp => [⟨sp, a.toNat / 8192, cdiv b.toNat 8192, write⟩]

/-- Whether two ranges conflict: they overlap and one writes (R162). -/
def Range.clash (a b : Range) : Bool :=
  decide (a.space = b.space) && decide (a.lo < b.hi) && decide (b.lo < a.hi) && (a.write || b.write)

end Sys2Proof.Machine
end

