-- ==== Sys2Proof/Machine/TcOps.lean ====
section
/-! DEFINITION. What every instruction row of a tensor core shares: the opcode map and its legality checks (R203-R205),
the issue window and the conditions of issue (R150-R162, R164, R219, R278), retirement (R153, R163, R166), the halt of a
context (R185), barriers (R406-R410), and the release of waits when a line domain stops (R169). -/

namespace Sys2Proof.Machine

open Sys2Proof

/-- Bits [hi:lo] of an instruction's MOD field, numbered within the instruction word (R201). -/
def mo (w : Insn) (hi lo : Nat) : Nat := w.mod / 2 ^ (lo - 80) % 2 ^ (hi + 1 - lo)

/-- A mask of the bits [hi:lo] of the instruction word within MOD. -/
def mm (hi lo : Nat) : Nat := (2 ^ (hi + 1 - lo) - 1) * 2 ^ (lo - 80)

/-- The MOD bits an opcode defines (R203, R222-R248); none for a value outside the opcode map (R205). -/
def modBits (op : Nat) : Option Nat :=
  match op with
  | 0x00 => some 0 | 0x01 => some 0 | 0x02 => some 0 | 0x03 => some 0
  | 0x04 => some (mm 80 80)
  | 0x05 => some (mm 83 80 + mm 115 84)
  | 0x06 => some 0
  | 0x07 => some (mm 113 84 + mm 82 80 + mm 120 120)
  | 0x08 => some (mm 113 84 + mm 82 80)
  | 0x09 => some (mm 84 80)
  | 0x10 => some 0 | 0x11 => some 0
  | 0x12 => some (mm 87 80)
  | 0x13 => some 0
  | 0x14 => some (mm 111 80)
  | 0x20 => some (mm 85 80)
  | 0x21 => some (mm 119 80) | 0x22 => some (mm 119 80)
  | 0x30 => some (mm 86 80 + mm 127 96)
  | 0x31 => some (mm 83 80) | 0x32 => some (mm 83 80) | 0x33 => some (mm 83 80)
  | 0x34 => some (mm 86 80)
  | 0x38 => some (mm 107 80)
  | 0x39 => some (mm 108 80)
  | 0x40 => some (mm 89 80)
  | 0x41 => some (mm 97 80)
  | 0x42 => some (mm 84 80 + mm 89 86)
  | 0x43 => some (mm 89 86)
  | 0x48 => some (mm 87 80) | 0x49 => some (mm 87 80)
  | 0x50 => some (mm 127 112 + mm 104 80)
  | 0x51 => some (mm 127 112 + mm 83 80)
  | 0x52 => some (mm 111 80)
  | 0x53 => some (mm 83 80 + mm 115 84) | 0x54 => some (mm 83 80 + mm 115 84)
  | 0x55 => some (mm 83 80 + mm 115 84)
  | 0x56 => some (mm 95 80 + mm 127 96)
  | 0x57 => some (mm 92 80)
  | _ => none

/-- The unit of an opcode (R205). -/
def opUnit (op : Nat) : TcUnit :=
  if op = 0x10 ∨ op = 0x12 then .ldu
  else if op = 0x11 ∨ op = 0x13 ∨ op = 0x14 then .stu
  else if 0x20 ≤ op ∧ op ≤ 0x22 then .dpa
  else if 0x30 ≤ op ∧ op ≤ 0x34 then .vxu
  else if op = 0x38 ∨ op = 0x39 then .plu
  else if 0x40 ≤ op ∧ op ≤ 0x49 then .pqu
  else .seq

/-- Whether an opcode uses OPA, OPB, DST and NEST (R205): OPB of VOP (0x30) is judged apart. -/
def opUses (op : Nat) : Bool × Bool × Bool × Bool :=
  match op with
  | 0x10 => (true, false, true, true) | 0x11 => (true, false, true, true) | 0x12 => (true, false, true, false)
  | 0x13 => (true, false, true, true) | 0x14 => (false, false, true, true)
  | 0x20 => (true, true, true, true) | 0x21 => (true, true, true, true) | 0x22 => (true, true, true, true)
  | 0x30 => (true, true, true, true) | 0x31 => (true, false, true, true) | 0x32 => (true, true, true, true)
  | 0x33 => (true, false, true, true) | 0x34 => (true, false, true, true)
  | 0x38 => (true, false, true, true) | 0x39 => (true, false, true, true)
  | _ => (false, false, false, false)

/-- Whether the position field holds no position (R208). -/
def noPos (w : Insn) : Bool := mo w 113 84 == 2 ^ 30 - 1

/-- Whether OPB of a VOP must be absent: B is immediate or the operation is unary (R236). -/
def vopNoB (w : Insn) : Bool := mo w 86 86 == 1 || mo w 84 80 == 5 || mo w 84 80 == 6

/-- The opcode's own legality checks on its modifiers (R208, R210, R223, R236, R248, R353). -/
def opLegal (op k : Nat) (w : Insn) : Bool :=
  match op with
  | 0x05 => mo w 115 84 / 2 ^ k % 2 == 1
  | 0x07 => (noPos w || mo w 85 84 != 3) && !(noPos w && mo w 120 120 == 1)
  | 0x08 => noPos w || mo w 85 84 != 3
  | 0x30 => decide (mo w 84 80 ≤ 11) && !((mo w 84 80 == 5 || mo w 84 80 == 6) && mo w 86 86 == 1) &&
      !(vopNoB w && w.opb != 0xFFFF)
  | 0x32 => decide (mo w 83 80 ≤ 1)
  | 0x50 => decide (mo w 127 112 ≠ 0)
  | 0x51 => decide (mo w 127 112 ≠ 0)
  | _ => true

/-- The check of a descriptor field: used fields below 256 (R204). -/
def fieldErr (used : Bool) (v lim : Nat) : Option Code :=
  if used then (if v < lim then none else some .desc) else if v = 0xFFFF then none else some .illegalOp

/-- The base registers that leave enough registers after them (R243). -/
def baseOk (op : Nat) (w : Insn) : Bool :=
  match op with
  | 0x40 => decide (mo w 89 86 ≤ 12)
  | 0x41 => decide (mo w 93 90 ≤ 14)
  | 0x42 => decide (mo w 89 86 ≤ 14)
  | _ => true

/-- The first of several optional codes. -/
def firstErr : List (Option Code) → Option Code
  | [] => none
  | some c :: _ => some c
  | none :: r => firstErr r

/-- What is wrong with an instruction at its decoding, for context `k` = 4 * core + context (R203, R204, R243). -/
def insnErr (op k : Nat) (w : Insn) : Option Code :=
  match modBits op with
  | none => some .illegalOp
  | some mask =>
    let u := opUses op
    let arr := decide (0x20 ≤ op) && decide (op ≤ 0x22)
    if w.mod.land mask ≠ w.mod ∨ w.flags / 64 ≠ 0 then some .illegalOp
    else if (nbit w.flags 5 = 1 ∨ nbit w.flags 4 = 1) ∧ arr = false then some .illegalOp
    else if nbit w.flags 3 = 1 ∧ op ≠ 0x40 ∧ op ≠ 0x41 then some .illegalOp
    else if nbit w.flags 1 = 1 ∧ op = 0x04 then some .illegalOp
    else firstErr [
      fieldErr u.1 w.opa 256,
      (if op = 0x30 ∧ vopNoB w = true then none else fieldErr u.2.1 w.opb 256),
      fieldErr u.2.2.1 w.dst 256,
      (if u.2.2.2 then (if w.nest < 64 ∨ w.nest = 0xFFFF then none else some .desc) else fieldErr false w.nest 0),
      (if opLegal op k w then none else some .illegalOp),
      (if baseOk op w then none else some .desc)]

/-- The instruction word of 16 bytes: its opcode and its fields (R201). -/
def decodeInsn (v : Nat) : Nat × Insn :=
  (v % 256, ⟨v / 2 ^ 8 % 256, v / 2 ^ 16 % 2 ^ 16, v / 2 ^ 32 % 2 ^ 16, v / 2 ^ 48 % 2 ^ 16, v / 2 ^ 64 % 2 ^ 16, v / 2 ^ 80 % 2 ^ 48⟩)

/-- A scalar register. -/
def State.sreg (s : State) (n m k : Nat) : Word := s.reg (Addr.tcCxS n m k)

/-- The scalars an instruction reads beside its descriptors' offsets (R219). -/
def opReads (op : Nat) (w : Insn) : List Nat :=
  match op with
  | 0x07 => if !noPos w && mo w 85 84 == 2 then [mo w 89 86] else []
  | 0x08 => if !noPos w && mo w 85 84 == 2 then [mo w 89 86] else []
  | 0x41 => [mo w 89 86, mo w 93 90, mo w 93 90 + 1]
  | 0x43 => [mo w 89 86]
  | 0x48 => [mo w 83 80]
  | 0x49 => [mo w 83 80]
  | 0x50 => if mo w 84 84 = 1 then [mo w 88 85] else []
  | 0x51 => [mo w 83 80]
  | 0x53 => [mo w 83 80]
  | 0x54 => [mo w 83 80]
  | 0x56 => mo w 87 84 :: (if mo w 91 91 = 1 then [] else [mo w 95 92])
  | 0x57 => [mo w 87 84, mo w 91 88]
  | _ => []

/-- The scalars an instruction writes (R219, R243, R248). -/
def opWrites (op : Nat) (w : Insn) : List Nat :=
  match op with
  | 0x40 => [mo w 89 86, mo w 89 86 + 1, mo w 89 86 + 2, mo w 89 86 + 3]
  | 0x41 => [mo w 97 94]
  | 0x42 => [mo w 89 86, mo w 89 86 + 1]
  | 0x48 => [mo w 87 84]
  | 0x49 => [mo w 87 84]
  | 0x50 => [mo w 83 80] | 0x51 => [mo w 83 80] | 0x55 => [mo w 83 80] | 0x56 => [mo w 83 80] | 0x57 => [mo w 83 80]
  | _ => []

/-- The operands of an instruction: descriptor, its nest stride, whether it is written. -/
def Ctx.operands (x : Ctx) (op : Nat) (w : Insn) : List (Desc × (Level → Int) × Bool) :=
  let u := opUses op
  let a : List (Desc × (Level → Int) × Bool) := if u.1 then [(x.desc w.opa, (·.sa), false)] else []
  let b : List (Desc × (Level → Int) × Bool) := if u.2.1 ∧ w.opb < 256 then [(x.desc w.opb, (·.sb), false)] else []
  let d : List (Desc × (Level → Int) × Bool) := if u.2.2.1 then [(x.desc w.dst, (·.sd), true)] else []
  a ++ b ++ d

/-- Whether an operand of an instruction has an extent of zero, so that it completes with nothing done (R21, R217). -/
def Ctx.empty (x : Ctx) (op : Nat) (w : Insn) : Bool := (x.operands op w).any fun o => o.1.size == 0

/-- The executions of an instruction of a context on core `n` (R217, R305, R306, R323). -/
def Ctx.runsOf (x : Ctx) (n op : Nat) (w : Insn) : List (List Nat) :=
  if x.empty op w then [] else (x.nest w.nest).iters n x.valid

/-- The runs of bytes [lo, hi) that an operand of an instruction reaches in its space. -/
def State.operRuns (s : State) (n m op : Nat) (w : Insn) (o : Desc × (Level → Int) × Bool) : List (Nat × Nat) :=
  let x := s.ctx (4 * n + m)
  (x.runsOf n op w).flatMap fun c =>
    let b := (s.iterBase n m o.1 (x.nest w.nest) o.2.1 c).toNat
    o.1.outer.map fun i => (b + o.1.eoff 0 i.1 i.2.1 i.2.2 / 2, b + o.1.eoff 0 i.1 i.2.1 i.2.2 / 2 + o.1.run)

/-- The first scratchpad byte of a word that fails its parity among those an instruction reads (R267); words of poisoned sectors
are passed over (R181). -/
def State.badRead (s : State) (n m op : Nat) (w : Insn) : Option Nat :=
  let c := s.core n
  if c.spmBad = [] then none
  else
    let runs := (((s.ctx (4 * n + m)).operands op w).filter fun o => !o.2.2 && o.1.space == 0).flatMap (s.operRuns n m op w)
    ((c.spmBad.find? fun p => p.2 && !c.spois 0 (4 * p.1) && runs.any (runsMeet (4 * p.1, 4 * p.1 + 4))).map fun p => 4 * p.1)

/-- A slot with the bad word, if any, that its operation's reads meet. -/
def State.reading (s : State) (n m : Nat) (sl : Slot) : Slot := { sl with found := s.badRead n m sl.op sl.w }

/-- The scoreboard ranges of an instruction of context m of core n (R161, R217). -/
def State.opRanges (s : State) (n m op : Nat) (w : Insn) : List Range :=
  let x := s.ctx (4 * n + m)
  (x.operands op w).flatMap fun o => rangeOf o.1.space (s.footprint n m o.1 (x.nest w.nest) o.2.1) o.2.2

/-- The on-chip footprints of an instruction in bytes (R217): space, interval, whether it is written. -/
def State.opSpans (s : State) (n m op : Nat) (w : Insn) : List (Nat × (Int × Int) × Bool) :=
  let x := s.ctx (4 * n + m)
  (x.operands op w).flatMap fun o =>
    match s.footprint n m o.1 (x.nest w.nest) o.2.1 with
    | some p => if o.1.space = 3 then [] else [(o.1.space, p, o.2.2)]
    | none => []

/-- Whether the destination of an instruction is also one of its inputs (R178): they share a byte, or it adds to what the
destination holds. -/
def State.inPlace (s : State) (n m op : Nat) (w : Insn) : Bool :=
  let l := (s.ctx (4 * n + m)).operands op w
  nbit w.flags 4 == 1 ||
  (l.filter (·.2.2)).any fun d => (l.filter (!·.2.2)).any fun r =>
    decide (d.1.space = r.1.space) && decide (d.1.space ≠ 3) &&
      (s.operRuns n m op w d).any fun p => (s.operRuns n m op w r).any (runsMeet p)

/-- The scalars an instruction reads, with its descriptors' offsets (R216, R219). -/
def Ctx.reads (x : Ctx) (op : Nat) (w : Insn) : List Nat :=
  opReads op w ++ (x.operands op w).flatMap fun o => if o.1.offEn then [o.1.offS] else []

/-- Whether a context may be stopped: READY or a wait state. -/
def CxState.live : CxState → Bool
  | .ready => true | .waitLine => true | .waitPass => true | .waitSync => true
  | _ => false

/-- The slots of a context that have not issued, oldest first. -/
def Core.waiting (c : Core) (m : Nat) : List Slot := c.slots.filter fun sl => sl.cx == m && !sl.issued

/-- The operations in flight of a core (issued, on a unit, not retired). -/
def Core.flying (c : Core) : List Slot := c.slots.filter fun sl => sl.issued && !sl.retired && sl.unit != .seq

/-- Whether every instruction of a context before `id` has retired. -/
def Core.allBefore (c : Core) (m id : Nat) : Bool :=
  c.slots.all fun sl => sl.cx != m || decide (id ≤ sl.id) || sl.retired

/-- Slots of a unit (R157). -/
def unitSlots : TcUnit → Nat
  | .dpa => 3 | .vxu => 2 | .plu => 2 | .ldu => 4 | .stu => 2 | .pqu => 2 | .seq => 0

/-- Whether a unit has a slot that context m may take (R157). -/
def Core.unitFree (c : Core) (m : Nat) (u : TcUnit) : Bool :=
  let f := c.flying
  let low := f.filter fun sl => sl.cx != 0
  u == .seq || (decide (f.length < 8) && decide ((f.filter fun sl => sl.unit == u).length < unitSlots u) &&
    (m == 0 || (decide (low.length < 7) && decide ((low.filter fun sl => sl.unit == u).length < unitSlots u - 1))))

/-- Whether the scalars of an instruction have no hazard with earlier instructions of its context (R219). -/
def Ctx.scalarsOk (x : Ctx) (c : Core) (sl : Slot) : Bool :=
  let rd := x.reads sl.op sl.w
  let wr := opWrites sl.op sl.w
  c.slots.all fun e => e.cx != sl.cx || decide (sl.id ≤ e.id) || e.retired ||
    ((opWrites e.op e.w).all fun k => !rd.contains k && !wr.contains k) && ((x.reads e.op e.w).all fun k => !wr.contains k)

/-- Whether no scalar that the offsets of an instruction use has a write pending before it (R219, R278). -/
def Ctx.offsetsOk (x : Ctx) (c : Core) (sl : Slot) : Bool :=
  let rd := (x.operands sl.op sl.w).flatMap fun o => if o.1.offEn then [o.1.offS] else []
  c.slots.all fun e => e.cx != sl.cx || decide (sl.id ≤ e.id) || e.retired || (opWrites e.op e.w).all fun k => !rd.contains k

/-- Whether a load may go ahead of the instructions of its context that have not issued (R150, R278): each has its footprint
resolved, none of it overlaps the load's destination, and none is a load, a FENCE or a DEPMARK. -/
def State.passable (s : State) (n m : Nat) (sl : Slot) : Bool :=
  let x := s.ctx (4 * n + m)
  let mine := (s.opSpans n m sl.op sl.w).filter (·.2.2)
  ((s.core n).waiting m).all fun e => decide (sl.id ≤ e.id) ||
    (e.op != 0x10 && e.op != 0x12 && e.op != 0x03 && e.op != 0x04 && x.offsetsOk (s.core n) e &&
      (s.opSpans n m e.op e.w).all fun r => mine.all fun q =>
        !(decide (q.1 = r.1) && decide (q.2.1.1 < r.2.1.2) && decide (r.2.1.1 < q.2.1.2)))

/-- Whether the DEPMARKs before a load have seen their members retire (R150, R213). -/
def Ctx.marksOk (x : Ctx) (c : Core) (id : Nat) : Bool :=
  x.marks.all fun mk => decide (id ≤ mk.1) || mk.2.all fun i => c.slots.all fun e => e.id != i || e.retired

/-- Whether an instruction of the window is issuable (the conditions of chapter 04). Its timed position has been reached when it
was dispatched (R164, R182). A sync that a nest implies holds the instructions after the nested one (R316). -/
def State.issuable (s : State) (n m : Nat) (sl : Slot) : Bool :=
  let c := s.core n
  let x := s.ctx (4 * n + m)
  let load := sl.op == 0x10 || sl.op == 0x12
  let first := match c.waiting m with | [] => false | e :: _ => e.id == sl.id
  decide (x.state = .ready) && !x.stopping && !c.halted && decide (x.yieldFor = []) &&
  (match x.sync with | some y => decide (sl.id ≤ y.2.2.2) | none => true) &&
  (first || (load && s.passable n m sl)) &&
  (!load || x.marksOk c sl.id) &&
  x.scalarsOk c sl &&
  (sl.op != 0x03 || c.allBefore m sl.id) &&
  (sl.op != 0x57 || c.slots.all fun e => e.cx != m || decide (sl.id ≤ e.id) || e.op != 0x40 || e.retired) &&
  ((s.opRanges n m sl.op sl.w).all fun r => c.flying.all fun e => e.ranges.all fun q => !r.clash q) &&
  c.unitFree m sl.unit

/-- Whether a context has an issuable instruction. -/
def State.canIssue (s : State) (n m : Nat) : Bool := ((s.core n).waiting m).any fun e => s.issuable n m e

/-- The context of CX1-CX3 that the rotation visits after one (R149). -/
def nextTurn (m : Nat) : Nat := if m = 3 then 1 else m + 1

/-- Issues in succession that ARB allows the context whose turn it is (R149, R199). -/
def State.turnWeight (s : State) (n : Nat) : Nat := s.rf (Addr.tcArb n) (4 * (s.core n).turn + 3) (4 * (s.core n).turn)

/-- The contexts in the order in which the SEQ offers them an issue cycle (R29, R148, R149): CX0, then by number, or by rotation
from the context whose turn it is. -/
def State.issueOrder (s : State) (n : Nat) : List Nat :=
  if s.rb (Addr.tcArb n) 16 then [0, 1, 2, 3]
  else
    let t := (s.core n).turn
    let u := nextTurn t
    (if (s.core n).turnUsed < s.turnWeight n then [0, t] else [0]) ++ [u, nextTurn u, t]

/-- The context that issues (R148, R149, R192): the first with an issuable instruction. -/
def State.chosen (s : State) (n : Nat) : Option Nat := (s.issueOrder n).find? (s.canIssue n)

/-- The window's entry for an instruction that a row names, where it is issuable and its context is the one that issues. -/
def State.issueAt (s : State) (n m op : Nat) (w : Insn) : Option Slot :=
  match ((s.core n).waiting m).find? fun sl => sl.op == op && sl.w == w with
  | none => none
  | some sl => if n < 8 ∧ m < 4 ∧ s.issuable n m sl = true ∧ s.chosen n = some m then some sl else none

/-- A slot of a core replaced, by its id. -/
def Core.setSlot (c : Core) (sl : Slot) : Core :=
  { c with slots := c.slots.map fun e => if e.id = sl.id then sl else e }

/-- A slot of a core, by its id. -/
def Core.slot? (c : Core) (id : Nat) : Option Slot := c.slots.find? fun e => e.id == id

/-- The turn of the weighted rotation after context m of CX1-CX3 has issued (R149). -/
def State.takeTurn (s : State) (n m : Nat) : State :=
  let c := s.core n
  if m = 0 ∨ s.rb (Addr.tcArb n) 16 = true then s
  else if m = c.turn ∧ c.turnUsed < s.turnWeight n then s.setCore n { c with turnUsed := c.turnUsed + 1 }
  else s.setCore n { c with turn := m, turnUsed := 1 }

/-- What the issue of an instruction does beside its own effect: a YIELD of another context counts it (R152), the rotation goes
on (R149). -/
def State.noteIssue (s : State) (n m : Nat) : State :=
  let s := forEach [0, 1, 2, 3] (fun j t =>
    let y := t.ctx (4 * n + j)
    if j ≠ m ∧ y.yieldFor ≠ [] then t.setCtx (4 * n + j) { y with yieldFor := y.yieldFor.filter (· != m) } else t) s
  let s := s.takeTurn n m
  let c := s.core n
  s.setCore n { c with issues := lset c.issues m (lget 0 c.issues m + 1) }

/-- The sync that a nest implies holds its context in WAIT_SYNC once every instruction up to the nested one has issued (R316,
R317). -/
def State.holdNest (s : State) (k : Nat) : State :=
  let x := s.ctx k
  match x.sync with
  | some (_, _, _, sid) =>
    if x.state = .ready ∧ x.synced = false ∧ ((s.core (k / 4)).waiting (k % 4)).all (fun e => decide (sid < e.id)) = true then
      s.setCtx k { x with state := .waitSync, wait := .nest }
    else s
  | none => s

/-- A SEQ instruction issued and retired. -/
def State.seqDone (s : State) (n m : Nat) (sl : Slot) : State :=
  let s := s.noteIssue n m
  (s.setCore n ((s.core n).setSlot { sl with issued := true, retired := true })).holdNest (4 * n + m)

/-- A SEQ instruction issued and not yet retired. -/
def State.seqHeld (s : State) (n m : Nat) (sl : Slot) : State :=
  let s := s.noteIssue n m
  s.setCore n ((s.core n).setSlot { sl with issued := true })

/-- The scoreboard entries a core uses, and their high-water mark kept (R161). -/
def State.noteRanges (s : State) (n : Nat) : State :=
  let c := s.core n
  let used := (c.flying.map fun e => e.ranges.length).foldl (· + ·) 0
  s.setCore n { c with sbHigh := max c.sbHigh used }

/-- Slots whose inputs a write of the given ranges overlaps serve as provenance no more (R176). -/
def staleBy (rs : List Range) (e : Slot) : Slot :=
  if e.ranges.any fun r => !r.write && rs.any fun q => q.write && q.clash r then { e with stale := true } else e

/-! ## Units (R147, R157-R160, R273) -/

/-- Whether a unit executes one operation at a time; the load and store units interleave the requests of theirs, and a pass
operation that waits does not keep another from the pass unit. -/
def serialUnit : TcUnit → Bool
  | .dpa => true | .vxu => true | .plu => true
  | _ => false

/-- A slot put into a list in the order of issue. -/
def insertSeq (e : Slot) : List Slot → List Slot
  | [] => [e]
  | f :: r => if e.seqNo ≤ f.seqNo then e :: f :: r else f :: insertSeq e r

/-- Slots in their order of issue, those of CX0 first. -/
def issueSorted (l : List Slot) : List Slot :=
  (l.filter (·.cx == 0)).foldr insertSeq [] ++ (l.filter (·.cx != 0)).foldr insertSeq []

/-- The operation that a unit takes up when it is free (R158, R160): the oldest of CX0, else the oldest of the others; one that
was aborted waits for its replay and keeps those behind it waiting (DESIGN CHOICE, log entry 79). -/
def Core.upNext (c : Core) (u : TcUnit) : Option Slot :=
  let l := issueSorted (c.flying.filter (·.unit == u))
  let head (low : Bool) := match l.filter (fun e => (e.cx != 0) == low) with
    | e :: _ => if e.bad = none then some e else none
    | [] => none
  match head false with
  | some e => some e
  | none => head true

/-- The weights of an array operation as a set of the weight registers holds them: the first 32 KiB (R147; DESIGN CHOICE, log
entry 79). -/
def Core.weightSet (c : Core) (e : Slot) : WSet :=
  ⟨e.id, e.weights.1, (List.range (min (e.weights.2 - e.weights.1) 32768)).map fun i => c.sbyte 0 (e.weights.1 + i)⟩

/-- The weight registers when the array takes up an operation (R147, R159): its set is the active one, loaded now unless the
shadow set holds it; an operation that has started keeps its set, one that has not loses it. -/
def Core.activate (c : Core) (e : Slot) : Core :=
  let mine := match c.wsets.find? (·.owner == e.id) with
    | some w => w
    | none => c.weightSet e
  let kept := c.wsets.filter fun w => w.owner != e.id && c.flying.any fun o => o.id == w.owner && o.started
  { c with wsets := mine :: kept.take 1 }

/-- A free set of weight registers loaded for the next array operation that has none (R147). -/
def Core.preload (c : Core) : Core :=
  let l := issueSorted (c.flying.filter fun e => e.unit == .dpa && e.bad == none && !(c.wsets.any (·.owner == e.id)))
  match l with
  | e :: _ => if c.wsets.length < 2 then { c with wsets := c.wsets ++ [c.weightSet e] } else c
  | [] => c

/-- A unit takes up an operation (R147, R158). -/
def Core.takeUp (c : Core) (e : Slot) : Core :=
  let c := c.setSlot { e with running := true, started := true }
  if e.unit = .dpa then (c.activate e).preload else c

/-- A unit that executes nothing takes up its next operation (R158, R160). -/
def Core.startUnit (c : Core) (u : TcUnit) : Core :=
  if serialUnit u = false then c
  else if c.flying.any (fun e => e.unit == u && e.running) then (if u = .dpa then c.preload else c)
  else match c.upNext u with
    | some e => c.takeUp e
    | none => c

/-- Outstanding requests of the load unit, or of the store unit: all, those of CX1-CX3 (R273). -/
def Core.outstanding (c : Core) (store : Bool) : Nat × Nat :=
  let n (l : List Slot) := (l.map fun e => if store then e.nOut else e.sent.length).foldl (· + ·) 0
  (n c.flying, n (c.flying.filter (·.cx != 0)))

/-- Requests that an operation may send now (R273). -/
def Core.mayAsk (c : Core) (store : Bool) (e : Slot) : Nat :=
  let o := c.outstanding store
  let lim := if store then (128, 96) else (256, 192)
  if e.cx = 0 then lim.1 - o.1 else min (lim.1 - o.1) (lim.2 - o.2)

/-- The load unit sends the requests it has entries for, those of CX0 first (R158, R273). -/
def Core.sendReads (c : Core) : Core :=
  (issueSorted (c.flying.filter fun e => e.op == 0x10 && e.pend != [])).foldl (fun c e =>
    let k := c.mayAsk false e
    c.setSlot { e with pend := e.pend.drop k, sent := e.sent ++ e.pend.take k }) c

/-- QoS class of a context's memory requests (R29, R30). -/
def cxQos (m : Nat) : Qos := if m = 0 then .line else .tensor

/-- The store unit sends `k` of an operation's requests (R272, R275). -/
def State.sendOut (s : State) (n : Nat) (e : Slot) (k : Nat) : State :=
  let s := (e.outw.take k).foldl (fun t r => t.writeMasked (.tc n) (cxQos e.cx) r.line r.mask r.data r.poison) s
  s.setCore n ((s.core n).setSlot { e with outw := e.outw.drop k, nOut := e.nOut + min k e.outw.length })

/-- The store unit sends the requests it has entries for, those of CX0 first (R158, R273). -/
def State.sendWrites (s : State) (n : Nat) : State :=
  (issueSorted ((s.core n).flying.filter fun e => e.op == 0x11 && e.outw != [])).foldl (fun t e => t.sendOut n e ((t.core n).mayAsk true e)) s

/-- An operation enters flight on its unit (R157, R161), with the sync its nest implies (R316). -/
def State.fly (s : State) (n m : Nat) (sl : Slot) : State :=
  let rs := s.opRanges n m sl.op sl.w
  let own := s.inPlace n m sl.op sl.w
  let s := s.noteIssue n m
  let c := s.core n
  let x := s.ctx (4 * n + m)
  let wts : Nat × Nat := if sl.unit = .dpa then
      (match s.footprint n m (x.desc sl.w.opb) (x.nest sl.w.nest) (·.sb) with | some p => (p.1.toNat, p.2.toNat) | none => (0, 0))
    else (0, 0)
  let e := { sl with issued := true, running := !serialUnit sl.unit, ranges := rs, inPlace := own, stale := own, seqNo := c.nextSeq,
                     env := (List.range 16).map (s.sreg n m), region := x.valid, weights := wts }
  let c := { c with nextSeq := c.nextSeq + 1, slots := c.slots.map (staleBy rs) }
  let s := s.setCore n (((c.setSlot e).startUnit sl.unit).sendReads)
  let t := x.nest sl.w.nest
  let s := if sl.w.nest < 64 ∧ t.between ≠ 0 then s.setCtx (4 * n + m) { x with sync := some (t.between, t.barId, t.cores, sl.id), synced := false } else s
  ((s.sendWrites n).noteRanges n).holdNest (4 * n + m)

/-! ## Barriers and releases -/

/-- A context released from a wait, its waiting instruction retired. A context that waits no more is left as it is. -/
def State.wake (s : State) (k : Nat) : State :=
  let x := s.ctx k
  let n := k / 4
  let ops := match x.wait with
    | .line _ _ => [0x07] | .timed _ _ _ => [] | .barrier _ => [0x05] | .drain => [0x06] | .nest => [] | .det _ => [] | .pass _ _ => []
    | .halt => [] | .none => []
  if x.state.live = false then s
  else
    let c := s.core n
    let s := s.setCore n { c with slots := c.slots.map fun e =>
      if e.cx = k % 4 ∧ e.issued = true ∧ e.retired = false ∧ ops.contains e.op = true then { e with retired := true } else e }
    (s.setCtx k { x with state := .ready, wait := .none, sync := if x.synced then none else x.sync, synced := false }).holdNest k

/-- Whether a participant is absent for good: HALTED, DONE or OFF (R406). -/
def State.absent (s : State) (k : Nat) : Bool :=
  match (s.ctx k).state with | .halted => true | .done => true | .off => true | _ => false

/-- The participants of a mask. -/
def maskBits (m n : Nat) : List Nat := (List.range n).filter fun i => nbit m i = 1

/-- An instance of a barrier completes where every participant has arrived or is absent (R406, R409, R410). -/
def State.barCheck (s : State) (id : Nat) : State :=
  match tget (fun _ => none) s.pass.barriers id with
  | none => s
  | some b =>
    let ps := maskBits b.mask 32
    if ps.all fun k => b.arrived.contains k || s.absent k then
      let gone := ps.filter fun k => !b.arrived.contains k
      let s := { s with pass := { s.pass with barriers := tset (fun _ => none) s.pass.barriers id none } }
      let s := if gone = [] then s
        else s.raise .barrierShort 0x04 (lget 0 b.arrived 0) (some (s.ctx (lget 0 b.arrived 0 / 4 * 4)).domain)
          [(4, (gone.map fun k => 2 ^ k).foldl (· + ·) 0)]
      forEach b.arrived (fun k t =>
        let t := t.wake k
        if gone = [] then t else t.setCtx k { t.ctx k with poisoned := true }) s
    else s

/-- Every open instance looked at again. -/
def State.barAll (s : State) : State := forEach (List.range 16) (fun id t => t.barCheck id) s

/-- A halting core halts when no context of it is live (R189). -/
def State.tryHalt (s : State) (n : Nat) : State :=
  if s.rb (Addr.tcCtrl n) 1 = true ∧ ([0, 1, 2, 3].all fun m => !(s.ctx (4 * n + m)).state.live) = true then
    s.setCore n { s.core n with halted := true }
  else s

/-- A deadline miss of a context on this very tick gives way to its halt (R195): its record, unless the collector has it already,
its count and its LATE state are withdrawn. -/
def State.unmiss (s : State) (n m : Nat) : State :=
  let x := s.ctx (4 * n + m)
  match x.miss with
  | some (t, r) =>
    if t = s.now ∧ s.coll.posted.contains r = true then
      let s := s.unpost r
      (s.setReg (Addr.tcCxMiss n m) (s.reg (Addr.tcCxMiss n m) - 1)).setCtx (4 * n + m) { x with late := false, miss := none }
    else s
  | none => s

/-- A context halts (R185, R197): its unissued instructions and its control instructions that have not retired are discarded
(R256), its operations in flight go on, its code is held, a record is raised with the given detail. A pass operation that waits stays in flight (DESIGN
CHOICE, log entry 81). -/
def State.haltCtx (s : State) (n m idx : Nat) (code : Code) (detail : List (Nat × Nat)) : State :=
  let k := 4 * n + m
  let s := s.unmiss n m
  let c := s.core n
  let x := s.ctx k
  let s := s.setCore n { c with slots := c.slots.filter fun e => e.cx != m || e.retired || (e.issued && e.unit != .seq) }
  let s := s.setCtx k { x with state := .halted, wait := .none, stopping := false, hold := false, ended := true, deadline := none,
                               depOpen := [], marks := [], yieldFor := [], sync := none, synced := false, fault := none }
  let s := (s.setReg (Addr.tcCxErr n m) (w32 code.num)).setReg (Addr.tcCxPc n m) (w32 idx)
  (s.raise code 0x04 k (some (s.ctx (4 * n)).domain) detail).barAll.tryHalt n

/-- A context that meets E_TILE halts with the check number and the instruction index (R325). -/
def State.haltTile (s : State) (n m : Nat) (sl : Slot) (check : Nat) : State :=
  let c := s.core n
  (s.setCore n { c with slots := c.slots.filter fun e => e.id != sl.id }).haltCtx n m sl.idx .tile [(1, check), (4, sl.idx)]

/-- An arrival at a barrier (R406, R407). `none` when the mask differs from the open instance's. -/
def State.arrive (s : State) (k id mask : Nat) : Option State :=
  match tget (fun _ => none) s.pass.barriers id with
  | none => some { s with pass := { s.pass with barriers := tset (fun _ => none) s.pass.barriers id (some ⟨mask, [k]⟩) } }
  | some b =>
    if b.mask = mask then
      some { s with pass := { s.pass with barriers := tset (fun _ => none) s.pass.barriers id (some { b with arrived := b.arrived ++ [k] }) } }
    else none

/-- A SIGNAL delivered (R224, R225). -/
def State.signalTo (s : State) (k : Nat) : State :=
  let x := s.ctx k
  match x.wait, s.absent k with
  | _, true => s
  | .line _ none, false => s.wake k
  | _, false => s.setCtx k { x with signal := true }

/-- The issued control instructions of a context whose earlier instructions have all retired, taken in order: HALT ends
the context, DRAIN releases it, DEADLINE closes and opens its region, SIGNAL is sent (R153, R166, R168, R183, R222). -/
def State.settleSlot (s : State) (n m : Nat) (sl : Slot) : State :=
  let k := 4 * n + m
  let c := s.core n
  let x := s.ctx k
  if sl.issued = true ∧ sl.retired = false ∧ sl.cx = m ∧ c.allBefore m sl.id = true then
    match sl.op with
    | 0x01 =>
      let s := s.setCore n (c.setSlot { sl with retired := true })
      (s.setCtx k { x with state := .done, wait := .none, stopping := false, deadline := none }).barAll.tryHalt n
    | 0x06 => if x.wait = .drain then (s.setCore n (c.setSlot { sl with retired := true })).wake k else s
    | 0x08 =>
      let s := s.setCore n (c.setSlot { sl with retired := true })
      s.setCtx k { x with deadline := sl.pos, late := false, miss := none }
    | 0x09 =>
      let s := s.setCore n (c.setSlot { sl with retired := true })
      s.signalTo (4 * mo sl.w 82 80 + mo sl.w 84 83)
    | _ => s
  else s

/-- What a context's retirements bring about: the DRAIN that a nest implies ends (R153, R316), and a fault that waited for the
earlier instructions halts it (R196). -/
def State.settleCtx (s : State) (n m : Nat) : State :=
  let x := s.ctx (4 * n + m)
  let done (sid : Nat) := (s.core n).slots.all fun e => e.cx != m || decide (sid < e.id) || e.retired
  let s := match x.wait, x.sync with
    | .drain, some y => if x.synced = true ∧ done y.2.2.2 = true then s.wake (4 * n + m) else s
    | _, _ => s
  match x.fault with
  | some (idx, code) => if ((s.core n).slots.all fun e => e.cx != m || e.retired) = true then s.haltCtx n m idx code [] else s
  | none => s

/-- Every control instruction of a context that can retire retires. -/
def State.settle (s : State) (n m : Nat) : State :=
  ((s.core n).slots.foldl (fun t sl => match (t.core n).slot? sl.id with | some e => t.settleSlot n m e | none => t) s).settleCtx n m

/-- The valid region a word names (R320): none when it is all ones. -/
def vregOf (v : Word) : Option (Nat × Nat) := if v = 0xFFFFFFFF then none else some (fld v 31 16, fld v 15 0)

/-- The valid-region word of a region. -/
def vregWord (v : Option (Nat × Nat)) : Word :=
  match v with | none => 0xFFFFFFFF | some (h, w) => w32 (h % 65536 * 65536 + w % 65536)

/-- The retirement of an operation in flight (R163): its scalars are written, its ranges and request entries released, its unit
goes on with the next; a PQPOP sets the valid region from its item (R321). -/
def State.retire (s : State) (n id : Nat) : State :=
  match (s.core n).slot? id with
  | none => s
  | some sl =>
    let c := (s.core n).setSlot { sl with retired := true, running := false, nOut := 0 }
    let s := s.setCore n ({ c with wsets := c.wsets.filter (·.owner != id) }.startUnit sl.unit)
    let s := sl.writes.foldl (fun t w => t.setReg (Addr.tcCxS n sl.cx w.1) w.2) (s.sendWrites n)
    let s := match sl.op, sl.item with
      | 0x40, some it => s.setCtx (4 * n + sl.cx) { s.ctx (4 * n + sl.cx) with valid := vregOf it.vreg }
      | _, _ => s
    s.settle n sl.cx

/-- A context's wait on a domain that has stopped ends (R169): its WAITLINE, or the timed position of the instruction that it
would dispatch. -/
def State.unwaitDomain (s : State) (d k : Nat) : State :=
  let x := s.ctx k
  match x.wait with
  | .line e _ => if e = d then s.wake k else s
  | .timed e _ _ => if e = d then (s.setCtx k { x with released := true }).wake k else s
  | _ => s

/-- When a domain stops, the waits on it end and its deadline regions are disarmed, those too whose DEADLINE has issued (R169,
R211). -/
def State.releaseDomain (s : State) (d : Nat) : State :=
  let off (p : Option (Nat × Nat × Nat)) : Option (Nat × Nat × Nat) := p.filter fun q => q.1 != d
  let s := forEach (List.range 8) (fun n t =>
    let c := t.core n
    if c.slots.any (fun e => e.pos != off e.pos) then t.setCore n { c with slots := c.slots.map fun e => { e with pos := off e.pos } } else t) s
  forEach (List.range 32) (fun k t =>
    let x := t.ctx k
    let t := if x.deadline = off x.deadline then t else t.setCtx k { x with deadline := off x.deadline }
    t.unwaitDomain d k) s

/-- The line position that an instruction carries, resolved now (R206, R207): domain, frame, position. -/
def State.resolvePos (s : State) (n m : Nat) (w : Insn) : Nat × Nat × Nat :=
  let d := mo w 82 80
  let f := match mo w 85 84 with
    | 0 => (s.dom d).frame
    | 1 => ((s.dom d).frame + 1) % 2 ^ 32
    | _ => (s.sreg n m (mo w 89 86)).toNat
  (d, f, mo w 113 98 * 256 + mo w 97 90)

end Sys2Proof.Machine
end

