-- ==== Sys2Proof/Machine/Access.lean ====
section
/-! DEFINITION. What every register write shares (R18-R20, R857, R874): reserved bits, unlisted field values, the access
codes; the unit that raises E_CFG for a register (R846); a denied access (R737, R870). -/

namespace Sys2Proof.Machine

open Sys2Proof

/-- The RSVD_WRITE bit of the block an address lies in (R857). -/
def rsvdBit (a : Nat) : Nat :=
  let b := a / 0x100000
  if b = 0x120 ∨ b = 0x121 ∨ b = 0x122 ∨ b = 0x123 ∨ b = 0x124 ∨ b = 0x125 ∨ b = 0x126 ∨ b = 0x127 then 2 + (b - 0x120)
  else match b with
    | 0x100 => 0 | 0x101 => 0 | 0x110 => 1 | 0x130 => 10 | 0x131 => 11 | 0x140 => 12 | 0x150 => 13 | 0x160 => 14 | 0x161 => 15
    | 0x162 => 16 | 0x170 => 17 | 0x180 => 18 | 0x190 => 19 | 0x191 => 20 | 0x192 => 21 | 0x193 => 22 | 0x194 => 23
    | 0x195 => 24 | 0x196 => 25 | 0x1A0 => 26 | 0x1B0 => 27 | 0x1B1 => 28 | 0x1B2 => 29 | _ => 30

/-- The RSVD_WRITE flag of a block is set and the address recorded (R19, R857, R874). -/
def State.markRsvd (s : State) (a : Nat) : State :=
  (s.setRf Addr.dsvRsvdStatus (rsvdBit a) (rsvdBit a) 1).setReg Addr.dsvRsvdLast (w32 a)

/-- The bits of a register that are fields. -/
def fieldMask (l : List Field) : Nat := l.foldl (fun m f => m.lor ((2 ^ (f.hi + 1 - f.lo) - 1) * 2 ^ f.lo)) 0

/-- The reserved bits of a write noted (R19). -/
def State.noteRsvd (s : State) (a : Nat) (v : Word) : State :=
  match regAt a with
  | none => s
  | some r => if v.toNat.land (fieldMask r.fields) = v.toNat then s else s.markRsvd a

/-- The unit, kind and number, that raises E_CFG for a register (R846). -/
def cfgUnit (r : RegRef) : Nat × Nat :=
  let i := lget 0 r.idx 0
  let a := r.desc.base
  if a / 0x100000 = 0x110 then
    (if r.desc.id = .lptLdPeriod ∨ r.desc.id = .lptLdFlen ∨ r.desc.id = .lptLdCtrl ∨ r.desc.id = .lptLdAnchor then (0x01, i) else (0x17, 0))
  else if a / 0x200000 * 2 = 0x100 then
    (if r.desc.id = .sfeLnkCfg then (0x1A, i) else if r.desc.id = .sfePhyCfg ∨ r.desc.id = .sfePhyLanemap then (0x1A, 2 * i)
     else if 0x10001000 ≤ a then (0x02, if r.desc.id = .sfePwl ∨ r.desc.id = .sfeLsctab ∨ r.desc.id = .sfeDfl then i / 2 else i) else (0x17, 0))
  else if a / 0x800000 * 8 = 0x120 then (if r.idx.length = 1 ∨ 0x12001000 ≤ a then (0x03, i) else (0x04, 4 * i + lget 0 r.idx 1))
  else if a / 0x100000 = 0x130 then
    (if r.desc.id = .passPqCfg ∨ r.desc.id = .passPqFlush ∨ r.desc.id = .passPqWmark then (0x05, i)
     else if 0x13002000 ≤ a then (0x06, i) else (0x17, 0))
  else match a / 0x100000 with
    | 0x131 => (0x07, 0)
    | 0x140 => if r.desc.id = .fmtSrcCfg ∨ r.desc.id = .fmtSrcSize ∨ r.desc.id = .fmtSrcStride then (0x08, i)
      else if r.desc.id = .fmtCtrl ∨ r.desc.id = .fmtCoef then (0x17, 0) else (0x09, i)
    | 0x150 => (0x0A, 0)
    | 0x160 => if r.idx.length = 2 then (0x0C, 16 * i + lget 0 r.idx 1) else (0x0B, i)
    | 0x162 => if r.idx.length = 1 then (0x0E, i) else (0x0D, 0)
    | 0x170 => (0x10, i)
    | 0x180 => (0x0F, i)
    | 0x190 => (0x11, 0)
    | 0x191 => (0x12, i)
    | 0x193 => (0x13, i)
    | 0x195 => (0x14, i)
    | 0x196 => (0x15, i)
    | 0x1A0 => if r.desc.id = .illCtrl then (0x17, 0) else (0x16, i)
    | 0x1B1 => (0x19, 26)
    | _ => (0x17, 0)

/-- E_CFG of the unit of a register. -/
def State.cfgAt (s : State) (a : Nat) : State :=
  match regAt a with
  | none => s
  | some r => s.cfgErr (cfgUnit r).1 (cfgUnit r).2

/-- Whether a field accepts a value (R20). -/
def Field.ok (f : Field) (v : Nat) : Bool := f.accepts == [] || f.accepts.any fun p => decide (p.1 ≤ v) && decide (v ≤ p.2)

/-- The word and the rejections after a write is applied field by field: fields that take writes, in a register of
access `acc` (R18, R20). -/
def applyFields (acc : Acc) (old v : Word) : List Field → Word × Bool
  | [] => (old, false)
  | f :: r =>
    let p := applyFields acc old v r
    let x := fld v f.hi f.lo
    match f.acc.getD acc with
    | .rw => if fld old f.hi f.lo = x then p else if f.ok x then (setFld p.1 f.hi f.lo x, p.2) else (p.1, true)
    | .rwl => if fld old f.hi f.lo = x then p else if f.ok x then (setFld p.1 f.hi f.lo x, p.2) else (p.1, true)
    | .w1c => (setFld p.1 f.hi f.lo (Nat.xor (fld old f.hi f.lo) (Nat.land (fld old f.hi f.lo) x)), p.2)
    | _ => p

/-- A write applied to a register by its fields (R18-R20): reserved bits noted, unlisted values refused with E_CFG. -/
def State.putReg (s : State) (a : Nat) (v : Word) : State :=
  match regAt a with
  | none => s
  | some r =>
    let f := applyFields r.desc.acc (s.reg a) v r.fields
    let t := (s.setReg a f.1).noteRsvd a v
    if f.2 then t.cfgErr (cfgUnit r).1 (cfgUnit r).2 else t

/-- A write that a register's owner ignores, with E_CFG. -/
def State.refuse (s : State) (a : Nat) (v : Word) : State := (s.noteRsvd a v).cfgAt a

/-- Free bytes of one draw. -/
def freeRun (k n : Nat) : Bytes := (List.range n).map (Config.freeByte k)

/-- A denied access with the answer its initiator gets (R587, R671, R737, R870): an access fault for a core, Unsupported
Request for PCIe, poisoned beats for any other reader. Cores raise no record for a hole. -/
def State.denied (s : State) (who : Initiator) (win : Option Nat) (a n : Nat) (write hole : Bool) : State :=
  let s := match who, hole with | .cpu _, true => s | _, _ => s.fwDeny who win a write
  match who with
  | .cpu _ => { s with resp := { err := true } }
  | .host => { s with resp := { err := true } }
  | .pcie => { s with resp := { err := true } }
  | _ =>
    if write then { s with resp := {} }
    else { s.draw.2 with resp := { data := freeRun s.fresh n, poison := List.replicate (cdiv n 32) true } }

end Sys2Proof.Machine
end

