-- ==== Sys2Proof/Machine/Context.lean ====
section
/-! DEFINITION. The context commands of a tensor core (R182-R190, R196, R200, R203-R212, R221, R252-R255): GO, STOP and
its completion, RESUME, RESET, HALT_REQ, and the fetch and dispatch of an instruction. -/

namespace Sys2Proof.Machine

open Sys2Proof

/-- Whether a tensor core runs: its power domain is up and it is not held in reset (R783, R784, R803). -/
def State.tcOn (s : State) (n : Nat) : Bool := s.rb Addr.pwrTcStatus n && !s.rb Addr.pwrRstStatus n

/-- Little-endian number of `n` bytes at offset `o` of a run. -/
def at_ (l : Bytes) (o n : Nat) : Nat := leNat ((l.drop o).take n)

/-- An operand descriptor of 32 bytes (R214). -/
def parseDesc (l : Bytes) : Desc :=
  { addr := at_ l 0 5, dtype := at_ l 5 1 % 16, space := at_ l 5 1 / 16 % 4, offS := at_ l 6 2 % 16,
    offEn := at_ l 6 2 / 16 % 2 == 1, ext := [at_ l 8 2, at_ l 10 2, at_ l 12 2, at_ l 14 2],
    str := [at_ l 16 4, at_ l 20 4, at_ l 24 4] }

/-- Whether a descriptor's bytes are ones GO accepts (R254): zero fields zero, DTYPE listed and allowed by SPACE, ADDR
inside its space. -/
def descOk (l : Bytes) : Bool :=
  let d := parseDesc l
  at_ l 5 1 / 64 == 0 && at_ l 6 2 / 32 == 0 && at_ l 28 4 == 0 && decide (d.dtype ≤ 7) &&
  (d.space != 1 || d.dtype == 4 || d.dtype == 7) &&
  (match d.space with | 0 => decide (d.addr < 4194304) | 1 => decide (d.addr < 131072) | 2 => decide (d.addr < 16) | _ => decide (d.addr < dramEnd))

/-- A level of a nest (R303). -/
def parseLevel (l : Bytes) (k : Nat) : Level :=
  let o := 20 + 18 * k
  { count := at_ l o 2, sa := sx 32 (at_ l (o + 2) 4), sb := sx 32 (at_ l (o + 6) 4), sd := sx 32 (at_ l (o + 10) 4),
    drow := sx 16 (at_ l (o + 14) 2), dcol := sx 16 (at_ l (o + 16) 2) }

/-- A loop-nest descriptor of 128 bytes (R302, R303). -/
def parseNest (l : Bytes) : Nest :=
  let n := at_ l 0 1 % 8
  { nlev := n, split := at_ l 1 1 % 8, between := at_ l 1 1 / 8 % 4, cores := at_ l 2 1, barId := at_ l 3 1 % 16,
    rlev := at_ l 4 1 % 8, clev := at_ l 4 1 / 16 % 8, vmask := at_ l 5 1 % 2 == 1, row0 := at_ l 8 2, col0 := at_ l 10 2,
    levels := (List.range 6).map (parseLevel l),
    zeros := at_ l 0 1 / 8 == 0 && at_ l 1 1 / 32 == 0 && at_ l 3 1 / 16 == 0 && at_ l 4 1 / 8 % 2 == 0 && at_ l 4 1 / 128 == 0 &&
      at_ l 5 1 / 2 == 0 && at_ l 6 2 == 0 && at_ l 12 8 == 0 && ((l.drop (20 + 18 * n)).all (· == 0)) }

/-- A bucket-table entry (R253). -/
def parseBucket (l : Bytes) : Nat × Nat × Nat := (at_ l 0 2, at_ l 2 2, at_ l 4 4)

/-- `n` records of `sz` bytes from offset `o`. -/
def recordsAt (l : Bytes) (o sz n : Nat) : List Bytes := (List.range n).map fun i => (l.drop (o + i * sz)).take sz

/-- Whether a bucket table is sorted (R254): by ascending area, then by ascending height. -/
def bucketsSorted : List (Nat × Nat × Nat) → Bool
  | a :: b :: r =>
    (decide (a.1 * a.2.1 < b.1 * b.2.1) || (a.1 * a.2.1 == b.1 * b.2.1 && decide (a.1 ≤ b.1))) && bucketsSorted (b :: r)
  | _ => true

/-- Whether a table of an image lies inside it at an offset that is a multiple of 64 (R254). -/
def tableOk (off len size : Nat) : Bool := off % 64 == 0 && decide (off + len ≤ size)

/-- The first check of R254 that an image fails, numbered from 1 in the order of the rule; 0 when it passes. `h` is its
header, `l` all of it. -/
def imageErr (l : Bytes) : Nat :=
  let nI := at_ l 12 4
  let nD := at_ l 20 2
  let nN := at_ l 22 2
  let nB := at_ l 32 1
  let size := at_ l 8 4
  let bs := (recordsAt l (at_ l 40 4) 8 nB).map parseBucket
  if !(at_ l 0 4 == 0x3149504B && at_ l 4 2 == 1 && at_ l 6 2 == 64 && decide (64 ≤ size) && decide (1 ≤ nI) &&
      decide (nI ≤ 16777216) && decide (nD ≤ 256) && decide (nN ≤ 64) && decide (nB ≤ 8) && decide (at_ l 33 1 ≤ 7) &&
      at_ l 48 8 == 0 && at_ l 60 4 == 0) then 1
  else if !(tableOk (at_ l 16 4) (16 * nI) size && tableOk (at_ l 24 4) (32 * nD) size && tableOk (at_ l 28 4) (128 * nN) size &&
      tableOk (at_ l 36 4) 64 size && tableOk (at_ l 40 4) (8 * nB) size) then 2
  else if !(decide (at_ l 44 4 < nI) && bs.all fun b => decide (b.2.2 < nI)) then 3
  else if !bucketsSorted bs then 4
  else if !(bs.all fun b => b.1 != 0 && b.2.1 != 0) then 5
  else if !((recordsAt l (at_ l 24 4) 32 nD).all descOk) then 6
  else if at_ l 56 4 ≠ crc32 ((l.take size).drop 64) then 7
  else 0

/-- A table built from a list, from index 0. -/
def listTable {α : Type} [DecidableEq α] (d : α) (l : List α) (t : Table α) : Table α :=
  (l.zipIdx).foldl (fun t p => tset (fun _ => d) t p.2 p.1) t

/-- GO: the image at ENTRY is validated and loaded, and the context becomes READY (R183, R254, R255, R270). -/
def State.goContext (s : State) (n m : Nat) : State :=
  let k := 4 * n + m
  let x := s.ctx k
  if x.state ≠ .off ∨ (s.core n).initBusy = true then s.cfgErr 0x04 k
  else
    let a := s.rf (Addr.tcCxEntry n m + 4) 7 0 * 2 ^ 32 + s.rf (Addr.tcCxEntry n m) 31 6 * 64
    let rd := s.unitRead (.tc n) (cxQos (k % 4)) a 64
    let h := rd.1
    let s := rd.2
    let size := at_ (plain h) 8 4
    let got := s.unitRead (.tc n) (cxQos (k % 4)) (a + 64) (size - 64)
    let l := got.1
    let s := got.2
    let l := plain h ++ plain l
    let e := imageErr l
    if e ≠ 0 then s.raise .cfg 0x04 k none [(1, e)]
    else
      let x := { x with
        state := .ready, wait := .none, saved := .none, stopping := false, hold := false, ended := false,
        image := a, instrAt := at_ l 16 4, nInstr := at_ l 12 4, fetchIdx := at_ l 44 4, domain := at_ l 33 1,
        buckets := (recordsAt l (at_ l 40 4) 8 (at_ l 32 1)).map parseBucket,
        descs := if at_ l 20 2 = 0 then x.descs else listTable {} ((recordsAt l (at_ l 24 4) 32 (at_ l 20 2)).map parseDesc) [],
        nests := if at_ l 22 2 = 0 then x.nests else listTable {} ((recordsAt l (at_ l 28 4) 128 (at_ l 22 2)).map parseNest) [],
        bucketId := 0, valid := none, prefixPos := none, released := false, signal := false, deadline := none, depOpen := [],
        marks := [], yieldFor := [], sync := none, synced := false, fault := none, miss := none }
      let s := s.setCtx k x
      forEach ((List.range 16).filter fun i => nbit (at_ l 34 2) i = 1)
        (fun i t => t.setReg (Addr.tcCxS n m i) (w32 (at_ l (at_ l 36 4 + 4 * i) 4))) s

/-- Requests of a context in groups that have not started fetching are withdrawn (R378). -/
def withdrawReqs (t : Table (Option FillGrp)) (n m : Nat) : Table (Option FillGrp) :=
  (List.range 16).foldl (fun t i =>
    match tget (fun _ => none) t i with
    | some g =>
      if g.fetching then t
      else
        let r := g.reqs.filter fun q => !(q.core == n && q.cx == m)
        tset (fun _ => none) t i (if r = [] then none else some { g with reqs := r })
    | none => t) t

/-- Whether a slot has a request in a group that has not started fetching. -/
def inPending (t : Table (Option FillGrp)) (n id : Nat) : Bool :=
  (List.range 16).any fun i => match tget (fun _ => none) t i with
    | some g => !g.fetching && g.reqs.any fun q => q.core == n && q.slot == id
    | none => false

/-- An instruction of the window as it stood before its issue. -/
def Slot.unissued (e : Slot) : Slot :=
  { e with issued := false, running := false, started := false, waits := false, ranges := [], group := none, item := none, pend := [],
           writes := [], found := none }

/-- The queue registrations of a context's waiting pass instructions withdrawn (R257, R392). -/
def State.leaveQueues (s : State) (n m : Nat) : State :=
  ((s.core n).slots.filter fun e => e.cx == m && e.waits && e.op != 0x49).foldl (fun t e => t.unwait (hCtx n m) (mo e.w 85 80)) s

/-- A context's arrival at a barrier withdrawn (R408). -/
def State.leaveBarrier (s : State) (k id : Nat) : State :=
  match tget (fun _ => none) s.pass.barriers id with
  | some b =>
    let a := b.arrived.filter (· != k)
    { s with pass := { s.pass with barriers := tset (fun _ => none) s.pass.barriers id (if a = [] then none else some { b with arrived := a }) } }
  | none => s

/-- The driver's STOP takes hold (R183, R184, R257, R378, R408): dispatch is held, a wait is cancelled to be repeated on
RESUME, pending LOADW requests are withdrawn, a pass operation that waits goes back to the window. -/
def State.stopContext (s : State) (n m : Nat) : State :=
  let k := 4 * n + m
  let x := s.ctx k
  let s := match x.wait with
    | .barrier id => s.leaveBarrier k id
    | _ => s.leaveQueues n m
  let asks := fun (e : Slot) => e.op == 0x12 && !e.retired && (inPending s.wch.groupsA n e.id || inPending s.wch.groupsB n e.id)
  let c := s.core n
  let s := s.setCore n { c with slots := c.slots.map fun e => if e.cx == m && (e.waits || asks e) then e.unissued else e }
  let s := { s with wch := { s.wch with groupsA := withdrawReqs s.wch.groupsA n m, groupsB := withdrawReqs s.wch.groupsB n m } }
  s.setCtx k { x with stopping := true, saved := x.wait, wait := .none }

/-- STOP of a context: only from READY or a wait state (R183). -/
def State.stopCmd (s : State) (n m : Nat) : State :=
  if (s.ctx (4 * n + m)).state.live = true ∧ (s.ctx (4 * n + m)).stopping = false then s.stopContext n m
  else s.cfgErr 0x04 (4 * n + m)

/-- A stopping context whose operations in flight have all retired is STOPPED (R183). -/
def State.stopped (s : State) (n m : Nat) : State :=
  let k := 4 * n + m
  let x := s.ctx k
  if x.stopping = true ∧ ((s.core n).slots.all fun e => e.cx != m || !e.issued || e.retired || e.unit == .seq) = true then
    (s.setCtx k { x with stopping := false, state := .stopped, resume := x.state }).tryHalt n
  else s

/-- RESET of a context: OFF, its scalars, its loop nests, LATE, EXCLUDED and timed prefix cleared, its descriptors kept (R183, R187,
R210). What has retired stays in the window (R156), and what is in flight goes on, but for a pass operation that
waits (DESIGN CHOICE, log entry 81). -/
def State.resetContext (s : State) (n m : Nat) : State :=
  let k := 4 * n + m
  let x := s.ctx k
  match x.state with
  | .stopped | .done | .halted =>
    let s := s.leaveQueues n m
    let c := s.core n
    let s := s.setCore n { c with slots := c.slots.filter fun e => e.cx != m || e.retired || (e.issued && e.unit != .seq && !e.waits) }
    let s := s.setCtx k { descs := x.descs, domain := x.domain, signal := x.signal }
    (forEach (List.range 16) (fun i t => t.setReg (Addr.tcCxS n m i) 0) s).barAll
  | _ => s.cfgErr 0x04 k

/-- A command to a context of a core that exists. -/
def ifCx (n m : Nat) (f : State → State) (s : State) : Host.Outcome State Fault Refusal :=
  .next (if n < 8 ∧ m < 4 then f s else s)

/-- `GO`: R183, R254, R255. -/
def execGoCtx (n m : Nat) (s : State) : Host.Outcome State Fault Refusal := ifCx n m (·.goContext n m) s
/-- `STOP`: R183, R184. -/
def execStopCtx (n m : Nat) (s : State) : Host.Outcome State Fault Refusal := ifCx n m (·.stopCmd n m) s
/-- `CONTEXT_STOPPED`: R183. -/
def execContextStopped (n m : Nat) (s : State) : Host.Outcome State Fault Refusal := ifCx n m (·.stopped n m) s
/-- `RESET`: R183, R187. -/
def execResetCtx (n m : Nat) (s : State) : Host.Outcome State Fault Refusal := ifCx n m (·.resetContext n m) s

/-- HALT_REQ set: every live context stops, then the core halts (R189). -/
def State.haltReq (s : State) (n : Nat) : State :=
  let s := s.setRf (Addr.tcCtrl n) 1 1 1
  (forEach [0, 1, 2, 3] (fun m t =>
    if (t.ctx (4 * n + m)).state.live = true ∧ (t.ctx (4 * n + m)).stopping = false then t.stopContext n m else t) s).tryHalt n

/-- HALT_REQ cleared: the core returns to service, its contexts as they are (R190). -/
def State.haltReqClear (s : State) (n : Nat) : State :=
  let s := s.setRf (Addr.tcCtrl n) 1 1 0
  s.setCore n { s.core n with halted := false }

/-- `HALT_REQ`: R189. -/
def execHaltReq (n : Nat) (s : State) : Host.Outcome State Fault Refusal := .next (if n < 8 then s.haltReq n else s)
/-- `HALT_REQ_CLEAR`: R190. -/
def execHaltReqClear (n : Nat) (s : State) : Host.Outcome State Fault Refusal := .next (if n < 8 then s.haltReqClear n else s)

/-- Window entries of a context's share (R155). -/
def State.winShare (s : State) (n m : Nat) : Nat := 4 * s.rf (Addr.tcWin n) (4 * m + 3) (4 * m)

/-- The slots with the oldest retired one of a context freed where its share is full (R156); none when nothing can be
freed. -/
def makeRoom (l : List Slot) (m share : Nat) : Option (List Slot) :=
  if (l.filter fun e => e.cx == m).length < share then some l
  else match l.find? fun e => e.cx == m && e.retired with
    | some e => some (l.filter fun x => x.id != e.id)
    | none => none

/-- Whether dispatch of later instructions waits for an opcode's issue (R220). -/
def holdsFetch (op : Nat) : Bool := [0x01, 0x50, 0x51, 0x52, 0x53, 0x54, 0x57].contains op

/-- The dispatch of a context's next instruction into the window with room made (R156, R212, R220). -/
def State.dispatch (s : State) (n m : Nat) (slots : List Slot) (op : Nat) (w : Insn) : State :=
  let k := 4 * n + m
  let x := s.ctx k
  let c := s.core n
  let sl : Slot := { id := c.nextId, cx := m, idx := x.fetchIdx, op := op, w := w, unit := opUnit op }
  let s := s.setCore n { c with slots := slots ++ [sl], nextId := c.nextId + 1 }
  s.setCtx k { x with fetchIdx := x.fetchIdx + 1, hold := holdsFetch op, ended := op == 0x01, released := false,
                      depOpen := if nbit w.flags 1 = 1 then x.depOpen ++ [sl.id] else x.depOpen }

/-- A T-flagged instruction reaches its dispatch (R164, R182, R209, R210): it is dispatched when the context's timed position has
been reached; until then a READY context waits on the line. An earlier WAITLINE that is to set the position comes first (DESIGN
CHOICE, log entry 79). -/
def State.dispatchTimed (s : State) (n m : Nat) (slots : List Slot) (op : Nat) (w : Insn) : State :=
  let k := 4 * n + m
  let x := s.ctx k
  if ((s.core n).waiting m).any (fun e => e.op == 0x07 && mo e.w 120 120 == 1) = true then s
  else match x.prefixPos with
    | none => s.haltCtx n m x.fetchIdx .illegalOp []
    | some (d, f, p) =>
      if x.released = true ∨ s.posReached d f p = true then s.dispatch n m slots op w
      else if x.state = .ready then s.setCtx k { x with state := .waitLine, wait := .timed d f p }
      else s

/-- Whether a context's next instruction may be fetched now. -/
def State.mayFetch (s : State) (n m : Nat) : Bool :=
  let x := s.ctx (4 * n + m)
  let timed := match x.wait with | .timed _ _ _ => true | _ => false
  x.state.live && !x.stopping && !x.hold && !x.ended && x.fault.isNone && !timed && s.tcOn n && !(s.core n).halted

/-- The fetch and dispatch of a context's next instruction (R156, R196, R203, R204, R210, R212, R220, R221). A poisoned fetch
halts the context when its earlier instructions have completed. -/
def State.fetchInsn (s : State) (n m : Nat) : State :=
  let k := 4 * n + m
  let x := s.ctx k
  if s.mayFetch n m = false then s
  else match makeRoom (s.core n).slots m (s.winShare n m) with
    | none => s
    | some slots =>
      if x.nInstr ≤ x.fetchIdx then s.haltCtx n m x.fetchIdx .desc []
      else
        let rd := s.unitRead (.tc n) (cxQos m) (x.image + x.instrAt + 16 * x.fetchIdx) 16
        let l := rd.1
        let s := rd.2
        if anyPoison l then (s.setCtx k { x with fault := some (x.fetchIdx, .fetchPoison) }).settleCtx n m
        else
          let got := decodeInsn (leNat (plain l))
          let op := got.1
          let w := got.2
          match insnErr op k w with
          | some e => s.haltCtx n m x.fetchIdx e []
          | none => if nbit w.flags 0 = 1 then s.dispatchTimed n m slots op w else s.dispatch n m slots op w

/-- `INSTRUCTION_FETCH`: R196, R203, R204, R221. -/
def execInstructionFetch (n m : Nat) (s : State) : Host.Outcome State Fault Refusal := ifCx n m (·.fetchInsn n m) s

end Sys2Proof.Machine
end

