-- ==== Sys2Proof/Machine/Control.lean ====
section
/-! DEFINITION. The control and time instructions of a tensor core (R151-R153, R165-R169, R207-R213, R222-R225, R315-R317,
R406-R410) and the events that end their waits. -/

namespace Sys2Proof.Machine

open Sys2Proof

/-- An instruction row: its effect where the window holds that instruction and it is issuable, else nothing. -/
def atIssue (n m op : Nat) (w : Insn) (f : Slot → State → State) (s : State) : Host.Outcome State Fault Refusal :=
  .next (match s.issueAt n m op w with | some sl => f sl s | none => s)

/-- `NOP`: R222. -/
def execNopI (n m : Nat) (w : Insn) (s : State) : Host.Outcome State Fault Refusal :=
  atIssue n m 0x00 w (fun sl s => s.seqDone n m sl) s

/-- `HALT`: the context is DONE when every earlier instruction has retired (R222). -/
def execHaltI (n m : Nat) (w : Insn) (s : State) : Host.Outcome State Fault Refusal :=
  atIssue n m 0x01 w (fun sl s =>
    let s := s.seqHeld n m sl
    (s.setCtx (4 * n + m) { s.ctx (4 * n + m) with wait := .halt }).settle n m) s

/-- The other contexts of a core that have an issuable instruction (R152). -/
def State.issuableOthers (s : State) (n m : Nat) : List Nat := [0, 1, 2, 3].filter fun j => j != m && s.canIssue n j

/-- `YIELD`: R152. -/
def execYieldI (n m : Nat) (w : Insn) (s : State) : Host.Outcome State Fault Refusal :=
  atIssue n m 0x02 w (fun sl s =>
    let o := s.issuableOthers n m
    let s := s.seqDone n m sl
    s.setCtx (4 * n + m) { s.ctx (4 * n + m) with yieldFor := o }) s

/-- `YIELD_TIMEOUT`: 64 TCLK cycles end a YIELD (R152). -/
def execYieldTimeout (n m : Nat) (s : State) : Host.Outcome State Fault Refusal :=
  ifCx n m (fun s => s.setCtx (4 * n + m) { s.ctx (4 * n + m) with yieldFor := [] }) s

/-- `FENCE`: issues when every earlier instruction has retired (R151). -/
def execFenceI (n m : Nat) (w : Insn) (s : State) : Host.Outcome State Fault Refusal :=
  atIssue n m 0x03 w (fun sl s => s.seqDone n m sl) s

/-- `DEPMARK`: names the open set, or with ALL every earlier instruction, and opens a new set (R212, R213). -/
def execDepmarkI (n m : Nat) (w : Insn) (s : State) : Host.Outcome State Fault Refusal :=
  atIssue n m 0x04 w (fun sl s =>
    let x := s.ctx (4 * n + m)
    let all := ((s.core n).slots.filter fun e => e.cx == m && decide (e.id < sl.id)).map (·.id)
    let later := x.depOpen.filter fun i => decide (sl.id < i)
    let mem := if mo w 80 80 = 1 then all else x.depOpen.filter fun i => decide (i < sl.id)
    let s := s.seqDone n m sl
    s.setCtx (4 * n + m) { s.ctx (4 * n + m) with depOpen := later, marks := x.marks ++ [(sl.id, mem)] }) s

/-- `BARRIER`: R222, R406, R407. -/
def execBarrierI (n m : Nat) (w : Insn) (s : State) : Host.Outcome State Fault Refusal :=
  atIssue n m 0x05 w (fun sl s =>
    let k := 4 * n + m
    let id := mo w 83 80
    let s := s.seqHeld n m sl
    match s.arrive k id (mo w 115 84) with
    | some t => (t.setCtx k { t.ctx k with state := .waitSync, wait := .barrier id }).barCheck id
    | none => s.haltCtx n m sl.idx .barrier []) s

/-- `DRAIN`: R153. -/
def execDrainI (n m : Nat) (w : Insn) (s : State) : Host.Outcome State Fault Refusal :=
  atIssue n m 0x06 w (fun sl s =>
    let s := s.seqHeld n m sl
    (s.setCtx (4 * n + m) { s.ctx (4 * n + m) with state := .waitSync, wait := .drain }).settle n m) s

/-- The contexts that a nest's implied barrier holds: the same one of each core in CORES (R316). -/
def nestMask (cores m : Nat) : Nat := (maskBits cores 8).foldl (fun a c => a + 2 ^ (4 * c + m)) 0

/-- `NEST_IMPLIED_SYNC`: once a nested instruction has retired, its implied DRAIN ends when every instruction before it has too,
and its implied BARRIER is entered then (R315-R317). -/
def execNestImpliedSync (n m : Nat) (s : State) : Host.Outcome State Fault Refusal :=
  ifCx n m (fun s =>
    let k := 4 * n + m
    let x := s.ctx k
    match x.wait, x.sync with
    | .nest, some (kind, id, cores, sid) =>
      let upTo := (s.core n).slots.all fun e => e.cx != m || decide (sid < e.id) || e.retired
      let own := match (s.core n).slot? sid with | some e => e.retired | none => true
      if own = false then s
      else if kind = 1 then
        (s.setCtx k { x with wait := .drain, synced := true }).settleCtx n m
      else if upTo = false then s
      else
        match s.arrive k id (nestMask cores m) with
        | some t => (t.setCtx k { x with wait := .barrier id, synced := true }).barCheck id
        | none => s.haltCtx n m (match (s.core n).slot? sid with | some e => e.idx | none => 0) .barrier []
    | _, _ => s) s

/-- `WAITLINE`: R165, R207, R208, R211, R224. -/
def execWaitlineI (n m : Nat) (w : Insn) (s : State) : Host.Outcome State Fault Refusal :=
  atIssue n m 0x07 w (fun sl s =>
    let k := 4 * n + m
    let x := s.ctx k
    let d := mo w 82 80
    if mo w 120 120 = 1 then s
    else if noPos w then
      if x.signal then (s.setCtx k { x with signal := false }).seqDone n m sl
      else if (s.dom d).running = false then s.seqDone n m sl
      else
        let s := s.seqHeld n m sl
        s.setCtx k { s.ctx k with state := .waitLine, wait := .line d none }
    else
      let p := s.resolvePos n m w
      if s.posReached p.1 p.2.1 p.2.2 then s.seqDone n m sl
      else
        let s := s.seqHeld n m sl
        s.setCtx k { s.ctx k with state := .waitLine, wait := .line p.1 (some p.2) }) s

/-- `WAITLINE_SETPFX`: the context's timed position is set, without waiting (R209). -/
def execWaitlineSetpfx (n m : Nat) (w : Insn) (s : State) : Host.Outcome State Fault Refusal :=
  atIssue n m 0x07 w (fun sl s =>
    if mo w 120 120 = 1 then
      let p := s.resolvePos n m w
      let s := s.seqDone n m sl
      s.setCtx (4 * n + m) { s.ctx (4 * n + m) with prefixPos := some p }
    else s) s

/-- `WAITLINE_RELEASE`: the published position reaches the position waited for (R165, R169, R182). -/
def execWaitlineRelease (n m : Nat) (s : State) : Host.Outcome State Fault Refusal :=
  ifCx n m (fun s =>
    match (s.ctx (4 * n + m)).wait with
    | .line d (some (f, p)) => if s.posReached d f p then s.wake (4 * n + m) else s
    | .timed d f p =>
      if s.posReached d f p then (s.setCtx (4 * n + m) { s.ctx (4 * n + m) with released := true }).wake (4 * n + m) else s
    | _ => s) s

/-- `DEADLINE`: opens a region at its retirement and closes the one before (R166, R208, R211). -/
def execDeadlineI (n m : Nat) (w : Insn) (s : State) : Host.Outcome State Fault Refusal :=
  atIssue n m 0x08 w (fun sl s =>
    let p := s.resolvePos n m w
    let pos := if noPos w ∨ (s.dom p.1).running = false then none else some p
    (s.seqHeld n m { sl with pos := pos }).settle n m) s

/-- `DEADLINE_MISS`: R167, R195. -/
def execDeadlineMiss (n m : Nat) (s : State) : Host.Outcome State Fault Refusal :=
  ifCx n m (fun s =>
    let k := 4 * n + m
    let x := s.ctx k
    match x.deadline with
    | some (d, f, p) =>
      if (s.dom d).running = true ∧ s.posReached d f p = true ∧ s.absent k = false then
        let q := s.pub d
        let det := [(4, posWord d f p), (4, posWord d (s.dom d).frame q)]
        let rec1 := s.mkRec .deadline Code.deadline.cls 0x04 k (some (s.ctx (4 * n)).domain) det
        let s := s.setCtx k { x with late := true, deadline := none, miss := some (s.now, rec1) }
        let s := s.inc (Addr.tcCxMiss n m) 1
        s.raise .deadline 0x04 k (some (s.ctx (4 * n)).domain) det
      else s
    | none => s) s

/-- `SIGNAL`: sent when every earlier instruction has retired (R222, R224). -/
def execSignalI (n m : Nat) (w : Insn) (s : State) : Host.Outcome State Fault Refusal :=
  atIssue n m 0x09 w (fun sl s => (s.seqHeld n m sl).settle n m) s

end Sys2Proof.Machine
end

