-- ==== Sys2Proof/Machine/Movement.lean ====
section
/-! DEFINITION. The movement instructions of a tensor core (R226-R229, R266, R272-R277, R367-R370, R379) and the checks at
issue that every family shares (R325, checks 6-9 and 12-14). -/

namespace Sys2Proof.Machine

open Sys2Proof

/-- Checks 12-14 of R325 on the nest of an instruction of core `n`. -/
def nestErr (n : Nat) (t : Nest) : Option Nat :=
  if 6 < t.nlev ∨ t.zeros = false then some 12
  else if 4 < t.split ∨ 2 < t.between ∨ (t.split ≠ 0 ∧ nbit t.cores n = 0) ∨ (2 ≤ t.split ∧ t.cores ≠ 0xFF) ∨
      (t.between = 2 ∧ t.split < 2) then some 13
  else if t.split ≠ 0 ∧ (t.nlev ≤ t.rlev ∨ (t.bands.2 > 1 ∧ (t.nlev ≤ t.clev ∨ t.clev = t.rlev))) then some 14
  else none

/-- Checks 6-9 of R325 on an operand; `half` is the H flag of an array instruction's destination. -/
def spaceErr (d : Desc) (fp : Option (Int × Int)) (half : Bool) : Option Nat :=
  match fp with
  | none => none
  | some (a, b) =>
    let inLine := (d.e 1 - 1) * d.st 1 + (d.e 3 - 1) * d.st 3 + d.run
    match d.space with
    | 1 =>
      if a < 0 ∨ 4 * 131072 < b then some 6
      else if half = true ∧ (4 * 65536 < b - a ∨ (a < 4 * 65536 ∧ 4 * 65536 < b)) then some 6
      else none
    | 0 => if a < 0 ∨ 4194304 < b then some 7 else none
    | 2 =>
      if a < 0 ∨ 16 ≤ (b - inLine) / 8192 then some 8
      else if 8192 < inLine then some 9
      else none
    | _ => none

/-- The least check number of a list, if any. -/
def minCheck : List (Option Nat) → Option Nat
  | [] => none
  | none :: r => minCheck r
  | some k :: r => match minCheck r with | none => some k | some j => some (min k j)

/-- The first of checks 6-9 and 12-14 that an instruction fails (R325), with those of its own family given. -/
def State.checks (s : State) (n m : Nat) (sl : Slot) (own : List (Option Nat)) : Option Nat :=
  let x := s.ctx (4 * n + m)
  let t := x.nest sl.w.nest
  let ne := nestErr n t
  let sp := if ne = none then (x.operands sl.op sl.w).map fun o =>
      spaceErr o.1 (s.footprint n m o.1 t o.2.1) (o.2.2 && nbit sl.w.flags 5 == 1) else []
  minCheck (ne :: sp ++ own)

/-- The byte pairs (destination, source) that a movement copies in each of its executions (R226, R305, R313). -/
def State.moveRuns (s : State) (n m op : Nat) (w : Insn) : List (List (Nat × Nat)) :=
  let x := s.ctx (4 * n + m)
  let a := x.desc w.opa
  let d := x.desc w.dst
  let t := x.nest w.nest
  (x.runsOf n op w).map fun c =>
    let ab := s.iterBase n m a t (·.sa) c
    let db := s.iterBase n m d t (·.sd) c
    d.outer.flatMap fun o => (List.range d.run).map fun b =>
      (db.toNat + d.eoff 0 o.1 o.2.1 o.2.2 / 2 + b, ab.toNat + a.eoff 0 o.1 o.2.1 o.2.2 / 2 + b)

/-- All the byte pairs of a movement, in order. -/
def State.movePairs (s : State) (n m op : Nat) (w : Insn) : List (Nat × Nat) := (s.moveRuns n m op w).flatten

/-- Byte pairs of which each destination keeps its last (R309). -/
def lastPairs : List (Nat × Nat) → List (Nat × Nat)
  | [] => []
  | p :: r => if r.any (·.1 == p.1) then lastPairs r else p :: lastPairs r

/-- Byte pairs as the 64-byte lines of their sources (R272), each with the destination bytes that it gives. -/
def pendOf (l : List (Nat × Nat)) : List Pend :=
  let last := lastPairs l
  ((l.map fun p => p.2 / 64 * 64).eraseDups).map fun a => ⟨a, last.filter fun p => p.2 / 64 * 64 == a⟩

/-- Whether OPA and DST have equal extents and element sizes (R226). -/
def sameShape (a d : Desc) : Bool := a.ext == d.ext && dtNib a.dtype == dtNib d.dtype

/-- Whether a load of the given pairs keeps region `k` valid: it writes every byte of the region that it touches from
that byte's own origin (R281). -/
def State.keepsRegion (s : State) (n : Nat) (l : List (Nat × Nat)) (k : Nat) : Bool :=
  l.all fun p => decide (p.1 < s.resBase n k) || decide (s.resBase n k + s.resSize n k ≤ p.1) ||
    p.2 == s.resOrg n k + (p.1 - s.resBase n k)

/-- The dissolutions that an instruction's issue causes by its scratchpad writes (R281). -/
def State.dissolveFor (s : State) (n m : Nat) (sl : Slot) (keep : Nat → Bool) : State :=
  ((s.ctx (4 * n + m)).operands sl.op sl.w).foldl (fun t o =>
    if o.2.2 = true ∧ o.1.space = 0 then t.dissolveAt n (s.operRuns n m sl.op sl.w o) keep else t) s

/-- `LOAD`: issues its line requests; each is filled by a LOAD_DATA_RETURN (R226, R272-R274). -/
def execLoadI (n m : Nat) (w : Insn) (s : State) : Host.Outcome State Fault Refusal :=
  atIssue n m 0x10 w (fun sl s =>
    let x := s.ctx (4 * n + m)
    let a := x.desc w.opa
    let d := x.desc w.dst
    match s.checks n m sl [if a.space = 3 ∧ (d.space = 0 ∨ d.space = 2) ∧ sameShape a d = true then none else some 10] with
    | some e => s.haltTile n m sl e
    | none =>
      let l := s.movePairs n m 0x10 w
      (s.dissolveFor n m sl (s.keepsRegion n l)).fly n m { sl with pend := pendOf l, space := d.space }) s

/-- The writes of bytes, each with its poison (R228, R268). -/
def byteWrites (l : List (Nat × Byte × Bool)) : List EWrite := l.map fun b => ⟨2 * b.1, 2, b.2.1.toNat, b.2.2⟩

/-- `LOAD_DATA_RETURN`: a line that was asked for arrives, in whatever order, its bytes are written, and its entry goes to a
request that waits (R228, R273, R274, R277). -/
def execLoadDataReturn (n id line : Nat) (s : State) : Host.Outcome State Fault Refusal :=
  .next (match (s.core n).slot? id with
    | none => s
    | some sl =>
      if n < 8 ∧ sl.retired = false then
        match sl.sent.find? (·.line == line) with
        | none => s
        | some p =>
          let got := s.readLine (.tc n) (cxQos sl.cx) p.line 64
          let l := got.1
          let s := got.2.perf n sl.space (byteWrites (p.bytes.map fun b => (b.1, lget (0, false) l (b.2 - p.line))))
          s.setCore n ((s.core n).setSlot { sl with sent := sl.sent.erase p }).sendReads
      else s)

/-- One request of a STORE: the bytes of a DRAM line with their sources' values, and the poison of each 32-byte beat (R228,
R272). -/
def Core.lineReq (c : Core) (line : Nat) (l : List (Nat × Nat)) : WReq :=
  let at1 (i : Nat) := l.find? (·.1 == line + i)
  let beat (h : Nat) := l.any fun p => p.1 / 32 == line / 32 + h && c.spois 0 p.2
  ⟨line, ((List.range 64).map fun i => if (at1 i).isSome then 2 ^ i else 0).foldl (· + ·) 0,
   (List.range 64).map fun i => match at1 i with | some p => c.sbyte 0 p.2 | none => 0,
   b2n (beat 0) + 2 * b2n (beat 1)⟩

/-- The requests of a STORE, one for each DRAM line it touches (R272). -/
def Core.storeReqs (c : Core) (l : List (Nat × Nat)) : List WReq :=
  let last := lastPairs l
  ((last.map fun p => p.1 / 64 * 64).eraseDups).map fun a => c.lineReq a (last.filter fun p => p.1 / 64 * 64 == a)

/-- `STORE`: its rows are read at issue and sent as the store unit has entries, poisoned sectors with poison (R226, R228, R272,
R273, R275, R385). -/
def execStoreI (n m : Nat) (w : Insn) (s : State) : Host.Outcome State Fault Refusal :=
  atIssue n m 0x11 w (fun sl s =>
    let x := s.ctx (4 * n + m)
    let a := x.desc w.opa
    let d := x.desc w.dst
    match s.checks n m sl [if a.space = 0 ∧ d.space = 3 ∧ sameShape a d = true then none else some 10] with
    | some e => s.haltTile n m sl e
    | none =>
      let reqs := (s.core n).storeReqs (s.movePairs n m 0x11 w)
      let sl := s.reading n m sl
      let s := s.setCtx (4 * n + m) { x with poisoned := x.poisoned || reqs.any (·.poison != 0) }
      s.fly n m { sl with outw := reqs }) s

/-- Whether an operand is dense (R369): each stride is the extent times the stride below it. -/
def Desc.dense (d : Desc) : Bool :=
  let b := d.run
  (decide (d.e 1 ≤ 1) || d.st 1 == b) && (decide (d.e 2 ≤ 1) || d.st 2 == b * d.e 1) && (decide (d.e 3 ≤ 1) || d.st 3 == b * d.e 1 * d.e 2)

/-- The head of a core's chain: 0 for A, 1 for B (R367). -/
def State.headOf (s : State) (n : Nat) : Nat := if s.rb Addr.wchCtrl 0 = true ∧ 4 ≤ n then 1 else 0

/-- The groups of a head. -/
def State.groups (s : State) (h : Nat) : Table (Option FillGrp) := if h = 0 then s.wch.groupsA else s.wch.groupsB

/-- The state with the groups of a head replaced. -/
def State.setGroups (s : State) (h : Nat) (t : Table (Option FillGrp)) : State :=
  if h = 0 then { s with wch := { s.wch with groupsA := t } } else { s with wch := { s.wch with groupsB := t } }

/-- A group of a head. -/
def State.group (s : State) (h g : Nat) : Option FillGrp := tget (fun _ => none) (s.groups h) g

/-- The state with a group of a head replaced. -/
def State.setGroup (s : State) (h g : Nat) (x : Option FillGrp) : State := s.setGroups h (tset (fun _ => none) (s.groups h) g x)

/-- A LOADW's source address and length (R368). -/
def State.fillSrc (s : State) (n m : Nat) (w : Insn) : Nat × Nat :=
  let a := (s.ctx (4 * n + m)).desc w.opa
  ((s.effBase n m a).toNat, a.run * a.e 1 * a.e 2 * a.e 3)

/-- A LOADW's request joins its group, or forms one (R368, R370); a full head, or a bypass of its core (R377), leaves it
waiting. -/
def State.joinGroup (s : State) (n m : Nat) (sl : Slot) : State :=
  let h := s.headOf n
  let got := s.fillSrc n m sl.w
  let src := got.1
  let len := got.2
  let mask := mo sl.w 87 80
  if nbit s.wch.bypass n = 1 then s else
  let fits := fun (g : FillGrp) => !g.fetching && g.src == src && g.len == len && g.mask == mask && g.reqs.all fun q => q.core != n
  match (List.range 16).find? fun i => match s.group h i with | some g => fits g | none => false with
  | some i =>
    match s.group h i with
    | some g => (s.setGroup h i (some { g with reqs := g.reqs ++ [⟨n, m, sl.id⟩] })).setCore n ((s.core n).setSlot { sl with group := some g.gid })
    | none => s
  | none =>
    match (List.range 16).find? fun i => s.group h i == none with
    | some i =>
      let gid := s.wch.nextGid
      let s := { s with wch := { s.wch with nextGid := gid + 1 } }
      (s.setGroup h i (some { gid := gid, src := src, len := len, mask := mask, reqs := [⟨n, m, sl.id⟩], since := s.now })).setCore n
        ((s.core n).setSlot { sl with group := some gid })
    | none => s

/-- The sectors of an interval of the scratchpad poisoned. -/
def Core.poisonRange (c : Core) (space a b : Nat) : Core :=
  (List.range (cdiv b 32 - a / 32)).foldl (fun c i => c.setSpois space (a / 32 + i) true) c

/-- `LOADW`: requests a chain fill (R229, R367-R370, R379). -/
def execLoadwI (n m : Nat) (w : Insn) (s : State) : Host.Outcome State Fault Refusal :=
  atIssue n m 0x12 w (fun sl s =>
    let x := s.ctx (4 * n + m)
    let a := x.desc w.opa
    let d := x.desc w.dst
    let mask := mo w 87 80
    let got := s.fillSrc n m w
    let src := got.1
    let len := got.2
    let ok := a.space = 3 ∧ d.space = 0 ∧ sameShape a d = true ∧ nbit mask n = 1 ∧
      ¬ (s.rb Addr.wchCtrl 0 = true ∧ mask % 16 ≠ 0 ∧ mask / 16 ≠ 0) ∧ a.dense = true ∧ src % 64 = 0 ∧ len % 64 = 0
    match s.checks n m sl [if ok then none else some 10] with
    | some e => s.haltTile n m sl e
    | none =>
      let l := s.movePairs n m 0x12 w
      let s := s.dissolveFor n m sl (s.keepsRegion n l)
      if l = [] then s.fly n m { sl with space := 0 }
      else if s.rb Addr.wchCtrl 31 = true then
        let s := s.fly n m { sl with pend := pendOf l, space := 0 }
        match (s.core n).slot? sl.id with
        | some e => s.joinGroup n m e
        | none => s
      else
        let s := s.fly n m { sl with space := 0 }
        let s := match s.footprint n m d noNest (·.sd) with
          | some (p, q) => s.setCore n ((s.core n).poisonRange 0 p.toNat q.toNat)
          | none => s
        s.raise .wchOff 0x07 0 (some (s.ctx (4 * n)).domain) []) s

/-- Whether a space is on chip. -/
def onChip (sp : Nat) : Bool := decide (sp ≤ 2)

/-- The result of a COPY: its executions in turn (R226, R305, R309). -/
def State.copyRun (w : Insn) (n m : Nat) (s : State) : VRes :=
  let x := s.ctx (4 * n + m)
  let a := (x.desc w.opa).space
  (s.core n).inTurn (x.desc w.dst).space (s.moveRuns n m 0x13 w) fun c l => ⟨byteWrites (l.map fun p => (p.1, c.sbyte a p.2, c.spois a p.2)), []⟩

/-- The result of a FILL: the pattern in every element (R226). -/
def State.fillRun (w : Insn) (n m : Nat) (s : State) : VRes :=
  let x := s.ctx (4 * n + m)
  let d := x.desc w.dst
  ⟨(x.runsOf n 0x14 w).flatMap fun c =>
    d.elems.map fun e => d.wrBits (s.iterBase n m d (x.nest w.nest) (·.sd) c) e.1 e.2.1 e.2.2.1 e.2.2.2 (mo w 111 80) false, []⟩

/-- Excluded sectors counted, and EXCLUDED set (R174). -/
def State.noteExcluded (s : State) (n m : Nat) (ex : List Nat) : State :=
  let k := ex.eraseDups.length
  if k = 0 then s
  else (s.inc (Addr.tcCxPexcl n m) k).setCtx (4 * n + m) { s.ctx (4 * n + m) with excluded := true }

/-- An operation that computes or copies on the chip at issue: its checks, its writes, flight. -/
def State.vecIssue (s : State) (n m : Nat) (sl : Slot) (own : List (Option Nat)) (f : State → VRes) : State :=
  match s.checks n m sl own with
  | some e => s.haltTile n m sl e
  | none =>
    let r := f s
    let d := (s.ctx (4 * n + m)).desc sl.w.dst
    let sl := s.reading n m sl
    (((s.dissolveFor n m sl (fun _ => false)).perf n d.space r.writes).noteExcluded n m r.excl).fly n m sl

/-- `COPY`: bytes between the spaces of the core (R226-R228, R309). -/
def execCopyI (n m : Nat) (w : Insn) (s : State) : Host.Outcome State Fault Refusal :=
  atIssue n m 0x13 w (fun sl s =>
    let x := s.ctx (4 * n + m)
    let a := x.desc w.opa
    let d := x.desc w.dst
    s.vecIssue n m sl [if onChip a.space = true ∧ onChip d.space = true ∧ sameShape a d = true then none else some 10] (State.copyRun w n m)) s

/-- `FILL`: the pattern in every element (R226, R228, R298). -/
def execFillI (n m : Nat) (w : Insn) (s : State) : Host.Outcome State Fault Refusal :=
  atIssue n m 0x14 w (fun sl s =>
    s.vecIssue n m sl [if onChip ((s.ctx (4 * n + m)).desc w.dst).space = true then none else some 10] (State.fillRun w n m)) s

end Sys2Proof.Machine
end

