-- ==== Sys2Proof/Machine/Compute.lean ====
section
/-! DEFINITION. The array, vector and pooling instructions (R145-R147, R170-R174, R230-R242, R308, R332-R363): the checks
each makes at issue, and its results, computed exactly and written when it issues; the operation stays in flight until
OPERATION_RETIRE. -/

namespace Sys2Proof.Machine

open Sys2Proof

/-- The size of an output axis (R231): the floor of its formula plus 1; none where that is negative or has no stride. -/
def outSize (n pa pb dil k st : Nat) : Option Nat :=
  let v : Int := ((n + pa + pb : Nat) - (dil * (k - 1) + 1 : Nat) : Int) / st + 1
  if st = 0 ∨ v < 0 then none else some v.toNat

/-- The window parameters of an array or pooling instruction. -/
structure Win where
  kh : Nat
  kw : Nat
  sh : Nat
  sw : Nat
  dh : Nat
  dw : Nat
  pt : Nat
  pl : Nat
  pb : Nat
  pr : Nat
  deriving DecidableEq, Repr

/-- The window of an array instruction (R230). -/
def arrayWin (w : Insn) : Win :=
  ⟨mo w 88 86, mo w 91 89, mo w 95 92, mo w 99 96, mo w 103 100, mo w 107 104, mo w 110 108, mo w 116 114, mo w 113 111, mo w 119 117⟩

/-- The window of a pooling instruction (R241). -/
def poolWin (w : Insn) : Win :=
  ⟨mo w 83 80, mo w 87 84, mo w 91 88, mo w 95 92, 1, 1, mo w 98 96, mo w 104 102, mo w 101 99, mo w 107 105⟩

/-- Whether a value lies in 1 to `h`. -/
def in1 (v h : Nat) : Bool := decide (1 ≤ v) && decide (v ≤ h)

/-- Check 2 of R325: GROUP, TYPE and the element types of an array instruction (R232). -/
def typeErr (op : Nat) (w : Insn) (a b d : Desc) : Option Nat :=
  let ty := mo w 85 83
  let ok := match ty with
    | 0 => (a.dtype == 0 || a.dtype == 1) && b.dtype == 0
    | 1 => a.dtype == 2 && b.dtype == 2
    | 2 => a.dtype == 3 && b.dtype == 0
    | 3 => a.dtype == 5 && b.dtype == 5
    | 4 => a.dtype == 6 && b.dtype == 6
    | _ => false
  if ok && decide (mo w 82 80 ≤ 4) && (d.dtype == (if ty ≤ 2 then 4 else 7)) && !(op == 0x22 && decide (mo w 82 80 ≤ 1))
  then none else some 2

/-- Check 1 of R325: the extents of an array instruction and its output sizes (R231, R232, R334). -/
def extErr (op : Nat) (w : Insn) (a b d : Desc) : Option Nat :=
  let v := arrayWin w
  if op = 0x20 then
    if b.ext == [a.e 0, 1, 1, d.e 0] && a.e 1 * a.e 2 * a.e 3 == d.e 1 * d.e 2 * d.e 3 && (a.space != 2 || a.e 3 == 1)
    then none else some 1
  else
    let wo := outSize (a.e 1) v.pl v.pr v.dw v.kw v.sw
    let ho := outSize (a.e 2) v.pt v.pb v.dh v.kh v.sh
    let bx := if op = 0x21 then [a.e 0, v.kw, v.kh, d.e 0] else [1, v.kw, v.kh, a.e 0]
    let k := if op = 0x21 then d.e 0 else a.e 0
    match wo, ho with
    | some x, some y => if decide (1 ≤ x) && decide (1 ≤ y) && a.e 3 == 1 && b.ext == bx && d.ext == [k, x, y, 1] then none else some 1
    | _, _ => some 1

/-- Checks 3-5 of R325 on the window of CONV and DWCONV (R232). -/
def winErr (v : Win) : Option Nat :=
  if !(in1 v.kh 7 && in1 v.kw 7) then some 3
  else if !(in1 v.sh 8 && in1 v.sw 8 && in1 v.dh 8 && in1 v.dw 8) then some 4
  else if !(decide (max v.pt v.pb < v.dh * (v.kh - 1) + 1) && decide (max v.pl v.pr < v.dw * (v.kw - 1) + 1)) then some 5
  else none

/-- Check 10 of R325 for the array instructions (R332). -/
def arraySpaceErr (op : Nat) (a b d : Desc) : Option Nat :=
  if (a.space == 2 || (op == 0x20 && a.space == 0)) && b.space == 0 && d.space == 1 then none else some 10

/-- A product term: the weight and the activation, each with its poison, and the activation's sector. -/
structure Term where
  wv : Val
  wp : Bool
  av : Val
  ap : Bool
  sec : Nat
  deriving DecidableEq, Repr

/-- A list cut into pieces of `k`. -/
def chunks {α : Type} : Nat → Nat → List α → List (List α)
  | 0, _, _ => []
  | _, _, [] => []
  | f + 1, k, l => l.take k :: chunks f k (l.drop k)

/-- The activation element at column u, row v of a line-buffer operand; none for a padded one (R336). -/
def Core.tapAct (c : Core) (a : Desc) (base : Int) (ch : Nat) (u v : Int) : Option (Val × Bool × Nat) :=
  if 0 ≤ u ∧ u < a.e 1 ∧ 0 ≤ v ∧ v < a.e 2 then
    let r := c.elem a base ch u.toNat v.toNat 0
    some (r.1, r.2, ((2 * base).toNat + a.eoff ch u.toNat v.toNat 0) / 64)
  else none

/-- A term of a weight and an activation. -/
def Core.term (c : Core) (b : Desc) (bb : Int) (i j k l : Nat) (x : Option (Val × Bool × Nat)) : List Term :=
  match x with
  | none => []
  | some (v, p, sec) => let r := c.elem b bb i j k l; [⟨r.1, r.2, v, p, sec⟩]

/-- The lane groups of one output element, in the order they reach the accumulator (R336-R338, R342, R343). -/
def Core.lanes (c : Core) (op : Nat) (w : Insn) (a b d : Desc) (ab bb : Int) (e : Nat × Nat × Nat × Nat) : List (List Term) :=
  let v := arrayWin w
  let (k, x, y, z) := e
  let sl := if mo w 85 83 = 1 then 64 else 32
  let slices := chunks (a.e 0 + 1) sl (List.range (a.e 0))
  let at1 := fun (i j : Nat) => ((x * v.sw + j * v.dw : Nat) - (v.pl : Int), (y * v.sh + i * v.dh : Nat) - (v.pt : Int))
  if op = 0x20 then
    let p := x + d.e 1 * (y + d.e 2 * z)
    let got := (p % a.e 1, p / a.e 1 % a.e 2, p / (a.e 1 * a.e 2))
    let j1 := got.1
    let j2 := got.2.1
    let j3 := got.2.2
    slices.map fun g => g.flatMap fun ch =>
      let r := c.elem a ab ch j1 j2 j3
      c.term b bb ch 0 0 k (some (r.1, r.2, ((2 * ab).toNat + a.eoff ch j1 j2 j3) / 64))
  else if op = 0x21 then
    slices.flatMap fun g => (List.range v.kh).flatMap fun i => (List.range v.kw).map fun j =>
      g.flatMap fun ch => c.term b bb ch j i k (c.tapAct a ab ch (at1 i j).1 (at1 i j).2)
  else
    (chunks 49 32 ((List.range v.kh).flatMap fun i => (List.range v.kw).map fun j => (i, j))).map fun g => g.flatMap fun q =>
      c.term b bb 0 q.2 q.1 k (c.tapAct a ab k (at1 q.1 q.2).1 (at1 q.1 q.2).2)

/-- An accumulator entry with the lane groups of one output added (R341, R342): the pattern. -/
def addLanes (flt : Bool) (old : Nat) (l : List (List Term)) : Nat :=
  if flt then
    l.foldl (fun acc g => match g with
      | [] => acc
      | _ => fp32.enc ((fp32.dec acc).add (fp32.round (fvSum (g.map fun t => t.wv.fv.mul t.av.fv))))) old
  else
    ux 32 ((old : Int) + ((l.flatten.map fun t => t.wv.i * t.av.i).foldl (· + ·) 0))

/-- An accumulator entry that an array operation has written: its pattern, its poison, whether under the P flag it has had inputs,
and whether one of them was kept (R172). -/
structure AccCell where
  bits   : Nat
  poison : Bool
  inputs : Bool
  kept   : Bool
  deriving DecidableEq, Repr

/-- What an array operation has written so far, by nibble address. -/
abbrev AccMap := Table (Option AccCell)

/-- One output element taken into the map (R172-R174, R234, R308): the new map and the excluded sectors. -/
def Core.cell (c : Core) (op : Nat) (w : Insn) (a b d : Desc) (ab bb db : Int) (mp : AccMap) (e : Nat × Nat × Nat × Nat) : AccMap × List Nat :=
  let na := (2 * db).toNat + d.eoff e.1 e.2.1 e.2.2.1 e.2.2.2
  let tol := nbit w.flags 2 == 1
  let l := c.lanes op w a b d ab bb e
  let ts := l.flatten
  let kept := l.map fun g => g.filter fun t => !(tol && t.ap)
  let old : AccCell := match tget (fun _ => none) mp na with
    | some r => r
    | none => if nbit w.flags 4 = 1 then ⟨c.elemBits 1 na 8, c.spois 1 (na / 2), false, false⟩ else ⟨0, false, false, false⟩
  let new : AccCell := ⟨addLanes (dtFlt d.dtype) old.bits kept, old.poison || kept.flatten.any (·.ap) || ts.any (·.wp),
    old.inputs || (tol && ts != []), old.kept || kept.flatten != []⟩
  (tset (fun _ => none) mp na (some new), if tol then (ts.filter (·.ap)).map (·.sec) else [])

/-- Every output element of an array instruction, over its nest (R305, R308). -/
def State.arrayRun (s : State) (n m op : Nat) (w : Insn) : AccMap × List Nat :=
  let x := s.ctx (4 * n + m)
  let c := s.core n
  let a := x.desc w.opa
  let b := x.desc w.opb
  let d := x.desc w.dst
  let t := x.nest w.nest
  (x.runsOf n op w).foldl (fun p it =>
    d.elems.foldl (fun p e =>
      let got := c.cell op w a b d (s.iterBase n m a t (·.sa) it) (s.iterBase n m b t (·.sb) it) (s.iterBase n m d t (·.sd) it) p.1 e
      (got.1, p.2 ++ got.2)) p) ([], [])

/-- The element writes of an accumulator map: an element all of whose inputs were excluded is poisoned (R172). -/
def AccMap.writes (mp : AccMap) : List EWrite :=
  mp.filterMap fun p => p.2.map fun r => ⟨p.1, 8, r.bits, r.poison || (r.inputs && !r.kept)⟩

/-- The result of an array instruction. -/
def State.arrayRes (op : Nat) (w : Insn) (n m : Nat) (s : State) : VRes :=
  let got := s.arrayRun n m op w
  ⟨got.1.writes, got.2⟩

/-- The checks of an array instruction beside those of every family (R232, R332, R334). -/
def arrayOwn (op : Nat) (w : Insn) (a b d : Desc) : List (Option Nat) :=
  [extErr op w a b d, typeErr op w a b d, (if op = 0x20 then none else winErr (arrayWin w)), arraySpaceErr op a b d]

/-- An array instruction at issue. -/
def State.arrayIssue (s : State) (n m op : Nat) (sl : Slot) : State :=
  let x := s.ctx (4 * n + m)
  s.vecIssue n m sl (arrayOwn op sl.w (x.desc sl.w.opa) (x.desc sl.w.opb) (x.desc sl.w.dst)) (State.arrayRes op sl.w n m)

/-- `MMUL`: R232, R234, R338, R341-R343. -/
def execMmulI (n m : Nat) (w : Insn) (s : State) : Host.Outcome State Fault Refusal :=
  atIssue n m 0x20 w (fun sl s => s.arrayIssue n m 0x20 sl) s
/-- `CONV`: R336. -/
def execConvI (n m : Nat) (w : Insn) (s : State) : Host.Outcome State Fault Refusal :=
  atIssue n m 0x21 w (fun sl s => s.arrayIssue n m 0x21 sl) s
/-- `DWCONV`: R337. -/
def execDwconvI (n m : Nat) (w : Insn) (s : State) : Host.Outcome State Fault Refusal :=
  atIssue n m 0x22 w (fun sl s => s.arrayIssue n m 0x22 sl) s

/-- CX0's oldest operation on a unit, when the unit executes a lower context's one and the operation was not aborted. -/
def Core.preempts (c : Core) (u : TcUnit) : Option Slot :=
  let f := c.flying.filter (·.unit == u)
  if f.any (fun e => e.cx == 0 && e.running) then none
  else match issueSorted (f.filter (·.cx == 0)) with
    | e :: _ => if e.bad = none then some e else none
    | [] => none

/-- `CX0_PREEMPT_START`: at its switching boundary a unit leaves the lower context's operation and takes up CX0's; the lower one
goes on after it, its results as without it (R158, R159, R344). The load and store units switch at each request. -/
def execCx0PreemptStart (n : Nat) (u : TcUnit) (s : State) : Host.Outcome State Fault Refusal :=
  .next (
    let c := s.core n
    if n < 8 ∧ serialUnit u = true then
      match c.preempts u with
      | some e =>
        let pause (o : Slot) : Slot := if o.unit = u ∧ o.running = true then { o with running := false } else o
        s.setCore n ({ c with slots := c.slots.map pause }.takeUp e)
      | none => s
    else s)

/-! ## Vector instructions -/

/-- The executions of an instruction with the bases of OPA, OPB and DST. -/
def State.bases (s : State) (n m op : Nat) (w : Insn) : List (Int × Int × Int) :=
  let x := s.ctx (4 * n + m)
  let t := x.nest w.nest
  (x.runsOf n op w).map fun c =>
    (s.iterBase n m (x.desc w.opa) t (·.sa) c, s.iterBase n m (x.desc w.opb) t (·.sb) c, s.iterBase n m (x.desc w.dst) t (·.sd) c)

/-- The integer operations of VOP, exact (R236, R237). -/
def vopInt (op : Nat) (a b : Int) : Int :=
  match op with
  | 0 => a + b | 1 => a - b | 2 => a * b | 3 => max a b | 4 => min a b | 5 => a.natAbs | 6 => -a
  | 7 => sx 64 ((ux 64 a).land (ux 64 b)) | 8 => sx 64 ((ux 64 a).lor (ux 64 b)) | 9 => sx 64 ((ux 64 a).xor (ux 64 b))
  | 10 => if 0 ≤ b ∧ b < 32 then a * 2 ^ b.toNat else 0
  | _ => if 0 ≤ b ∧ b < 32 then a / 2 ^ b.toNat else if a < 0 then -1 else 0

/-- The floating operations of VOP, in FP32 (R237, R345). -/
def vopFlt (op : Nat) (a b : Fv) : Fv :=
  fp32.round (match op with
    | 0 => a.add b | 1 => a.add b.neg | 2 => a.mul b | 3 => a.max b | 4 => a.min b | 5 => a.abs | _ => a.neg)

/-- The pattern of an exact integer narrowed to a type: saturated, or its low bits (R237). -/
def narrowBits (t : Nat) (sat : Bool) (v : Int) : Nat := if sat then dtEnc t (.int v) else ux (4 * dtNib t) v

/-- Checks 10 and 11 of VOP (R237, R238). -/
def vopErr (w : Insn) (a b d : Desc) : List (Option Nat) :=
  let hasB := w.opb < 256
  let flt := dtFlt a.dtype || dtFlt d.dtype || (decide (w.opb < 256) && dtFlt b.dtype)
  let bOk := !decide hasB || b.ext == a.ext || b.ext == [a.e 0, 1, 1, 1]
  let i4 := a.dtype == 2 || d.dtype == 2 || (decide (w.opb < 256) && b.dtype == 2)
  [(if onChip a.space && onChip d.space && (!decide hasB || onChip b.space) then none else some 10),
   (if d.ext == a.ext && bOk && !i4 && !(flt && decide (7 ≤ mo w 84 80)) then none else some 11)]

/-- `VOP`: R236-R238. -/
def State.vopRun (w : Insn) (n m : Nat) (s : State) : VRes :=
  let x := s.ctx (4 * n + m)
  let a := x.desc w.opa
  let b := x.desc w.opb
  let d := x.desc w.dst
  let hasB := decide (w.opb < 256)
  let flt := dtFlt a.dtype || dtFlt d.dtype || (hasB && dtFlt b.dtype)
  let op := mo w 84 80
  let imm : Val := if flt then .flt (fp32.dec (mo w 127 96)) else .int (sx 32 (mo w 127 96))
  (s.core n).inTurn d.space (s.bases n m 0x30 w) fun c bs => ⟨d.elems.map fun e =>
    let (i, j, k, l) := e
    let va := c.elem a bs.1 i j k l
    let vb := if hasB then (if b.ext == a.ext then c.elem b bs.2.1 i j k l else c.elem b bs.2.1 i 0 0 0) else (imm, false)
    let bits := if flt then dtEnc d.dtype (.flt (vopFlt op (fp32.round va.1.fv) (fp32.round vb.1.fv)))
      else narrowBits d.dtype (mo w 85 85 == 1) (vopInt op va.1.i vb.1.i)
    d.wrBits bs.2.2 i j k l bits (va.2 || vb.2), []⟩

/-- `VOP`: R236-R238. -/
def execVopI (n m : Nat) (w : Insn) (s : State) : Host.Outcome State Fault Refusal :=
  atIssue n m 0x30 w (fun sl s =>
    let x := s.ctx (4 * n + m)
    s.vecIssue n m sl (vopErr w (x.desc w.opa) (x.desc w.opb) (x.desc w.dst)) (State.vopRun w n m)) s

/-- The pattern that an activation table gives for an element (R356-R359). -/
def State.actBits (s : State) (n table dt : Nat) (v : Val) (raw : Nat) : Nat :=
  if table = 0 then dtEnc dt v
  else if table = 1 then
    match v with
    | .int i => dtEnc dt (.int (max i 0))
    | .flt f => dtEnc dt (.flt (f.max (.fin false 0 0)))
  else if table < 8 then
    match v.fv with
    | .nan => dtEnc dt (.flt .nan)
    | f => dtEnc dt (.flt (fp32.dec (Config.actFn table (fp32.enc f))))
  else
    let e := fld (s.reg (Addr.tcActtab n (table - 8) + 4 * (raw % 256 / 2))) (16 * (raw % 2) + 15) (16 * (raw % 2))
    if dtFlt dt || dt == 3 then e else dtEnc dt (.int (sx 16 e))

/-- Check 11 of ACT (R356). -/
def actErr (table : Nat) (a d : Desc) : Option Nat :=
  let ok := if table ≤ 1 then a.dtype != 2 && d.dtype != 2
    else if table < 8 then dtFlt a.dtype && dtFlt d.dtype
    else (a.dtype == 0 || a.dtype == 1) && [0, 1, 3, 5, 6].contains d.dtype
  if ok && d.ext == a.ext then none else some 11

/-- Whether a space is the scratchpad or the trays. -/
def spmTray (sp : Nat) : Bool := sp == 0 || sp == 2

/-- `ACT`: R356-R359. -/
def State.actRun (w : Insn) (n m : Nat) (s : State) : VRes :=
  let x := s.ctx (4 * n + m)
  let a := x.desc w.opa
  let d := x.desc w.dst
  (s.core n).inTurn d.space (s.bases n m 0x31 w) fun c bs => ⟨d.elems.map fun e =>
    let (i, j, k, l) := e
    let va := c.elem a bs.1 i j k l
    let raw := c.elemBits a.space ((2 * bs.1).toNat + a.eoff i j k l) (dtNib a.dtype)
    d.wrBits bs.2.2 i j k l (s.actBits n (mo w 83 80) d.dtype va.1 raw) va.2, []⟩

/-- `ACT`: R356-R359. -/
def execActI (n m : Nat) (w : Insn) (s : State) : Host.Outcome State Fault Refusal :=
  atIssue n m 0x31 w (fun sl s =>
    let x := s.ctx (4 * n + m)
    let a := x.desc w.opa
    let d := x.desc w.dst
    s.vecIssue n m sl [(if spmTray a.space && spmTray d.space then none else some 10), actErr (mo w 83 80) a d] (State.actRun w n m)) s

/-- Checks 10 and 11 of REQ (R332, R351, R353). -/
def reqErr (w : Insn) (a b d : Desc) : List (Option Nat) :=
  let types := if mo w 83 80 = 0 then a.dtype == 4 && [0, 1, 3, 4].contains d.dtype else (a.dtype == 4 || a.dtype == 7) && d.dtype != 2
  [(if a.space == 1 && b.space == 0 && spmTray d.space then none else some 10),
   (if types && b.dtype == 4 && (b.ext == [4 * a.e 0, 1, 1, 1] || b.ext == [4, 1, 1, 1]) && d.ext == a.ext then none else some 11)]

/-- The fixed-point requantisation (R354). -/
def reqFixed (acc bias mult : Int) (shift : Nat) (zp lo hi : Int) : Int :=
  let p := (acc + bias) * mult
  let r := (if shift = 0 then p else (p + 2 ^ (shift - 1)) / 2 ^ shift) + zp
  min (max r lo) hi

/-- The floating requantisation (R355). -/
def reqFloat (x scale bias lo hi : Fv) : Fv :=
  let y := fp32.round ((x.mul scale).add bias)
  let y := if y.lt lo then lo else y
  if hi.lt y then hi else y

/-- `REQ`: R351-R355. -/
def State.reqRun (w : Insn) (n m : Nat) (s : State) : VRes :=
  let x := s.ctx (4 * n + m)
  let a := x.desc w.opa
  let b := x.desc w.opb
  let d := x.desc w.dst
  (s.core n).inTurn d.space (s.bases n m 0x32 w) fun c bs => ⟨d.elems.map fun e =>
    let (i, j, k, l) := e
    let va := c.elem a bs.1 i j k l
    let r := bs.2.1.toNat + (if b.e 0 = 4 then 0 else 16 * i)
    let f := fun (o n : Nat) => c.sword 0 (r + o) n
    let p := (List.range 16).any fun o => c.spois 0 (r + o)
    let v : Val :=
      if mo w 83 80 = 0 then
        .int (reqFixed va.1.i (sx 32 (f 0 4)) (sx 32 (f 4 4)) (f 8 1 % 64) (sx 16 (f 10 2)) (sx 16 (f 12 2)) (sx 16 (f 14 2)))
      else .flt (reqFloat (fp32.round va.1.fv) (fp32.dec (f 0 4)) (fp32.dec (f 4 4)) (fp32.dec (f 8 4)) (fp32.dec (f 12 4)))
    d.wr bs.2.2 i j k l v (va.2 || p), []⟩

/-- `REQ`: R351-R355. -/
def execReqI (n m : Nat) (w : Insn) (s : State) : Host.Outcome State Fault Refusal :=
  atIssue n m 0x32 w (fun sl s =>
    let x := s.ctx (4 * n + m)
    s.vecIssue n m sl (reqErr w (x.desc w.opa) (x.desc w.opb) (x.desc w.dst)) (State.reqRun w n m)) s

/-- The rounded integer mean (R348): to nearest, ties away from zero. -/
def meanInt (sum : Int) (n : Nat) : Int :=
  let q : Nat := (2 * sum.natAbs + n) / (2 * n)
  if sum < 0 then -(q : Int) else q

/-- An FP32 sum in list order, rounded at each addition (R349). -/
def sumFp32 (l : List Fv) : Fv := l.foldl (fun acc v => fp32.round (acc.add (fp32.round v))) (.fin false 0 0)

/-- The mean of values of a type as a pattern of another (R348-R350); `n` above 0. -/
def meanBits (srcT dstT : Nat) (l : List Val) (n : Nat) : Nat :=
  if dtFlt srcT then dtEnc dstT (.flt (fp32.round ((sumFp32 (l.map (·.fv))).divNat n)))
  else dtEnc dstT (.int (meanInt ((l.map (·.i)).foldl (· + ·) 0) n))

/-- The greatest or least of values of a type; none of an empty list (R239, R347). -/
def extremum (flt greatest : Bool) : List Val → Option Val
  | [] => none
  | v :: r => some (r.foldl (fun a b =>
      if flt then .flt (if greatest then a.fv.max b.fv else a.fv.min b.fv)
      else .int (if greatest then max a.i b.i else min a.i b.i)) (if flt then .flt (v.fv.max v.fv) else v))

/-- The pattern of a reduced list (R172, R239, R350). -/
def reduceBits (op srcT dstT : Nat) (l : List Val) : Nat :=
  match op with
  | 0 =>
    if dtFlt srcT then dtEnc dstT (.flt (sumFp32 (l.map (·.fv))))
    else
      let v := (l.map (·.i)).foldl (· + ·) 0
      if dtFlt dstT = true ∨ (dtLo dstT ≤ v ∧ v ≤ dtHi dstT) then dtEnc dstT (.int v) else Config.sumNarrow dstT v
  | 1 => if l = [] then Config.emptyWindow dstT else meanBits srcT dstT l l.length
  | k => match extremum (dtFlt srcT) (k == 2) l with
    | some v => dtEnc dstT v
    | none => Config.emptyWindow dstT

/-- The indices of an element with one of them replaced. -/
def putIdx (e : Nat × Nat × Nat × Nat) (axis v : Nat) : Nat × Nat × Nat × Nat :=
  match axis with | 0 => (v, e.2) | 1 => (e.1, v, e.2.2) | 2 => (e.1, e.2.1, v, e.2.2.2) | _ => (e.1, e.2.1, e.2.2.1, v)

/-- The elements of a window or axis: value, poison, sector. -/
def Core.gather (c : Core) (a : Desc) (base : Int) (l : List (Nat × Nat × Nat × Nat)) : List (Val × Bool × Nat) :=
  l.map fun e =>
    let r := c.elem a base e.1 e.2.1 e.2.2.1 e.2.2.2
    (r.1, r.2, ((2 * base).toNat + a.eoff e.1 e.2.1 e.2.2.1 e.2.2.2) / 64)

/-- One pooled or reduced element: the kept values, whether it is poisoned, the sectors excluded (R170, R172). -/
def keepOf (tol : Bool) (l : List (Val × Bool × Nat)) : List Val × Bool × List Nat :=
  let kept := l.filter fun v => !(tol && v.2.1)
  (kept.map (·.1), kept.any (·.2.1) || (kept == [] && l != []), if tol then (l.filter (·.2.1)).map (·.2.2) else [])

/-- `REDUCE`: R239, R350. -/
def State.reduceRun (w : Insn) (n m : Nat) (s : State) : VRes :=
  let x := s.ctx (4 * n + m)
  let a := x.desc w.opa
  let d := x.desc w.dst
  let axis := mo w 83 82
  (s.core n).inTurn d.space (s.bases n m 0x33 w) fun c bs =>
    let rs := d.elems.map fun e =>
      let k := keepOf (nbit w.flags 2 == 1) (c.gather a bs.1 ((List.range (a.e axis)).map (putIdx e axis)))
      (d.wrBits bs.2.2 e.1 e.2.1 e.2.2.1 e.2.2.2 (reduceBits (mo w 81 80) a.dtype d.dtype k.1) k.2.1, k.2.2)
    ⟨rs.map (·.1), rs.flatMap (·.2)⟩

/-- `REDUCE`: R239, R350. -/
def execReduceI (n m : Nat) (w : Insn) (s : State) : Host.Outcome State Fault Refusal :=
  atIssue n m 0x33 w (fun sl s =>
    let x := s.ctx (4 * n + m)
    let a := x.desc w.opa
    let d := x.desc w.dst
    s.vecIssue n m sl
      [(if onChip a.space && onChip d.space then none else some 10),
       (if d.ext == lset a.ext (mo w 83 82) 1 && a.dtype != 2 && d.dtype != 2 then none else some 11)] (State.reduceRun w n m)) s

/-- The extents that a SHUF gives (R240); none where the factor does not divide or PERM is not listed. -/
def shufExt (perm f : Nat) (a : Desc) : Option (List Nat) :=
  match perm with
  | 0 => some [a.e 1, a.e 0, a.e 2, a.e 3]
  | 1 => some [a.e 2, a.e 0, a.e 1, a.e 3]
  | 2 => some [a.e 1, a.e 2, a.e 0, a.e 3]
  | 3 => if a.e 0 % (f * f) = 0 then some [a.e 0 / (f * f), a.e 1 * f, a.e 2 * f, a.e 3] else none
  | 4 => if a.e 1 % f = 0 ∧ a.e 2 % f = 0 then some [a.e 0 * f * f, a.e 1 / f, a.e 2 / f, a.e 3] else none
  | 5 => some a.ext
  | 6 => some a.ext
  | _ => none

/-- Channel of block position (dx, dy) and channel c of `cs` under the factor f: the order is open in the spec. -/
def blockChan (f cs c dx dy : Nat) : Nat :=
  if Config.blockOuter then (dy * f + dx) * cs + c else c * (f * f) + dy * f + dx

/-- The channel and block position of a deep channel index, the inverse of `blockChan`. -/
def chanBlock (f cs z : Nat) : Nat × Nat × Nat :=
  if Config.blockOuter then (z % cs, z / cs % f, z / cs / f) else (z / (f * f), z % (f * f) % f, z % (f * f) / f)

/-- The source indices of an element of a SHUF's result (R240). -/
def shufSrc (perm f : Nat) (d : Desc) (e : Nat × Nat × Nat × Nat) : Nat × Nat × Nat × Nat :=
  let (i, j, k, l) := e
  match perm with
  | 0 => (j, i, k, l)
  | 1 => (j, k, i, l)
  | 2 => (k, i, j, l)
  | 3 => (blockChan f (d.e 0) i (j % f) (k % f), j / f, k / f, l)
  | 4 => let r := chanBlock f (d.e 0 / (f * f)) i; (r.1, j * f + r.2.1, k * f + r.2.2, l)
  | _ => e

/-- `SHUF`: R240. -/
def State.shufRun (w : Insn) (n m : Nat) (s : State) : VRes :=
  let x := s.ctx (4 * n + m)
  let a := x.desc w.opa
  let d := x.desc w.dst
  let f := 2 ^ mo w 86 84
  (s.core n).inTurn d.space (s.bases n m 0x34 w) fun c bs => ⟨d.elems.map fun e =>
    let (i, j, k, l) := shufSrc (mo w 83 80) f d e
    let v := c.elem a bs.1 i j k l
    let raw := c.elemBits a.space ((2 * bs.1).toNat + a.eoff i j k l) (dtNib a.dtype)
    let bits := if mo w 83 80 = 5 ∨ mo w 83 80 = 6 then dtEnc d.dtype v.1 else raw
    d.wrBits bs.2.2 e.1 e.2.1 e.2.2.1 e.2.2.2 bits v.2, []⟩

/-- Check 11 of SHUF (R237, R240). -/
def shufErr (w : Insn) (a d : Desc) : Option Nat :=
  let p := mo w 83 80
  let types := if p = 5 then a.dtype == 0 && d.dtype == 2 else if p = 6 then a.dtype == 2 && d.dtype == 0
    else a.dtype == d.dtype && a.dtype != 2
  let fOk := (p != 3 && p != 4) || in1 (mo w 86 84) 3
  if types && fOk && shufExt p (2 ^ mo w 86 84) a == some d.ext then none else some 11

/-- `SHUF`: R240. -/
def execShufI (n m : Nat) (w : Insn) (s : State) : Host.Outcome State Fault Refusal :=
  atIssue n m 0x34 w (fun sl s =>
    let x := s.ctx (4 * n + m)
    let a := x.desc w.opa
    let d := x.desc w.dst
    s.vecIssue n m sl [(if onChip a.space && onChip d.space then none else some 10), shufErr w a d] (State.shufRun w n m)) s

/-! ## Pooling -/

/-- The checks of a pooling instruction (R242, R332). -/
def poolErr (w : Insn) (a d : Desc) : List (Option Nat) :=
  let v := poolWin w
  let wo := outSize (a.e 1) v.pl v.pr 1 v.kw v.sw
  let ho := outSize (a.e 2) v.pt v.pb 1 v.kh v.sh
  [(if in1 v.kh 8 && in1 v.kw 8 then none else some 3), (if in1 v.sh 8 && in1 v.sw 8 then none else some 4),
   (if decide (max v.pt v.pb < v.kh) && decide (max v.pl v.pr < v.kw) then none else some 5),
   (if spmTray a.space && spmTray d.space then none else some 10),
   (if a.dtype == d.dtype && a.dtype != 2 && d.e 0 == a.e 0 && d.e 3 == a.e 3 && wo == some (d.e 1) && ho == some (d.e 2) then none else some 11)]

/-- The input positions of a pooling window, in window-row then window-column order (R346, R349). -/
def poolTaps (v : Win) (a : Desc) (e : Nat × Nat × Nat × Nat) : List (Nat × Nat × Nat × Nat) :=
  (List.range v.kh).flatMap fun i => (List.range v.kw).filterMap fun j =>
    let u : Int := (e.2.1 * v.sw + j : Nat) - (v.pl : Int)
    let r : Int := (e.2.2.1 * v.sh + i : Nat) - (v.pt : Int)
    if 0 ≤ u ∧ u < a.e 1 ∧ 0 ≤ r ∧ r < a.e 2 then some (e.1, u.toNat, r.toNat, e.2.2.2) else none

/-- A pooling instruction's result (R346-R349): `avg` or maximum. -/
def State.poolRun (avg : Bool) (w : Insn) (n m : Nat) (s : State) : VRes :=
  let x := s.ctx (4 * n + m)
  let a := x.desc w.opa
  let d := x.desc w.dst
  let v := poolWin w
  (s.core n).inTurn d.space (s.bases n m (if avg then 0x39 else 0x38) w) fun c bs =>
    let rs := d.elems.map fun e =>
      let g := c.gather a bs.1 (poolTaps v a e)
      let k := keepOf (nbit w.flags 2 == 1) g
      let cnt := (if mo w 108 108 = 1 then v.kh * v.kw else g.length) - (g.length - k.1.length)
      let bits :=
        if k.1 = [] then Config.emptyWindow d.dtype
        else if avg then meanBits a.dtype d.dtype k.1 cnt
        else match extremum (dtFlt a.dtype) true k.1 with | some r => dtEnc d.dtype r | none => 0
      (d.wrBits bs.2.2 e.1 e.2.1 e.2.2.1 e.2.2.2 bits k.2.1, k.2.2)
    ⟨rs.map (·.1), rs.flatMap (·.2)⟩

/-- `POOLMAX`: R346, R347. -/
def execPoolmaxI (n m : Nat) (w : Insn) (s : State) : Host.Outcome State Fault Refusal :=
  atIssue n m 0x38 w (fun sl s =>
    let x := s.ctx (4 * n + m)
    s.vecIssue n m sl (poolErr w (x.desc w.opa) (x.desc w.dst)) (State.poolRun false w n m)) s

/-- `POOLAVG`: R346, R348, R349. -/
def execPoolavgI (n m : Nat) (w : Insn) (s : State) : Host.Outcome State Fault Refusal :=
  atIssue n m 0x39 w (fun sl s =>
    let x := s.ctx (4 * n + m)
    s.vecIssue n m sl (poolErr w (x.desc w.opa) (x.desc w.dst)) (State.poolRun true w n m)) s

end Sys2Proof.Machine
end

