-- ==== Sys2Proof/Machine/DppOps.lean ====
section
/-! DEFINITION. The job slots of the DPP as their submitters see them (R247, R258, R470, R474, R496, R499). -/

namespace Sys2Proof.Machine

open Sys2Proof

/-- A DPP slot. -/
def State.dslot (s : State) (i : Nat) : DppSlot := tget (fun _ => {}) s.dpp.slots i
/-- The state with a DPP slot replaced. -/
def State.setDslot (s : State) (i : Nat) (x : DppSlot) : State :=
  { s with dpp := { s.dpp with slots := tset (fun _ => {}) s.dpp.slots i x } }

/-- The lowest free slot. -/
def State.freeDslot (s : State) : Option Nat := (List.range 8).find? fun i => (s.dslot i).phase == .free

/-- A job takes slot `i` (R470): the slot's sequence counts it. -/
def State.takeDslot (s : State) (i src addr : Nat) (x : DppSlot) : State :=
  let o := s.dslot i
  let s := s.setDslot i { x with phase := .queued, src := src, seq := (o.seq + 1) % 2 ^ 24, order := s.dpp.order, addr := addr,
                                 status := 0, recs := 0 }
  let s := { s with dpp := { s.dpp with order := s.dpp.order + 1 } }
  s.setRf (Addr.dppSlotStatus i) 27 24 src

/-- The ticket of the job in slot `i` (R247). -/
def State.ticketOf (s : State) (i : Nat) : Word := w32 ((s.dslot i).seq * 256 + i)

/-- A submission (R247, R470, R499): its ticket, or -1 where no slot is free or the DPP is disabled. -/
def State.dppSubmitJob (s : State) (src addr : Nat) : Word × State :=
  match s.freeDslot, s.rb Addr.dppCtrl 0 with
  | some i, true =>
    let t := s.takeDslot i src addr {}
    (t.ticketOf i, t)
  | _, _ => (0xFFFFFFFF, s)

/-- The status word of a ticket whose job has ended (R258, R474); none while the job is in its slot. -/
def State.ticketStatus (s : State) (t : Word) : Option Word :=
  let i := t.toNat % 8
  let x := s.dslot i
  if t = 0xFFFFFFFF then some 0xFFFFFFFF
  else if t.toNat / 8 % 32 ≠ 0 ∨ t.toNat / 256 ≠ x.seq then some (w32 (3 * 2 ^ 28))
  else if x.phase = .free then some (w32 (x.status * 2 ^ 28 + x.recs))
  else none

/-- The DETWAITs that wait for a job which has ended go on: each will write the status, and its context waits no more (R247,
R474). -/
def State.detWake (s : State) : State :=
  forEach (List.range 8) (fun n t =>
    (t.core n).slots.foldl (fun t e =>
      match e.item with
      | some tk =>
        if e.op = 0x49 ∧ e.waits = true then
          match t.ticketStatus tk.handle with
          | some v => (t.setCore n ((t.core n).setSlot { e with running := true, waits := false, writes := [(mo e.w 87 84, v)] })).wake (4 * n + e.cx)
          | none => t
        else t
      | none => t) t) s

end Sys2Proof.Machine
end

