-- ==== Sys2Proof/Machine/PassInsn.lean ====
section
/-! DEFINITION. The pass and detection instructions of a tensor core (R243-R247, R319-R321, R385, R388, R400, R416, R421),
the end of a wait on a queue (R154, R392) and RESUME, which repeats a wait (R184, R257). Their scalars are written when they retire. -/

namespace Sys2Proof.Machine

open Sys2Proof

/-- The number of a handle state in a record's detail. -/
def HState.num : HState → Nat
  | .free => 0
  | .held _ => 1
  | .queued => 2

/-- Why a handle may not be used (R246, R388, R416): none when it may; else the detail of the record. Pool 63 is never
compared. -/
def State.whyStale (s : State) (h : Word) (ok : HState → Bool) : Option (List (Nat × Nat)) :=
  if hdPool h = 63 then none
  else if s.fresh? h = false then some []
  else
    let st := (s.pool (hdPool h)).state (hdIdx h)
    if ok st then none else some [(1, st.num)]

/-- A context halts on a handle it may not use: the instruction leaves the window. -/
def State.haltStale (s : State) (n m : Nat) (sl : Slot) (detail : List (Nat × Nat)) : State :=
  let s := if sl.waits then s.leaveQueues n m else s
  let c := s.core n
  (s.setCore n { c with slots := c.slots.filter fun e => e.id != sl.id }).haltCtx n m sl.idx .staleHandle detail

/-- Whether a handle state is HELD. -/
def HState.isHeld : HState → Bool
  | .held _ => true
  | _ => false

/-- Whether a handle state is QUEUED. -/
def HState.isQueued : HState → Bool
  | .queued => true
  | _ => false

/-- The address >> 6 of a handle's buffer; free for a placeholder, which has none. -/
def State.addrWord (s : State) (h : Word) : Word × State :=
  if hdPool h = 63 then s.draw else (w32 (s.bufAddr (hdPool h) (hdIdx h) / 64), s)

/-- The scalars that a PQPOP writes for its item (R243). -/
def State.popWrites (s : State) (d : Nat) (it : Item) : List (Nat × Word) × State :=
  let got := s.addrWord it.handle
  let a := got.1
  let s := got.2
  ([(d, a), (d + 1, it.handle), (d + 2, w32 (mfld it.md 31 0)), (d + 3, w32 (mfld it.md 63 32))], s)

/-- A pass instruction enters flight and its context waits on its queue (R182, R392). -/
def State.passWait (s : State) (n m : Nat) (sl : Slot) (q : Nat) (push : Bool) : State :=
  let s := s.fly n m sl
  let s := s.setCore n ((s.core n).setSlot { (match (s.core n).slot? sl.id with | some e => e | none => sl) with running := false, waits := true })
  let s := s.setCtx (4 * n + m) { s.ctx (4 * n + m) with state := .waitPass, wait := .pass q push }
  if push then s.waitPush (hCtx n m) q else s.waitPop (hCtx n m) q

/-- A PQPOP at issue (R243, R244, R246, R321, R390, R392). -/
def State.pqpop (n m : Nat) (sl : Slot) (s : State) : State :=
  let q := mo sl.w 85 80
  let d := mo sl.w 89 86
  let who := hCtx n m
  let wait := nbit sl.w.flags 3 == 1
  let none_ := [(d, (0 : Word)), (d + 1, 0xFFFFFFFF), (d + 2, 0), (d + 3, 0)]
  let x := s.queue q
  match x.items, s.canPop who q with
  | it :: _, true =>
    match s.whyStale it.handle HState.isQueued with
    | some det => s.haltStale n m sl det
    | none =>
      let s := (s.pop who q).2
      let got := s.popWrites d it
      got.2.fly n m { sl with writes := got.1, item := some it }
  | it :: _, false =>
    if wait = false ∧ s.pqOn q = true ∧ x.flushing = false ∧ s.bumping (hdPool it.handle) = true then s
    else if wait then s.passWait n m sl q false
    else s.fly n m { sl with writes := none_ }
  | [], _ => if wait then s.passWait n m sl q false else s.fly n m { sl with writes := none_ }

/-- `PQPOP`: R243, R244, R246, R321, R390, R392. -/
def execPqpopI (n m : Nat) (w : Insn) (s : State) : Host.Outcome State Fault Refusal := atIssue n m 0x40 w (State.pqpop n m) s

/-- The item that a PQPUSH of a context pushes: the pass unit fills PRODUCER, BUCKET, LATE, EXCLUDED and POISONED and the
valid-region word (R168, R174, R245, R319, R320, R385, R409). -/
def State.pushItem (s : State) (n m : Nat) (w : Insn) : Item :=
  let x := s.ctx (4 * n + m)
  let h := s.sreg n m (mo w 89 86)
  let lo := (s.sreg n m (mo w 93 90)).toNat
  let hi := (s.sreg n m (mo w 93 90 + 1)).toNat
  let md := BitVec.ofNat 64 (hi * 2 ^ 32 + lo)
  let md := msetFld md 63 56 (hCtx n m)
  let md := msetFld md 41 39 x.bucketId
  let md := msetFld md 33 33 (b2n x.late)
  let md := msetFld md 38 38 (b2n x.excluded)
  let md := msetFld md 37 37 (b2n x.poisoned)
  ⟨h, md, vregWord x.valid⟩

/-- The context whose PQPUSH has carried EXCLUDED and POISONED in an item clears them (R174, R385). -/
def State.tookSummary (s : State) (k : Nat) : State := s.setCtx k { s.ctx k with excluded := false, poisoned := false }

/-- A PQPUSH at issue (R168, R174, R243, R245, R246, R385, R390, R400). -/
def State.pqpush (n m : Nat) (sl : Slot) (s : State) : State :=
  let q := mo sl.w 85 80
  let st := mo sl.w 97 94
  let it := s.pushItem n m sl.w
  match s.whyStale it.handle HState.isHeld with
  | some det => s.haltStale n m sl det
  | none =>
    if nbit sl.w.flags 3 = 0 ∧ s.pqOn q = true ∧ (s.queue q).flushing = false ∧ hdPool it.handle ≠ 63 ∧ s.bumping (hdPool it.handle) = true then s
    else
      let sl := { sl with item := some it }
      match s.push (hCtx n m) q it with
      | (.done, t) => (t.tookSummary (4 * n + m)).fly n m { sl with writes := [(st, 0)] }
      | (.flushed, t) => t.fly n m { sl with writes := [(st, 2)] }
      | (.stale, _) => s.haltStale n m sl []
      | (.noCredit, t) => if nbit sl.w.flags 3 = 1 then t.passWait n m sl q true else t.fly n m { sl with writes := [(st, 1)] }

/-- `PQPUSH`: R168, R174, R243, R245, R246, R385, R390, R400. -/
def execPqpushI (n m : Nat) (w : Insn) (s : State) : Host.Outcome State Fault Refusal := atIssue n m 0x41 w (State.pqpush n m) s

/-- `HALLOC`: R243, R244, R388, R389, R400, R421. -/
def execHallocI (n m : Nat) (w : Insn) (s : State) : Host.Outcome State Fault Refusal :=
  atIssue n m 0x42 w (fun sl s =>
    let p := mo w 84 80
    let d := mo w 89 86
    if s.plOn p = true ∧ s.bumping p = true then s
    else match s.alloc (hCtx n m) p with
      | (some i, t) => t.fly n m { sl with writes := [(d, w32 (t.bufAddr p i / 64)), (d + 1, t.handle p i)] }
      | (none, t) => t.fly n m { sl with writes := [(d, 0), (d + 1, 0xFFFFFFFF)] }) s

/-- `HREL`: R243, R246, R388, R400, R416. -/
def execHrelI (n m : Nat) (w : Insn) (s : State) : Host.Outcome State Fault Refusal :=
  atIssue n m 0x43 w (fun sl s =>
    let h := s.sreg n m (mo w 89 86)
    if hdPool h = 63 then s.fly n m sl
    else match s.whyStale h HState.isHeld with
      | some det => s.haltStale n m sl det
      | none => if s.bumping (hdPool h) then s else (s.release (hdPool h) (hdIdx h)).fly n m sl) s

/-- `DETSUB`: R243, R247, R470, R499. -/
def execDetsubI (n m : Nat) (w : Insn) (s : State) : Host.Outcome State Fault Refusal :=
  atIssue n m 0x48 w (fun sl s =>
    let got := s.dppSubmitJob 0 ((s.sreg n m (mo w 83 80)).toNat * 64)
    let t := got.1
    let s := got.2
    s.fly n m { sl with writes := [(mo w 87 84, t)] }) s

/-- A DETWAIT at issue (R243, R247, R258, R474). -/
def State.detwait (n m : Nat) (sl : Slot) (s : State) : State :=
  let t := s.sreg n m (mo sl.w 83 80)
  match s.ticketStatus t with
  | some v => s.fly n m { sl with writes := [(mo sl.w 87 84, v)] }
  | none =>
    let s := s.fly n m { sl with item := some ⟨t, 0, 0xFFFFFFFF⟩ }
    let s := s.setCore n ((s.core n).setSlot { (match (s.core n).slot? sl.id with | some e => e | none => sl) with running := false, waits := true })
    s.setCtx (4 * n + m) { s.ctx (4 * n + m) with state := .waitSync, wait := .det t }

/-- `DETWAIT`: R243, R247, R258, R474. -/
def execDetwaitI (n m : Nat) (w : Insn) (s : State) : Host.Outcome State Fault Refusal := atIssue n m 0x49 w (State.detwait n m) s

/-- The PQPOP or PQPUSH of a context that waits on its queue. -/
def Core.passSlot (c : Core) (m : Nat) : Option Slot := c.slots.find? fun e => e.cx == m && e.waits && (e.op == 0x40 || e.op == 0x41)

/-- A waiting PQPOP served, if its queue has an item for it (R390, R392, R401, R402). -/
def State.servePop (s : State) (n m : Nat) (sl : Slot) : State :=
  let q := mo sl.w 85 80
  match (s.queue q).items, s.canPop (hCtx n m) q with
  | it :: _, true =>
    match s.whyStale it.handle HState.isQueued with
    | some det => s.haltStale n m sl det
    | none =>
      let s := (s.pop (hCtx n m) q).2
      let got := s.popWrites (mo sl.w 89 86) it
      let s := got.2
      (s.setCore n ((s.core n).setSlot { sl with running := true, waits := false, writes := got.1, item := some it })).wake (4 * n + m)
  | _, _ => s

/-- A waiting PQPUSH served, if its queue has a credit for it or is flushed (R390, R392, R401, R402). -/
def State.servePush (s : State) (n m : Nat) (sl : Slot) : State :=
  let it := sl.item.getD {}
  let st := mo sl.w 97 94
  let fin (t : State) (v : Word) : State :=
    (t.setCore n ((t.core n).setSlot { sl with running := true, waits := false, writes := [(st, v)] })).wake (4 * n + m)
  match s.whyStale it.handle HState.isHeld with
  | some det => s.haltStale n m sl det
  | none =>
    match s.push (hCtx n m) (mo sl.w 85 80) it with
    | (.done, t) => fin (t.tookSummary (4 * n + m)) 0
    | (.flushed, t) => fin t 2
    | _ => s

/-- `CONTEXT_WAKE_PASS`: the queue serves a waiting PQPOP or PQPUSH, whose context is READY again (R154, R182, R257, R390, R392,
R401, R402); that of a context which has halted meanwhile completes as well (R185, R186). -/
def execContextWakePass (n m : Nat) (s : State) : Host.Outcome State Fault Refusal :=
  ifCx n m (fun s =>
    match (s.core n).passSlot m with
    | some sl => if sl.op = 0x40 then s.servePop n m sl else s.servePush n m sl
    | none => s) s

/-! ## RESUME -/

/-- A pass operation or DETWAIT that STOP took back issues again (R184, R257): anew, with what its scalars and the LATE state hold
now; where it may not issue at once the context is READY and it issues as any other. -/
def State.reissuePass (s : State) (n m : Nat) : State :=
  match (s.core n).waiting m with
  | [] => s
  | e :: _ =>
    if s.issuable n m e = false then s
    else match e.op with
      | 0x40 => s.pqpop n m e
      | 0x41 => s.pqpush n m e
      | 0x49 => s.detwait n m e
      | _ => s

/-- The WAITLINE that a context waits in repeats (R184, R211, R224): it ends at once where its domain has stopped, its position has
been reached or, for one without a position, a SIGNAL has come. The position is the one resolved at its issue (R207). -/
def State.repeatLine (s : State) (k d : Nat) (pos : Option (Nat × Nat)) : State :=
  let x := s.ctx k
  match pos with
  | some (f, p) => if s.posReached d f p then s.wake k else s
  | none =>
    if x.signal then (s.setCtx k { x with signal := false }).wake k
    else if (s.dom d).running = false then s.wake k else s

/-- A BARRIER that a context waits in repeats: it arrives again (R408). -/
def State.repeatBarrier (s : State) (n m id : Nat) : State :=
  let k := 4 * n + m
  let sl := (s.core n).slots.find? fun e => e.cx == m && e.op == 0x05 && e.issued && !e.retired
  let mask := match (s.ctx k).sync, sl with
    | some (_, _, cores, _), _ => nestMask cores m
    | none, some e => mo e.w 115 84
    | none, none => 2 ^ k
  match s.arrive k id mask with
  | some t => t.barCheck id
  | none => s.haltCtx n m (match sl with | some e => e.idx | none => 0) .barrier []

/-- RESUME: the state in force at the STOP, a cancelled wait repeated (R183, R184, R257, R408). -/
def State.resumeContext (s : State) (n m : Nat) : State :=
  let k := 4 * n + m
  let x := s.ctx k
  if x.state ≠ .stopped then s.cfgErr 0x04 k
  else
    let s := s.setCtx k { x with state := x.resume, wait := x.saved, saved := .none }
    let ready (t : State) : State := t.setCtx k { x with state := .ready, wait := .none, saved := .none }
    match x.saved with
    | .pass _ _ => (ready s).reissuePass n m
    | .det _ => (ready s).reissuePass n m
    | .barrier id => s.repeatBarrier n m id
    | .line d pos => s.repeatLine k d pos
    | .timed d f p => if s.posReached d f p then ready s else s
    | .drain => s.settle n m
    | .halt => s.settle n m
    | .nest => s
    | .none => s

/-- `RESUME`: R183. -/
def execResumeCtx (n m : Nat) (s : State) : Host.Outcome State Fault Refusal := ifCx n m (·.resumeContext n m) s

end Sys2Proof.Machine
end

