-- ==== Sys2Proof/Machine/TcEvent.lean ====
section
/-! DEFINITION. The events of a tensor core and of its scratchpad: retirement (R153, R156, R163, R179), parity and replay
(R175-R181, R267, R283-R285, R296, R331), initialisation (R270, R298), resident regions (R300) and the
activation tables (R360). -/

namespace Sys2Proof.Machine

open Sys2Proof

/-- The provenance detail of a scratchpad word: its bank and row (R178, R262). -/
def bankRow (a : Nat) : Nat × Nat := (a / 64 % 32, a / 2048)

/-- A state in which the scalars and the valid region of context m are those of the slot's issue, used to compute the
operands of an operation again (R331). -/
def State.asIssued (s : State) (n m : Nat) (sl : Slot) : State :=
  let s := sl.env.zipIdx.foldl (fun t p => t.setReg (Addr.tcCxS n m p.2) p.1) s
  s.setCtx (4 * n + m) { s.ctx (4 * n + m) with valid := sl.region }

/-- The space and the element writes of a compute or on-chip movement operation, computed from what the core holds
now. -/
def State.redo (s : State) (n m : Nat) (sl : Slot) : Nat × List EWrite :=
  let t := s.asIssued n m sl
  let w := sl.w
  let x := t.ctx (4 * n + m)
  let d := x.desc w.dst
  match sl.op with
  | 0x20 => (1, (State.arrayRes 0x20 w n m t).writes)
  | 0x21 => (1, (State.arrayRes 0x21 w n m t).writes)
  | 0x22 => (1, (State.arrayRes 0x22 w n m t).writes)
  | 0x30 => (d.space, (State.vopRun w n m t).writes)
  | 0x31 => (d.space, (State.actRun w n m t).writes)
  | 0x32 => (d.space, (State.reqRun w n m t).writes)
  | 0x33 => (d.space, (State.reduceRun w n m t).writes)
  | 0x34 => (d.space, (State.shufRun w n m t).writes)
  | 0x38 => (d.space, (State.poolRun false w n m t).writes)
  | 0x39 => (d.space, (State.poolRun true w n m t).writes)
  | 0x13 => (d.space, (State.copyRun w n m t).writes)
  | 0x14 => (d.space, (State.fillRun w n m t).writes)
  | _ => (d.space, [])

/-- The (destination, source) bytes of a LOAD or LOADW that lie in a 64-byte row of the scratchpad. -/
def State.rowPairs (s : State) (n m : Nat) (sl : Slot) (row : Nat) : List (Nat × Nat) :=
  (lastPairs ((s.asIssued n m sl).movePairs n m sl.op sl.w)).filter fun p => p.1 / 64 == row

/-- Whether an operation reads a byte of a space, by its operands as they were at its issue; an array operation that adds to its
destination reads that too (R234). -/
def State.readsAt (s : State) (n : Nat) (sl : Slot) (space a len : Nat) : Bool :=
  let t := s.asIssued n sl.cx sl
  ((t.ctx (4 * n + sl.cx)).operands sl.op sl.w).any fun o =>
    o.1.space == space && (!o.2.2 || nbit sl.w.flags 4 == 1) && (t.operRuns n sl.cx sl.op sl.w o).any (runsMeet (a, a + len))

/-- How the row of a failed word can be rebuilt (R176, R283, R285). -/
inductive Prov where
  | none
  | load (sl : Slot)
  | compute (sl : Slot)
  | refill (pairs : List (Nat × Nat))
  deriving DecidableEq, Repr

/-- The valid region that holds a scratchpad byte. -/
def State.regionOf (s : State) (n a : Nat) : Option Nat :=
  (List.range 16).find? fun k => s.resValid n k && decide (s.resBase n k ≤ a) && decide (a < s.resBase n k + s.resSize n k)

/-- Whether a slot wrote a range of the scratchpad that holds byte `a`. -/
def Slot.wrote (e : Slot) (a : Nat) : Bool :=
  e.issued && e.ranges.any fun r => r.write && r.space == 0 && decide (r.lo ≤ a / 64) && decide (a / 64 < r.hi)

/-- The youngest-issued of a list of slots. -/
def youngest : List Slot → Option Slot
  | [] => none
  | e :: r => match youngest r with | none => some e | some f => if e.seqNo ≥ f.seqNo then some e else some f

/-- Whether the chain reaches a core (R283, R376). -/
def State.chainReaches (s : State) (n : Nat) : Bool := s.rb Addr.wchCtrl 31 && nbit s.wch.bypass n == 0

/-- The provenance of the word at byte `a` for the aborted operation `sl` (R175 step 2, R176). -/
def State.provenance (s : State) (n : Nat) (sl : Slot) (a : Nat) : Prov :=
  match s.regionOf n a with
  | some k =>
    let row := a / 64 * 64
    if s.chainReaches n then .refill ((List.range 64).map fun i => (row + i, s.resOrg n k + (row + i - s.resBase n k))) else .none
  | none =>
    match youngest ((s.core n).slots.filter fun e => e.id != sl.id && decide (e.seqNo < sl.seqNo) && e.wrote a) with
    | none => .none
    | some e =>
      if e.op = 0x10 then .load e
      else if e.op = 0x12 then (if s.chainReaches n then .refill (s.rowPairs n e.cx e (a / 64)) else .none)
      else if e.op = 0x13 ∨ e.op = 0x14 ∨ e.stale = true then .none else .compute e

/-- The destination range of an operation poisoned (R178); a STORE sends all it sends with poison. -/
def State.poisonDst (s : State) (n : Nat) (sl : Slot) : State :=
  let k := 4 * n + sl.cx
  let t := s.asIssued n sl.cx sl
  let x := t.ctx k
  let d := x.desc sl.w.dst
  if sl.op = 0x11 then
    let reqs := ((s.core n).storeReqs (t.movePairs n sl.cx 0x11 sl.w)).map fun (r : WReq) => { r with poison := 3 }
    (s.setCore n ((s.core n).setSlot { sl with outw := reqs, nOut := 0 })).setCtx k { s.ctx k with poisoned := true }
  else match t.footprint n sl.cx d (x.nest sl.w.nest) (·.sd) with
    | some (p, q) => s.setCore n ((s.core n).poisonRange d.space p.toNat q.toNat)
    | none => s

/-- An operation that was aborted is its unit's again: the unit takes it up in its turn, and sends what it has to send. -/
def State.backToUnit (s : State) (n : Nat) (sl : Slot) : State :=
  let e := { sl with bad := none, producer := none, refill := false, running := !serialUnit sl.unit }
  (s.setCore n (((s.core n).setSlot e).startUnit sl.unit)).sendWrites n

/-- An operation gives up its replay: its whole destination is poisoned and it goes on to retire (R178); a further error of it
poisons it again (R177; DESIGN CHOICE, log entry 80). -/
def State.poisonOp (s : State) (n : Nat) (sl : Slot) (a : Nat) : State :=
  let s := s.poisonDst n sl
  let e := match (s.core n).slot? sl.id with | some e => e | none => sl
  (s.backToUnit n { e with found := none, aborts := 0, gaveUp := true }).parityErr n (a / 4)

/-- A scratchpad word fails its parity (R267): the error is counted and its place kept. -/
def State.badWord (s : State) (n a : Nat) : State :=
  let br := bankRow a
  let s := (s.inc (Addr.spmParityCnt n) 1).setReg (Addr.tcParityLast n) (w32 (br.1 * 65536 + br.2))
  let c := s.core n
  s.setCore n { c with spmBad := tset (fun _ => false) c.spmBad (a / 4) true }

/-- An operation aborted for the scratchpad byte `a` (R175 step 1): it holds its slot and its ranges (R163), its unit goes on. -/
def State.abort (s : State) (n : Nat) (sl : Slot) (a : Nat) (producer : Option Nat) (refill : Bool) : State :=
  let e := { sl with running := false, started := false, found := none, bad := some a, producer := producer, refill := refill,
                     aborts := sl.aborts + 1, lastBad := a }
  let c := (s.core n).setSlot e
  s.setCore n ({ c with wsets := c.wsets.filter (·.owner != sl.id) }.startUnit sl.unit)

/-- A parity error met by an operation in flight on the scratchpad byte `a` (R175-R178, R181, R283, R284). -/
def State.parityHit (s : State) (n : Nat) (sl : Slot) (a : Nat) : State :=
  if (s.core n).spois 0 a then s
  else
    let s := s.badWord n a
    if sl.gaveUp = true ∨ sl.aborts ≥ 2 ∨ sl.inPlace = true then s.poisonOp n sl a
    else match s.provenance n sl a with
      | .none => s.poisonOp n sl a
      | .refill ps =>
        { s.abort n sl a none true with wch := { s.wch with refills := s.wch.refills ++ [(⟨n, sl.id, ps⟩ : Refill)] } }
      | .load e => s.abort n sl a (some e.id) false
      | .compute e => s.abort n sl a (some e.id) false

/-- A parity error during the rerun of an aborted operation's provenance counts as a further error of the operation (R177). -/
def State.parityAgain (s : State) (n : Nat) (sl : Slot) (a : Nat) : State :=
  if (s.core n).spois 0 a then s
  else
    let s := s.badWord n a
    if sl.aborts ≥ 2 then s.poisonOp n sl a else s.setCore n ((s.core n).setSlot { sl with aborts := sl.aborts + 1 })

/-- The requests that an operation has to send have their entries: none is left, or those it has sent give theirs back (R273,
R275). -/
def Slot.canDrain (e : Slot) : Bool := e.outw == [] || decide (0 < e.nOut)

/-- `OPERATION_RETIRE`: an operation that has done its work retires; a replay that succeeded is reported (R163, R179, R275). One
whose reads met a bad word is aborted instead (R175, R267). -/
def execOperationRetire (n id : Nat) (s : State) : Host.Outcome State Fault Refusal :=
  .next (match (s.core n).slot? id with
    | none => s
    | some sl =>
      if n < 8 ∧ sl.issued = true ∧ sl.retired = false ∧ sl.running = true ∧ sl.pend = [] ∧ sl.sent = [] ∧ sl.canDrain = true ∧ sl.unit ≠ .seq then
        match sl.found with
        | some a => s.parityHit n sl a
        | none =>
          let s := (if sl.outw = [] then s else s.sendOut n sl sl.outw.length).retire n id
          if sl.aborts = 0 then s
          else
            let br := bankRow sl.lastBad
            (s.inc (Addr.tcReplayCnt n) 1).raise .parityReplayed 0x03 n (some (s.ctx (4 * n)).domain) [(1, br.1), (2, br.2), (1, sl.aborts)]
      else s)

/-- `PARITY_ERROR`: R175-R178, R181, R194, R267, R283-R285: of an operation that its unit executes, or of the producer that runs
again for one that was aborted. -/
def execParityError (n id a : Nat) (s : State) : Host.Outcome State Fault Refusal :=
  .next (match (s.core n).slot? id with
    | none => s
    | some sl =>
      let w := a / 4 * 4
      if n < 8 ∧ sl.issued = true ∧ sl.retired = false then
        if sl.running = true ∧ s.readsAt n sl 0 w 4 = true then s.parityHit n sl a
        else match sl.bad, sl.producer.bind (s.core n).slot? with
          | some _, some e => if s.readsAt n e 0 w 4 then s.parityAgain n sl a else s
          | _, _ => s
      else s)

/-- The producer of a failed row runs again for that row (R175 step 3, R176). -/
def State.rerun (s : State) (n : Nat) (sl e : Slot) (a : Nat) : State :=
  if e.op = 0x10 then
    (s.rowPairs n e.cx e (a / 64)).foldl (fun t p =>
      let got := t.readLine (.tc n) (cxQos sl.cx) p.2 1
      got.2.perf n 0 (byteWrites [(p.1, lget (0, false) got.1 0)])) s
  else
    let got := s.redo n e.cx e
    s.perf n got.1 (got.2.filter fun w => got.1 == 0 && w.na / 128 == a / 64)

/-- An aborted operation issues again from its first step (R175 step 4, R331). -/
def State.reissue (s : State) (n : Nat) (sl : Slot) : State :=
  let t := s.asIssued n sl.cx sl
  let found := t.badRead n sl.cx sl.op sl.w
  let got := s.redo n sl.cx sl
  let outw := if sl.op = 0x11 then (s.core n).storeReqs (t.movePairs n sl.cx 0x11 sl.w) else []
  (s.perf n got.1 got.2).backToUnit n { sl with found := found, outw := outw, nOut := 0 }

/-- The producer of an aborted operation runs again and the operation issues again (R175-R177): a producer that has left the window
or lost its inputs leaves the word without provenance (DESIGN CHOICE, log entry 80); one whose own reads meet a bad word counts as a further error. -/
def State.replay (s : State) (n : Nat) (sl : Slot) (a id : Nat) : State :=
  match (s.core n).slot? id with
  | none => s.poisonOp n sl a
  | some e =>
    if e.op ≠ 0x10 ∧ e.stale = true then s.poisonOp n sl a
    else match (s.asIssued n e.cx e).badRead n e.cx e.op e.w with
      | some b => s.parityAgain n sl b
      | none => (s.rerun n sl e a).reissue n sl

/-- `PARITY_REPLAY_REISSUE`: R175 steps 3 and 4, R176, R177, R296, R331. After a refill there is nothing to run again. -/
def execParityReplayReissue (n id : Nat) (s : State) : Host.Outcome State Fault Refusal :=
  .next (match (s.core n).slot? id with
    | none => s
    | some sl =>
      match sl.bad with
      | some a =>
        if n < 8 ∧ sl.refill = false then
          match sl.producer with
          | some p => s.replay n sl a p
          | none => s.reissue n sl
        else s
      | none => s)

/-- The destination sectors that an operation computes from accumulator entry `e`: those that turn poisoned when the entry alone
reads as poisoned (R180). -/
def State.accTaint (s : State) (n : Nat) (sl : Slot) (e : Nat) : Nat × List EWrite :=
  let c := { s.core n with spmPoison := [], trayPoison := [], accPoison := [], taint := some e }
  let got := (s.setCore n c).redo n sl.cx { sl with w := { sl.w with flags := sl.w.flags - nbit sl.w.flags 2 * 4 } }
  (got.1, got.2.filter (·.poison))

/-- `ACC_PARITY_ERROR`: R180, R181, R194. -/
def execAccParityError (n id e : Nat) (s : State) : Host.Outcome State Fault Refusal :=
  .next (match (s.core n).slot? id with
    | none => s
    | some sl =>
      if n < 8 ∧ sl.issued = true ∧ sl.retired = false ∧ sl.running = true ∧ s.readsAt n sl 1 (4 * e) 4 = true ∧ (s.core n).spois 1 (4 * e) = false then
        let got := s.accTaint n sl e
        let s := s.setCore n ((wSectors got.2).foldl (fun c k => c.setSpois got.1 k true) (s.core n))
        let s := s.setReg (Addr.tcParityLast n) (w32 (2 ^ 31 + e / 16 % 32 * 65536 + e / 512))
        s.raise .accParity 0x03 n (some (s.ctx (4 * n)).domain) []
      else s)

/-! ## Initialisation, regions, tables -/

/-- Zero with good parity in every scratchpad word, no poison (R270, R298). -/
def Core.clearSpm (c : Core) : Core := { c with spm := [], spmPoison := [], spmBad := [] }

/-- `SPM_INIT`: only while every context is OFF, DONE or HALTED (R298). -/
def State.spmInitCmd (s : State) (n : Nat) : State :=
  let ok := [0, 1, 2, 3].all fun m => match (s.ctx (4 * n + m)).state with | .off => true | .done => true | .halted => true | _ => false
  if ok then
    let s := s.dissolveAt n [(0, 4194304)] (fun _ => false)
    s.setCore n (s.core n).clearSpm
  else s.cfgErr 0x03 n

/-- `SPM_INIT`: R298. -/
def execSpmInit (n : Nat) (s : State) : Host.Outcome State Fault Refusal :=
  .next (if n < 8 ∧ s.tcOn n = true then s.spmInitCmd n else s)

/-- `SPM_POWERUP_INIT_DONE`: the initialisation at power-up ends (R270). -/
def execSpmPowerupInitDone (n : Nat) (s : State) : Host.Outcome State Fault Refusal :=
  .next (if n < 8 then (s.setCore n { s.core n with initBusy := false }).setRf Addr.pwrTcStatus (n + 8) (n + 8) 0 else s)

/-- Whether a region may become valid (R300): where it would lie, its own number. -/
def State.resOk (s : State) (n k base : Nat) : Bool :=
  let size := s.resSize n k
  base % 64 == 0 && size % 64 == 0 && decide (base + size ≤ 4194304) &&
  decide (dramBase ≤ s.resOrg n k) && decide (s.resOrg n k + size ≤ dramEnd) &&
  (List.range 16).all fun j => j == k || !s.resValid n j || !runsMeet (s.resBase n j, s.resBase n j + s.resSize n j) (base, base + size)

/-- A write of SPM_n_RES_k_CTRL (R20, R300). -/
def State.resCtrl (s : State) (n k : Nat) (v : Word) : State :=
  let a := Addr.spmResCtrl n k
  let base := fld v 21 0
  if s.resValid n k then
    let s := if base = s.resBase n k then s else s.cfgErr 0x03 n
    (s.noteRsvd a v).setRf a 31 31 (fld v 31 31)
  else if bit v 31 = true ∧ s.resOk n k base = false then s.refuse a v
  else s.putReg a v

/-- `SPM_RES_VALID_WRITE`: R300. -/
def execSpmResValidWrite (n k : Nat) (v : Word) (s : State) : Host.Outcome State Fault Refusal :=
  .next (if n < 8 ∧ k < 16 ∧ s.tcOn n = true then s.resCtrl n k v else s)

/-- A write of a programmable activation table (R360). -/
def State.actTab (s : State) (n t i : Nat) (v : Word) : State :=
  if [0, 1, 2, 3].any fun m => (s.ctx (4 * n + m)).state.live then s.cfgErr 0x03 n
  else s.putReg (Addr.tcActtab n t + 4 * i) v

/-- `ACTTAB_WRITE`: R360. -/
def execActtabWrite (n t i : Nat) (v : Word) (s : State) : Host.Outcome State Fault Refusal :=
  .next (if n < 8 ∧ t < 8 ∧ i < 128 ∧ s.tcOn n = true then s.actTab n t i v else s)

end Sys2Proof.Machine
end

