-- ==== Sys2Proof/Machine/Chain.lean ====
section
/-! DEFINITION. The weight chain (R366-R380, R283, R295, R296, R417, R418): fill groups and refills at the heads, packets
from hop to hop, bypass. -/

namespace Sys2Proof.Machine

open Sys2Proof

/-- Whether core n should be bypassed: halted by HALT_REQ, powered down or forced (R376). -/
def State.bypassWanted (s : State) (n : Nat) : Bool :=
  (s.core n).halted || !s.tcOn n || nbit (s.reg Addr.wchBypassForce).toNat n == 1

/-- Whether the chain bypasses core n. -/
def State.bypassed (s : State) (n : Nat) : Bool := nbit s.wch.bypass n == 1

/-- The first hop of a head (R367). -/
def headHop (h : Nat) : Nat := 4 * h

/-- The hop after `i` in its chain, if any (R367). -/
def State.nextHop (s : State) (i : Nat) : Option Nat :=
  if i = 7 ∨ (i = 3 ∧ s.rb Addr.wchCtrl 0 = true) then none else some (i + 1)

/-- Packets in a hop's buffers. -/
def State.hop (s : State) (i : Nat) : List ChainPkt := tget (fun _ => []) s.wch.hops i

/-- Free buffers of a hop (R380). -/
def State.hopFree (s : State) (i : Nat) : Nat := tget (fun _ => 2) s.wch.freeBuf i

/-- A packet enters a hop's buffer. -/
def State.hopPut (s : State) (i : Nat) (p : ChainPkt) : State :=
  { s with wch := { s.wch with hops := tset (fun _ => []) s.wch.hops i (s.hop i ++ [p]),
                               freeBuf := tset (fun _ => 2) s.wch.freeBuf i (s.hopFree i - 1) } }

/-- The first packet leaves a hop's buffer. -/
def State.hopDrop (s : State) (i : Nat) : State :=
  { s with wch := { s.wch with hops := tset (fun _ => []) s.wch.hops i (s.hop i).tail,
                               freeBuf := tset (fun _ => 2) s.wch.freeBuf i (s.hopFree i + 1) } }

/-- The chain is idle: no group, no refill, no packet. -/
def State.chainIdle (s : State) : Bool :=
  decide (s.wch.groupsA = []) && decide (s.wch.groupsB = []) && decide (s.wch.refills = []) &&
    (List.range 8).all fun i => s.hop i == []

/-- Whether a group holds a request of a CX0 (R373). -/
def FillGrp.cx0 (g : FillGrp) : Bool := g.reqs.any fun q => q.cx == 0

/-- Whether every core of a group's mask that is not bypassed has requested (R371). -/
def State.grpFull (s : State) (g : FillGrp) : Bool :=
  (maskBits g.mask 8).all fun c => s.bypassed c || g.reqs.any fun q => q.core == c

/-- The groups of a head that are fetching. -/
def State.fetching (s : State) (h : Nat) : List FillGrp :=
  (List.range 16).filterMap fun i => match s.group h i with | some g => if g.fetching then some g else none | none => none

/-- A group's fetch starts, for the cores that have requested and are not bypassed (R371, R373): at most 4 at once. -/
def State.grpStart (s : State) (h i : Nat) (g : FillGrp) : State :=
  if (s.fetching h).length < 4 then
    let t := ((g.reqs.map (·.core)).filter fun c => !s.bypassed c).foldl (fun a c => a + 2 ^ c) 0
    s.setGroup h i (some { g with fetching := true, targets := t })
  else s

/-- Whether it is a group's turn to send a packet (R373): no refill waits at its head, and no other fetching group comes
before it, which are those that hold a CX0 request, then the others, each in the order in which they became ready. -/
def State.grpTurn (s : State) (h : Nat) (g : FillGrp) : Bool :=
  (s.wch.refills.all fun r => s.headOf r.core != h) &&
  (s.fetching h).all fun o => o.gid == g.gid || (g.cx0 && !o.cx0) || (g.cx0 == o.cx0 && decide (g.gid < o.gid))

/-- The sector poison of a read. -/
def secPoisons (l : List (Byte × Bool)) : List Bool := (chunks (l.length / 32 + 1) 32 l).map fun c => c.any (·.2)

/-- The LOADWs of a head that found its table full ask again (R370). -/
def State.rejoin (s : State) (h : Nat) : State :=
  forEach (List.range 8) (fun n t =>
    if t.headOf n ≠ h then t
    else (t.core n).slots.foldl (fun t sl =>
      if sl.op = 0x12 ∧ sl.issued = true ∧ sl.retired = false ∧ sl.group = none ∧ sl.pend ≠ [] then t.joinGroup n sl.cx sl else t) t) s

/-- The QoS class in which a group is fetched: LINE where it holds a CX0 request, else TENSOR. -/
def FillGrp.qos (g : FillGrp) : Qos := if g.cx0 then .line else .tensor

/-- A head fetches up to 4,096 bytes of a group and sends them down as one packet (R372, R373, R375). -/
def State.grpSend (s : State) (h i : Nat) (g : FillGrp) : State :=
  if s.hopFree (headHop h) = 0 ∨ g.fetching = false ∨ s.grpTurn h g = false then s
  else
    let k := min 4096 (g.len - g.sent)
    let got := s.unitRead .wch g.qos (g.src + g.sent) k
    let l := got.1
    let s := got.2
    let s := s.incWrap (if h = 0 then Addr.wchBytesA else Addr.wchBytesB) (k / 64)
    let s := if k = 0 ∨ g.targets = 0 then s
      else s.hopPut (headHop h) ⟨g.targets, g.gid, g.src + g.sent, none, plain l, secPoisons l⟩
    let sent := g.sent + k
    if g.len ≤ sent then (s.setGroup h i none).rejoin h else s.setGroup h i (some { g with sent := sent })

/-- A refill that cannot reach its core: provenance is lost (R178, R283, R377). -/
def State.refillLost (s : State) (r : Refill) : State :=
  match (s.core r.core).slot? r.slot with
  | some sl => match sl.bad with | some a => s.poisonOp r.core sl a | none => s
  | none => s

/-- A refill is fetched and sent (R283, R373); one for a bypassed core is abandoned (R377). -/
def State.refillSend (s : State) (h : Nat) (r : Refill) : State :=
  let rest := s.wch.refills.filter fun x => x != r
  if s.bypassed r.core ∨ s.rb Addr.wchCtrl 31 = false then
    { s with wch := { s.wch with refills := rest } }.refillLost r
  else if s.hopFree (headHop h) = 0 then s
  else
    let s := { s with wch := { s.wch with refills := rest } }
    let (l, s) := r.pairs.foldl (fun p q => let (b, t) := p.2.readLine .wch .line q.2 1; (p.1 ++ b, t)) (([] : List (Byte × Bool)), s)
    let s := s.incWrap (if h = 0 then Addr.wchBytesA else Addr.wchBytesB) 1
    s.hopPut (headHop h) ⟨2 ^ r.core, 0, 0, some r, plain l, l.map (·.2)⟩

/-- `WCH_GROUP_FETCH`: a head serves its waiting refill first; else it starts the group where every core has requested,
and sends its next packet (R368, R370, R371, R373, R379, R419). -/
def execWchGroupFetch (head : Bool) (i : Nat) (s : State) : Host.Outcome State Fault Refusal :=
  .next (
    let h := b2n head
    match s.wch.refills.find? fun r => s.headOf r.core == h with
    | some r => s.refillSend h r
    | none =>
      if 16 ≤ i ∨ s.rb Addr.wchCtrl 31 = false then s
      else match s.group h i with
        | none => s
        | some g =>
          let s := if g.fetching = false ∧ s.grpFull g = true then s.grpStart h i g else s
          match s.group h i with
          | some g => s.grpSend h i g
          | none => s)

/-- `WCH_MATCH_TIMEOUT`: the head fetches for the cores that have requested (R371). -/
def execWchMatchTimeout (head : Bool) (i : Nat) (s : State) : Host.Outcome State Fault Refusal :=
  .next (
    let h := b2n head
    if 16 ≤ i then s
    else match s.group h i with
      | none => s
      | some g =>
        if g.fetching = false ∧ s.grpFull g = false ∧ g.since + usTicks (s.rf Addr.wchMatchTo 15 0) < s.now then
          let gone := (maskBits g.mask 8).filter fun c => !s.bypassed c && !(g.reqs.any fun q => q.core == c)
          let s := s.raise .wchMatch 0x07 0 none [(1, (gone.map fun c => 2 ^ c).foldl (· + ·) 0)]
          s.grpStart h i g
        else s)

/-- The bytes of a packet written to the LOADW of a core that its group serves (R374, R375). -/
def State.fillSlot (s : State) (n : Nat) (sl : Slot) (p : ChainPkt) : State :=
  let mine := sl.pend.filter fun q => decide (p.src ≤ q.line) && decide (q.line < p.src + p.data.length)
  let ws := mine.flatMap fun q => q.bytes.map fun b =>
    (b.1, lget 0 p.data (b.2 - p.src), lget false p.poison ((b.2 - p.src) / 32))
  let s := s.perf n 0 (byteWrites ws)
  s.setCore n ((s.core n).setSlot { sl with pend := sl.pend.filter fun q => !(decide (p.src ≤ q.line) && decide (q.line < p.src + p.data.length)) })

/-- A packet delivered to a core (R283, R295, R296, R374). -/
def State.deliver (s : State) (n : Nat) (p : ChainPkt) : State :=
  match p.refill with
  | some r =>
    let s := s.perf n 0 (byteWrites (r.pairs.zipIdx.map fun q => (q.1.1, lget 0 p.data q.2, lget false p.poison q.2)))
    match (s.core n).slot? r.slot with
    | some sl => s.setCore n ((s.core n).setSlot { sl with refill := false })
    | none => s
  | none =>
    (s.core n).slots.foldl (fun t e =>
      if e.op = 0x12 ∧ e.group = some p.gid then
        match (t.core n).slot? e.id with
        | some sl => t.fillSlot n sl p
        | none => t
      else t) s

/-- The poison of a beat's 8 sectors set (R375); a refill's packet carries a poison bit for each byte. -/
def ChainPkt.upset (p : ChainPkt) (beat : Nat) : ChainPkt :=
  match p.refill with
  | some _ => { p with poison := p.poison.map fun _ => true }
  | none => { p with poison := p.poison.zipIdx.map fun q => q.1 || q.2 / 8 == beat }

/-- A packet at a hop: a parity error on beat `upset` - 1 when `upset` is not 0, delivery, and onward where a later core
is a destination and the next hop has a free buffer (R372-R376, R380). -/
def State.hopMove (s : State) (i upset : Nat) (p : ChainPkt) : State :=
  let later := p.mask / 2 ^ (i + 1) * 2 ^ (i + 1)
  let here := nbit p.mask i == 1 && !s.bypassed i
  let blocked := later != 0 && (match s.nextHop i with | some j => s.hopFree j == 0 | none => false)
  if blocked then s
  else
    let s := if upset = 0 then s else (s.inc Addr.wchParityCnt 1).raise .wchParity 0x07 0 none []
    let q := if upset = 0 then p else p.upset (upset - 1)
    let s := if here then s.deliver i q
      else match q.refill with
        | some r => if nbit p.mask i = 1 then s.refillLost r else s
        | none => s
    let s := s.hopDrop i
    if later = 0 then s else match s.nextHop i with | some j => s.hopPut j { q with mask := later } | none => s

/-- `WCH_PACKET_HOP`: R283, R295, R366, R372-R376, R380. -/
def execWchPacketHop (i upset : Nat) (s : State) : Host.Outcome State Fault Refusal :=
  .next (if i < 8 then (match s.hop i with | p :: _ => s.hopMove i upset p | [] => s) else s)

/-- The requests of a core withdrawn from the groups of a head that have not started fetching (R377). -/
def dropCore (n : Nat) (t : Table (Option FillGrp)) : Table (Option FillGrp) :=
  (List.range 16).foldl (fun t i =>
    match tget (fun _ => none) t i with
    | some g =>
      if g.fetching then t
      else
        let r := g.reqs.filter fun q => q.core != n
        tset (fun _ => none) t i (if r = [] then none else some { g with reqs := r })
    | none => t) t

/-- The refills addressed to a core abandoned (R377). -/
def State.dropRefills (s : State) (n : Nat) : State :=
  (s.wch.refills.filter fun r => r.core == n).foldl (fun t r => t.refillSend (t.headOf n) r) s

/-- `WCH_BYPASS_SWITCH`: between packets, a bypass starts or ends as its causes stand (R376, R377, R418). -/
def execWchBypassSwitch (n : Nat) (s : State) : Host.Outcome State Fault Refusal :=
  .next (
    if 8 ≤ n ∨ s.bypassWanted n = s.bypassed n then s
    else if s.bypassWanted n then
      let s := { s with wch := { s.wch with bypass := s.wch.bypass + 2 ^ n,
                                            groupsA := dropCore n s.wch.groupsA, groupsB := dropCore n s.wch.groupsB } }
      let c := s.core n
      let s := s.setCore n { c with slots := c.slots.map fun e =>
        if e.op = 0x12 ∧ e.issued = true ∧ e.retired = false ∧ e.pend ≠ [] then { e with group := none } else e }
      s.dropRefills n
    else
      let s := { s with wch := { s.wch with bypass := s.wch.bypass - 2 ^ n } }
      s.rejoin (s.headOf n))

/-- A write of WCH_CTRL: SPLIT changes only while the chain is idle (R417); clearing and setting EN while it is idle
leaves every hop with 2 free buffers (R863). -/
def State.wchCtrlWrite (s : State) (v : Word) : State :=
  let a := Addr.wchCtrl
  let idle := s.chainIdle
  let split := bit v 0 != s.rb a 0
  let s := if split ∧ idle = false then (s.refuse a v).setRf a 31 31 (fld v 31 31) else s.putReg a v
  if bit v 31 = true ∧ idle = true then { s with wch := { s.wch with freeBuf := [] } } else s

/-- `WCH_SPLIT_WRITE`: R417. -/
def execWchSplitWrite (v : Word) (s : State) : Host.Outcome State Fault Refusal := .next (s.wchCtrlWrite v)

end Sys2Proof.Machine
end

