-- ==== Sys2Proof/Machine/MemOps.lean ====
section
/-! DEFINITION. The memory slices as every family sees them: slices, channels, the credits of R636. -/

namespace Sys2Proof.Machine

open Sys2Proof

/-- A DRAM channel. -/
def State.chan (s : State) (i : Nat) : Chan := tget (fun _ => {}) s.ms.chans i
/-- The state with a channel replaced. -/
def State.setChan (s : State) (i : Nat) (x : Chan) : State :=
  { s with ms := { s.ms with chans := tset (fun _ => {}) s.ms.chans i x } }

/-- Credits reserved for a class: of reads, of write entries (R636). -/
def qosReserve : Qos → Nat × Nat
  | .line => (96, 64)
  | .live => (32, 16)
  | .ctrl => (16, 8)
  | _ => (0, 0)

/-- What the classes of a list hold beyond their reserves. -/
def sharedUse (reserve : Qos → Nat) (l : List Qos) : Nat :=
  ([.line, .live, .tensor, .ctrl, .bulk].map fun c => (l.filter (· == c)).length - reserve c).foldl (· + ·) 0

/-- Whether a request of a class finds a credit among those its slice has (R636). -/
def credOk (reserve : Qos → Nat) (share : Nat) (l : List Qos) (c : Qos) : Bool :=
  decide ((l.filter (· == c)).length < reserve c) || decide (sharedUse reserve l < share)

/-- The read credits a slice holds. -/
def MemSlice.reads (x : MemSlice) : List Qos := x.waiting.map (·.cls)

/-- Free read credits and free write entries of a slice. -/
def MemSlice.free (x : MemSlice) : Nat × Nat := (384 - x.waiting.length, 256 - x.entries.length)

end Sys2Proof.Machine
end

