-- ==== Sys2Proof/Machine/Coh.lean ====
section
/-! DEFINITION. The control cluster's coherence (R585-R624): each transaction as its home completes it, races through the
writeback buffers, cache-block operations, poison, snoop timeout, scrub, whole-cache flush. A line is named by the address
of its first byte. -/

namespace Sys2Proof.Machine

open Sys2Proof

/-- The key of a line in a core's cache. -/
def cohKey (cpu line : Nat) : Nat := cpu * 2 ^ 34 + line / 64
/-- A core's copy of a line. -/
def State.cl (s : State) (cpu line : Nat) : Option CLine := tget (fun _ => none) s.coh.lines (cohKey cpu line)
/-- The state with a core's copy replaced. -/
def State.setCl (s : State) (cpu line : Nat) (x : Option CLine) : State :=
  { s with coh := { s.coh with lines := tset (fun _ => none) s.coh.lines (cohKey cpu line) x } }
/-- Whether a core is joined (R595). -/
def State.joined (s : State) (cpu : Nat) : Bool := decide (cpu < 4) && s.rb Addr.cohStatus cpu
/-- Whether a core is isolated (R614). -/
def State.isolated (s : State) (cpu : Nat) : Bool := s.rb Addr.cohStatus (16 + cpu)
/-- The other joined cores. -/
def State.others (s : State) (cpu : Nat) : List Nat := (List.range 4).filter fun i => i != cpu && s.joined i
/-- A core's reservation on a line lost (R600). -/
def State.unreserve (s : State) (cpu line : Nat) : State :=
  if tget (fun _ => none) s.coh.resv cpu = some (line / 64) then
    { s with coh := { s.coh with resv := tset (fun _ => none) s.coh.resv cpu none } }
  else s
/-- A core's copy invalidated. -/
def State.clDrop (s : State) (cpu line : Nat) : State := (s.setCl cpu line none).unreserve cpu line
/-- A core's copy entered; a FLUSH_ALL in progress does not cover it (R616). -/
def State.clFill (s : State) (cpu line : Nat) (x : CLine) : State :=
  let f := tget (fun _ => []) s.coh.flush cpu
  let s := s.setCl cpu line (some x)
  { s with coh := { s.coh with flush := tset (fun _ => []) s.coh.flush cpu (f.filter (· != line / 64)) } }

/-- Whether a state is dirty. -/
def Moesi.dirty : Moesi → Bool | .m => true | .o => true | _ => false
/-- Whether a state supplies data (R593). -/
def Moesi.owns : Moesi → Bool | .s => false | _ => true

/-- The data a snoop finds: the copy of a core in M, O or E, or a writeback buffer's; whether it is dirty, and whether it
came from a buffer (R593, R599). -/
def State.snoopData (s : State) (line : Nat) (cores : List Nat) : Option (Bytes × (Bool × Bool) × Bool × Bool) :=
  match cores.findSome? (fun i => match s.cl i line with | some c => if c.st.owns then some c else none | none => none) with
  | some c => some (c.data, c.bad, c.st.dirty, false)
  | none =>
    match s.coh.wbuf.find? fun w => decide (w.line / 64 = line / 64) && !w.taken with
    | some w => some (w.data, w.bad, true, true)
    | none => none

/-- The buffered copies of a line lose their ownership (R599). -/
def State.takeBufs (s : State) (line : Nat) : State :=
  { s with coh := { s.coh with wbuf := s.coh.wbuf.map fun w => if w.line / 64 = line / 64 then { w with taken := true } else w } }

/-- Whether a core waits with a PUT_DIRTY of a line of its own (R597). -/
def State.putOpen (s : State) (cpu line : Nat) : Bool := s.coh.wbuf.any fun w => w.cpu == cpu && decide (w.line / 64 = line / 64)

/-- Every listed core's copy invalidated. -/
def State.dropAll (s : State) (line : Nat) (l : List Nat) : State := forEach l (fun i t => t.clDrop i line) s

/-- A line written to memory with the poison of its sectors, for a core (R595, R601). -/
def State.lineOut (s : State) (cpu line : Nat) (data : Bytes) (bad : Bool × Bool) : State :=
  let a := line / 64 * 64
  (s.writeLine (.cpu cpu) .ctrl a (data.take 32) bad.1).writeLine (.cpu cpu) .ctrl (a + 32) (data.drop 32) bad.2

/-- A line read from memory for a core: its bytes and the poison of its sectors (R601). -/
def State.lineIn (s : State) (cpu line : Nat) : Bytes × (Bool × Bool) × State :=
  let got := s.readLine (.cpu cpu) .ctrl (line / 64 * 64) 64
  let l := got.1
  let t := got.2
  (plain l, (anyPoison (l.take 32), anyPoison (l.drop 32)), t)

/-- A transaction passes its home's trackers (R596): the high-water mark. -/
def State.tracked (s : State) (line : Nat) : State :=
  let a := Addr.cohHnStatus (sliceOf line)
  s.setRf a 22 16 (max 1 (s.rf a 22 16))

/-- Whether a core may send a transaction for a line: joined, DRAM, and no PUT_DIRTY of its own open (R597, R614). -/
def State.cohMay (s : State) (cpu line : Nat) : Bool := s.joined cpu && inDram line && !s.putOpen cpu line

/-- A transaction whose access the firewall denies, else as `f` says (R587). -/
def State.cohFw (s : State) (cpu line : Nat) (write : Bool) (f : State → State) : State :=
  if s.fwAllow (.cpu cpu) line write then f (s.tracked line) else s.denied (.cpu cpu) (s.fwGov line) line 64 write false

/-- GET_S at its home (R592, R593, R599). -/
def State.getSAt (s : State) (cpu line : Nat) : State :=
  let os := s.others cpu
  let held := os.any fun i => (s.cl i line).isSome
  match s.snoopData line os with
  | some (d, b, _, buf) =>
    let s := forEach os (fun i t => match t.cl i line with
      | some c =>
        if c.st = .m then (t.setCl i line (some { c with st := .o })).unreserve i line
        else if c.st = .e then (t.setCl i line (some { c with st := .s })).unreserve i line else t
      | none => t) s
    let s := if buf then s.takeBufs line else s
    s.clFill cpu line ⟨if buf then .o else .s, d, b⟩
  | none =>
    let got := s.lineIn cpu line
    let d := got.1
    let b := got.2.1
    let t := got.2.2
    t.clFill cpu line ⟨if held then .s else .e, d, b⟩

/-- GET_M at its home (R592, R593, R599). -/
def State.getMAt (s : State) (cpu line : Nat) : State :=
  let os := s.others cpu
  match s.snoopData line os with
  | some (d, b, _, _) => ((s.takeBufs line).dropAll line os).clFill cpu line ⟨.m, d, b⟩
  | none =>
    let got := s.lineIn cpu line
    let d := got.1
    let b := got.2.1
    let t := got.2.2
    (t.dropAll line os).clFill cpu line ⟨.m, d, b⟩

/-- `GET_S`: R592-R595, R599, R601. -/
def execGetS (cpu line : Nat) (s : State) : Host.Outcome State Fault Refusal :=
  .next (if s.cohMay cpu line = true ∧ s.cl cpu line = none then s.cohFw cpu line false (·.getSAt cpu line) else s)

/-- `GET_M`: R592-R595, R599-R601; `lr` where a load-reserved issues it. -/
def execGetM (cpu line : Nat) (lr : Bool) (s : State) : Host.Outcome State Fault Refusal :=
  .next (if s.cohMay cpu line = true ∧ s.cl cpu line = none then
    s.cohFw cpu line (!lr) fun t =>
      let u := t.getMAt cpu line
      if lr then { u with coh := { u.coh with resv := tset (fun _ => none) u.coh.resv cpu (some (line / 64)) } } else u
  else s)

/-- `UPGRADE`: R592, R598. A requester that no longer holds the line gets it as by GET_M. -/
def execUpgrade (cpu line : Nat) (s : State) : Host.Outcome State Fault Refusal :=
  .next (if s.cohMay cpu line then
    match s.cl cpu line with
    | none => s.cohFw cpu line true (·.getMAt cpu line)
    | some c =>
      if c.st = .s ∨ c.st = .o then
        s.cohFw cpu line true fun t => ((t.takeBufs line).dropAll line (t.others cpu)).setCl cpu line (some { c with st := .m })
      else s
  else s)

/-- `PUT_DIRTY`: R592, R595, R599. -/
def execPutDirty (cpu line : Nat) (s : State) : Host.Outcome State Fault Refusal :=
  .next (match s.coh.wbuf.find? fun w => w.cpu == cpu && decide (w.line / 64 = line / 64) with
    | some w =>
      if s.joined cpu then
        let t := { s with coh := { s.coh with wbuf := s.coh.wbuf.filter fun v => !(v.cpu == cpu && decide (v.line / 64 = line / 64)) } }
        let t := t.tracked line
        if w.taken then t else t.lineOut cpu line w.data w.bad
      else s
    | none => s)

/-- SYNC_KEEP at its home (R592, R599). -/
def State.syncKeepAt (s : State) (cpu line : Nat) : State :=
  let js := cpu :: s.others cpu
  let d := s.snoopData line js
  let s := forEach js (fun i t => match t.cl i line with
    | some c =>
      if c.st = .m then (t.setCl i line (some { c with st := .e })).unreserve i line
      else if c.st = .o then t.setCl i line (some { c with st := .s }) else t
    | none => t) s
  match d with
  | some (x, b, true, _) => (s.takeBufs line).lineOut cpu line x b
  | _ => s

/-- SYNC_DROP at its home (R592, R599). -/
def State.syncDropAt (s : State) (cpu line : Nat) : State :=
  let js := cpu :: s.others cpu
  let d := s.snoopData line js
  let s := s.dropAll line js
  match d with
  | some (x, b, true, _) => (s.takeBufs line).lineOut cpu line x b
  | _ => s

/-- DROP at its home (R592, R599, R618). -/
def State.dropAt (s : State) (cpu line : Nat) : State := (s.takeBufs line).dropAll line (cpu :: s.others cpu)

/-- A cache-block operation of a core that the firewall lets read or write the line (R587, R604, R606). -/
def State.cboFw (s : State) (cpu line : Nat) (f : State → State) : State :=
  if s.fwAllow (.cpu cpu) line false || s.fwAllow (.cpu cpu) line true then f (s.tracked line)
  else s.denied (.cpu cpu) (s.fwGov line) line 64 true false

/-- `SYNC_KEEP`: R592, R595, R599, R604. -/
def execSyncKeep (cpu line : Nat) (s : State) : Host.Outcome State Fault Refusal :=
  .next (if s.cohMay cpu line then s.cboFw cpu line (·.syncKeepAt cpu line) else s)

/-- `SYNC_DROP`: R592, R595, R599, R604, R605. -/
def execSyncDrop (cpu line : Nat) (s : State) : Host.Outcome State Fault Refusal :=
  .next (if s.cohMay cpu line then s.cboFw cpu line (·.syncDropAt cpu line) else s)

/-- `DROP`: R592, R599, R605, R618. -/
def execDropLine (cpu line : Nat) (s : State) : Host.Outcome State Fault Refusal :=
  .next (if s.cohMay cpu line then s.cboFw cpu line (·.dropAt cpu line) else s)

/-- `CBO_CLEAN`: R604, R606, R607. -/
def execCboClean (cpu addr : Nat) (s : State) : Host.Outcome State Fault Refusal :=
  .next (if s.cohMay cpu addr then s.cboFw cpu addr (·.syncKeepAt cpu addr) else s)

/-- `CBO_FLUSH`: R604, R606, R607. -/
def execCboFlush (cpu addr : Nat) (s : State) : Host.Outcome State Fault Refusal :=
  .next (if s.cohMay cpu addr then s.cboFw cpu addr (·.syncDropAt cpu addr) else s)

/-- `CBO_INVAL`: R604-R607; `cbie` is the governing field, whose other values raise an illegal-instruction exception. -/
def execCboInval (cpu addr cbie : Nat) (s : State) : Host.Outcome State Fault Refusal :=
  .next (if cbie ≠ 1 ∧ cbie ≠ 3 then { s with resp := { err := true } }
  else if s.cohMay cpu addr then s.cboFw cpu addr fun t => if cbie = 3 then t.dropAt cpu addr else t.syncDropAt cpu addr
  else s)

/-! ## The core's own side (R591, R599-R602) -/

/-- `CACHE_LINE_EVICTION`: R586, R591, R599, R600. -/
def execCacheLineEviction (cpu line : Nat) (s : State) : Host.Outcome State Fault Refusal :=
  .next (match s.cl cpu line with
    | some c =>
      let t := s.clDrop cpu line
      if c.st.dirty then { t with coh := { t.coh with wbuf := t.coh.wbuf ++ [⟨cpu, line / 64 * 64, c.data, c.bad, false⟩] } } else t
    | none => s)

/-- Whether a sector of a line that [o, o + n) touches is poisoned. -/
def touchesBad (bad : Bool × Bool) (o n : Nat) : Bool := (bad.1 && decide (o < 32)) || (bad.2 && decide (32 < o + n))

/-- `CPU_STORE_HIT`: R587, R591, R602. A store within a line held in M or E. -/
def execCpuStoreHit (cpu addr : Nat) (data : Bytes) (s : State) : Host.Outcome State Fault Refusal :=
  .next (match s.cl cpu addr with
    | some c =>
      let o := addr % 64
      if s.joined cpu = false ∨ 64 < o + data.length ∨ data = [] ∨ (c.st ≠ .m ∧ c.st ≠ .e) ∨ touchesBad c.bad o data.length = true then s
      else if s.fwAllow (.cpu cpu) addr true then
        s.setCl cpu addr (some { c with st := .m, data := c.data.take o ++ data ++ c.data.drop (o + data.length) })
      else s.denied (.cpu cpu) (s.fwGov addr) addr data.length true false
    | none => s)

/-- `CPU_POISON_ACCESS`: R602. -/
def execCpuPoisonAccess (cpu addr : Nat) (_kind : AccessKind) (s : State) : Host.Outcome State Fault Refusal :=
  .next (match s.cl cpu addr with
    | some c =>
      if touchesBad c.bad (addr % 64) 1 then
        let t := { s with resp := { err := true }, coh := { s.coh with tval := tset (fun _ => 0) s.coh.tval cpu addr } }
        (t.inc (Addr.cohCpuPoison cpu) 1).raise .cpuPoison 0x0F cpu none []
      else s
    | none => s)

/-! ## Timeout, scrub, flush (R612-R616, R620-R623) -/

/-- A core isolated (R612, R614): it is snooped no more, and its open requests are discarded. -/
def State.isolate (s : State) (core : Nat) : State :=
  let s := (s.setRf Addr.cohStatus (16 + core) (16 + core) 1).setRf Addr.cohStatus core core 0
  let s := (s.setRf (Addr.cohCpuStatus core) 1 1 1).setRf (Addr.cohCpuStatus core) 0 0 0
  { s with coh := { s.coh with wbuf := s.coh.wbuf.filter fun w => w.cpu != core, resv := tset (fun _ => none) s.coh.resv core none } }

/-- A scrub at the home of a line (R613). -/
def State.scrubAt (s : State) (line : Nat) : State :=
  let s := (s.takeBufs line).dropAll line ((List.range 4).filter fun i => s.joined i)
  let s := if s.memOk line then s.dramPut line (List.replicate 64 0) false else s.rangeErr line
  s.setRf Addr.cohScrubStatus 15 0 (s.rf Addr.cohScrubStatus 15 0 + 1)

/-- The transaction of a timed-out snoop completed with a poisoned line (R612 step 3). -/
def State.cohFinish (s : State) (line requester : Nat) (data : Bytes) : CohKind → State
  | .getS =>
    let os := s.others requester
    let held := os.any fun i => (s.cl i line).isSome
    (forEach os (fun i t => match t.cl i line with
      | some c => if c.st = .m then t.setCl i line (some { c with st := .o }) else if c.st = .e then t.setCl i line (some { c with st := .s }) else t
      | none => t) s).clFill requester line ⟨if held then .s else .e, data, (true, true)⟩
  | .getM => (s.dropAll line (s.others requester)).clFill requester line ⟨.m, data, (true, true)⟩
  | .upgrade => (s.dropAll line (s.others requester)).clFill requester line ⟨.m, data, (true, true)⟩
  | .syncKeep => forEach (requester :: s.others requester) (fun i t => match t.cl i line with
      | some c => if c.st = .m then t.setCl i line (some { c with st := .e }) else if c.st = .o then t.setCl i line (some { c with st := .s }) else t
      | none => t) s
  | .syncDrop => s.dropAll line (requester :: s.others requester)
  | .drop => s.dropAll line (requester :: s.others requester)
  | .scrub => s.scrubAt line

/-- A write of COH_SNOOP_TO (R621): the value it replaces stays the timeout of the snoops sent so far, the longest of which lasts
1,000 us. -/
def State.snoopToWrite (s : State) (a : Nat) (v : Word) : State :=
  let t := s.putReg a v
  if t.rf a 9 0 = s.rf a 9 0 then t
  else { t with coh := { t.coh with olds := (t.coh.olds.filter fun x => decide (s.now ≤ x.1 + usTicks 1001)) ++ [(s.now, s.rf a 9 0)] } }

/-- The timeout in us of a snoop sent at a tick (R612, R621): the value COH_SNOOP_TO held then. -/
def State.snoopTo (s : State) (sent : Nat) : Nat :=
  match s.coh.olds.find? fun x => decide (sent < x.1) with
  | some x => x.2
  | none => s.rf Addr.cohSnoopTo 9 0

/-- Whether a snoop sent at a tick has gone unanswered for its timeout. -/
def State.snoopLate (s : State) (sent : Nat) : Bool := decide (sent + usTicks (s.snoopTo sent) ≤ s.now)

/-- `SNOOP_TIMEOUT`: R612, R614, R620, R621. -/
def execSnoopTimeout (core line requester : Nat) (kind : CohKind) (sent : Nat) (s : State) : Host.Outcome State Fault Refusal :=
  .next (if s.joined core = true ∧ inDram line = true ∧ s.snoopLate sent = true ∧
      (kind = .scrub ∨ (core ≠ requester ∧ s.joined requester = true)) then
    let a := line / 64 * 64
    let s := s.isolate core
    let data := freeRun s.fresh 64
    let s := { s with fresh := s.fresh + 1 }
    let s := (s.takeBufs a).tracked a
    let s := if s.memOk a then s.dramPut a data true else s.rangeErr a
    let s := s.cohFinish a requester data kind
    let s := ((s.setReg Addr.cohLastToLo (w32 (a % 2 ^ 32 + core))).setReg Addr.cohLastToHi (w32 (a / 2 ^ 32))).inc Addr.cohToCnt 1
    s.raise .snoopTimeout 0x0F core none [(1, core), (5, a)]
  else s)

/-- `COH_SCRUB`: a write of COH_SCRUB_HI (R613, R622). -/
def State.scrubWrite (s : State) (v : Word) : State :=
  let a := Addr.cohScrubHi
  let line := fld v 7 0 * 2 ^ 32 + s.rf Addr.cohScrubLo 31 6 * 64
  if s.rb Addr.cohScrubStatus 31 = true ∨ inDram line = false then s.refuse a v
  else ((s.putReg a v).tracked line).scrubAt line

/-- `COH_SCRUB`: R603, R613, R622. -/
def execCohScrub (v : Word) (s : State) : Host.Outcome State Fault Refusal := .next (s.scrubWrite v)

/-- The lines a core holds, by line number. -/
def State.linesOf (s : State) (cpu : Nat) : List Nat :=
  (s.coh.lines.filter fun x => x.1 / 2 ^ 34 == cpu).map fun x => x.1 % 2 ^ 34

/-- `FLUSH_ALL`: a write of 1 to COH_CPU_n_CTRL (R616, R622). -/
def State.flushAllCmd (s : State) (cpu : Nat) : State :=
  if s.isolated cpu then s.cfgErr 0x0F cpu
  else if s.rb (Addr.cohCpuStatus cpu) 2 then s
  else
    let s := { s with coh := { s.coh with flush := tset (fun _ => []) s.coh.flush cpu (s.linesOf cpu) } }
    s.setRf (Addr.cohCpuStatus cpu) 2 2 1

/-- `FLUSH_ALL`: R616, R622. -/
def execFlushAll (cpu : Nat) (s : State) : Host.Outcome State Fault Refusal := .next (if cpu < 4 then s.flushAllCmd cpu else s)

/-- `FLUSH_ALL_DONE`: R616, R623. What snoops took meanwhile is not written again. -/
def execFlushAllDone (cpu : Nat) (s : State) : Host.Outcome State Fault Refusal :=
  .next (if cpu < 4 ∧ s.rb (Addr.cohCpuStatus cpu) 2 = true then
    let s := (tget (fun _ => []) s.coh.flush cpu).foldl (fun (t : State) n =>
      match t.cl cpu (64 * n) with
      | some c =>
        let u := t.clDrop cpu (64 * n)
        if c.st.dirty then u.lineOut cpu (64 * n) c.data c.bad else u
      | none => t) s
    let mine := s.coh.wbuf.filter fun w => w.cpu == cpu
    let s := mine.foldl (fun (t : State) w => if w.taken then t else t.lineOut cpu w.line w.data w.bad) s
    let s := { s with coh := { s.coh with wbuf := s.coh.wbuf.filter fun w => w.cpu != cpu, flush := tset (fun _ => []) s.coh.flush cpu [] } }
    s.setRf (Addr.cohCpuStatus cpu) 2 2 0
  else s)

/-- A core's reset (R615, R616): its caches are invalidated without writeback, its isolation ends. -/
def State.cohReset (s : State) (cpu : Nat) : State :=
  let s := (s.linesOf cpu).foldl (fun (t : State) n => t.clDrop cpu (64 * n)) s
  let s := { s with coh := { s.coh with wbuf := s.coh.wbuf.filter fun w => w.cpu != cpu, flush := tset (fun _ => []) s.coh.flush cpu [],
                                        resv := tset (fun _ => none) s.coh.resv cpu none } }
  (s.setRf Addr.cohStatus cpu cpu 0).setReg (Addr.cohCpuStatus cpu) 0

/-- A core leaves reset: its isolation ends and it joins the ring (R615, R785). -/
def State.cohJoin (s : State) (cpu : Nat) : State :=
  ((s.setRf Addr.cohStatus (16 + cpu) (16 + cpu) 0).setRf Addr.cohStatus cpu cpu 1).setReg (Addr.cohCpuStatus cpu) 1

end Sys2Proof.Machine
end

