-- ==== Sys2Proof/Machine/Ill.lean ====
section
/-! DEFINITION. The illuminator channels (R706-R725): turning on and off, trips, the on-time guard, the gate supply. -/

namespace Sys2Proof.Machine

open Sys2Proof

/-- A ramp time in ns (R708). -/
def rampNs (code : Nat) : Nat := lget 640 [20, 40, 60, 80, 160, 240, 320, 640] code

/-- The time the present discharge of a gate takes, in ns: the turn-off ramp, the soft sink, the hard sink. -/
def Illum.offNs (x : Illum) : Nat :=
  match x.gate with
  | .softSink => 200
  | .hardSink => 20
  | _ => rampNs (fld x.cfg 22 20)

/-- Whether a gate is off by a tick: never driven, or its discharge over. -/
def Illum.offBy (x : Illum) (t : Nat) : Bool :=
  match x.gate with
  | .off => true
  | .rampUp => false
  | _ => decide (x.since + nsTicks x.offNs ≤ t)

/-- Whether a gate is off now. -/
def State.gateOff (s : State) (x : Illum) : Bool := x.offBy s.now

/-- Whether a channel is on or turning on. -/
def Illum.isOn (x : Illum) : Bool := x.gate == .rampUp

/-- Whether a channel is enabled. -/
def State.illEn (s : State) (ch : Nat) : Bool := s.rb Addr.illCtrl 0 && s.rb (Addr.illCfg ch) 31

/-- Whether VDD_GATE is below its threshold (R717). -/
def State.illUv (s : State) : Bool := s.rb Addr.illStatus 31

/-- A channel begins the turn-off ramp on a tick (R710); blanking lasts its time from the ILL_ON (R711). -/
def State.illRampAt (s : State) (ch t : Nat) : State :=
  let x := s.ill ch
  if x.isOn then s.setIll ch { x with gate := .rampDown, since := t } else s

/-- A channel begins the turn-off ramp now (R710). -/
def State.illRampDown (s : State) (ch : Nat) : State := s.illRampAt ch s.now

/-- ILL_ON on one channel on tick `t`, from domain d (R92, R707, R711, R717, R718, R722, R723). A channel that holds FAULT is skipped, enabled or
not. -/
def State.illOnCh (s : State) (d ch t : Nat) : State :=
  let x := s.ill ch
  if x.faulted then (s.inc Addr.lptSchedSkip 1).raise .schedSkip 0x01 d (some d) []
  else if s.illEn ch = false then s
  else if x.isOn = true ∨ s.illUv = true then s
  else
    let s := s.setIll ch { x with gate := .rampUp, since := t, onAt := t, onPos := (s.dom d).pub (t * 65536), onFrame := (s.dom d).frame,
                                  blank := true, fromOff := x.offBy t, cfg := s.reg (Addr.illCfg ch),
                                  maxon := s.rf (Addr.illMaxon ch) 15 0, domain := d }
    s.incWrap (Addr.illStrobes ch) 1

/-- A MAXON expiry on the tick of an ILL_OFF gives way to it (R722): its flag and its record are withdrawn, unless the collector
has the record already. -/
def State.illUnover (s : State) (ch t : Nat) : State :=
  let x := s.ill ch
  match x.claimed with
  | some (u, r, had) =>
    if u = t ∧ s.coll.posted.contains r = true then (s.unpost r).setIll ch { x with maxonHit := had, claimed := none } else s
  | none => s

/-- ILL_OFF on one channel on tick `t` (R87, R710, R722): on the tick of an ILL_ON it prevails, and the strobe did not turn on. -/
def State.illOffCh (s : State) (ch t : Nat) : State :=
  let s := s.illUnover ch t
  let x := s.ill ch
  if x.isOn = true ∧ x.onAt = t then
    let s := s.setReg (Addr.illStrobes ch) (s.reg (Addr.illStrobes ch) - 1)
    s.setIll ch { x with gate := if x.fromOff then .off else .rampDown, blank := false }
  else s.illRampAt ch t

/-- A FAULT latched with its cause (R713, R714, R717): latches are counted. -/
def State.illLatch (s : State) (ch cause : Nat) (gate : Gate) : State :=
  let x := s.ill ch
  let s := if x.faulted then s else s.inc (Addr.illTrips ch) 1
  s.setIll ch { x with gate := gate, since := if gate = x.gate then x.since else s.now, blank := false, faulted := true, cause := cause }

/-- The record of a trip (R724). -/
def State.illTrip (s : State) (c : Code) (ch cause : Nat) : State :=
  let x := s.ill ch
  s.raise c 0x16 ch (some x.domain) [(1, cause), (4, s.now % 2 ^ 32), (4, posWord x.domain x.onFrame x.onPos)]

/-- A fast crossing (R713, R722). -/
def State.illFast (s : State) (ch : Nat) : State :=
  let x := s.ill ch
  if s.gateOff x then s
  else
    let slower := x.isOn || decide (x.offNs < 200)
    (s.illLatch ch 1 (if slower then .softSink else x.gate)).illTrip .illShort ch 1

/-- A normal crossing (R714, R722). -/
def State.illNormal (s : State) (ch : Nat) : State :=
  let x := s.ill ch
  if s.gateOff x = true ∨ x.blank = true ∨ x.faulted = true then s
  else (s.illLatch ch 2 .hardSink).illTrip .illOvercurrent ch 2

/-- `ILL_BLANK_END`: R711, R714. -/
def execIllBlankEnd (ch : Nat) (s : State) : Host.Outcome State Fault Refusal :=
  .next (
    let x := s.ill ch
    if ch < 8 ∧ x.blank = true then
      let s := s.goto (x.onAt + nsTicks ((fld x.cfg 19 16 + 1) * 50))
      s.setIll ch { x with blank := false }
    else s)

/-- `ILL_FAST_TRIP`: R713, R722, R724. -/
def execIllFastTrip (ch : Nat) (s : State) : Host.Outcome State Fault Refusal := .next (if ch < 8 then s.illFast ch else s)

/-- `ILL_NORMAL_TRIP`: R714, R722, R724. -/
def execIllNormalTrip (ch : Nat) (s : State) : Host.Outcome State Fault Refusal := .next (if ch < 8 then s.illNormal ch else s)

/-- `ILL_MAXON_EXPIRY`: R715, R722. -/
def execIllMaxonExpiry (ch : Nat) (s : State) : Host.Outcome State Fault Refusal :=
  .next (
    let x := s.ill ch
    if ch < 8 ∧ x.isOn = true then
      let s := s.goto (x.onAt + usTicks x.maxon)
      let r := s.mkRec .illMaxon Code.illMaxon.cls 0x16 ch (some x.domain) []
      let s := s.setIll ch { s.ill ch with gate := .rampDown, since := s.now, blank := false, maxonHit := true,
                                           claimed := some (s.now, r, (s.ill ch).maxonHit) }
      s.postRec r
    else s)

/-- `ILL_GATE_UV`: VDD_GATE falls below 4.2 V (R717). -/
def execIllGateUv (s : State) : Host.Outcome State Fault Refusal :=
  .next (if s.illUv then s
    else
      let s := s.setRf Addr.illStatus 31 31 1
      let s := forEach (List.range 8) (fun ch t =>
        let x := t.ill ch
        let g := if x.isOn then .softSink else x.gate
        if t.illEn ch then t.illLatch ch 3 g else t.setIll ch { x with gate := g, since := if x.isOn then t.now else x.since, blank := false }) s
      s.raise .illUv 0x16 0 none [])

/-- `ILL_GATE_UV_RECOVER`: VDD_GATE rises above 4.4 V (R717). -/
def execIllGateUvRecover (s : State) : Host.Outcome State Fault Refusal := .next (s.setRf Addr.illStatus 31 31 0)

/-- A write of ILL_n_STATUS (R715, R718, R719). -/
def State.illStatusWrite (s : State) (ch : Nat) (v : Word) : State :=
  let s := s.noteRsvd (Addr.illChStatus ch) v
  let x := s.ill ch
  let x := if bit v 3 then { x with maxonHit := false } else x
  if bit v 0 = true ∧ x.faulted = true then
    if x.cause = 3 ∧ s.illUv = true then (s.setIll ch x).cfgErr 0x16 ch
    else s.setIll ch { x with faulted := false, cause := 0 }
  else s.setIll ch x

/-- `ILL_FAULT_CLEAR`: R718, R719, R722. -/
def execIllFaultClear (ch : Nat) (v : Word) (s : State) : Host.Outcome State Fault Refusal :=
  .next (if ch < 8 then s.illStatusWrite ch v else s)

/-- A write of ILL_n_CFG (R723, R725): clearing EN while the channel is on turns it off on the ramp path. -/
def State.illCfgWrite (s : State) (ch : Nat) (v : Word) : State :=
  let s := s.putReg (Addr.illCfg ch) v
  if s.rb (Addr.illCfg ch) 31 then s else s.illRampDown ch

/-- `ILL_CHANNEL_DISABLE`: R723. -/
def execIllChannelDisable (ch : Nat) (v : Word) (s : State) : Host.Outcome State Fault Refusal :=
  .next (if ch < 8 then s.illCfgWrite ch v else s)

/-- When a domain stops, the channels that one of its ILL_ONs turned on ramp off (R716). -/
def State.illStopDomain (s : State) (d : Nat) : State :=
  forEach (List.range 8) (fun ch t => if (t.ill ch).domain = d then t.illRampDown ch else t) s

end Sys2Proof.Machine
end

