-- ==== Sys2Proof/Machine/SchedOps.lean ====
section
/-! DEFINITION. The schedule table (R56, R71-R73, R86-R93): its entries, their effect, their coming into force; the
FSYNC_OUT pins (R62, R87, R95). -/

namespace Sys2Proof.Machine

open Sys2Proof

/-! ## Entries -/

/-- The entry in force (R71). -/
def State.ent (s : State) (n : Nat) : Ent :=
  ⟨s.reg (Addr.lptSchedEnt n), s.reg (Addr.lptSchedEnt n + 4), s.reg (Addr.lptSchedEnt n + 8), s.reg (Addr.lptSchedEnt n + 12)⟩

/-- The state with the entry in force replaced. -/
def State.setEnt (s : State) (n : Nat) (e : Ent) : State :=
  (((s.setReg (Addr.lptSchedEnt n) e.w0).setReg (Addr.lptSchedEnt n + 4) e.w1).setReg (Addr.lptSchedEnt n + 8) e.w2).setReg
    (Addr.lptSchedEnt n + 12) e.w3

/-- VALID. -/
def Ent.valid (e : Ent) : Bool := bit e.w0 31
/-- DOMAIN. -/
def Ent.dom (e : Ent) : Nat := fld e.w0 30 28
/-- ACTION. -/
def Ent.action (e : Ent) : Nat := fld e.w0 27 24
/-- The position within the frame, in 1/256 lines. -/
def Ent.pos (e : Ent) : Nat := fld e.w0 15 0 * 256 + fld e.w0 23 16
/-- LINE. -/
def Ent.line (e : Ent) : Nat := fld e.w0 15 0
/-- REPEAT. -/
def Ent.rep (e : Ent) : Nat := fld e.w1 31 16
/-- Whether a frame is selected (R71). -/
def Ent.selects (e : Ent) (frame : Nat) : Bool := frame % (fld e.w1 15 8 + 1) == fld e.w1 7 0

/-- The entry after it has fired (R91). -/
def Ent.fired (e : Ent) : Ent :=
  if e.rep = 65535 then e
  else if e.rep ≤ 1 then { e with w0 := setFld e.w0 31 31 0, w1 := setFld e.w1 31 16 0 }
  else { e with w1 := setFld e.w1 31 16 (e.rep - 1) }

/-- Shadow copy of an entry. -/
def State.shadow (s : State) (n : Nat) : Option Ent := tget (fun _ => none) s.sched.shadow n
/-- Committed copy of an entry that waits for its domain's line 0. -/
def State.committed (s : State) (n : Nat) : Option Ent := tget (fun _ => none) s.sched.committed n
/-- The state with a shadow copy replaced. -/
def State.setShadow (s : State) (n : Nat) (e : Option Ent) : State :=
  { s with sched := { s.sched with shadow := tset (fun _ => none) s.sched.shadow n e } }
/-- The state with a committed copy replaced. -/
def State.setCommitted (s : State) (n : Nat) (e : Option Ent) : State :=
  { s with sched := { s.sched with committed := tset (fun _ => none) s.sched.committed n e } }
/-- The frame in which an entry last fired or was past when it took effect. -/
def State.firedIn (s : State) (n : Nat) : Option Nat := tget (fun _ => none) s.sched.firedIn n
/-- The state with that frame replaced. -/
def State.setFiredIn (s : State) (n : Nat) (f : Option Nat) : State :=
  { s with sched := { s.sched with firedIn := tset (fun _ => none) s.sched.firedIn n f } }

/-! ## Times of positions -/

/-- The tick on which a domain reaches position `p` of its present frame (R56): by the exact time of a master domain; in a
slaved domain by the prediction from its last real event, which itself reached every position not above the one it
published (R65, R911). -/
def Dom.reachTick (x : Dom) (p : Nat) : Nat :=
  if x.slaved then tickOf16 (if p ≤ max x.floor (x.line * 256) then x.lineAt else x.lineAt + cdiv ((p - x.line * 256) * x.per) 256)
  else x.posTick p

/-! ## Pins -/

/-- The edges still delayed with one more, in order of their ticks: of a set and a clear on one tick the clear stays
(R62, R87). -/
def addEdge : List (Nat × Bool) → Nat → Bool → List (Nat × Bool)
  | [], t, v => [(t, v)]
  | (u, w) :: r, t, v =>
    if u < t then (u, w) :: addEdge r t v
    else if u = t then (u, w && v) :: r
    else (t, v) :: (u, w) :: r

/-- An edge takes effect on a pin at tick `t` (R87). -/
def Pin.edge (x : Pin) (t : Nat) (v : Bool) : Pin :=
  if v then (if x.clrAt = some t then x else { x with active := true })
  else { x with active := false, clrAt := some t }

/-- Whether the domain that owns a pin runs; while it does not, the pin stays inactive (R95). -/
def State.pinRuns (s : State) (i : Nat) : Bool := (s.dom (s.rf (Addr.lptFsync i) 29 27)).running

/-- A pin action at tick `t`, which is delayed by TRIM (R62, R95). -/
def State.pinAct (s : State) (i t : Nat) (v : Bool) : State :=
  let trim := s.rf (Addr.lptFsync i) 23 12
  let x := s.pin i
  if s.pinRuns i = false then s
  else if t + trim ≤ s.now then s.setPin i (x.edge (t + trim) v) else s.setPin i { x with edges := addEdge x.edges (t + trim) v }

/-- The pins assigned to a domain become inactive, their delayed edges dropped (R95). -/
def State.pinsOff (s : State) (d : Nat) : State :=
  forEach (List.range 16) (fun i t => if t.rf (Addr.lptFsync i) 29 27 = d then t.setPin i {} else t) s

/-- The AUTO pulses of a domain at its line 0, on tick `t` (R61, R62). -/
def State.autoPulses (s : State) (d t : Nat) : State :=
  forEach (List.range 16) (fun i u =>
    let w := u.rf (Addr.lptFsync i) 11 0
    if u.rf (Addr.lptFsync i) 29 27 = d ∧ u.rb (Addr.lptFsync i) 31 = true ∧ w ≠ 0 then
      let u := u.pinAct i t true
      u.setPin i { u.pin i with ends := (u.pin i).ends ++ [t + u.rf (Addr.lptFsync i) 23 12 + w] }
    else u) s

/-! ## Firing -/

/-- The numbers of the set bits below `n`. -/
def setBits (w : Word) (n : Nat) : List Nat := (List.range n).filter fun i => bit w i

/-- Whether an action is a pin action (R73). -/
def pinAction (a : Nat) : Bool := decide (1 ≤ a) && decide (a ≤ 4)

/-- The delay in ticks of the next entry of its kind that fires on tick `t`, and the state with it counted (R86). DESIGN
CHOICE (log entry 77): an entry of action NONE counts among those with internal actions. -/
def State.schedDelay (s : State) (t : Nat) (pin : Bool) : Nat × State :=
  let c := s.sched
  let c := if c.tickOf = t then c else { c with tickOf := t, pinCount := 0, intCount := 0 }
  if pin then
    let k := c.pinCount / 64
    let s := { s with sched := { c with pinCount := c.pinCount + 1 } }
    (k, if k = 0 then s else s.inc Addr.lptSchedLate 1)
  else (c.intCount / 16, { s with sched := { c with intCount := c.intCount + 1 } })

/-- ILL_ON and ILL_OFF as the table fires them on tick `t` (R87, R92): a channel that holds FAULT is skipped whatever else
fires on the tick. -/
def State.illAct (s : State) (d ch t : Nat) (on : Bool) : State :=
  if on then (if (s.ill ch).offAt = some t ∧ (s.ill ch).faulted = false then s else s.illOnCh d ch t)
  else
    let s := s.illOffCh ch t
    s.setIll ch { s.ill ch with offAt := some t }

/-- An action takes effect now; `t` is its tick (R72, R93). -/
def State.schedEffect (s : State) (e : Ent) (t : Nat) : State :=
  match e.action with
  | 1 => forEach (setBits e.w2 16) (fun i u => u.pinAct i t true) s
  | 2 => forEach (setBits e.w2 16) (fun i u => u.pinAct i t false) s
  | 3 => forEach (setBits e.w2 8) (fun ch u => u.illAct e.dom ch t true) s
  | 4 => forEach (setBits e.w2 8) (fun ch u => u.illAct e.dom ch t false) s
  | 5 => match (s.ctx (fld e.w2 4 0)).wait with
    | .line d _ => if d = e.dom then s.wake (fld e.w2 4 0) else s
    | _ => s
  | 6 => let n := fld e.w2 5 0
    if n < 48 then { s with fmt := { s.fmt with outs := tset (fun _ => {}) s.fmt.outs n { tget (fun _ => {}) s.fmt.outs n with release := true } } }
    else s
  | 7 => let a := Addr.vencSliceCredit (fld e.w2 0 0)
    s.setReg a (w32 (min ((s.reg a).toNat + fld e.w3 15 0) 65535))
  | 8 => let k := fld e.w2 4 0
    let s := s.setRf Addr.lptEvtStatus k k 1
    let s := { s with sched := { s.sched with evts := tset (fun _ => 0) s.sched.evts k (tget (fun _ => 0) s.sched.evts k + 1) } }
    if s.rb Addr.lptEvtMask k then s.irq .lptEvent else s
  | 9 => s.setDom e.dom { s.dom e.dom with maintOpen := true }
  | 10 => s.setDom e.dom { s.dom e.dom with maintOpen := false }
  | _ => s

/-- Whether an ILL_ON names a channel that holds FAULT, so that its entry keeps its repeat count (R91, R718). -/
def State.namesFaulted (s : State) (e : Ent) : Bool := e.action == 3 && (setBits e.w2 8).any fun ch => (s.ill ch).faulted

/-- Entry `n` fires on tick `t` in the present frame of its domain (R86, R91). Its action takes effect `k` ticks later; the
time moves on to that tick where it lies ahead. -/
def State.fireEnt (s : State) (n t : Nat) : State :=
  let e := s.ent n
  let s := s.setFiredIn n (some (s.dom e.dom).frame)
  let keep := s.namesFaulted e
  let got := s.schedDelay t (pinAction e.action)
  let k := got.1
  let s := got.2
  let s := if k = 0 then s else s.goto (t + k)
  let s := s.schedEffect e (t + k)
  if keep then s else s.setEnt n (s.ent n).fired

/-- Whether entry `n` may fire in the present frame of its domain (R28, R71, R88, R90, R96). -/
def State.entLive (s : State) (n : Nat) : Bool :=
  let e := s.ent n
  let x := s.dom e.dom
  s.rb Addr.lptCtrl 0 && e.valid && x.running && e.selects x.frame && decide (e.line < x.flenM1 + 1) &&
    s.firedIn n != some x.frame

/-- Entry `n` fires when its domain reaches its position (R28, R56, R65, R73). -/
def State.fireAt (s : State) (n code : Nat) : State :=
  let e := s.ent n
  let x := s.dom e.dom
  if s.entLive n = false ∨ e.action ≠ code then s
  else if x.slaved then
    if s.pub e.dom < e.pos ∧ x.per = 0 then s
    else (s.goto (x.reachTick e.pos)).fireEnt n (x.reachTick e.pos)
  else if e.line ≠ x.line then s
  else (s.goto (x.posTick e.pos)).fireEnt n (x.posTick e.pos)

/-- A list with an element put before the first that it goes before. -/
def insertBy {α : Type} (le : α → α → Bool) (x : α) : List α → List α
  | [] => [x]
  | y :: r => if le x y then x :: y :: r else y :: insertBy le x r

/-- A list sorted; elements that compare equal keep their order. -/
def sortBy {α : Type} (le : α → α → Bool) (l : List α) : List α := l.foldr (insertBy le) []

/-- The armed entries of domain `d` whose position lies strictly between `p` and `q` in the present frame, in ascending
position and index (R912). -/
def State.between (s : State) (d p q : Nat) : List Nat :=
  let l := (List.range 512).filter fun n =>
    let e := s.ent n
    e.dom == d && s.entLive n && decide (p < e.pos) && decide (e.pos < q)
  sortBy (fun a b => decide ((s.ent a).pos ≤ (s.ent b).pos)) l

/-- Every entry passed over by a forward move of a slaved domain fires now (R912). -/
def State.passOver (s : State) (d p q : Nat) : State := (s.between d p q).foldl (fun t n => t.fireEnt n s.now) s

/-! ## Coming into force -/

/-- An armed entry that its domain can never reach is reported (R90). DESIGN CHOICE (log entry 77): while FLEN_M1 in force
still holds its reset value 0, the frame is taken as one line long, as the formula N = FLEN_M1 + 1 gives. -/
def State.rangeCheck (s : State) (n : Nat) : State :=
  let e := s.ent n
  if e.valid = true ∧ (s.dom e.dom).flenM1 + 1 ≤ e.line then
    (s.inc Addr.lptSchedUnreach 1).raise .schedRange 0x01 e.dom (some e.dom) []
  else s

/-- Whether a position of domain `d` is past in its present frame (R89): the tick that reached it is over. In a slaved
domain the position held at its last real event was reached before that event (R911). -/
def State.posPast (s : State) (d p : Nat) : Bool :=
  let x := s.dom d
  x.running &&
    (if x.slaved then
      decide (p ≤ s.pub d) && (decide (p < s.pub d) || decide (x.reachTick p < s.now) || (decide (p ≤ x.floor) && decide (x.line * 256 < p)))
    else decide (x.posTick p < s.now))

/-- New contents of entry `n` take effect (R88-R90). -/
def State.entEffect (s : State) (n : Nat) (e : Ent) : State :=
  let s := s.setEnt n e
  let s := s.setFiredIn n (if s.posPast e.dom e.pos then some (s.dom e.dom).frame else none)
  s.rangeCheck n

/-- The committed copies of the entries whose contents in force name domain `d` take effect (R88). -/
def State.commitLine0 (s : State) (d : Nat) : State :=
  forEach (List.range 512) (fun n t =>
    match t.committed n with
    | some e => if (t.ent n).dom = d then (t.setCommitted n none).entEffect n e else t
    | none => t) s

/-- A change of a domain's frame length takes effect: its armed entries are judged again (R90). -/
def State.flenCheck (s : State) (d : Nat) : State :=
  forEach (List.range 512) (fun n t => if (t.ent n).dom = d then t.rangeCheck n else t) s

end Sys2Proof.Machine
end

