-- ==== Sys2Proof/Machine/Dpp.lean ====
section
/-! DEFINITION. The detection post-processor (R470-R501): slots and bindings, job records, decoding, threshold and order,
suppression, output, QP-offset maps. -/

namespace Sys2Proof.Machine

open Sys2Proof

/-! ## FP32 (R482) -/

/-- The FP32 sum. -/
def fAdd (a b : Fv) : Fv := fp32.round (a.add b)
/-- The FP32 difference. -/
def fSub (a b : Fv) : Fv := fp32.round (a.add b.neg)
/-- The FP32 product. -/
def fMul (a b : Fv) : Fv := fp32.round (a.mul b)
/-- An FP32 pattern's value. -/
def f32 (n : Nat) : Fv := fp32.dec n
/-- exp. -/
def fExp (a : Fv) : Fv := f32 (Config.exp32 (fp32.enc a) % 2 ^ 32)
/-- The sigmoid. -/
def fSig (a : Fv) : Fv := f32 (Config.sigmoid32 (fp32.enc a) % 2 ^ 32)
/-- Half of a value: exact but for the smallest. -/
def fHalf (a : Fv) : Fv := fMul a (.fin false 1 (-1))
/-- A natural number. -/
def fNat (n : Nat) : Fv := fp32.round (Fv.ofInt n)
/-- Whether a value is positive. -/
def Fv.pos (a : Fv) : Bool := (Fv.fin false 0 0).lt a

/-- The floor of a finite value divided by 2^k; infinities give far bounds, a NaN nothing. -/
def Fv.floorShift (k : Nat) : Fv → Option Int
  | .nan => none
  | .inf s => some (if s then -(2 ^ 40 : Nat) else (2 ^ 40 : Nat))
  | .fin s m e =>
    let v : Int := if s then -(m : Int) else m
    let q := e - k
    some (if 0 ≤ q then v * 2 ^ q.toNat else v / 2 ^ (-q).toNat)

/-- The ceiling likewise. -/
def Fv.ceilShift (k : Nat) (v : Fv) : Option Int := (v.neg.floorShift k).map fun x => -x

/-! ## Job records (R475-R478) -/

/-- A level of a job (R476). -/
structure DppLevel where
  off    : Nat
  w      : Nat
  h      : Nat
  a      : Nat
  stride : Nat
  scale  : Nat
  anch   : List (Nat × Nat)

/-- A field of a job record. -/
abbrev jf (r : Bytes) (o n : Nat) : Nat := at_ r o n

/-- A bit of CTRL of a job record. -/
def jbit (r : Bytes) (i : Nat) : Bool := nbit (jf r 0 2) i == 1
/-- NLEV. -/
def jLevels (r : Bytes) : Nat := jf r 0 2 / 256 % 8 + 1
/-- Bytes of an input element. -/
def jElem (r : Bytes) : Nat := if jbit r 7 then 2 else 1
/-- Elements of a candidate's vector (R477). -/
def jVec (r : Bytes) : Nat := 4 + b2n (jbit r 2) + jf r 2 2
/-- Block size of the map. -/
def jBlk (r : Bytes) : Nat := lget 64 [16, 32, 64] (jf r 96 1)
/-- Blocks across and down the map. -/
def jMapDim (r : Bytes) : Nat × Nat := (cdiv (jf r 92 2) (jBlk r), cdiv (jf r 94 2) (jBlk r))

/-- The level entry `k` of a record and its tables. -/
def jLevel (tab : Bytes) (k : Nat) : DppLevel :=
  let o := 32 * k
  { off := at_ tab o 4, w := at_ tab (o + 4) 2, h := at_ tab (o + 6) 2, a := at_ tab (o + 8) 1, stride := at_ tab (o + 10) 2,
    scale := at_ tab (o + 12) 4, anch := [] }

/-- Whether every field of a level entry is listed and its zero bytes are zero. -/
def levelOk (fmt0 : Bool) (tab : Bytes) (k : Nat) : Bool :=
  let o := 32 * k
  let l := jLevel tab k
  decide (1 ≤ l.w) && decide (l.w ≤ 1024) && decide (1 ≤ l.h) && decide (l.h ≤ 1024) && decide (1 ≤ l.a) && decide (l.a ≤ 16) &&
  decide (1 ≤ l.stride) && decide (l.stride ≤ 256) && (!fmt0 || at_ tab (o + 16) 4 % 8 == 0) && at_ tab (o + 9) 1 == 0 &&
  at_ tab (o + 20) 12 == 0

/-- The first check of R478 that a record fails, numbered in the order of the rule; 0 when it passes. `bound` gives the
pool sizes of a bound job, `bad` whether anything was read with poison. -/
def jobCheck (r tab : Bytes) (bound : Option (Nat × Nat)) (bad : Bool) : Nat :=
  let ls := (List.range (jLevels r)).map (jLevel tab)
  let fields := decide (jf r 0 2 % 4 ≤ 1) && jf r 0 2 / 2048 == 0 && decide (1 ≤ jf r 2 2) && decide (jf r 2 2 ≤ 1024) &&
    decide (jf r 4 2 ≤ 256) && jf r 6 2 % jElem r == 0 && decide (jf r 12 2 ≤ 8192) && decide (jf r 14 2 ≤ 4096) && jf r 22 2 == 0 &&
    (bound.isSome || (jf r 24 8 % 64 == 0 && jf r 32 8 % 64 == 0)) && decide (jf r 96 1 ≤ 2) && jf r 98 2 % 64 == 0 && jf r 120 8 == 0 &&
    (List.range (jLevels r)).all (levelOk (jf r 0 2 % 4 == 0) tab)
  if !fields then 1
  else if 65536 < (ls.map fun l => l.h * l.w * l.a).foldl (· + ·) 0 then 3
  else if jf r 6 2 < jVec r * jElem r then 4
  else if jf r 98 2 < (jMapDim r).1 then 5
  else if bad then 6
  else match bound with
    | some (o, m) =>
      if o < 64 + 32 * jf r 14 2 ∨ (jbit r 5 = true ∧ m < jf r 98 2 * (jMapDim r).2) then 7 else 0
    | none => 0

/-! ## Decode (R479-R484) -/

/-- A candidate that passed the threshold. -/
structure Cand where
  box    : List Fv
  score  : Fv
  cls    : Nat
  level  : Nat
  anchor : Nat
  index  : Nat
  poison : Bool
  clip   : Bool

/-- A value of a vector, dequantised. -/
def jVal (r v : Bytes) (k : Nat) : Fv :=
  if jbit r 7 then fp16.dec (at_ v (2 * k) 2)
  else fMul (Fv.ofInt (sx 8 (at_ v k 1) - sx 16 (jf r 20 2))) (f32 (jf r 16 4))

/-- A coordinate clipped to [0, hi], and whether that changed it (R481). -/
def clipTo (hi : Nat) (v : Fv) : Fv × Bool :=
  let h := fNat hi
  ((v.max (.fin false 0 0)).min h, v.lt (.fin false 0 0) || h.lt v)

/-- The largest of a list of values and its index, the lower of equals; a NaN makes it NaN (R345, R483). -/
def argMax : List Fv → Nat → Fv × Nat
  | [], i => (.nan, i)
  | [x], i => (x, i)
  | x :: r, i =>
    let got2 := argMax r (i + 1)
    let y := got2.1
    let j := got2.2
    match x, y with
    | .nan, _ => (.nan, i)
    | _, .nan => (.nan, j)
    | _, _ => if x.lt y then (y, j) else (x, i)

/-- A candidate decoded (R479-R481, R483): level `l` of number `li`, its position, its vector. -/
def decodeCand (r : Bytes) (l : DppLevel) (li x y a w h index : Nat) (v : Bytes) (poison : Bool) : Cand :=
  let px := fMul (fAdd (fNat x) (.fin false 1 (-1))) (fNat l.stride)
  let py := fMul (fAdd (fNat y) (.fin false 1 (-1))) (fNat l.stride)
  let t k := jVal r v k
  let box :=
    if jf r 0 2 % 4 = 0 then
      let got2 := lget (0, 0) l.anch a
      let aw := got2.1
      let ah := got2.2
      let vr k := f32 (jf r (72 + 4 * k) 4)
      let cx := fAdd px (fMul (fMul (t 0) (vr 0)) (f32 aw))
      let cy := fAdd py (fMul (fMul (t 1) (vr 1)) (f32 ah))
      let bw := fMul (f32 aw) (fExp ((fMul (t 2) (vr 2)).min (fNat 8)))
      let bh := fMul (f32 ah) (fExp ((fMul (t 3) (vr 3)).min (fNat 8)))
      [fSub cx (fHalf bw), fSub cy (fHalf bh), fAdd cx (fHalf bw), fAdd cy (fHalf bh)]
    else
      let g := fMul (fNat l.stride) (f32 l.scale)
      let z : Fv := .fin false 0 0
      [fSub px (fMul ((t 0).max z) g), fSub py (fMul ((t 1).max z) g), fAdd px (fMul ((t 2).max z) g), fAdd py (fMul ((t 3).max z) g)]
  let cl := (box.zip [w, h, w, h]).map fun p => clipTo p.2 p.1
  let o := b2n (jbit r 2)
  let act q := if jbit r 3 then fSig q else q
  let got2 := argMax ((List.range (jf r 2 2)).map fun k => act (t (4 + o + k))) 0
  let m := got2.1
  let c := got2.2
  let score := if jbit r 2 then fMul m (act (t 4)) else m
  { box := cl.map (·.1), score := score, cls := c, level := li, anchor := a, index := index, poison := poison, clip := cl.any (·.2) }

/-- The candidates of a level that are not padding (R477, R490): x, y, a and the index within the level. -/
def levelCands (l : DppLevel) (w h : Nat) : List (Nat × Nat × Nat × Nat) :=
  (List.range l.h).flatMap fun y => (List.range l.w).flatMap fun x =>
    if (2 * x + 1) * l.stride < 2 * w ∧ (2 * y + 1) * l.stride < 2 * h then
      (List.range l.a).map fun a => (x, y, a, (y * l.w + x) * l.a + a)
    else []

/-- Whether a score passes the threshold (R484). -/
def passes (thr : Fv) (c : Cand) : Bool :=
  match c.score, thr with
  | .nan, _ => false
  | _, .nan => false
  | s, t => !s.lt t

/-- The candidates of the levels that pass, read in index order, and how many were read (R477, R490, R491). -/
def State.readCands (s : State) (r : Bytes) (inBase w h : Nat) : List (Nat × DppLevel) → Nat → List Cand × Nat × State
  | [], _ => ([], 0, s)
  | (li, l) :: rest, sum =>
    let cs := levelCands l w h
    let n := jVec r * jElem r
    let (got, s) := cs.foldl (fun p c =>
      let (x, y, a, i) := c
      let got2 := p.2.unitRead .dpp .tensor (inBase + l.off + i * jf r 6 2) n
      let v := got2.1
      let t := got2.2
      let q := decodeCand r l li x y a w h (sum + i) (plain v) (anyPoison v)
      (if passes (f32 (jf r 8 4)) q then p.1 ++ [q] else p.1, t)) (([] : List Cand), s)
    let got2 := s.readCands r inBase w h rest (sum + l.h * l.w * l.a)
    let more := got2.1
    let k := got2.2.1
    let s := got2.2.2
    (got ++ more, cs.length + k, s)

/-! ## Suppression (R485, R486) -/

/-- The area of a box; 0 when a side is not positive or a coordinate is NaN. -/
def boxArea (b : List Fv) : Fv :=
  let g i := lget .nan b i
  let w := fSub (g 2) (g 0)
  let h := fSub (g 3) (g 1)
  if w.pos && h.pos && b.all (· != .nan) then fMul w h else .fin false 0 0

/-- Whether kept box `k` suppresses candidate `c`. -/
def suppresses (r : Bytes) (k c : Cand) : Bool :=
  let z : Fv := .fin false 0 0
  let a := boxArea k.box
  let b := boxArea c.box
  if (jbit r 4 && k.cls != c.cls) || !a.pos || !b.pos then false
  else
    let g x i := lget z x i
    let w := (fSub ((g k.box 2).min (g c.box 2)) ((g k.box 0).max (g c.box 0))).max z
    let h := (fSub ((g k.box 3).min (g c.box 3)) ((g k.box 1).max (g c.box 1))).max z
    let inter := fMul w h
    let union := fSub (fAdd a b) inter
    (fMul (fNat (jf r 4 2)) union).lt (fMul inter (fNat 256))

/-- Greedy suppression: kept boxes in reverse order, the cycles of the visits, whether candidates remain (R485, R495). -/
def nms (r : Bytes) : List Cand → List Cand → Nat → List Cand × Nat × Bool
  | [], kept, cyc => (kept, cyc, false)
  | c :: rest, kept, cyc =>
    if 4096 ≤ kept.length then (kept, cyc, true)
    else
      let cyc := cyc + max 1 (cdiv kept.length 256)
      nms r rest (if kept.any fun k => suppresses r k c then kept else c :: kept) cyc

/-! ## Output (R487, R492, R493, R498) -/

/-- A box after the output mapping (R481). -/
def mapBox (r : Bytes) (b : List Fv) : List Fv :=
  let sc k := f32 (jf r (56 + 4 * k) 4)
  (b.zipIdx).map fun p => fAdd (fMul p.1 (sc (p.2 % 2))) (sc (2 + p.2 % 2))

/-- The 32 bytes of a record. -/
def candRec (r : Bytes) (c : Cand) : Bytes :=
  (mapBox r c.box).flatMap (fun v => leBytes 4 (fp32.enc v)) ++ leBytes 4 (fp32.enc c.score) ++ leBytes 2 c.cls ++ leBytes 1 c.level
    ++ leBytes 1 c.anchor ++ leBytes 4 c.index ++ leBytes 1 (b2n c.poison + 2 * b2n c.clip) ++ leBytes 3 0

/-- The 64 bytes of a header. -/
def dppHeader (written kept read above flags frame tag hash vreg ticket : Nat) : Bytes :=
  leBytes 4 written ++ leBytes 4 kept ++ leBytes 4 read ++ leBytes 4 above ++ leBytes 4 flags ++ leBytes 4 frame ++ leBytes 4 tag
    ++ leBytes 4 hash ++ leBytes 4 vreg ++ leBytes 4 ticket ++ List.replicate 24 0

/-- The blocks that a written record sets (R493): first and last column, first and last row; none where it sets none. -/
def mapRect (r : Bytes) (c : Cand) : Option (Int × Int × Int × Int) :=
  let b := mapBox r c.box
  let k := lget 6 [4, 5, 6] (jf r 96 1)
  let low := match c.score, f32 (jf r 88 4) with
    | .nan, _ => true
    | _, .nan => true
    | x, y => x.lt y
  if low then none else
  match (lget .nan b 0).floorShift k, (lget .nan b 2).ceilShift k, (lget .nan b 1).floorShift k, (lget .nan b 3).ceilShift k with
  | some x0, some x1, some y0, some y1 => some (x0, x1 - 1, y0, y1 - 1)
  | _, _, _, _ => none

/-- The offset of a block of the map. -/
def mapBlock (r : Bytes) (rects : List ((Int × Int × Int × Int) × Int)) (x y : Nat) : Int :=
  rects.foldl (fun v q =>
    let (x0, x1, y0, y1) := q.1
    if x0 ≤ x ∧ (x : Int) ≤ x1 ∧ y0 ≤ y ∧ (y : Int) ≤ y1 then min v q.2 else v) (sx 8 (jf r 97 1))

/-- A map written row by row, in the LIVE class (R493, R494); only the rows that fit below `room`. -/
def State.writeMap (s : State) (r : Bytes) (base room : Nat) (recs : List Cand) : State :=
  let got := jMapDim r
  let w := got.1
  let h := got.2
  let stride := jf r 98 2
  let rects := recs.filterMap fun c => (mapRect r c).map fun q => (q, sx 8 (jf r (104 + c.cls % 16) 1))
  forEach ((List.range h).filter fun y => decide ((y + 1) * stride ≤ room)) (fun y t =>
    t.unitWrite .dpp .live (base + y * stride)
      (((List.range (min w stride)).map fun x => BitVec.ofNat 8 (ux 8 (mapBlock r rects x y))) ++ List.replicate (stride - w) 0) false) s

/-- The address of a job's record: its own, or its binding's template. -/
def State.jobAddr (s : State) (x : DppSlot) : Nat :=
  if x.src < 4 then x.addr
  else
    let k := x.src - 4
    s.rf (Addr.dppBindTmplHi k) 7 0 * 2 ^ 32 + s.rf (Addr.dppBindTmplLo k) 31 6 * 64

/-- A bit of the CTRL word of a record as it stands in memory. -/
def State.jobCtrlBit (s : State) (x : DppSlot) (i : Nat) : Bool :=
  let a := s.jobAddr x
  nbit ((s.byte a).toNat + 256 * (s.byte (a + 1)).toNat) i == 1

/-- Flags of an input item that a bound job copies, as header bits (R487) and as metadata flags (R488). -/
def itemFlags (md : BitVec 64) : Nat × Nat :=
  let f k := mfld md (32 + k) (32 + k)
  (2 * f 1 + 4 * f 0 + 8 * f 6 + 256 * f 2, f 0 * fTrunc + f 1 * fLate + f 2 * fMissing + f 6 * fExcluded)

/-- The smallest n with 2^n at least k (k above 0). -/
def clog2 (k : Nat) : Nat := if k ≤ 1 then 0 else Nat.log2 (k - 1) + 1

/-- Job `i` has done its last write: its input is released, its outcome and its items are held until it completes (R473, R474,
R488). The items are POISONED when a record is, and also when the input item was (R38). -/
def State.jobDone (s : State) (i status recs : Nat) (recPoison : Bool) : State :=
  let x := s.dslot i
  let md := x.item.md
  let poison := recPoison || mfld md 37 37 == 1
  let isBound := decide (4 ≤ x.src)
  let s := if isBound then s.dropItem x.item else s
  let m := mkMeta hDpp (mfld md 55 53) (mfld md 52 42) (mfld md 41 39) ((itemFlags md).2 + (if poison then fPoisoned else 0)) 0 0
  let s := s.setDslot i { s.dslot i with
    phase := .running, status := status, recs := recs, outItem := { md := m, vreg := x.item.vreg }, mapItem := { md := m, vreg := 0xFFFFFFFF } }
  s.setRf (Addr.dppSlotStatus i) 31 31 1

/-- Job `i` runs: everything up to its last write, with its status, its records and its poison (R475-R493, R495, R497, R498). -/
def State.jobRun (s : State) (i : Nat) : State × Nat × Nat × Bool :=
  let x := s.dslot i
  let isBound := decide (4 ≤ x.src)
  let a := s.jobAddr x
  let rd := s.unitRead .dpp .tensor a 128
  let rp := rd.1
  let s := rd.2
  let r := plain rp
  let rd := s.unitRead .dpp .tensor (a + 128) (32 * jLevels r)
  let tp := rd.1
  let s := rd.2
  let tab := plain tp
  let fmt0 := jf r 0 2 % 4 == 0
  let (lv, bad, s) := (List.range (jLevels r)).foldl (fun p k =>
    let l := jLevel tab k
    if fmt0 = true ∧ levelOk true tab k = true then
      let got := p.2.2.unitRead .dpp .tensor (a + at_ tab (32 * k + 16) 4) (8 * l.a)
      let an := got.1
      let t := got.2
      let b := plain an
      (p.1 ++ [{ l with anch := (List.range l.a).map fun j => (at_ b (8 * j) 4, at_ b (8 * j + 4) 4) }], p.2.1 || anyPoison an, t)
    else (p.1 ++ [l], p.2.1, p.2.2)) (([] : List DppLevel), anyPoison rp || anyPoison tp, s)
  let size (b : Option (Nat × Nat)) := match b with | some (p, _) => s.plSize p | none => 0
  let chk := jobCheck r tab (if isBound then some (size x.out, size x.map) else none) bad
  let out := match x.out with | some (p, b) => s.bufAddr p b | none => jf r 24 8
  let mapAt := match x.map with | some (p, b) => s.bufAddr p b | none => jf r 32 8
  let room := match x.map with | some (p, _) => s.plSize p | none => 2 ^ 40
  let hasMap := if isBound then x.map != none else jbit r 5
  let md := x.item.md
  let vreg := if isBound then x.item.vreg.toNat else jf r 52 4
  let unset := vreg == 0xFFFFFFFF
  let w := if unset then jf r 48 2 else vreg % 65536
  let h := if unset then jf r 50 2 else vreg / 65536
  let frame := if isBound then mfld md 52 42 else 0
  let got := if isBound then itemFlags md else (0, 0)
  let hf := got.1
  let tkt := if isBound then 0xFFFFFFFF else (s.ticketOf i).toNat
  let hash := (s.tagHash 0x0A i).toNat
  let dom := if isBound then some (mfld md 55 53) else none
  if chk ≠ 0 then
    let s := s.unitWrite .dpp .tensor out (dppHeader 0 0 0 0 (hf + 128) frame (jf r 100 4) hash vreg tkt) false
    let s := if isBound = true ∧ hasMap = true then s.writeMap r mapAt room [] else s
    (s.raise .dppJob 0x0A i dom [(1, chk)], 1, 0, false)
  else if isBound = true ∧ mfld md 34 34 = 1 then
    let s := s.unitWrite .dpp .tensor out (dppHeader 0 0 0 0 hf frame (jf r 100 4) hash vreg tkt) false
    (if hasMap then s.writeMap r mapAt room [] else s, 0, 0, false)
  else
    let inBase := if isBound then s.bufAddr (hdPool x.item.handle) (hdIdx x.item.handle) else jf r 40 8
    let got := s.readCands r inBase w h ((lv.zipIdx).map fun p => (p.2, p.1)) 0
    let cs := got.1
    let read := got.2.1
    let s := got.2.2
    let sorted := sortBy (fun a b : Cand => !a.score.lt b.score) cs
    let kpre := jf r 12 2
    let go := sorted.take kpre
    let got := nms r go [] 0
    let keptR := got.1
    let visit := got.2.1
    let ncut := got.2.2
    let kept := keptR.reverse
    let maxk := jf r 14 2
    let recs := kept.take maxk
    let poison := recs.any (·.poison)
    let flags := hf + b2n poison + 16 * b2n (decide (kpre < sorted.length)) + 32 * b2n ncut + 64 * b2n (decide (maxk < kept.length))
    let s := s.unitWrite .dpp .tensor out
      (dppHeader recs.length kept.length read sorted.length flags frame (jf r 100 4) hash vreg tkt ++ recs.flatMap (candRec r)) false
    let s := if hasMap then s.writeMap r mapAt room recs else s
    let mapBytes := if hasMap then jf r 98 2 * (jMapDim r).2 else 0
    let cyc := cdiv read 64 + cdiv (go.length * clog2 (max go.length 2)) 64 + visit + cdiv mapBytes 64
    (s.incWrap Addr.dppCycles cyc, 0, recs.length, poison)

/-- Job `i` runs, and waits to complete (R471, R473). -/
def State.runJob (s : State) (i : Nat) : State :=
  let got := s.jobRun i
  got.1.jobDone i got.2.1 got.2.2.1 got.2.2.2

/-- The queued job that starts next: the earliest with PRIO, else the earliest (R471). -/
def State.nextJob (s : State) : Option Nat :=
  let q := (List.range 8).filter fun i => (s.dslot i).phase == .queued
  let pick (l : List Nat) : Option Nat := l.foldl (fun b i =>
    match b with
    | none => some i
    | some j => if (s.dslot i).order < (s.dslot j).order then some i else some j) none
  match pick (q.filter fun i => s.jobCtrlBit (s.dslot i) 6) with
  | some i => some i
  | none => pick q

/-- `DPP_JOB_START`: R471, R475-R487, R490-R493, R495, R497, R498, R501. -/
def execDppJobStart (s : State) : Host.Outcome State Fault Refusal :=
  .next (if (List.range 8).any (fun i => (s.dslot i).phase == .running) = true ∨ s.rb Addr.dppCtrl 0 = false then s
    else match s.nextJob with
      | some i => s.runJob i
      | none => s)

/-- The slot's status word after its job has ended. -/
def State.slotEnd (s : State) (i status recs : Nat) : State :=
  s.setReg (Addr.dppSlotStatus i) (w32 (status * 2 ^ 28 + (s.dslot i).src * 2 ^ 24 + recs))

/-- `DPP_JOB_COMPLETE`: R473, R474, R487. -/
def execDppJobComplete (s : State) : Host.Outcome State Fault Refusal :=
  .next (match (List.range 8).find? fun i => (s.dslot i).phase == .running with
    | some i =>
      let x := s.dslot i
      let s := (s.incWrap Addr.dppJobs 1).slotEnd i x.status x.recs
      if 4 ≤ x.src then s.setDslot i { x with phase := .pushOut }
      else (s.setDslot i { x with phase := .free }).detWake
    | none => s)

/-- A slot after the push of an item: on as `next` says, or waiting. -/
def State.dppSent (i q : Nat) (it : Item) (next : State → State) (r : Pushed × State) : State :=
  match r with
  | (.done, t) => next t
  | (.noCredit, t) => t.waitPush hDpp q
  | (.flushed, t) => t
  | (.stale, t) => next (t.raiseC .staleHandle .dropped 0x0A i (some (mfld it.md 55 53)) [])

/-- A slot's item pushed to queue `q` from buffer `b`, then as `next` says; an item without a buffer is skipped. -/
def State.dppSend (s : State) (i q : Nat) (b : Option (Nat × Nat)) (it : Item) (next : State → State) : State :=
  match b with
  | none => next s
  | some (p, j) => State.dppSent i q it next (s.push hDpp q { it with handle := s.handle p j })

/-- A slot's output item, or its map item, is pushed (R473, R488, R489, R394). -/
def State.dppPush (s : State) (i : Nat) : State :=
  let x := s.dslot i
  let k := x.src - 4
  let free (t : State) := t.setDslot i { t.dslot i with phase := .free, out := none, map := none }
  match x.phase with
  | .pushOut => s.dppSend i (s.rf (Addr.dppBindCfg k) 21 16) x.out x.outItem fun t =>
      if x.map = none then free t else t.setDslot i { t.dslot i with phase := .pushMap, out := none }
  | .pushMap => s.dppSend i (s.rf (Addr.dppBindCfg k) 13 8) x.map x.mapItem free
  | _ => s

/-- `DPP_ITEM_PUSH`: R38, R394, R473, R488, R489, R498. -/
def execDppItemPush (i : Nat) (s : State) : Host.Outcome State Fault Refusal := .next (if i < 8 then s.dppPush i else s)

/-- A slot's job ends with status ABORTED (R499). -/
def State.dppAbort (s : State) (i : Nat) : State :=
  let x := s.dslot i
  if x.phase = .free then s
  else
    let s := (s.giveBack x.out).giveBack x.map
    let s := match x.phase with
      | .pushOut => s.unwait hDpp (s.rf (Addr.dppBindCfg (x.src - 4)) 21 16)
      | .pushMap => s.unwait hDpp (s.rf (Addr.dppBindCfg (x.src - 4)) 13 8)
      | _ => s
    let s := if x.phase = .queued ∧ 4 ≤ x.src then s.dropItem x.item else s
    let s := (s.slotEnd i 2 0).setDslot i { x with phase := .free, status := 2, recs := 0, out := none, map := none }
    (s.raise .dppAbort 0x0A i (if 4 ≤ x.src then some (mfld x.item.md 55 53) else none) []).detWake

/-- `DPP_SLOT_ABORT`: R499. -/
def execDppSlotAbort (i : Nat) (s : State) : Host.Outcome State Fault Refusal := .next (if i < 8 then s.dppAbort i else s)

/-- A binding's buffers. -/
def State.dbind (s : State) (k : Nat) : DppBind := tget (fun _ => {}) s.dpp.binds k
/-- The state with a binding's buffers replaced. -/
def State.setDbind (s : State) (k : Nat) (x : DppBind) : State :=
  { s with dpp := { s.dpp with binds := tset (fun _ => {}) s.dpp.binds k x } }

/-- The buffers a binding holds ahead of a pop go back, and it waits no more (R394). -/
def State.bindDrop (s : State) (k : Nat) : State :=
  let b := s.dbind k
  (((s.giveBack b.out).giveBack b.map).setDbind k {}).unwait hDpp (s.rf (Addr.dppBindCfg k) 29 24)

/-- A write of DPP_CTRL (R499). -/
def State.dppCtrlWrite (s : State) (v : Word) : State :=
  let was := s.rb Addr.dppCtrl 0
  let s := s.putReg Addr.dppCtrl v
  if was = true ∧ s.rb Addr.dppCtrl 0 = false then
    forEach (List.range 4) (fun k t => t.bindDrop k) (forEach (List.range 8) (fun i t => t.dppAbort i) s)
  else s

/-- `DPP_DISABLE`: R499. -/
def execDppDisable (s : State) : Host.Outcome State Fault Refusal := .next (s.dppCtrlWrite 0)

/-- A write of DPP_SUBMIT_LO (R470, R496, R499). -/
def State.dppSubmitWrite (s : State) (v : Word) : State :=
  let got := s.dppSubmitJob 1 (s.rf Addr.dppSubmitHi 1 0 * 2 ^ 38 + v.toNat * 64)
  let t := got.1
  let s := got.2
  s.setReg Addr.dppSubmitTicket t

/-- `DPP_SUBMIT`: R470, R496, R499. -/
def execDppSubmit (v : Word) (s : State) : Host.Outcome State Fault Refusal := .next (s.dppSubmitWrite v)

/-- A binding's buffer: the one it holds, or one allocated now. -/
def State.bindBuf (s : State) (b : Option (Nat × Nat)) (p : Nat) : Option (Nat × Nat) × State :=
  match b with
  | some x => (some x, s)
  | none => match s.alloc hDpp p with
    | (some j, t) => (some (p, j), t)
    | (none, t) => (none, t)

/-- A binding allocates its buffers and then pops an item (R470, R472, R496, R500). -/
def State.bindPop (s : State) (k : Nat) : State :=
  let cfg := s.reg (Addr.dppBindCfg k)
  match s.freeDslot with
  | none => s
  | some i =>
    let b := s.dbind k
    let mapEn := s.jobCtrlBit { src := 4 + k } 5
    let got := s.bindBuf b.out (fld cfg 4 0)
    let o := got.1
    let s := got.2
    let got := if mapEn then s.bindBuf b.map (s.rf (Addr.dppBindMap k) 4 0) else (none, s)
    let m := got.1
    let s := got.2
    let s := s.setDbind k ⟨o, m⟩
    if o = none ∨ (mapEn = true ∧ m = none) then s
    else
      match s.unitPop hDpp (fld cfg 29 24) with
      | (none, t) => t
      | (some it, t) =>
        if hdPool it.handle ≠ 63 ∧ t.fresh? it.handle = false then
          (t.bindDrop k).raiseC .staleHandle .dropped 0x0A i (some (mfld it.md 55 53)) []
        else (t.setDbind k {}).takeDslot i (4 + k) 0 { item := it, out := o, map := m }

/-- `DPP_BIND_POP`: R470, R472, R496, R500. -/
def execDppBindPop (k : Nat) (s : State) : Host.Outcome State Fault Refusal :=
  .next (if k < 4 ∧ s.rb (Addr.dppBindCfg k) 31 = true ∧ s.rb Addr.dppCtrl 0 = true then s.bindPop k else s)

/-- A write of a DPP_BIND_k register (R501): only while EN is 0, but EN may be cleared. -/
def State.bindWrite (s : State) (k a : Nat) (v : Word) : State :=
  let en := s.rb (Addr.dppBindCfg k) 31
  if en = false then s.putReg a v
  else if a = Addr.dppBindCfg k ∧ bit v 31 = false then
    let s := s.noteRsvd a v
    let same := setFld v 31 31 1 == s.reg a
    let s := (s.bindDrop k).setRf a 31 31 0
    if same then s else s.cfgAt a
  else if v = s.reg a then s
  else s.refuse a v

end Sys2Proof.Machine
end

