-- ==== Sys2Proof/Machine/Mem.lean ====
section
/-! DEFINITION. The memory slices' own commands (R625-R663): start-up, requests with their credits and order, corrected and
uncorrectable words, partial writes, the LINE share, refresh, retraining. -/

namespace Sys2Proof.Machine

open Sys2Proof

/-! ## Start-up (R626, R627, R662, R801) -/

/-- Whether ECC is on. -/
def State.eccOn (s : State) : Bool := s.rb Addr.memCtrl 1

/-- A write of INIT (R626). -/
def State.memInitCmd (s : State) : State :=
  if s.ms.training || s.rb Addr.memStatus 31 then s.cfgErr 0x10 0 else { s with ms := { s.ms with training := true } }

/-- `MEM_INIT`: R626. -/
def execMemInit (s : State) : Host.Outcome State Fault Refusal := .next s.memInitCmd

/-- A write of MEM_CTRL (R626, R662): LOCK is only set, ECC_EN is held while LOCK is 1, INIT starts training. -/
def State.memCtrlWrite (s : State) (v : Word) : State :=
  let a := Addr.memCtrl
  let s := s.noteRsvd a v
  let locked := s.rb a 2
  let bad := locked && bit v 1 != s.rb a 1
  let s := if bad then s.cfgErr 0x10 0 else s.setRf a 1 1 (b2n (bit v 1))
  let s := if bit v 2 then s.setRf a 2 2 1 else s
  if bit v 0 then s.memInitCmd else s

/-- Whether a write would change a field of MEM_CFG: RATE, CAP, RANKS. -/
def State.memCfgChanges (s : State) (v : Word) : Bool :=
  let old := s.reg Addr.memCfg
  fld v 9 8 != fld old 9 8 || fld v 5 4 != fld old 5 4 || bit v 0 != bit old 0

/-- A write of MEM_CFG (R20, R662): while LOCK is 1, one that would change a field is ignored. -/
def State.memCfgWrite (s : State) (v : Word) : State :=
  let a := Addr.memCfg
  if s.rb Addr.memCtrl 2 = true ∧ s.memCfgChanges v = true then s.refuse a v else s.putReg a v

/-- DRAM contents lost (R771, R801). -/
def State.dramLost (s : State) : State := { s with mem := [], memPoison := [], memUe := [] }

/-- Training by INIT ends (R626, R627, R801). -/
def State.memTrained (s : State) : State :=
  let same := s.ms.kept == some (w32 (fld (s.reg Addr.memCtrl) 1 1), s.reg Addr.memCfg)
  let s := if same then s else s.dramLost
  let s := { s with ms := { s.ms with training := false, kept := none, ceBack := if same then s.ms.ceBack else [] } }
  let s := s.setReg Addr.memStatus (w32 (2 ^ 31 + 0xFFFF))
  let top := s.memTop
  let s := (s.setReg Addr.memTopLo (w32 (top % 2 ^ 32))).setReg Addr.memTopHi (w32 (top / 2 ^ 32))
  forEach (List.range 16) (fun c t =>
    let x := t.chan c
    (t.setChan c { x with owed := [], due := none, retry := none, last := t.now }).setRf (Addr.memChStatus c) 7 0 (x.temp % 256)) s

/-- `MEM_INIT_DONE`: R626, R627, R801. -/
def execMemInitDone (s : State) : Host.Outcome State Fault Refusal := .next (if s.ms.training then s.memTrained else s)

/-! ## Requests (R628, R631-R638, R646-R653) -/

/-- The physical channel of an address (R629). -/
def physChan (a : Nat) : Nat := 2 * sliceOf a + chanOf a

/-- Whether a channel is being retrained (R643). -/
def State.chBusy (s : State) (c : Nat) : Bool := s.ms.train.head? == some c

/-- Whether a write to a line has not had all its beats accepted (R632). -/
def State.lineOpen (s : State) (line : Nat) : Bool := s.ms.opens.any fun o => decide (o.addr / 64 = line / 64)

/-- MEM_MS_s_CREDITS follows the credits held. -/
def State.showCredits (s : State) (i : Nat) : State :=
  let f := (s.slice i).free
  let show1 (n : Nat) : Nat := if n = 0 then 0x1FF else n - 1
  let s := s.setStat 8 i 5 (max (s.slice i).reads.length)
  s.setReg (Addr.memMsCredits i) (w32 (show1 f.2 * 65536 + show1 f.1))

/-- The words of a line whose bit is set in a mask, by byte address. -/
def maskWords (line mask : Nat) : List Nat := (maskBits mask 8).map fun i => line / 64 * 64 + 8 * i

/-- Stored uncorrectable errors of a line, as a read or a merge finds them now. -/
def State.setUe (s : State) (l : List Nat) : State :=
  l.foldl (fun t a => if t.secPoison (a / 32) then t else { t with memUe := tset (fun _ => false) t.memUe (a / 8) true }) s

/-- `n` corrections on a channel (R646, R647, R661). -/
def State.corrected (s : State) (a n : Nat) (tell : Bool) : State :=
  let s := (s.inc Addr.memCeCnt n).setStat 8 (sliceOf a) 3 (· + n)
  if tell then (List.range n).foldl (fun t _ => t.raiseKeyed .memCe (physChan a) 0x10 (sliceOf a) none [(1, sliceOf a), (1, chanOf a)]) s else s

/-- A read of a line served (R632, R646, R648, R651, R661). -/
def State.serveRead (s : State) (line ce ue : Nat) : State :=
  let a := line / 64 * 64
  let ecc := s.eccOn
  let s := if ecc then s.setUe (maskWords a ue) else s
  let good := (maskWords a ce).filter fun w => ecc && !s.ueWord w && !s.secPoison (w / 32)
  let bad := (wordsOf a 64).any fun k => s.ueWord (8 * k) && !s.secPoison (k / 4)
  let s := if good = [] then s
    else { s.corrected a good.length (!bad) with
      ms := { (s.corrected a good.length (!bad)).ms with ceBack := if a ∈ s.ms.ceBack then s.ms.ceBack else s.ms.ceBack ++ [a] } }
  let l := s.peek a 64
  let s := (s.ueRead a 64).setStat 8 (sliceOf a) 1 (· + 64)
  { s with resp := { data := plain l, poison := [anyPoison (l.take 32), anyPoison (l.drop 32)] } }

/-- A request to memory that reaches nothing usable: the answer of R628. -/
def State.rangeAnswer (s : State) (a : Nat) (write : Bool) : State :=
  { s.rangeErr a with resp := { err := true, data := if write then [] else List.replicate 64 0xFF } }

/-- `MEM_READ`: R626, R628, R631-R636, R646-R648, R651, R652, R661, R735-R737. It travels in a class of its initiator. -/
def execMemRead (who : Initiator) (want : Qos) (addr ce ue : Nat) (s : State) : Host.Outcome State Fault Refusal :=
  let i := sliceOf addr
  let cls := qosFor who want
  .next (if !inDram addr then s.denied who none addr 64 false true
  else if !s.fwAllow who addr false then s.denied who (s.fwGov addr) addr 64 false false
  else if !s.memOk addr then s.rangeAnswer addr false
  else if !credOk (fun c => (qosReserve c).1) 240 (s.slice i).reads cls then s
  else
    let s := s.lineUse cls addr 64
    if s.chBusy (physChan addr) || s.lineOpen addr then
      let x := s.slice i
      (s.setSlice i { x with waiting := x.waiting ++ [{ who := who, cls := cls, line := addr / 64, bank := s.bankAt addr, since := s.now,
                                                        starve := s.rf Addr.memStarve 15 0 }] }).showCredits i
    else s.serveRead addr ce ue)

/-- The place of a class in the order of service (R634); a guarded request comes after LINE alone (R635). -/
def MemReq.rank (r : MemReq) : Nat :=
  match r.cls with
  | .line => 0 | .live => if r.guarded then 1 else 2 | .tensor => if r.guarded then 1 else 3
  | .ctrl => if r.guarded then 1 else 4 | .bulk => if r.guarded then 1 else 5

/-- The port of an initiator at a slice, in the order of R633; JTAG comes with the supervisor, the host with PCIe. -/
def portOf : Initiator → Nat
  | .sfe => 0 | .tc n => 1 + n | .wch => 9 | .fmt => 10 | .dpp => 11 | .venc n => 12 + n | .vdec => 14 | .cpu _ => 15
  | .pcie => 16 | .host => 16 | .eth n => 17 + n | .jtag => 19 | .sup => 19

/-- Whether a slice serves one request before another: by class, then the older, of one cycle by port (R633-R635). -/
def MemReq.before (a b : MemReq) : Bool :=
  if a.rank ≠ b.rank then decide (a.rank < b.rank)
  else if a.since ≠ b.since then decide (a.since < b.since)
  else decide (portOf a.who ≤ portOf b.who)

/-- The reads of a slice that need wait no longer are served, guarded ones first (R632-R635, R643). -/
def State.drainReads (s : State) (i : Nat) : State :=
  let ready := (s.slice i).waiting.filter fun r => !s.chBusy (physChan (64 * r.line)) && !s.lineOpen (64 * r.line)
  let order := sortBy MemReq.before ready
  let x := s.slice i
  let s := s.setSlice i { x with waiting := x.waiting.filter fun r => !ready.contains r }
  (order.foldl (fun t r => t.serveRead (64 * r.line) 0 0) s).showCredits i

/-- The 64-bit words of [a, a + n) that a masked write covers in part: words at risk of a read-modify-write (R649). -/
def partWords (a mask : Nat) (data : Bytes) : List Nat :=
  (wordsOf a data.length).filter fun k =>
    let on := (List.range 8).filter fun j => decide (a ≤ 8 * k + j) && decide (8 * k + j < a + data.length) && nbit mask (8 * k + j - a) == 1
    on != [] && on.length != 8

/-- Beats of a write that have been accepted, put into memory (R631, R646, R649-R651); a corrected line that was to go back is
overtaken (R660). `errs` gives the single-bit errors
found by a read-modify-write in bits [7:0] and the uncorrectable ones in [15:8], by word of the line. -/
def State.acceptBeats (s : State) (a : Nat) (data : Bytes) (mask poison errs : Nat) : State :=
  let parts := if s.eccOn then partWords a mask data else []
  let hit (m : Nat) : List Nat := (maskWords a m).filter fun w => parts.contains (w / 8)
  let s := s.setUe (hit (errs / 256 % 256))
  let fixed := (hit (errs % 256)).filter fun w => !s.ueWord w && !s.secPoison (w / 32)
  let s := s.corrected a fixed.length true
  let s := { s with ms := { s.ms with ceBack := s.ms.ceBack.filter fun l => decide (l / 64 ≠ a / 64) } }
  s.dramBeats a mask data poison

/-- A write request that continues none: it takes an entry of its class where it may, else it changes nothing and waits at its
port (R631, R636). It waits there too while its channel is retrained (R643) and while an earlier write to its line still lacks
beats, behind which the slice performs it (R632). -/
def State.memTake (s : State) (who : Initiator) (cls : Qos) (addr : Nat) (data : Bytes) (mask poison errs : Nat) (more : Bool) : State :=
  let i := sliceOf addr
  if s.chBusy (physChan addr) || s.lineOpen addr || !credOk (fun c => (qosReserve c).2) 168 (s.slice i).entries cls then s
  else
    let x := s.slice i
    let s := ((s.setSlice i { x with entries := x.entries ++ [cls] }).lineUse cls addr data.length).showCredits i
    let s := if more then { s with ms := { s.ms with opens := s.ms.opens ++ [⟨who, addr, data.length⟩] } } else s
    { s.acceptBeats addr data mask poison errs with resp := {} }

/-- `MEM_WRITE`: R626, R628, R631-R636, R646, R649-R651, R653, R735-R737. `more` says that beats of the request are still to
come; they follow as further writes of the same initiator. -/
def execMemWrite (who : Initiator) (want : Qos) (addr : Nat) (data : Bytes) (mask poison errs : Nat) (more : Bool) (s : State) :
    Host.Outcome State Fault Refusal :=
  let i := sliceOf addr
  .next (if data = [] ∨ 64 < addr % 64 + data.length then s
  else if !inDram addr then s.denied who none addr data.length true true
  else if !s.fwAllow who addr true then s.denied who (s.fwGov addr) addr data.length true false
  else if !s.memOk addr then s.rangeAnswer addr true
  else
    match s.ms.opens.find? fun o => decide (o.who = who) && decide (o.addr + o.done = addr) with
    | some o =>
      let rest := s.ms.opens.filter (· != o)
      let s := { s with ms := { s.ms with opens := if more then { o with done := o.done + data.length } :: rest else rest } }
      let s := { s.acceptBeats addr data mask poison errs with resp := {} }
      if more then s else s.drainReads i
    | none => s.memTake who (qosFor who want) addr data mask poison errs more)

/-- `DRAM_WRITE_COMPLETE`: R636. The slice's oldest entry is free again. -/
def execDramWriteComplete (i : Nat) (s : State) : Host.Outcome State Fault Refusal :=
  .next (if i < 8 then
    let x := s.slice i
    (s.setSlice i { x with entries := x.entries.drop 1 }).showCredits i
  else s)

/-- `MEM_CE_WRITEBACK`: R646, R660. The corrected words go back; memory already holds their value. -/
def execMemCeWriteback (addr : Nat) (s : State) : Host.Outcome State Fault Refusal :=
  .next { s with ms := { s.ms with ceBack := s.ms.ceBack.filter fun l => decide (l / 64 ≠ addr / 64) } }

/-- A reset initiator's traffic is cut short (R653-R655). -/
def State.cutTraffic (s : State) (who : Initiator) : State :=
  let cut := s.ms.opens.filter fun o => decide (o.who = who)
  let s := { s with ms := { s.ms with opens := s.ms.opens.filter fun o => decide (o.who ≠ who) } }
  let s := forEach (List.range 8) (fun i t =>
    let x := t.slice i
    if x.waiting.any fun r => decide (r.who = who) then (t.setSlice i { x with waiting := x.waiting.filter fun r => decide (r.who ≠ who) }).showCredits i
    else t) s
  cut.foldl (fun (t : State) (o : OpenWrite) =>
    let i := sliceOf o.addr
    let t := match o.who with
      | .cpu _ => (t.setSecPoison (o.addr / 64 * 2) true).setSecPoison (o.addr / 64 * 2 + 1) true
      | _ => t
    let t := t.inc Addr.memPwCnt 1
    let t := (t.setReg (Addr.memMsPwLo i) (w32 (o.addr % 2 ^ 32 / 32 * 32))).setReg (Addr.memMsPwHi i) (w32 (o.done * 65536 + o.addr / 2 ^ 32 % 256))
    (t.raise .partialWrite 0x10 i none [(1, i), (1, chanOf o.addr)]).drainReads i) s

/-- `MEM_STARVE`: R635. Requests that have waited longer than STARVE are guarded. -/
def execMemStarve (i : Nat) (s : State) : Host.Outcome State Fault Refusal :=
  .next (if i < 8 then
    let x := s.slice i
    s.setSlice i { x with waiting := x.waiting.map fun r =>
      if r.cls ≠ .line ∧ nsTicks r.starve < s.now - r.since then { r with guarded := true } else r }
  else s)

/-- Bytes a slice can move in an 8 us window (R625, R638). -/
def State.windowBytes (s : State) : Nat := lget 204800 [204800, 240000, 273056] (s.rf Addr.memCfg 9 8)

/-- `MEM_LINE_WINDOW`: R638. -/
def execMemLineWindow (i : Nat) (s : State) : Host.Outcome State Fault Refusal :=
  .next (if i < 8 then
    let x := s.slice i
    let a := Addr.memMsLine i
    let share := min (x.lineBytes * 100 / s.windowBytes) 127
    let s := (s.setRf a 6 0 (max (s.rf a 6 0) share)).setStat 8 i 0 (max share)
    let s := if 40 * s.windowBytes < x.lineBytes * 100 then s.setRf a 31 16 (min (s.rf a 31 16 + 1) 65535) else s
    s.setSlice i { x with lineBytes := 0 }
  else s)

/-! ## Refresh (R639-R641, R658) -/

/-- The largest owed count of a channel. -/
def Chan.maxOwed (x : Chan) : Nat := x.owed.foldl (fun n p => max n p.2) 0

/-- A bank's owed count replaced, with MEM_MS_s_REF_OWED. -/
def State.setOwed (s : State) (c bank n : Nat) : State :=
  let x := s.chan c
  let s := s.setChan c { x with owed := tset (fun _ => 0) x.owed bank n }
  let lo := if c % 2 = 0 then 0 else 8
  s.setRf (Addr.memMsRefOwed (c / 2)) (lo + 3) lo (s.chan c).maxOwed

/-- What a bank owes. -/
def State.owed (s : State) (c bank : Nat) : Nat := tget (fun _ => 0) (s.chan c).owed bank

/-- Refresh catch-up: every channel issues what it owes (R640). -/
def State.catchUp (s : State) : State :=
  forEach (List.range 16) (fun c t => (t.chan c).owed.foldl (fun u p => u.setOwed c p.1 0) t) s

/-- The banks of a channel: 16 in each rank (R625). -/
def State.banks (s : State) : Nat := if s.rb Addr.memCfg 0 then 32 else 16

/-- Whether a LINE-class read waits in its slice for a bank of a channel (R630, R639). -/
def State.lineWaits (s : State) (c bank : Nat) : Bool :=
  (s.slice (c / 2)).waiting.any fun r => r.cls == .line && physChan (64 * r.line) == c && r.bank == bank

/-- `REFRESH_DUE`: R40, R639. An interval falls due; it is postponed while a LINE request to the bank waits (in the slice, or
at a unit's port as the command says) or its channel is retrained, else performed. What is owed while no LOCKED domain runs
is caught up at once, but for a bank that such a request still holds. -/
def execRefreshDue (c bank : Nat) (lineWaiting : Bool) (s : State) : Host.Outcome State Fault Refusal :=
  .next (if c < 16 ∧ bank < s.banks ∧ s.rb Addr.memStatus 31 = true then
    if s.owed c bank < 8 ∧ (lineWaiting = true ∨ s.lineWaits c bank = true ∨ s.chBusy c = true) then s.setOwed c bank (s.owed c bank + 1)
    else if s.unplaced then s.catchUp else s
  else s)

/-- `REFRESH_FORCED`: R641, R658. -/
def execRefreshForced (c bank : Nat) (s : State) : Host.Outcome State Fault Refusal :=
  .next (if c < 16 ∧ s.owed c bank = 8 ∧ s.chBusy c = false then s.setOwed c bank 7 else s)

/-! ## Retraining (R642-R645) -/

/-- A channel falls due for retraining. -/
def State.chDue (s : State) (c : Nat) : State :=
  let x := s.chan c
  match x.due with
  | some _ => s
  | none => (s.setChan c { x with due := some s.now, retry := none }).setRf (Addr.memChStatus c) 30 30 1

/-- The channels due for retraining, ascending. -/
def State.dueChans (s : State) : List Nat := (List.range 16).filter fun c => (s.chan c).due != none

/-- A retraining of the due channels begins (R643). -/
def State.trainStart (s : State) (forced : Bool) : State :=
  let l := s.dueChans
  let s := { s with ms := { s.ms with train := l, forced := forced } }
  match l with
  | c :: _ => s.setRf (Addr.memChStatus c) 31 31 1
  | [] => s

/-- A channel falls due; with no LOCKED domain running its retraining begins at once, unless one is under way (R40, R642). -/
def State.chFallsDue (s : State) (c : Nat) : State :=
  let s := s.chDue c
  if s.unplaced = true ∧ s.ms.train = [] then s.trainStart false else s

/-- `MR4_POLL`: R40, R639, R642. -/
def execMr4Poll (c rate temp : Nat) (s : State) : Host.Outcome State Fault Refusal :=
  .next (if c < 16 ∧ s.rb Addr.memStatus 31 = true then
    let s := (s.setChan c { s.chan c with temp := temp % 256 }).setRf (Addr.memChStatus c) 10 8 rate
    let d := (sx 8 temp - sx 8 (s.rf (Addr.memChStatus c) 7 0)).natAbs
    if s.rf Addr.memRetrain 23 16 ≤ d then s.chFallsDue c else s
  else s)

/-- `RETRAIN_DUE`: R40, R642, R645. -/
def execRetrainDue (c : Nat) (s : State) : Host.Outcome State Fault Refusal :=
  .next (if c < 16 ∧ s.rb Addr.memStatus 31 = true then
    let x := s.chan c
    let t := match x.retry with | some r => r | none => x.last + msTicks (s.rf Addr.memRetrain 15 0)
    if t ≤ s.now then s.chFallsDue c else s
  else s)

/-- A channel's retraining is over: its bits of MEM_CH_c_STATUS clear and it counts (R643, R658). -/
def State.trainOff (s : State) (c : Nat) : State :=
  let st := Addr.memChStatus c
  let s := ((s.setRf st 31 31 0).setRf st 30 30 0).incWrap (Addr.memChRetrains c) 1
  if s.ms.forced then s.inc (Addr.memChForced c) 1 else s

/-- What a retraining leaves: the temperature it was done at, or E_MEM_TRAIN and another try (R644, R645). -/
def State.trainOut (s : State) (c : Nat) (ok : Bool) (x : Chan) : State :=
  if ok then (s.setChan c { x with due := none, retry := none, last := s.now }).setRf (Addr.memChStatus c) 7 0 (x.temp % 256)
  else (s.setChan c { x with due := none, retry := some (s.now + msTicks 10) }).raise .memTrain 0x10 (c / 2) none [(1, c / 2), (1, c % 2)]

/-- The next channel of a retraining begins (R643). -/
def State.trainNext (s : State) : State :=
  let rest := s.ms.train.drop 1
  let s := { s with ms := { s.ms with train := rest, forced := s.ms.forced && rest != [] } }
  match rest with | n :: _ => s.setRf (Addr.memChStatus n) 31 31 1 | [] => s

/-- Channels that fell due during a retraining are retrained next where no LOCKED domain runs (R40, R642). -/
def State.trainAgain (s : State) : State :=
  if s.unplaced = true ∧ s.ms.train = [] ∧ s.dueChans ≠ [] then s.trainStart false else s

/-- `RETRAIN_COMPLETE`: R40, R643-R645, R658. -/
def execRetrainComplete (c : Nat) (ok : Bool) (s : State) : Host.Outcome State Fault Refusal :=
  .next (if s.chBusy c then (((s.trainOff c).trainOut c ok (s.chan c)).trainNext.drainReads (c / 2)).trainAgain else s)

end Sys2Proof.Machine
end

