-- ==== Sys2Proof/Machine/Eth.lean ====
section
/-! DEFINITION. The Ethernet MACs (R677-R688, R701): descriptor rings, receive filter, checksums, IEEE 1588 timestamps. -/

namespace Sys2Proof.Machine

open Sys2Proof

/-! ## Frames -/

/-- Byte `i` of a frame. -/
def fbyte (f : Bytes) (i : Nat) : Nat := (lget 0 f i).toNat
/-- A big-endian 16-bit field of a frame. -/
def be16 (f : Bytes) (i : Nat) : Nat := fbyte f i * 256 + fbyte f (i + 1)
/-- A frame with bytes from offset `o` replaced. -/
def patch (f : Bytes) (o : Nat) (b : Bytes) : Bytes := f.take o ++ b ++ f.drop (o + b.length)
/-- A number as big-endian bytes. -/
def toBe (n v : Nat) : Bytes := (leBytes n v).reverse

/-- The transport segment of an IP frame: its offset, its length, its protocol, the pseudo-header's addresses; none for a
frame that is neither IPv4 nor IPv6. -/
def ipSegment (f : Bytes) : Option (Nat × Nat × Nat × Bytes) :=
  if be16 f 12 = 0x0800 then
    let ihl := fbyte f 14 % 16 * 4
    some (14 + ihl, be16 f 16 - ihl, fbyte f 23, (f.drop 26).take 8)
  else if be16 f 12 = 0x86DD then some (54, be16 f 18, fbyte f 20, (f.drop 22).take 32)
  else none

/-- Whether a frame carries a PTP message (R677). -/
def isPtp (f : Bytes) : Bool :=
  be16 f 12 == 0x88F7 ||
  (match ipSegment f with
    | some (o, _, 17, _) => be16 f (o + 2) == 319 || be16 f (o + 2) == 320
    | _ => false)

/-- The sum of a run of big-endian 16-bit words, an odd last byte padded. -/
def sum16 : Bytes → Nat
  | [] => 0
  | [a] => a.toNat * 256
  | a :: b :: r => a.toNat * 256 + b.toNat + sum16 r

/-- A one's-complement sum. -/
def fold16 (n : Nat) : Nat :=
  let m := n % 65536 + n / 65536
  m % 65536 + m / 65536

/-- The one's-complement sum of a TCP or UDP segment with its pseudo-header, and where its checksum field lies. -/
def l4Sum (f : Bytes) : Option (Nat × Nat) :=
  match ipSegment f with
  | some (o, n, p, addrs) =>
    if p = 6 ∨ p = 17 then some (fold16 (sum16 addrs + p + n + sum16 ((f.drop o).take n)), o + (if p = 6 then 16 else 6)) else none
  | none => none

/-- A frame with its TCP or UDP checksum inserted (R677). -/
def putCsum (f : Bytes) : Bytes :=
  match l4Sum f with
  | none => f
  | some (_, o) =>
    let z := patch f o [0, 0]
    match l4Sum z with
    | some (n, _) =>
      let c := 65535 - n
      patch f o (toBe 2 (if c = 0 ∧ fbyte f 23 = 17 then 65535 else c))
    | none => f

/-- Whether a received frame's TCP or UDP checksum is present and right. -/
def csumOk (f : Bytes) : Bool :=
  match l4Sum f with
  | some (n, o) => n == 65535 && be16 f o != 0
  | none => false

/-! ## Timestamps (R684-R687) -/

/-- The TOD `k` ticks later (or earlier), its seconds modulo 2^48. -/
def Tod.shift (t : Tod) (k : Int) : Nat × Nat :=
  let n : Int := (((t.sec * tickHz + t.tick : Nat) : Int) + k) % (2 ^ 48 * tickHz : Nat)
  let m := n.toNat
  (m / tickHz, m % tickHz)

/-- The transmit and the receive timestamp of a MAC. -/
def State.ethTs (s : State) (n : Nat) (rx : Bool) : Nat × Nat :=
  s.tod.shift (if rx then -(s.rf (Addr.ethTsLat n) 27 16 : Int) else (s.rf (Addr.ethTsLat n) 11 0 : Nat))

/-- A PTP Timestamp: 48-bit seconds, 32-bit nanoseconds, big-endian. -/
def ptpStamp (t : Nat × Nat) : Bytes := toBe 6 t.1 ++ toBe 4 (t.2 * 1000000000 / tickHz)

/-! ## Rings (R678-R680) -/

/-- The address of a descriptor. -/
def State.ethAt (s : State) (n q h : Nat) : Nat :=
  fld (s.reg (Addr.ethQBase n q + 4)) 7 0 * 2 ^ 32 + fld (s.reg (Addr.ethQBase n q)) 31 6 * 64 + 32 * h
/-- HEAD and TAIL of a ring, and its number of entries. -/
def State.ethRing (s : State) (n q : Nat) : Nat × Nat × Nat :=
  (s.rf (Addr.ethQHead n q) 11 0, s.rf (Addr.ethQTail n q) 11 0, 2 ^ s.rf (Addr.ethQSize n q) 3 0)
/-- Bytes `o` to `o + n` of a descriptor. -/
def dget (d : Bytes) (o n : Nat) : Nat := leNat ((d.drop o).take n)
/-- A flag of a descriptor. -/
def dflag (d : Bytes) (i : Nat) : Bool := nbit (dget d 10 2) i == 1
/-- A descriptor as it is written back: its length, flags that stay and flags that are set, a timestamp. -/
def descBack (d : Bytes) (len keep set : Nat) (ts : Option (Nat × Nat)) : Bytes :=
  d.take 8 ++ leBytes 2 len ++ leBytes 2 ((dget d 10 2).land keep + set) ++ (d.drop 12).take 4 ++
    (match ts with | some (a, b) => leBytes 6 a ++ leBytes 4 b | none => (d.drop 16).take 10) ++ d.drop 26

/-- A rate-limited code of this chapter, keyed by code and unit (R705). -/
def State.ioErr (s : State) (c : Code) (kind inst : Nat) : State := s.raiseKeyed c (kind * 256 + inst) kind inst none []

/-- A write of ETH_n_Q_q_TAIL (R678). -/
def State.ethTail (s : State) (n q : Nat) (v : Word) : State :=
  let a := Addr.ethQTail n q
  if (s.ethRing n q).2.2 ≤ fld v 11 0 then s.refuse a v else s.putReg a v

/-- `ETH_TAIL_WRITE`: R678. -/
def execEthTailWrite (n q : Nat) (v : Word) (s : State) : Host.Outcome State Fault Refusal :=
  .next (if n < 2 ∧ q < 4 then s.ethTail n q v else s)

/-- The descriptors of the frame at the head of a transmit ring, with their places; none while it is not whole. -/
def State.ethFrame (s : State) (n q h : Nat) : Nat → Option (List (Nat × Bytes)) × State
  | 0 => (none, s)
  | k + 1 =>
    let got := s.ethRing n q
    let tail := got.2.1
    let size := got.2.2
    if h = tail then (none, s)
    else
      let rd := s.unitRead (.eth n) .bulk (s.ethAt n q h) 32
      let l := rd.1
      let t := rd.2
      let d := plain l
      if !dflag d 15 then (none, t)
      else if dflag d 1 then (some [(h, d)], t)
      else match t.ethFrame n q ((h + 1) % size) k with
        | (some r, u) => (some ((h, d) :: r), u)
        | (none, u) => (none, u)

/-- The buffers of a frame's descriptors read: its bytes, and the poison of each buffer. -/
def State.ethGather (s : State) (n : Nat) : List (Nat × Bytes) → Bytes × List Bool × State
  | [] => ([], [], s)
  | (_, d) :: r =>
    let got := s.unitRead (.eth n) .bulk (dget d 0 8 % 2 ^ 40) (dget d 8 2)
    let l := got.1
    let t := got.2
    let got := t.ethGather n r
    let b := got.1
    let p := got.2.1
    let u := got.2.2
    (plain l ++ b, anyPoison l :: p, u)

/-- A frame sent from ring q (R682, R684-R687, R701). -/
def State.ethSend (s : State) (n q : Nat) (ds : List (Nat × Bytes)) : State :=
  let got := s.ethGather n ds
  let f := got.1
  let ps := got.2.1
  let s := got.2.2
  let any i := ds.any fun d => dflag d.2 i
  let bad := ps.any id
  let long := decide (f.length + 4 < 64) || decide (9216 < f.length + 4)
  let ts := s.ethTs n false
  let hold := s.tod.holdover
  let off := match ds.find? fun d => dflag d.2 3 with | some d => dget d.2 12 2 | none => 0
  let six := be16 f 12 == 0x86DD
  let one := any 3 && !six
  let f := if one then
      let g := patch f (off + 34) (ptpStamp ts)
      (match ipSegment g with | some (o, _, 17, _) => patch g (o + 6) [0, 0] | _ => g)
    else f
  let f := if any 4 && !one then putCsum f else f
  let s := if any 3 && six then s.cfgErr 0x12 n else s
  let s := if long then s else { s with eth := { s.eth with sent := tset (fun _ => ([], false)) s.eth.sent n (f, bad) } }
  let s := if bad then s.ioErr .ethPoison 0x12 n else s
  let stamp := any 2 || any 3
  let back := (ds.zip ps).map fun p =>
    let d := p.1.2
    let last := dflag d 1
    let set := (if p.2 then 2 ^ 10 else 0) + (if last && stamp then 2 ^ 5 + (if hold then 2 ^ 6 else 0) else 0) + (if last && long then 2 ^ 9 else 0)
    (p.1.1, descBack d (dget d 8 2) 0x001F set (if last && stamp then some ts else none))
  let s := back.foldl (fun t p => t.unitWrite (.eth n) .bulk (t.ethAt n q p.1) p.2 false) s
  let got := s.ethRing n q
  let h := got.1
  let size := got.2.2
  s.setRf (Addr.ethQHead n q) 11 0 ((h + ds.length) % size)

/-- `ETH_TX_FRAME`: R677-R680, R682-R687, R701. -/
def execEthTxFrame (n : Nat) (s : State) : Host.Outcome State Fault Refusal :=
  .next (if n < 2 ∧ s.rb (Addr.ethCtrl n) 31 = true ∧ s.rb (Addr.ethStatus n) 31 = true ∧ tget (fun _ => 0) s.eth.pause n ≤ s.now then
    match s.ethFrame n 0 (s.ethRing n 0).1 4096 with
    | (some ds, t) => t.ethSend n 0 ds
    | (none, t) =>
      match t.ethFrame n 1 (t.ethRing n 1).1 4096 with
      | (some ds, u) => u.ethSend n 1 ds
      | (none, u) => u
  else s)

/-! ## Receive (R677, R680, R681, R684, R685, R687) -/

/-- Whether the receive filter takes a frame. -/
def State.ethTakes (s : State) (n : Nat) (f : Bytes) : Bool :=
  let dst := f.take 6
  let multi := fbyte f 0 % 2 == 1
  s.rb (Addr.ethCtrl n) 2 || dst == List.replicate 6 0xFF ||
  (if multi then nbit ((s.reg (Addr.ethMchash n)).toNat + 2 ^ 32 * (s.reg (Addr.ethMchash n + 4)).toNat) (Config.mcHash dst % 64) == 1
   else (List.range 8).any fun k =>
     let hi := s.reg (Addr.ethAddr n k + 4)
     bit hi 31 && toBe 6 (fld hi 15 0 * 2 ^ 32 + (s.reg (Addr.ethAddr n k)).toNat) == dst)

/-- A received frame put into the descriptors of a ring: what is left is cut off where they run out. `set` is the flags
of its last descriptor. -/
def State.ethPlace (s : State) (n q : Nat) (f : Bytes) (first : Bool) (set : Nat) (ts : Nat × Nat) : Nat → Bool × State
  | 0 => (false, s)
  | k + 1 =>
    let got := s.ethRing n q
    let h := got.1
    let tail := got.2.1
    let size := got.2.2
    let rd := s.unitRead (.eth n) .bulk (s.ethAt n q h) 32
    let l := rd.1
    let t := rd.2
    let d := plain l
    if h = tail ∨ dflag d 15 = false then (false, if h = tail then s else t)
    else
      let room := dget d 8 2
      let part := f.take room
      let rest := f.drop room
      let t := t.unitWrite (.eth n) .bulk (dget d 0 8 % 2 ^ 40) part false
      let t := t.setRf (Addr.ethQHead n q) 11 0 ((h + 1) % size)
      let one := b2n first
      if rest = [] then
        (true, t.unitWrite (.eth n) .bulk (t.ethAt n q h) (descBack d part.length 0 (one + 2 + set) (some ts)) false)
      else
        match t.ethPlace n q rest false set ts k with
        | (true, u) => (true, u.unitWrite (.eth n) .bulk (u.ethAt n q h) (descBack d part.length 0 one none) false)
        | (false, u) => (true, u.unitWrite (.eth n) .bulk (u.ethAt n q h) (descBack d part.length 0 (one + 2 + set + 2 ^ 11) (some ts)) false)

/-- Ticks that a PAUSE of `quanta` units of 512 bit times holds the transmitter at a SPEED. -/
def pauseTicks (speed quanta : Nat) : Nat := quanta * 512 * 12288 / lget 100000 [100000, 25000, 10000] speed

/-- `ETH_RX_FRAME`: R677, R680-R682, R684, R685, R687. -/
def execEthRxFrame (n : Nat) (f : EthFrame) (s : State) : Host.Outcome State Fault Refusal :=
  .next (if n < 2 ∧ s.rb (Addr.ethCtrl n) 31 = true then
    let drop := s.inc (Addr.ethRxDrop n) 1
    if f.crcBad = true ∧ s.rb (Addr.ethCtrl n) 5 = false then drop
    else if be16 f.data 12 = 0x8808 ∧ be16 f.data 14 = 1 ∧ s.rb (Addr.ethCtrl n) 1 = true then
      { s with eth := { s.eth with pause := tset (fun _ => 0) s.eth.pause n (s.now + pauseTicks (s.rf (Addr.ethCtrl n) 9 8) (be16 f.data 16)) } }
    else if !s.ethTakes n f.data then s
    else
      let q := if s.rb (Addr.ethCtrl n) 0 = true ∧ isPtp f.data = true then 2 else 3
      let len := f.data.length + 4
      let set := 2 ^ 5 + (if s.tod.holdover then 2 ^ 6 else 0) + (if csumOk f.data then 2 ^ 4 else 0) + (if f.crcBad then 2 ^ 8 else 0)
        + (if len < 64 ∨ 9216 < len then 2 ^ 9 else 0)
      match s.ethPlace n q f.data true set (s.ethTs n true) 4096 with
      | (true, t) => t
      | (false, t) => (t.inc (Addr.ethRxDrop n) 1).ioErr .ethOverrun 0x12 n
  else s)

/-! ## Link and management -/

/-- `ETH_LINK_CHANGE`: R677. -/
def execEthLinkChange (n : Nat) (up : Bool) (speed : Nat) (an : Bool) (s : State) : Host.Outcome State Fault Refusal :=
  .next (if n < 2 then s.setReg (Addr.ethStatus n) (w32 (b2n up * 2 ^ 31 + speed % 4 * 256 + b2n an)) else s)

/-- A write of ETH_n_MDIO (R677): with GO, a transaction whose data the spec does not give. -/
def State.mdioWrite (s : State) (n : Nat) (v : Word) : State :=
  let a := Addr.ethMdio n
  let s := s.putReg a v
  if bit v 31 then
    let got := s.draw
    let x := got.1
    let s := got.2
    (s.setRf a 31 31 0).setRf a 15 0 (fld x 15 0)
  else s

/-- `MDIO_GO`: R677. -/
def execMdioGo (n : Nat) (v : Word) (s : State) : Host.Outcome State Fault Refusal := .next (if n < 2 then s.mdioWrite n v else s)

end Sys2Proof.Machine
end

