-- ==== Sys2Proof/Machine/Periph.lean ====
section
/-! DEFINITION. I3C controllers (R691-R695, R702), UARTs (R696), GPIO and its edge capture (R697, R698). -/

namespace Sys2Proof.Machine

open Sys2Proof

/-- An I3C controller. -/
def State.i3c (s : State) (n : Nat) : I3c := tget (fun _ => {}) s.per.i3c n
/-- The state with an I3C controller replaced, and its STATUS. -/
def State.setI3c (s : State) (n : Nat) (x : I3c) : State :=
  let s := { s with per := { s.per with i3c := tset (fun _ => {}) s.per.i3c n x } }
  let busy := match x.cmds with | c :: _ => c.run | [] => false
  s.setReg (Addr.i3cStatus n) (w32 (b2n busy * 2 ^ 31 + x.cmds.length % 32 * 2 ^ 16 + x.resps.length % 32 * 2 ^ 8 + x.ibis.length % 32))

/-- How often an event line has fired. -/
def State.evtCount (s : State) (k : Nat) : Nat := tget (fun _ => 0) s.sched.evts k

/-- The command at the head of a queue begins: at once, or once its event line fires after now (R692, R694). -/
def State.i3cHead (s : State) : List I3cCmd → List I3cCmd
  | [] => []
  | c :: r =>
    if c.run = true ∨ c.evt ≠ none then c :: r
    else if bit c.lo 31 then { c with evt := some (s.evtCount (fld c.lo 28 24)) } :: r
    else { c with run := true } :: r

/-- A write of I3C_n_CMD_HI (R692): the command enters the queue, which holds 16. -/
def State.i3cEnter (s : State) (n : Nat) (v : Word) : State :=
  let a := Addr.i3cCmdHi n
  let s := s.noteRsvd a v
  let x := s.i3c n
  if s.rb (Addr.i3cCtrl n) 31 = false ∨ 16 ≤ x.cmds.length then s.cfgErr 0x13 n
  else s.setI3c n { x with cmds := s.i3cHead (x.cmds ++ [{ lo := s.reg (Addr.i3cCmdLo n), hi := v }]) }

/-- `I3C_COMMAND`: R692. -/
def execI3cCommand (n : Nat) (v : Word) (s : State) : Host.Outcome State Fault Refusal := .next (if n < 8 then s.i3cEnter n v else s)

/-- `I3C_WAIT_RELEASE`: R694. -/
def execI3cWaitRelease (n : Nat) (s : State) : Host.Outcome State Fault Refusal :=
  .next (if n < 8 then
    let x := s.i3c n
    match x.cmds with
    | c :: r =>
      match c.evt with
      | some k => if c.run = false ∧ k < s.evtCount (fld c.lo 28 24) then s.setI3c n { x with cmds := { c with run := true } :: r } else s
      | none => s
    | [] => s
  else s)

/-- The response word of a command (R693). -/
def i3cResponse (c : I3cCmd) (status count : Nat) : Word := w32 (fld c.hi 31 16 * 2 ^ 16 + status % 16 * 2 ^ 12 + count % 4096)

/-- A read that a command makes, by RNW. -/
def I3cCmd.isRead (c : I3cCmd) : Bool := bit c.lo 15

/-- `I3C_TRANSFER_COMPLETE`: R692, R693. The command under way ends; a private transfer with LEN 0 is OK with no bytes. -/
def execI3cTransferComplete (n status count : Nat) (data : Bytes) (s : State) : Host.Outcome State Fault Refusal :=
  .next (if n < 8 then
    let x := s.i3c n
    match x.cmds with
    | c :: r =>
      if c.run = false then s
      else
        let empty := fld c.lo 11 0 == 0 && !bit c.hi 8
        let st := if empty then 0 else if status = 1 then 1 else if status = 3 then 3 else 0
        let k := if empty then 0 else min count (fld c.lo 11 0)
        let x := { x with
          cmds := s.i3cHead r, resps := x.resps ++ [i3cResponse c st k],
          tx := if c.isRead then x.tx else x.tx.drop k, rx := if c.isRead then (x.rx ++ data.take k).take 64 else x.rx }
        let s := s.setI3c n x
        let a := Addr.i3cCnt n
        let s := if st = 1 then s.setRf a 15 0 (min (s.rf a 15 0 + 1) 65535) else s
        if st = 0 then s else s.ioErr .i3cXfer 0x13 n
    | [] => s
  else s)

/-- `I3C_IBI`: R695. -/
def execI3cIbi (n : Nat) (w : Word) (s : State) : Host.Outcome State Fault Refusal :=
  .next (if n < 8 ∧ s.rb (Addr.i3cCtrl n) 31 = true then
    let x := s.i3c n
    let a := Addr.i3cCnt n
    if 16 ≤ x.ibis.length then s.setRf a 31 16 (min (s.rf a 31 16 + 1) 65535) else s.setI3c n { x with ibis := x.ibis ++ [w] }
  else s)

/-- ABORT (R702): the transfer in progress and every queued command complete ABORTED; how many bytes the first had moved
is free. -/
def State.i3cAbortCmd (s : State) (n : Nat) : State :=
  let x := s.i3c n
  match x.cmds with
  | [] => s
  | c :: r =>
    let got := s.draw
    let f := got.1
    let s := got.2
    let k := if c.run then f.toNat % (fld c.lo 11 0 + 1) else 0
    s.setI3c n { x with cmds := [], resps := x.resps ++ i3cResponse c 2 k :: r.map fun d => i3cResponse d 2 0 }

/-- `I3C_ABORT`: R693, R702. -/
def execI3cAbort (n : Nat) (s : State) : Host.Outcome State Fault Refusal := .next (if n < 8 then s.i3cAbortCmd n else s)

/-- A write of I3C_n_CTRL (R702). -/
def State.i3cCtrlWrite (s : State) (n : Nat) (v : Word) : State :=
  let s := s.putReg (Addr.i3cCtrl n) v
  if bit v 30 then s.i3cAbortCmd n else s

/-- The answer of a read that takes one word of a FIFO. -/
def State.answer (s : State) (w : Word) : State := { s with resp := { data := leBytes 4 w.toNat, poison := [false] } }

/-- A read of I3C_n_RESP pops one response (R693); an empty FIFO reads 0. -/
def State.i3cRespRead (s : State) (n : Nat) : State :=
  let x := s.i3c n
  match x.resps with
  | w :: r => (s.setI3c n { x with resps := r }).answer w
  | [] => s.answer 0

/-- `I3C_RESP_READ`: R693. -/
def execI3cRespRead (n : Nat) (s : State) : Host.Outcome State Fault Refusal := .next (if n < 8 then s.i3cRespRead n else s)

/-- A read of I3C_n_IBI pops one word (R695); an empty FIFO reads 0. -/
def State.i3cIbiRead (s : State) (n : Nat) : State :=
  let x := s.i3c n
  match x.ibis with
  | w :: r => (s.setI3c n { x with ibis := r }).answer w
  | [] => s.answer 0

/-- `I3C_IBI_READ`: R695. -/
def execI3cIbiRead (n : Nat) (s : State) : Host.Outcome State Fault Refusal := .next (if n < 8 then s.i3cIbiRead n else s)

/-- A write of I3C_n_DATA: bytes for the transmit FIFO, which holds 64. -/
def State.i3cDataWrite (s : State) (n : Nat) (v : Word) : State :=
  let x := s.i3c n
  s.setI3c n { x with tx := (x.tx ++ leBytes 4 v.toNat).take 64 }

/-- A read of I3C_n_DATA: bytes of the receive FIFO. -/
def State.i3cDataRead (s : State) (n : Nat) : State :=
  let x := s.i3c n
  (s.setI3c n { x with rx := x.rx.drop 4 }).answer (w32 (leNat (x.rx.take 4)))

/-- A UART's receive FIFO. -/
def State.uart (s : State) (n : Nat) : Bytes := tget (fun _ => []) s.per.uart n
/-- The state with a UART's receive FIFO replaced, and its level. -/
def State.setUart (s : State) (n : Nat) (l : Bytes) : State :=
  ({ s with per := { s.per with uart := tset (fun _ => []) s.per.uart n l } }).setRf (Addr.uartStatus n) 22 16 l.length

/-- Ticks that a character takes on a UART's line: start bit, data, parity and stop bits at BAUD (R696). -/
def State.uartChar (s : State) (n : Nat) : Nat :=
  let c := s.reg (Addr.uartCtrl n)
  let bits := 1 + (if bit c 2 then 7 else 8) + (if fld c 5 4 = 0 then 0 else 1) + (if bit c 3 then 2 else 1)
  cdiv (bits * tickHz) (max 1 (s.rf (Addr.uartBaud n) 21 0))

/-- The bytes still in a UART's transmit FIFO. -/
def State.uartOut (s : State) (n : Nat) : List (Byte × Nat) :=
  (tget (fun _ => []) s.per.uartTx n).filter fun x => decide (s.now < x.2)

/-- A byte enters a UART's transmit FIFO, which holds 64, and leaves behind those before it (R696). DESIGN CHOICE (log entry 83): a
byte that finds it full is discarded. -/
def State.uartPut (s : State) (n : Nat) (b : Byte) : State :=
  let l := s.uartOut n
  if 64 ≤ l.length then s
  else
    let t := (match l.getLast? with | some x => x.2 | none => s.now) + s.uartChar n
    { s with per := { s.per with uartTx := tset (fun _ => []) s.per.uartTx n (l ++ [(b, t)]) } }

/-- A write of UART_n_DATA sends a byte (R696). -/
def State.uartWrite (s : State) (n a : Nat) (v : Word) : State :=
  let s := s.noteRsvd a v
  if s.rb (Addr.uartCtrl n) 31 then s.uartPut n (BitVec.ofNat 8 (fld v 7 0)) else s

/-- `UART_RX_BYTE`: R696. -/
def execUartRxByte (n : Nat) (b : Byte) (s : State) : Host.Outcome State Fault Refusal :=
  .next (if n < 2 ∧ s.rb (Addr.uartCtrl n) 31 = true then
    if 64 ≤ (s.uart n).length then s.ioErr .uartOverrun 0x14 n else s.setUart n (s.uart n ++ [b])
  else s)

/-- A read of UART_n_DATA takes a byte. -/
def State.uartRead (s : State) (n : Nat) : State :=
  match s.uart n with
  | b :: r => (s.setUart n r).answer (w32 b.toNat)
  | [] => s.answer 0

/-- A capture channel records an edge (R698). -/
def State.gpioCapture (s : State) (k : Nat) : State :=
  let hi := Addr.gpioCapSec k + 4
  let d := s.rf (Addr.gpioCapCfg k) 26 24
  if s.rb hi 31 then (s.setRf hi 30 30 1).ioErr .gpioCap 0x15 k
  else
    let p := s.pub d
    let s := (s.setReg (Addr.gpioCapSec k) (w32 (s.tod.sec % 2 ^ 32))).setRf hi 15 0 (s.tod.sec / 2 ^ 32)
    let s := (s.setRf hi 31 31 1).setReg (Addr.gpioCapTick k) (w32 s.tod.tick)
    (s.setReg (Addr.gpioCapPos k) (w32 (p / 256 % 65536 * 256 + p % 256))).setReg (Addr.gpioCapFrame k) (w32 (s.dom d).frame)

/-- `GPIO_EDGE`: R697, R698. -/
def execGpioEdge (pin : Nat) (rising : Bool) (s : State) : Host.Outcome State Fault Refusal :=
  .next (if pin < 40 then
    let o := pin / 32 * 4
    let i := pin % 32
    let s := s.setRf (Addr.gpioIn + o) i i (b2n rising)
    let s := if s.rb ((if rising then Addr.gpioIrqRise else Addr.gpioIrqFall) + o) i then (s.setRf (Addr.gpioIrqStatus + o) i i 1).irq .gpio else s
    forEach (List.range 8) (fun k t =>
      let c := t.reg (Addr.gpioCapCfg k)
      if bit c 31 = true ∧ fld c 5 0 = pin ∧ bit c (if rising then 28 else 29) = true then t.gpioCapture k else t) s
  else s)

/-- A read of GPIO_CAP_k_FRAME clears VALID and OVERRUN (R698). -/
def State.capFrameRead (s : State) (k : Nat) : State :=
  let hi := Addr.gpioCapSec k + 4
  ((s.setRf hi 31 31 0).setRf hi 30 30 0).answer (s.reg (Addr.gpioCapFrame k))

/-- `GPIO_CAP_FRAME_READ`: R698. -/
def execGpioCapFrameRead (k : Nat) (s : State) : Host.Outcome State Fault Refusal := .next (if k < 8 then s.capFrameRead k else s)

end Sys2Proof.Machine
end

