-- ==== Sys2Proof/Machine/Supervisor.lean ====
section
/-! DEFINITION. The supervisor's shared operations: MSI-X vectors (R700, R703), its own memory accesses, the mailbox
(R759-R762), the segment chain (R749-R755), the register writes of an endorsement (R740, R746, R883). -/

namespace Sys2Proof.Machine

open Sys2Proof

/-! ## MSI-X -/

/-- What a word of the MSI-X table reads as when nothing has written it: the vector is masked. -/
def msixReset (k : Nat) : Word := if k % 4 = 3 then 1 else 0

/-- A word of the MSI-X table (R699). -/
def State.msixWord (s : State) (k : Nat) : Word := tget msixReset s.pcie.msix k

/-- Whether the port is an endpoint (R664). -/
def State.isEndpoint (s : State) : Bool := s.rf Addr.pcieStatus 29 28 == 0

/-- The state with the pending bit of a vector replaced. -/
def State.setPba (s : State) (v : Nat) (b : Bool) : State :=
  { s with pcie := { s.pcie with pba := tset (fun _ => false) s.pcie.pba v b } }

/-- An MSI-X vector raised (R700, R703): delivered, or pending while it is masked. In root-port mode there is no host. -/
def State.msix (s : State) (v : Nat) : State :=
  if !s.isEndpoint then s
  else if bit (s.msixWord (4 * v + 3)) 0 then s.setPba v true
  else s.irq (.msix v)

/-! ## The supervisor's own accesses (R736: never judged by the firewall) -/

/-- A write of the supervisor to DRAM, in its class: CTRL for the record rings (R855), BULK for all else (R42, R756). -/
def State.supWrite (s : State) (cls : Qos) (a : Nat) (data : Bytes) : State :=
  (cutLines (data.length + 1) a data).foldl (fun (t : State) c =>
    if t.memOk c.1 then (t.lineUse cls c.1 c.2.length).dramWrite c.1 c.2 false else if inDram c.1 then t.rangeErr c.1 else t) s

/-- A read of the supervisor from DRAM, in its class (R756); elsewhere the data are free. -/
def State.supRead (s : State) (cls : Qos) (a n : Nat) : Bytes × State :=
  (cutRead (n / 64 + 2) a n).foldl (fun p c =>
    let t := p.2
    if t.memOk c.1 then (p.1 ++ plain (t.peek c.1 c.2), (t.lineUse cls c.1 c.2).ueRead c.1 c.2)
    else if inDram c.1 then (p.1 ++ List.replicate c.2 0xFF, t.rangeErr c.1)
    else (p.1 ++ freeRun t.fresh c.2, { t with fresh := t.fresh + 1 })) ([], s)

/-- A run of bytes cut or padded with zeros to `n`. -/
def pad (n : Nat) (l : Bytes) : Bytes := (l ++ List.replicate n 0).take n

/-- Little-endian words of a run of bytes. -/
def toWords : Bytes → List Word
  | [] => []
  | a :: b :: c :: d :: r => w32 (leNat [a, b, c, d]) :: toWords r
  | l => [w32 (leNat l)]

/-! ## Power requests (R772, R773, R782) -/

/-- A power request: 0 STANDBY, 1 RETAIN, 2 ACTIVE. The last one wins; one for the state in force, an OFF request in TRIPPED,
RETAIN in STANDBY and ACTIVE while REFCLK is lost are consumed without effect. An OFF request in ACTIVE raises the power-down
interrupt and begins the grace period, which an ACTIVE request ends (R772, R773, R776, R782, R788). -/
def State.powerReq (s : State) (v : Nat) : State :=
  let st := s.rf Addr.pwrState 2 0
  if v = 2 ∧ s.pwr.refLost.isSome then s
  else if st = 2 ∧ v = 2 then { s with pwr := { s.pwr with grace := none } }.setRf Addr.pwrState 6 4 7
  else if st = v ∨ (st = 0 ∧ v = 1) then s.setRf Addr.pwrState 6 4 7
  else if st = 3 ∧ v ≠ 2 then s
  else
    let s := s.setRf Addr.pwrState 6 4 v
    if st = 2 ∧ s.pwr.grace = none then
      { s with pwr := { s.pwr with grace := some (s.now + msTicks (s.rf Addr.pwrGrace 13 0)) } }.irq .powerDown
    else s

/-! ## Mailbox -/

/-- The number of a page: its place in the DSV block (R880). -/
def pageNum : Page → Nat | .host => 0 | .driver => 1

/-- Word `i` of a page's command buffer. -/
def State.bufWord (s : State) (p : Page) (i : Nat) : Word := s.reg (Addr.dsvCmdbuf (pageNum p) + 4 * i)

/-- Word `i` of the command that a page submitted: the doorbell took it, so a later write of the buffer does not change it
(R760). -/
def State.cmdWord (s : State) (p : Page) (i : Nat) : Word := lget 0 (tget (fun _ => []) s.dsv.cmds (pageNum p)) i

/-- A page's command taken from its buffer: header and payload. -/
def State.takeCmd (s : State) (p : Page) : State :=
  let n := 4 + cdiv (min (fld (s.bufWord p 0) 31 16) 4080) 4
  { s with dsv := { s.dsv with cmds := tset (fun _ => []) s.dsv.cmds (pageNum p) ((List.range n).map (s.bufWord p)) } }

/-- The payload of the command that a page submitted: as many bytes as its length field says, at most 4,080. -/
def State.cmdPayload (s : State) (p : Page) : Bytes :=
  let n := min (fld (s.cmdWord p 0) 31 16) 4080
  ((List.range (cdiv n 4)).flatMap fun i => leBytes 4 (s.cmdWord p (4 + i)).toNat).take n

/-- Consecutive words written to registers. -/
def State.putWords (s : State) (a : Nat) (l : List Word) : State :=
  (l.foldl (fun p w => (p.1 + 4, p.2.setReg p.1 w)) (a, s)).2

/-- The response of a command in a page's response buffer (R759): `c` and `t` are the words it echoes. -/
def State.putResp (s : State) (p : Page) (c t : Word) (status : Nat) (out : Bytes) : State :=
  s.putWords (Addr.dsvRespbuf (pageNum p)) ([c, t, w32 status, 0] ++ toWords (out.take 4080))

/-- RESP_READY signalled (R760). -/
def State.mailSignal (s : State) (p : Page) : State :=
  let s := s.setRf (Addr.dsvMbstatus (pageNum p)) 29 29 1
  match p with | .host => s.msix 0 | .driver => s.irq .dsvMail

/-- A command completes with its response; the page is ready for its next command. -/
def State.reply (s : State) (p : Page) (status : Nat) (out : Bytes) : State :=
  let s := (s.putResp p (s.cmdWord p 0) (s.cmdWord p 1) status out).setRf (Addr.dsvMbstatus (pageNum p)) 31 30 0
  { s with dsv := { s.dsv with order := s.dsv.order.filter (· != p) } }.mailSignal p

/-- A doorbell (R760): a page that is busy answers BUSY, and the command in progress goes on. -/
def State.doorbell (s : State) (p : Page) : State :=
  let a := Addr.dsvMbstatus (pageNum p)
  if s.rb a 31 then (s.putResp p (s.bufWord p 0) (s.bufWord p 1) 3 []).mailSignal p
  else
    let s := (s.takeCmd p).setRf a 31 29 6
    { s with dsv := { s.dsv with order := s.dsv.order ++ [p] } }

/-- Whether the command now served (R761: in order of the doorbells) is a page's and has this number. -/
def State.serving (s : State) (p : Page) (cmd : Nat) : Bool :=
  s.dsv.fw.isSome && s.dsv.order.head? == some p && fld (s.cmdWord p 0) 15 0 == cmd

/-- A command served (R759, R761): DENIED from a page that may not issue it, MALFORMED when bytes 8-15 are not zero or its
length is not one the command takes, else as the command says. -/
def State.serve (s : State) (p : Page) (cmd : Nat) (both : Bool) (lens : Nat → Bool)
    (f : Bytes → State → Nat × Bytes × State) : State :=
  if s.serving p cmd = false then s
  else if both = false ∧ p = .host then s.reply p 2 []
  else if s.cmdWord p 2 ≠ 0 ∨ s.cmdWord p 3 ≠ 0 ∨ lens (fld (s.cmdWord p 0) 31 16) = false then s.reply p 1 []
  else
    let got := f (s.cmdPayload p) s
    let st := got.1
    let out := got.2.1
    let t := got.2.2
    t.reply p st out

/-! ## The segment chain -/

/-- The next SEQ. -/
def State.chainNext (s : State) : Nat := (s.reg Addr.dsvChainSeq).toNat + 2 ^ 32 * (s.reg (Addr.dsvChainSeq + 4)).toNat

/-- The state with the next SEQ replaced. -/
def State.setChainNext (s : State) (n : Nat) : State :=
  (s.setReg Addr.dsvChainSeq (w32 n)).setReg (Addr.dsvChainSeq + 4) (w32 (n / 2 ^ 32))

/-- SEQ and the hash of the last record checkpointed to flash (R754). -/
def State.chainCheckpoint (s : State) : State :=
  { s with dsv := { s.dsv with checkpoint := (s.chainNext - 1, s.dsv.prevHash) } }

/-- A new SEQ issued, with a checkpoint every 1,024 (R754). -/
def State.chainTake (s : State) : Nat × State :=
  let n := s.chainNext
  let s := s.setChainNext (n + 1)
  (n, if s.dsv.checkpoint.1 + 1024 ≤ n then s.chainCheckpoint else s)

/-- How many records the chain ring holds (R755). -/
def State.chainHeld (s : State) : Nat :=
  let n := 2 ^ s.rf Addr.dsvChainSize 3 0
  (s.rf Addr.dsvChainHead 11 0 + n - s.rf Addr.dsvChainTail 11 0) % n

/-- Where the chain ring lies; 0 while it has not been placed. -/
def State.chainBase (s : State) : Nat := s.rf (Addr.dsvChainBase + 4) 7 0 * 2 ^ 32 + s.rf Addr.dsvChainBase 31 6 * 64

/-- Records that wait for the ring are written while it has room (R755). `n` bounds them. -/
def State.chainDrain (s : State) : Nat → State
  | 0 => s
  | n + 1 =>
    match s.dsv.waiting with
    | [] => s
    | r :: w =>
      let size := 2 ^ s.rf Addr.dsvChainSize 3 0
      if s.chainBase = 0 ∨ size ≤ s.chainHeld + 1 then s
      else
        let h := s.rf Addr.dsvChainHead 11 0
        let s := (s.supWrite .bulk (s.chainBase + 256 * h) r).setReg Addr.dsvChainHead (w32 ((h + 1) % size))
        { s with dsv := { s.dsv with waiting := w } }.chainDrain n

/-- A chain record made, signed and handed to the ring (R751). -/
def State.chainRecord (s : State) (type seq : Nat) (hold : Bool) (body : Bytes) : State :=
  let head := leBytes 4 0x4E484353 ++ leBytes 2 1 ++ leBytes 1 type ++ leBytes 1 (b2n hold + 2 * b2n s.dsv.unlock.isSome)
    ++ leBytes 8 seq ++ pad 48 s.dsv.prevHash ++ leBytes 6 s.tod.sec ++ leBytes 4 s.tod.tick ++ leBytes 2 0 ++ leBytes 4 s.dsv.boots
    ++ pad 80 body
  let r := head ++ pad 96 (Config.sign 255 s.fresh (Config.sha384 head))
  let s := { s with fresh := s.fresh + 1, dsv := { s.dsv with prevHash := Config.sha384 r, waiting := s.dsv.waiting ++ [r] } }
  s.chainDrain s.dsv.waiting.length

/-- The open segment of a session. -/
def State.seg (s : State) (k : Nat) : Option Segment := tget (fun _ => none) s.dsv.segs k
/-- The state with it replaced. -/
def State.setSeg (s : State) (k : Nat) (x : Option Segment) : State :=
  { s with dsv := { s.dsv with segs := tset (fun _ => none) s.dsv.segs k x } }

/-- A segment closes: its SEGMENT record is appended (R750, R752). -/
def State.segClose (s : State) (k : Nat) : State :=
  match s.seg k with
  | none => s
  | some g =>
    let body := leBytes 1 (k / 16) ++ leBytes 1 (k % 16) ++ leBytes 2 g.n ++ leBytes 4 g.first ++ leBytes 4 g.last ++ leBytes 6 g.todSec
      ++ leBytes 4 g.todTick ++ leBytes 2 g.flags ++ leBytes 4 (s.tagHash 0x0C k).toNat ++ leBytes 4 0 ++ pad 48 (Config.sha384 g.digests)
    (s.setSeg k none).chainRecord 1 g.seqNo g.hold body

/-- Every open segment closes (R750). -/
def State.closeSegments (s : State) : State := forEach (List.range 32) (fun k t => t.segClose k) s

/-- A record other than SEGMENT appended after every open segment has closed (R750). -/
def State.chainAppend (s : State) (type : Nat) (hold : Bool) (body : Bytes) : State :=
  let got := s.closeSegments.chainTake
  let n := got.1
  let s := got.2
  s.chainRecord type n hold body

/-- A TIME_CORRECTION record (R752, R753, R754): cause, step, holdover, the TOD before and after. -/
def State.timeCorrection (s : State) (cause : Nat) (hold : Bool) (stepSec stepTick : Int) (holdover : Nat)
    (before after : Nat × Nat) : State :=
  if s.dsv.fw.isNone then s
  else
    (s.chainAppend 2 hold (leBytes 1 cause ++ leBytes 1 (s.rf Addr.lptTodSrc 1 0) ++ leBytes 2 0 ++ leBytes 8 (ux 64 stepSec)
      ++ leBytes 4 (ux 32 stepTick) ++ leBytes 4 holdover ++ leBytes 6 before.1 ++ leBytes 4 before.2 ++ leBytes 2 0
      ++ leBytes 6 after.1 ++ leBytes 4 after.2)).chainCheckpoint

/-! ## Dual-control registers (R746, R883) -/

/-- The dual-control registers. -/
def rwdRegs : List Nat :=
  [Addr.passPqLockLo, Addr.passPqLockHi, Addr.vencEvidSess 0, Addr.vencEvidCfg 0, Addr.vencEvidSess 1, Addr.vencEvidCfg 1, Addr.dsvDcWindow]
  ++ (List.range 64).flatMap fun w => [Addr.dsvFwBase w, Addr.dsvFwLimit w, Addr.dsvFwPerm w, Addr.dsvFwCtrl w]

/-- A dual-control register written by the supervisor, under the field rules of R20. -/
def State.putRwd (s : State) (a : Nat) (v : Word) : State :=
  match regAt a with
  | none => s
  | some r =>
    let s := s.noteRsvd a v
    let got := applyFields .rw (s.reg a) v r.fields
    let w := got.1
    let bad := got.2
    let s := s.setReg a w
    if bad then s.cfgErr (cfgUnit r).1 (cfgUnit r).2 else s

/-- The words of the dual-control registers that are not their reset values. -/
def State.rwdNow (s : State) : Table Word :=
  rwdRegs.foldl (fun t a => tset resetOf t a (s.reg a)) []

/-- TYPE of a key slot, and its public key. -/
def State.keySlot (s : State) (k : Nat) : Nat × Bytes := tget (fun _ => (0, [])) s.dsv.keys k

/-- The state with a key slot replaced, and its DSV_KS_k_INFO. -/
def State.setKey (s : State) (k type : Nat) (key : Bytes) : State :=
  { s with dsv := { s.dsv with keys := tset (fun _ => (0, [])) s.dsv.keys k (type, key) } }.setReg (Addr.dsvKsInfo k) (w32 type)

/-- The valid copy of the protection record with the highest PROT_SEQ; with none, factory state (R729, R738). -/
def Dsv.bestCopy (d : Dsv) : ProtRec :=
  match d.copyA, d.copyB with
  | some a, some b => if a.seq < b.seq then b else a
  | some a, none => a
  | none, some b => b
  | none, none => ProtRec.factory

/-- The protection record applied (R729 step 3). -/
def State.applyProt (s : State) : State :=
  let r := s.dsv.bestCopy
  let s := rwdRegs.foldl (fun (t : State) a => t.setReg a (tget resetOf r.regs a)) s
  let s := { s with dsv := { s.dsv with keys := r.keys, protHash := Config.protDigest r.seq r.keys r.regs } }
  (forEach (List.range 8) (fun k t => t.setReg (Addr.dsvKsInfo k) (w32 (t.keySlot k).1)) s).setReg Addr.dsvProtSeq (w32 r.seq)

/-- A protection record of what is in force written to the older copy (R746). -/
def State.storeProt (s : State) (seq : Nat) : State :=
  let r : ProtRec := { seq := seq, keys := s.dsv.keys, regs := s.rwdNow }
  let older := match s.dsv.copyA, s.dsv.copyB with
    | none, _ => true
    | some _, none => false
    | some a, some b => decide (a.seq < b.seq)
  { s with dsv := if older then { s.dsv with copyA := some r } else { s.dsv with copyB := some r } }

end Sys2Proof.Machine
end

