-- ==== Sys2Proof/Machine/Fmt.lean ====
section
/-! DEFINITION. The output formatter (R427-R469): sources, streams, scaling, colour conversion, normalisation, layouts,
output items. -/

namespace Sys2Proof.Machine

open Sys2Proof

/-- A formatter source. -/
def State.fsrc (s : State) (i : Nat) : FmtSrc := tget (fun _ => {}) s.fmt.srcs i
/-- The state with a formatter source replaced. -/
def State.setFsrc (s : State) (i : Nat) (x : FmtSrc) : State :=
  { s with fmt := { s.fmt with srcs := tset (fun _ => {}) s.fmt.srcs i x } }
/-- An output stream. -/
def State.fout (s : State) (n : Nat) : FmtOut := tget (fun _ => {}) s.fmt.outs n
/-- The state with an output stream replaced. -/
def State.setFout (s : State) (n : Nat) (x : FmtOut) : State :=
  { s with fmt := { s.fmt with outs := tset (fun _ => {}) s.fmt.outs n x } }

/-- A pixel: components of 16 bits and its poison. -/
abbrev Px := List Nat × Bool

/-! ## Source formats (R427) -/

/-- Bytes per pixel of a source format. -/
def sfmtBytes (f : Nat) : Nat := lget 6 [6, 4, 3, 2, 1] f

/-- Whether a source format is RGB. -/
def sfmtRgb (f : Nat) : Bool := decide (f < 3)

/-- A 10-bit component expanded. -/
def expand10 (x : Nat) : Nat := x * 64 + x / 16

/-- A source pixel's components. -/
def srcComps (f : Nat) (l : Bytes) : List Nat :=
  let b i := (lget 0 l i).toNat
  match f with
  | 0 => [b 0 + 256 * b 1, b 2 + 256 * b 3, b 4 + 256 * b 5]
  | 1 => let w := leNat l; [expand10 (w / 2 ^ 20 % 1024), expand10 (w / 2 ^ 10 % 1024), expand10 (w % 1024)]
  | 2 => [b 0 * 257, b 1 * 257, b 2 * 257]
  | 3 => [b 0 + 256 * b 1]
  | _ => [b 0 * 257]

/-- The pixels of a row's bytes; `n` bounds their number. -/
def rowPixels (f : Nat) : Nat → List (Byte × Bool) → List Px
  | 0, _ => []
  | n + 1, l =>
    let k := sfmtBytes f
    (srcComps f (plain (l.take k)), anyPoison (l.take k)) :: rowPixels f n (l.drop k)

/-! ## Scaling (R437-R442) -/

/-- STEP of an axis (R438). -/
def scaleStep (crop out : Nat) : Nat := (crop * 65536 + out / 2) / out

/-- Tap position and phase of an output index (R438). -/
def scaleTap (step x : Nat) : Int × Nat :=
  let u : Int := (((2 * x + 1) * step : Nat) - 65536 : Int) / 2
  let i := u / 65536
  let ph := ((u % 65536).toNat + 512) / 1024
  if ph = 64 then (i + 1, 0) else (i, ph)

/-- A coefficient of the fixed bank 0 (R441): each phase sums to 1,024. -/
def bank0 (vert : Bool) (ph k : Nat) : Int :=
  let n := if vert then 6 else 8
  let c := if vert then 2 else 3
  if ph = 0 then (if k = c then 1024 else 0)
  else if k = c then 1024 - ((List.range n).filter (· != c)).foldl (fun a i => a + Config.lanczos vert ph i) 0
  else Config.lanczos vert ph k

/-- The coefficients of a phase of a bank: 6 vertical or 8 horizontal. -/
def State.coefs (s : State) (b : Nat) (vert : Bool) (ph : Nat) : List Int :=
  let n := if vert then 6 else 8
  (List.range n).map fun k =>
    if b = 0 then bank0 vert ph k
    else
      let o := (if vert then 0x400 else 0) + 2 * (n * ph + k)
      sx 16 ((s.reg (Addr.fmtCoef b + o / 4 * 4)).toNat / 2 ^ (8 * (o % 4)))

/-- One filter pass on one pixel (R439, R454). -/
def filterPx (nc : Nat) (cs : List Int) (ps : List Px) : Px :=
  ((List.range nc).map fun c =>
    let v := ((cs.zip ps).foldl (fun (a : Int) q => a + q.1 * (lget 0 q.2.1 c : Nat)) 0 + 512) / 1024
    (min (max v 0) 65535).toNat, ps.any (·.2))

/-- A position clamped to [lo, hi) (R440). -/
def clampTap (lo hi : Nat) (v : Int) : Nat := if v < lo then lo else if (hi : Int) ≤ v then hi - 1 else v.toNat

/-- The row of a number among those held; one that is not held counts as poisoned. -/
def rowOf (rows : List FmtRow) (i : Nat) : FmtRow := (rows.find? fun r => r.idx == i).getD ⟨i, true, []⟩

/-- What a stream's frame is scaled by: crop, output size, source size, coefficient bank, components. -/
structure Scale where
  cx : Nat
  cy : Nat
  cw : Nat
  ch : Nat
  ow : Nat
  oh : Nat
  hiX : Nat
  hiY : Nat
  bank : Nat
  nc : Nat

/-- The source rows that an output row's taps read (R439, R440). -/
def Scale.tapRows (g : Scale) (y : Nat) : List Nat :=
  let j := (scaleTap (scaleStep g.ch g.oh) y).1
  (List.range 6).map fun (k : Nat) => clampTap g.cy g.hiY (g.cy + j - 2 + k)

/-- Whether the crop rectangle and the valid region share no pixel. -/
def Scale.empty (g : Scale) : Bool := decide (g.hiX ≤ g.cx) || decide (g.hiY ≤ g.cy)

/-- An output row in 16-bit components, its taps read from the rows held. -/
def State.scaleRow (s : State) (g : Scale) (rows : List FmtRow) (y : Nat) : List Px :=
  if g.empty then List.replicate g.ow (List.replicate g.nc (Config.noTap % 65536), false) else
  let rs := (g.tapRows y).map (rowOf rows)
  let cv := s.coefs g.bank true (scaleTap (scaleStep g.ch g.oh) y).2
  let col x := filterPx g.nc cv (rs.map fun r => lget ([], true) r.px x)
  let vrow := (List.range (g.hiX - g.cx)).map fun x => col (g.cx + x)
  (List.range g.ow).map fun x =>
    let t := scaleTap (scaleStep g.cw g.ow) x
    filterPx g.nc (s.coefs g.bank false t.2)
      ((List.range 8).map fun (k : Nat) => lget ([], true) vrow (clampTap g.cx g.hiX (g.cx + t.1 - 3 + k) - g.cx))

/-! ## Colour and quantisation (R443-R447) -/

/-- A component of `n` bits (R443). -/
def quant (n v : Nat) : Nat := min ((v + 2 ^ (15 - n)) / 2 ^ (16 - n)) (2 ^ n - 1)

/-- Kr and Kb of a MATRIX, in units of 1/10,000 (R444). -/
def matrixK (m : Nat) : Int × Int :=
  match m with | 0 => (2990, 1140) | 1 => (2126, 722) | _ => (2627, 593)

/-- A quotient to nearest, halves upward; `d` is positive. -/
def roundDiv (a d : Int) : Int := (2 * a + d) / (2 * d)

/-- The weights of R, G, B in Y16, Cb16 and Cr16, in units of 2^-14 (R444, R445). -/
def yuvWeights (m : Nat) (full : Bool) : List Int × List Int × List Int :=
  let got := matrixK m
  let kr := got.1
  let kb := got.2
  let kg := 10000 - kr - kb
  let sy : Int := if full then 65535 else 56064
  let sc : Int := if full then 65535 else 57344
  let y k := roundDiv (k * sy * 16384) (10000 * 65535)
  let c k d := roundDiv (k * sc * 16384) (2 * d * 65535)
  ([y kr, y kg, y kb],
   [c (-kr) (10000 - kb), c (-kg) (10000 - kb), c (10000 - kb) (10000 - kb)],
   [c (10000 - kr) (10000 - kr), c (-kg) (10000 - kr), c (-kb) (10000 - kr)])

/-- An offset plus a weighted sum, with one rounding to nearest and a clamp (R445). -/
def weighted (off : Int) (w : List Int) (rgb : List Nat) : Nat :=
  let v := (off * 16384 + (w.zip rgb).foldl (fun (a : Int) q => a + q.1 * (q.2 : Nat)) 0 + 8192) / 16384
  (min (max v 0) 65535).toNat

/-- R, G, B of a pixel: a Y source gives three equal components. -/
def rgbOf (c : List Nat) : List Nat := match c with | [y] => [y, y, y] | l => l

/-- Y16, Cb16 and Cr16 of a pixel (R444-R446). -/
def yuvOf (m : Nat) (full : Bool) (c : List Nat) : Nat × Nat × Nat :=
  let got := yuvWeights m full
  let wy := got.1
  let wb := got.2.1
  let wr := got.2.2
  let y := weighted (if full then 0 else 4096) wy (rgbOf c)
  match c with
  | [_] => (y, 32768, 32768)
  | _ => (y, weighted 32768 wb c, weighted 32768 wr c)

/-- The settings of a stream in force for its frame (R462): crop, output size, format, normalisation, padding. -/
def State.fmtCfgWords (s : State) (n : Nat) : List Word :=
  [s.reg (Addr.fmtOsCropXy n), s.reg (Addr.fmtOsCropWh n), s.reg (Addr.fmtOsOutWh n), s.reg (Addr.fmtOsFmt n),
   s.reg (Addr.fmtOsPadWh n), s.reg (Addr.fmtOsNorm n 0), s.reg (Addr.fmtOsNorm n 1), s.reg (Addr.fmtOsNorm n 2),
   s.reg (Addr.fmtOsPadval n 0), s.reg (Addr.fmtOsPadval n 1), s.reg (Addr.fmtOsPadval n 2)]

/-- How a stream lays out its buffer. -/
structure Lay where
  ofmt : Nat
  full : Bool
  matrix : Nat
  swap : Bool
  nch : Nat
  ow : Nat
  oh : Nat
  tw : Nat
  th : Nat
  stride : Nat
  alpha : Nat
  norm : List Word
  fscale : List Word
  foff : List Word
  padval : List Word

/-- The layout that settings words give a stream. -/
def State.layOf (s : State) (n : Nat) (c : List Word) : Lay :=
  let g i := lget 0 c i
  let f := g 3
  let ow := fld (g 2) 15 0
  let oh := fld (g 2) 31 16
  { ofmt := fld f 31 28, full := bit f 23, matrix := fld f 25 24, swap := bit f 22,
    nch := lget 1 [1, 3, 4] (fld f 21 20), ow := ow, oh := oh,
    tw := if fld (g 4) 15 0 = 0 then ow else fld (g 4) 15 0,
    th := if fld (g 4) 31 16 = 0 then oh else fld (g 4) 31 16,
    stride := s.rf (Addr.fmtOsStride n) 23 6 * 64, alpha := s.rf (Addr.fmtOsCtrl n) 7 0,
    norm := [g 5, g 6, g 7], fscale := [0, 1, 2].map fun i => s.reg (Addr.fmtOsFscale n i),
    foff := [0, 1, 2].map fun i => s.reg (Addr.fmtOsFoff n i), padval := [g 8, g 9, g 10] }

/-- Whether a format is a machine-vision one. -/
def Lay.mv (l : Lay) : Bool := decide (6 ≤ l.ofmt)

/-- Tiles in a row of tiles (R450). -/
def Lay.twn (l : Lay) : Nat := cdiv l.ow 64
/-- Bytes of a tile. -/
def Lay.tb (l : Lay) : Nat := if l.ofmt = 4 then 1024 else 2048
/-- Where the chroma plane of a tiled format begins. -/
def Lay.cb (l : Lay) : Nat := l.twn * cdiv l.oh 16 * l.tb

/-- The minimum STRIDE and the buffer size of a layout (R449, R450). -/
def Lay.sizes (l : Lay) : Nat × Nat :=
  match l.ofmt with
  | 0 => (3 * l.ow, l.stride * l.oh)
  | 1 => (4 * l.ow, l.stride * l.oh)
  | 2 => (l.ow, l.stride * l.oh * 3 / 2)
  | 3 => (2 * l.ow, l.stride * l.oh)
  | 4 => (0, l.cb + l.twn * cdiv l.oh 32 * l.tb)
  | 5 => (0, l.cb + l.twn * cdiv l.oh 32 * l.tb)
  | 6 => (l.tw, l.nch * l.stride * l.th)
  | 7 => (l.nch * l.tw, l.stride * l.th)
  | _ => (2 * l.tw, l.nch * l.stride * l.th)

/-- The INT8 value of a channel (R447). -/
def normInt8 (v : Nat) (w : Word) : Nat :=
  let x : Int := ((v * fld w 15 0 + 32768) / 65536 : Nat) + sx 16 (fld w 31 16)
  ux 8 (min (max x (-128)) 127)

/-- The FP16 value of a channel (R447). -/
def normFp16 (v : Nat) (scale off : Word) : Nat :=
  fp16.enc (fp32.round (((Fv.ofInt v).mul (fp32.dec scale.toNat)).add (fp32.dec off.toNat)))

/-- The value that channel `c` of a pixel has before normalisation, where the pixel's channels are its components in
channel order, or its luma for one channel of an RGB source. -/
def Lay.chan (l : Lay) (p : List Nat) (c : Nat) : Nat :=
  if l.nch = 1 then (match p with | [y] => y | _ => (yuvOf l.matrix l.full p).1)
  else
    let q := rgbOf p
    lget 0 (if l.swap then q.reverse else q) c

/-- A cell of an output buffer: its offset, its byte, whether it is a fill. -/
abbrev OutCell := Nat × Byte × Bool

/-- The cells of a little-endian value of `n` bytes. -/
def cellsOf (o n v : Nat) (fill : Bool) : List OutCell := ((leBytes n v).zipIdx).map fun p => (o + p.2, p.1, fill)

/-- The bytes of a machine-vision element. -/
def Lay.elem (l : Lay) : Nat := if l.ofmt = 8 then 2 else 1

/-- Offset of channel `c` of position (x, y) in a tensor (R449). -/
def Lay.tensorAt (l : Lay) (x y c : Nat) : Nat :=
  if l.ofmt = 7 then y * l.stride + l.nch * x + c else c * l.stride * l.th + y * l.stride + l.elem * x

/-- Channel `c` of a tensor position, from the value before normalisation. -/
def Lay.tensorVal (l : Lay) (v c : Nat) : Nat :=
  if 3 ≤ c then 0
  else if l.ofmt = 8 then normFp16 v (lget 0 l.fscale c) (lget 0 l.foff c) else normInt8 v (lget 0 l.norm c)

/-- The padding of a letterbox row from column `x0` (R448). -/
def Lay.padRow (l : Lay) (x0 y : Nat) : List OutCell :=
  let one c x := cellsOf (l.tensorAt x y c) l.elem
    (if 3 ≤ c then 0 else if l.ofmt = 8 then fld (lget 0 l.padval c) 15 0 else fld (lget 0 l.padval c) 7 0) false
  let xs := (List.range (l.tw - x0)).map (· + x0)
  if l.ofmt = 7 then xs.flatMap fun x => (List.range l.nch).flatMap fun c => one c x
  else (List.range l.nch).flatMap fun c => xs.flatMap (one c)

/-- The letterbox padding of a buffer. -/
def Lay.padding (l : Lay) : List OutCell :=
  if l.mv then (List.range l.th).flatMap fun y => l.padRow (if y < l.oh then l.ow else 0) y else []

/-- Where a sample of a tiled plane lies: `base` of the plane, sample `k` of row `y` (R450). -/
def Lay.tileAt (l : Lay) (base k y : Nat) : Nat :=
  base + (y / 16 * l.twn + k / 64) * l.tb + y % 16 * (l.tb / 16) + k % 64 * (l.tb / 1024)

/-- The stored value of a tiled or planar sample. -/
def Lay.sample (l : Lay) (v : Nat) (fill : Bool) : Nat :=
  if l.ofmt = 5 then (if fill then 0x8000 else quant 10 v * 64) else if fill then 0x80 else quant 8 v

/-- A row of samples (value, fill) of a tiled plane, padded to whole tiles with the last `rep` samples, and below the
last row with that row (R450, R456). -/
def Lay.tileRow (l : Lay) (base rep y rows : Nat) (smp : List (Nat × Bool)) : List OutCell :=
  let w := smp.length
  let ys := if y + 1 = rows then (List.range (cdiv rows 16 * 16 - y)).map (· + y) else [y]
  ys.flatMap fun yy => (List.range (l.twn * 64)).flatMap fun k =>
    let p := lget (0, false) smp (if k < w then k else w - rep + k % rep)
    cellsOf (l.tileAt base k yy) (l.tb / 1024) (l.sample p.1 p.2) (p.2 && decide (k < w) && yy == y)

/-- Chroma samples of a 4:2:0 row from two rows of pixels: Cb, Cr in turn, each with its fill (R446). -/
def Lay.chroma420 (l : Lay) : List Px → List Px → List (Nat × Bool)
  | a :: b :: r, c :: d :: t =>
    let z := [a, b, c, d].map fun p => yuvOf l.matrix l.full p.1
    let bad := a.2 || b.2 || c.2 || d.2
    ((z.foldl (fun n q => n + q.2.1) 2) / 4, bad) :: ((z.foldl (fun n q => n + q.2.2) 2) / 4, bad) :: l.chroma420 r t
  | _, _ => []

/-- The bytes of a YUY2 row (R446, R449). -/
def Lay.yuy2 (l : Lay) : Nat → List Px → List OutCell
  | o, a :: b :: r =>
    let p := yuvOf l.matrix l.full a.1
    let q := yuvOf l.matrix l.full b.1
    let bad := a.2 || b.2
    cellsOf o 1 (l.sample p.1 a.2) a.2 ++ cellsOf (o + 1) 1 (l.sample ((p.2.1 + q.2.1 + 1) / 2) bad) bad
      ++ cellsOf (o + 2) 1 (l.sample q.1 b.2) b.2 ++ cellsOf (o + 3) 1 (l.sample ((p.2.2 + q.2.2 + 1) / 2) bad) bad
      ++ l.yuy2 (o + 4) r
  | _, _ => []

/-- The cells that output row `y` writes; `prev` is the row before (R449, R450, R455). -/
def Lay.rowCells (l : Lay) (y : Nat) (prev row : List Px) : List OutCell :=
  let xs := row.zipIdx
  let luma := row.map fun p => ((yuvOf l.matrix l.full p.1).1, p.2)
  match l.ofmt with
  | 0 => xs.flatMap fun p =>
    let q := rgbOf p.1.1
    ((if l.swap then q.reverse else q).zipIdx).flatMap fun c =>
      cellsOf (y * l.stride + 3 * p.2 + c.2) 1 (if p.1.2 then 0x80 else quant 8 c.1) p.1.2
  | 1 => xs.flatMap fun p =>
    let q := rgbOf p.1.1
    ((if l.swap then q else q.reverse).zipIdx).flatMap (fun c =>
      cellsOf (y * l.stride + 4 * p.2 + c.2) 1 (if p.1.2 then 0x80 else quant 8 c.1) p.1.2)
      ++ cellsOf (y * l.stride + 4 * p.2 + 3) 1 l.alpha p.1.2
  | 2 =>
    (luma.zipIdx).flatMap (fun p => cellsOf (y * l.stride + p.2) 1 (l.sample p.1.1 p.1.2) p.1.2) ++
    (if y % 2 = 1 then ((l.chroma420 prev row).zipIdx).flatMap (fun p =>
      cellsOf (l.stride * l.oh + y / 2 * l.stride + p.2) 1 (l.sample p.1.1 p.1.2) p.1.2) else [])
  | 3 => l.yuy2 (y * l.stride) row
  | 4 => l.tileRow 0 1 y l.oh luma ++ (if y % 2 = 1 then l.tileRow l.cb 2 (y / 2) (l.oh / 2) (l.chroma420 prev row) else [])
  | 5 => l.tileRow 0 1 y l.oh luma ++ (if y % 2 = 1 then l.tileRow l.cb 2 (y / 2) (l.oh / 2) (l.chroma420 prev row) else [])
  | 7 => xs.flatMap fun p => (List.range l.nch).flatMap fun c =>
    cellsOf (l.tensorAt p.2 y c) 1 (l.tensorVal (if p.1.2 then 32896 else l.chan p.1.1 c) c) p.1.2
  | _ => (List.range l.nch).flatMap fun c => xs.flatMap fun p =>
    cellsOf (l.tensorAt p.2 y c) l.elem (l.tensorVal (if p.1.2 then 32896 else l.chan p.1.1 c) c) p.1.2

/-- Cells gathered into runs of consecutive bytes within one 32-byte sector, each poisoned if it holds a fill. -/
def runsOf : List OutCell → List (Nat × Bytes × Bool)
  | [] => []
  | (a, b, f) :: r =>
    match runsOf r with
    | (a2, bs, f2) :: t => if a2 = a + 1 ∧ a2 % 32 ≠ 0 then (a, b :: bs, f || f2) :: t else (a, [b], f) :: (a2, bs, f2) :: t
    | [] => [(a, [b], f)]

/-- Cells written to a buffer. -/
def State.putCells (s : State) (base : Nat) (l : List OutCell) (who : Initiator := .fmt) (cls : Qos := .line) : State :=
  (runsOf l).foldl (fun t r => t.unitWrite who cls (base + r.1) r.2.1 r.2.2) s

/-! ## Frames -/

/-- A position `lines` later than position `p` of frame `f` (R17). -/
def State.posPlus (s : State) (d f p lines : Nat) : Nat × Nat :=
  let n := (s.dom d).flenM1 + 1
  let l := p / 256 + lines
  ((f + l / n) % 2 ^ 32, l % n * 256 + p % 256)

/-- Whether a stream is enabled and bound to a source (R21, R461). -/
def State.fmtBound (s : State) (i n : Nat) : Bool :=
  s.rb (Addr.fmtOsCtrl n) 31 && s.rf (Addr.fmtOsCtrl n) 11 8 == i && s.rb Addr.fmtCtrl 0

/-- The scaling of a stream for its source's frame. -/
def State.scaleOf (s : State) (i n : Nat) (c : List Word) (vreg : Word) : Scale :=
  let g k := lget 0 c k
  let w := s.rf (Addr.fmtSrcCfg i) 13 0
  let h := s.rf (Addr.fmtSrcSize i) 15 0
  let vh := if vreg = 0xFFFFFFFF then h else min h (fld vreg 31 16)
  let vw := if vreg = 0xFFFFFFFF then w else min w (fld vreg 15 0)
  { cx := fld (g 0) 15 0, cy := fld (g 0) 31 16, cw := fld (g 1) 15 0, ch := fld (g 1) 31 16, ow := fld (g 2) 15 0,
    oh := fld (g 2) 31 16, hiX := min (fld (g 0) 15 0 + fld (g 1) 15 0) vw, hiY := min (fld (g 0) 31 16 + fld (g 1) 31 16) vh,
    bank := s.rf (Addr.fmtOsCtrl n) 18 16, nc := if sfmtRgb (s.rf (Addr.fmtSrcCfg i) 26 24) then 3 else 1 }

/-- A stream skips a frame (R434-R436, R468). -/
def State.fmtSkipFrame (s : State) (n d cause : Nat) : State :=
  (s.inc (Addr.fmtOsSkips n) 1).raise .fmtSkip 0x09 n (some d) [(4, 1), (2, 0), (1, cause)]

/-- The first and last filled row with row `y` added. -/
def addFill (f : Option (Nat × Nat)) (y : Nat) : Option (Nat × Nat) :=
  match f with | some (a, _) => some (a, y) | none => some (y, y)

/-- The output rows that the rows held allow, from the stream's next one (R442). `rows` are those held, `next` the rows
received. -/
def State.emitRows (s : State) (n : Nat) (g : Scale) (l : Lay) (base : Nat) (rows : List FmtRow) (next : Nat) : Nat → State
  | 0 => s
  | fuel + 1 =>
    let x := s.fout n
    if g.oh ≤ x.y then s
    else
      let taps := g.tapRows x.y
      if g.empty = true ∨ taps.all (· < next) = true then
        let row := s.scaleRow g rows x.y
        let s := s.putCells base (l.rowCells x.y x.prev row)
        let gap := !g.empty && taps.any fun r => (rowOf rows r).gap
        let s := s.setFout n { x with
          y := x.y + 1, prev := row, fill := if row.any (·.2) then addFill x.fill x.y else x.fill,
          gapRow := match x.gapRow with | some r => some r | none => if gap then some x.y else none }
        s.emitRows n g l base rows next fuel
      else s

/-- Rows arrive at a source: every stream that processes the frame writes what they allow; the last five stay. -/
def State.feedRows (s : State) (i : Nat) (new : List FmtRow) : State :=
  match new with
  | [] => s
  | _ =>
    let x := s.fsrc i
    let rows := x.rows ++ new
    let next := x.next + new.length
    let s := forEach (List.range 48) (fun n t =>
      let o := t.fout n
      if t.fmtBound i n = true ∧ o.active = true then
        match o.buf with
        | some (p, b) =>
          let g := t.scaleOf i n o.cfg x.vreg
          t.emitRows n g (t.layOf n o.cfg) (t.bufAddr p b) rows next (g.oh - o.y)
        | none => t
      else t) s
    let s := s.setFsrc i { s.fsrc i with next := next, rows := rows.drop (rows.length - 5) }
    s.setRf (Addr.fmtSrcStatus i) 31 16 next

/-- `k` poisoned rows from row `r`. -/
def gapRows (r k : Nat) : List FmtRow := (List.range k).map fun j => ⟨r + j, true, []⟩

/-- Rows missing before row `r` are treated as poisoned (R430). -/
def State.fillGap (s : State) (i r : Nat) : State :=
  let x := s.fsrc i
  if x.next < r then (s.setFsrc i { x with gaps := x.gaps + 1 }).feedRows i (gapRows x.next (r - x.next)) else s

/-- The valid-region word of a stream's item (R453). -/
def Lay.vregOut (l : Lay) (c : List Word) (vreg : Word) : Word :=
  if vreg = 0xFFFFFFFF then (if l.mv then w32 (l.oh * 65536 + l.ow) else 0xFFFFFFFF)
  else
    let one v o crop out := min out ((v - o) * out / crop)
    w32 (one (fld vreg 31 16) (fld (lget 0 c 0) 31 16) (fld (lget 0 c 1) 31 16) l.oh * 65536
      + one (fld vreg 15 0) (fld (lget 0 c 0) 15 0) (fld (lget 0 c 1) 15 0) l.ow)

/-- A stream's deadline for a frame whose FRAME_END its source pops now (R459). -/
def State.fmtDue (s : State) (d : Nat) : Option (Nat × Nat × Nat) :=
  if (s.dom d).running then
    let q := s.posPlus d (s.dom d).frame (s.pub d) 8
    some (d, q.1, q.2)
  else none

/-- A stream completes the frame of its source (R452, R453, R455, R468). -/
def State.fmtComplete (s : State) (i n : Nat) : State :=
  let x := s.fsrc i
  let o := s.fout n
  let l := s.layOf n o.cfg
  match o.buf with
  | none => s.setFout n { o with active := false }
  | some b =>
    let rows := if l.mv then l.th else l.oh
    let flags := fFrameEnd + (if x.trunc then fTrunc else 0) + (if x.late then fLate else 0) + (if x.missing then fMissing else 0)
      + (if o.fill = none then 0 else fPoisoned) + (if x.excluded then fExcluded else 0)
    let md := mkMeta (hOs n) x.domain x.frame x.bucket flags (rows - 1) 0
    let s := s.setFout n { o with active := false, buf := none, prev := [], gapRow := none, fill := none,
                                  done := some ⟨md, l.vregOut o.cfg x.vreg, some b⟩, deadline := s.fmtDue x.domain }
    let s := s.setReg (Addr.fmtOsProws n) (match o.fill with | some (a, z) => w32 (z * 65536 + a) | none => 0xFFFF)
    if x.gaps = 0 then s
    else s.raise .fmtGap 0x09 n (some x.domain) [(4, x.gaps), (2, o.gapRow.getD 0)]

/-- The frame of a source ends (R430): missing rows are poisoned, every stream in it completes. -/
def State.fmtEndFrame (s : State) (i : Nat) : State :=
  let h := s.rf (Addr.fmtSrcSize i) 15 0
  let x := s.fsrc i
  let s := if x.next < h ∧ x.missing = false then (s.setFsrc i { x with trunc := true }).fillGap i h else s
  let s := forEach (List.range 48) (fun n t =>
    if t.fmtBound i n = true ∧ (t.fout n).active = true then t.fmtComplete i n else t) s
  (s.setFsrc i { s.fsrc i with inFrame := false, rows := [] }).setRf Addr.fmtStatus i i 0

/-- A stream meets the first item of a frame (R431, R433-R436, R461). -/
def State.fmtBegin (s : State) (i n : Nat) (missing : Bool) : State :=
  let x := s.fsrc i
  let o := s.fout n
  let c := s.fmtCfgWords n
  let ctrl := s.reg (Addr.fmtOsCtrl n)
  let l := s.layOf n c
  if s.fmtBound i n = false ∨ fld (lget 0 c 1) 15 0 = 0 ∨ fld (lget 0 c 1) 31 16 = 0 then s
  else if s.fullFrame x.domain x.frame % (fld ctrl 27 24 + 1) ≠ fld ctrl 23 20 then s
  else if o.done ≠ none then s.fmtSkipFrame n x.domain 1
  else if bit ctrl 30 = true ∧ o.release = false then s.fmtSkipFrame n x.domain 3
  else
    let o := { o with release := if bit ctrl 30 then false else o.release, cfg := c, y := 0, prev := [], fill := none, gapRow := none }
    if l.ow = 0 ∨ l.oh = 0 then s.setFout n { o with active := true, buf := none }
    else if missing then
      let md := mkMeta (hOs n) x.domain x.frame x.bucket (fMissing + fFrameEnd + (if x.late then fLate else 0)
        + (if x.excluded then fExcluded else 0)) 0 0
      (s.setFout n { o with done := some ⟨md, 0xFFFFFFFF, none⟩, deadline := s.fmtDue x.domain }).raise
        .fmtGap 0x09 n (some x.domain) [(4, 1), (2, 0)]
    else
      match s.alloc (hOs n) (s.rf (Addr.fmtOsDest n) 20 16) with
      | (some b, t) =>
        let p := s.rf (Addr.fmtOsDest n) 20 16
        (t.setFout n { o with active := true, buf := some (p, b) }).putCells (t.bufAddr p b) l.padding
      | (none, t) => t.fmtSkipFrame n x.domain 0

/-- Rows FIRST to LAST of an item, read from its buffer (R427). -/
def State.readRows (s : State) (i base first from_ : Nat) : Nat → List FmtRow × State
  | 0 => ([], s)
  | k + 1 =>
    let f := s.rf (Addr.fmtSrcCfg i) 26 24
    let w := s.rf (Addr.fmtSrcCfg i) 13 0
    let stride := s.rf (Addr.fmtSrcStride i) 23 6 * 64
    let got := s.unitRead .fmt .line (base + (from_ - first) * stride) (w * sfmtBytes f)
    let l := got.1
    let s := got.2
    let got := s.readRows i base first (from_ + 1) k
    let r := got.1
    let s := got.2
    (⟨from_, false, rowPixels f w l⟩ :: r, s)

/-- A flag of an item's metadata: bit 0 TRUNCATED up to bit 6 EXCLUDED (R383). -/
def mdFlag (md : BitVec 64) (k : Nat) : Bool := mfld md (32 + k) (32 + k) == 1

/-- An item starts a frame at its source, and every stream meets it (R430, R431). -/
def State.fmtOpen (s : State) (i : Nat) (it : Item) : State :=
  let md := it.md
  let frame := mfld md 52 42
  let s := s.setFsrc i { inFrame := true, frame := frame, domain := mfld md 55 53, bucket := mfld md 41 39,
                         excluded := mdFlag md 6, missing := mdFlag md 2, late := mdFlag md 1, trunc := mdFlag md 0, vreg := it.vreg }
  let s := s.setReg (Addr.fmtSrcStatus i) (w32 frame)
  let s := s.setRf Addr.fmtStatus i i 1
  forEach (List.range 48) (fun n t => t.fmtBegin i n (mdFlag md 2)) s

/-- An item goes on with its source's frame: EXCLUDED, LATE and TRUNCATED gather (R431). -/
def State.fmtJoin (s : State) (i : Nat) (it : Item) : State :=
  let x := s.fsrc i
  s.setFsrc i { x with excluded := x.excluded || mdFlag it.md 6, late := x.late || mdFlag it.md 1, trunc := x.trunc || mdFlag it.md 0 }

/-- The last row of an item, plus 1: at most 64 rows, within the source's height (R427). -/
def State.fmtLast (s : State) (i : Nat) (it : Item) : Nat :=
  min (min (mfld it.md 31 16 + 1) (mfld it.md 15 0 + 64)) (s.rf (Addr.fmtSrcSize i) 15 0)

/-- The rows of an item reach the streams: a stale item is dropped, the rows of a MISSING or bufferless one are poisoned, and rows left
out before it are too (R427, R429, R430, R465). -/
def State.fmtItemRows (s : State) (i : Nat) (it : Item) (first : Bool) : State :=
  let a := mfld it.md 15 0
  let z := s.fmtLast i it
  let from_ := max a (s.fsrc i).next
  if hdPool it.handle ≠ 63 ∧ s.fresh? it.handle = false then s.raiseC .staleHandle .dropped 0x08 i (some (s.fsrc i).domain) []
  else if (s.fsrc i).missing = true ∧ first = true then s
  else if z ≤ from_ then s
  else if mdFlag it.md 2 = true ∨ hdPool it.handle = 63 then
    let s := s.fillGap i from_
    (s.setFsrc i { s.fsrc i with gaps := (s.fsrc i).gaps + 1 }).feedRows i (gapRows from_ (z - from_))
  else
    let s := s.fillGap i from_
    let got := s.readRows i (s.bufAddr (hdPool it.handle) (hdIdx it.handle)) a from_ (z - from_)
    got.2.feedRows i got.1

/-- What a source does with a popped item (R427-R431, R465): a frame of another number ends first; the item's rows are processed, its
buffer is released, and FRAME_END ends the frame. -/
def State.fmtTake (s : State) (i : Nat) (it : Item) : State :=
  let s := if (s.fsrc i).inFrame = true ∧ (s.fsrc i).frame ≠ mfld it.md 52 42 then s.fmtEndFrame i else s
  let first := !(s.fsrc i).inFrame
  let s := if first then s.fmtOpen i it else s.fmtJoin i it
  let s := s.fmtItemRows i it first
  let s := s.dropItem it
  if mdFlag it.md 3 then s.fmtEndFrame i else s

/-- `FMT_SOURCE_POP`: R427-R436, R438-R450, R454, R455, R461, R462, R465, R466, R468. -/
def execFmtSourcePop (i : Nat) (s : State) : Host.Outcome State Fault Refusal :=
  .next (if i < 16 ∧ s.rb (Addr.fmtSrcCfg i) 31 = true ∧ s.rb Addr.fmtCtrl 0 = true then
    match s.unitPop (hSrc i) (s.rf (Addr.fmtSrcCfg i) 21 16) with
    | (some it, t) => t.fmtTake i it
    | (none, t) => t
  else s)

/-- The handle that a completed item carries: that of its buffer, or a placeholder's. -/
def State.doneHandle (s : State) (d : FmtDone) : Word :=
  match d.buf with
  | some b => s.handle b.1 b.2
  | none => placeholder

/-- A stream pushes its completed item, or waits for a credit (R394, R436, R463, R467). -/
def State.fmtPush (s : State) (n : Nat) : State :=
  let o := s.fout n
  match o.done with
  | none => s
  | some d =>
    let q := s.rf (Addr.fmtOsDest n) 29 24
    match s.push (hOs n) q ⟨s.doneHandle d, d.md, d.vreg⟩ with
    | (.done, t) =>
      let t := (t.setFout n { o with done := none, deadline := none }).incWrap (Addr.fmtOsFrames n) 1
      if mfld d.md 37 37 = 1 then t.setStat 5 n 2 (· + 1) else t
    | (.noCredit, t) => t.waitPush (hOs n) q
    | (_, t) => t

/-- `FMT_STREAM_PUSH`: R35, R38, R391, R394, R429, R436, R452, R453, R467. -/
def execFmtStreamPush (n : Nat) (s : State) : Host.Outcome State Fault Refusal := .next (if n < 48 then s.fmtPush n else s)

/-- `FMT_DEADLINE`: R36, R459, R468. -/
def execFmtDeadline (n : Nat) (s : State) : Host.Outcome State Fault Refusal :=
  .next (
    let o := s.fout n
    match o.done, o.deadline with
    | some d, some (dm, f, p) =>
      if n < 48 ∧ (s.dom dm).running = true ∧ s.posReached dm f p = true then
        let s := s.setFout n { o with done := some { d with md := msetFld d.md 33 33 1 }, deadline := none }
        (s.setStat 5 n 3 (· + 1)).raise .fmtLate 0x09 n (some dm) [(4, 1), (2, 0)]
      else s
    | _, _ => s)

/-! ## Registers of the formatter -/

/-- Line-store bytes that a source needs (R428). -/
def State.lsNeed (s : State) (i : Nat) : Nat :=
  let c := s.reg (Addr.fmtSrcCfg i)
  (if sfmtRgb (fld c 26 24) then 30 else 10) * fld c 13 0

/-- Line-store bytes committed to the enabled sources. -/
def State.lsUsed (s : State) : Nat :=
  ((List.range 16).filter fun i => s.rb (Addr.fmtSrcCfg i) 31).foldl (fun a i => a + s.lsNeed i) 0

/-- A source is disabled (R394, R464). -/
def State.fmtSrcOff (s : State) (i : Nat) : State :=
  let s := forEach (List.range 48) (fun n t =>
    let o := t.fout n
    if t.rf (Addr.fmtOsCtrl n) 11 8 = i ∧ o.active = true then
      (t.giveBack o.buf).setFout n { o with active := false, buf := none, prev := [] }
    else t) s
  let s := (s.setFsrc i {}).setRf Addr.fmtStatus i i 0
  s.unwait (hSrc i) (s.rf (Addr.fmtSrcCfg i) 21 16)

/-- A write of FMT_SRC_s_CFG (R428, R464). -/
def State.fmtSrcWrite (s : State) (i : Nat) (v : Word) : State :=
  let a := Addr.fmtSrcCfg i
  let was := s.rb a 31
  let t := s.putReg a v
  let t :=
    if was = false ∧ t.rb a 31 = true ∧ 983040 < t.lsUsed then (t.setRf a 31 31 0).cfgErr 0x08 i
    else if was = true ∧ t.rb a 31 = false then (s.fmtSrcOff i).putReg a v
    else t
  t.setReg Addr.fmtLsUsed (w32 t.lsUsed)

/-- `FMT_SOURCE_ENABLE`: R428. -/
def execFmtSourceEnable (i : Nat) (v : Word) (s : State) : Host.Outcome State Fault Refusal :=
  .next (if i < 16 then s.fmtSrcWrite i v else s)

/-- `FMT_SOURCE_DISABLE`: R464. -/
def execFmtSourceDisable (i : Nat) (v : Word) (s : State) : Host.Outcome State Fault Refusal :=
  .next (if i < 16 then s.fmtSrcWrite i v else s)

/-- Whether a scaling from crop to out is within 4x to 1/16 (R437). -/
def ratioOk (crop out : Nat) : Bool := decide (out ≤ 4 * crop) && decide (crop ≤ 16 * out)

/-- Whether a stream may be enabled (R432, R437, R448, R449, R451, R461). -/
def State.fmtCanEnable (s : State) (n : Nat) : Bool :=
  let i := s.rf (Addr.fmtOsCtrl n) 11 8
  let l := s.layOf n (s.fmtCfgWords n)
  let cx := s.rf (Addr.fmtOsCropXy n) 15 0
  let cy := s.rf (Addr.fmtOsCropXy n) 31 16
  let cw := s.rf (Addr.fmtOsCropWh n) 15 0
  let ch := s.rf (Addr.fmtOsCropWh n) 31 16
  let pad := s.reg (Addr.fmtOsPadWh n)
  let others := (List.range 48).filter fun k => k != n && s.rb (Addr.fmtOsCtrl k) 31 && s.rf (Addr.fmtOsCtrl k) 11 8 == i
  let none_ := cw == 0 || ch == 0 || l.ow == 0 || l.oh == 0
  decide (others.length < 6) &&
  (none_ ||
    (decide (cx + cw ≤ s.rf (Addr.fmtSrcCfg i) 13 0) && decide (cy + ch ≤ s.rf (Addr.fmtSrcSize i) 15 0) &&
     ratioOk cw l.ow && ratioOk ch l.oh &&
     (!l.mv || ((fld pad 15 0 == 0 || decide (l.ow ≤ fld pad 15 0)) && (fld pad 31 16 == 0 || decide (l.oh ≤ fld pad 31 16)))) &&
     decide (l.sizes.1 ≤ l.stride || l.ofmt == 4 || l.ofmt == 5) &&
     decide (l.sizes.2 ≤ s.plSize (s.rf (Addr.fmtOsDest n) 20 16)) &&
     (!(decide (2 ≤ l.ofmt) && decide (l.ofmt ≤ 5)) || l.ow % 2 == 0) &&
     (!(l.ofmt == 2 || l.ofmt == 4 || l.ofmt == 5) || l.oh % 2 == 0) &&
     (l.nch != 4 || l.ofmt == 7)))

/-- A stream is disabled (R463): the completed item first, then the buffer in progress. -/
def State.fmtOsOff (s : State) (n : Nat) : State :=
  let s := s.fmtPush n
  let o := s.fout n
  (s.giveBack o.buf).setFout n { o with active := false, buf := none, prev := [] }

/-- A write of FMT_OS_n_CTRL (R20, R432, R437, R462, R463): FPHASE with FSTRIDE_M1, SRC only while disabled. -/
def State.fmtOsWrite (s : State) (n : Nat) (v : Word) : State :=
  let a := Addr.fmtOsCtrl n
  let old := s.reg a
  let was := bit old 31
  let badPhase := (fld v 27 24 != fld old 27 24 || fld v 23 20 != fld old 23 20) && decide (fld v 27 24 < fld v 23 20)
  let badSrc := was && fld v 11 8 != fld old 11 8
  let s := s.noteRsvd a v
  let w := if badPhase then setFld (setFld v 27 24 (fld old 27 24)) 23 20 (fld old 23 20) else v
  let w := if badSrc then setFld w 11 8 (fld old 11 8) else w
  let badCoef := decide (7 < fld v 19 16)
  let w := if badCoef then setFld w 19 16 (fld old 19 16) else w
  let w := setFld (setFld w 29 28 0) 15 12 0
  let s := if was = true ∧ bit v 31 = false then s.fmtOsOff n else s
  let s := s.setReg a w
  let badEn := !was && bit v 31 && !s.fmtCanEnable n
  let s := if badEn then s.setRf a 31 31 0 else s
  if badPhase || badSrc || badCoef || badEn then s.cfgErr 0x09 n else s

/-- `FMT_STREAM_ENABLE`: R432, R437, R448, R449, R451, R461. -/
def execFmtStreamEnable (n : Nat) (v : Word) (s : State) : Host.Outcome State Fault Refusal :=
  .next (if n < 48 then s.fmtOsWrite n v else s)

/-- `FMT_STREAM_DISABLE`: R463. -/
def execFmtStreamDisable (n : Nat) (v : Word) (s : State) : Host.Outcome State Fault Refusal :=
  .next (if n < 48 then s.fmtOsWrite n v else s)

/-- A write of a word of a coefficient bank (R441, R469). -/
def State.fmtCoefPut (s : State) (b word : Nat) (v : Word) : State :=
  let used := (List.range 48).any fun n => s.rb (Addr.fmtOsCtrl n) 31 && s.rf (Addr.fmtOsCtrl n) 18 16 == b
  if b = 0 ∨ used = true then s.cfgErr 0x17 0 else s.setReg (Addr.fmtCoef b + 4 * word) v

/-- `FMT_COEF_WRITE`: R441, R469. -/
def execFmtCoefWrite (b word : Nat) (v : Word) (s : State) : Host.Outcome State Fault Refusal :=
  .next (if b < 8 ∧ word < 448 then s.fmtCoefPut b word v else s)

/-- A write of FMT_OS_n_DEST (R462). -/
def State.fmtDestWrite (s : State) (n : Nat) (v : Word) : State :=
  if s.rb (Addr.fmtOsCtrl n) 31 then s.refuse (Addr.fmtOsDest n) v else s.putReg (Addr.fmtOsDest n) v

end Sys2Proof.Machine
end

