-- ==== Sys2Proof/Machine/Pass.lean ====
section
/-! DEFINITION. The pass unit's own commands (R386, R387, R395-R404, R411-R413, R420, R421, R862) and the audits of the
three audited blocks (R412, R413, R656, R657). -/

namespace Sys2Proof.Machine

open Sys2Proof

/-- Whether a queue is locked (R411). -/
def State.pqLocked (s : State) (q : Nat) : Bool :=
  nbit (s.reg (if q < 32 then Addr.passPqLockLo else Addr.passPqLockHi)).toNat (q % 32) == 1

/-- DEPTH of a queue. -/
def State.pqDepth (s : State) (q : Nat) : Nat := s.rf (Addr.passPqCfg q) 4 0

/-- A write of PASS_PQ_n_CFG (R21, R404, R411, R420, R863): one that would make DEPTH 0 is rejected; DEPTH is written only while EN
is 0; EN is refused while DEPTH holds 0; setting EN gives the queue DEPTH credits; clearing it flushes. -/
def State.pqCfgWrite (s : State) (q : Nat) (v : Word) : State :=
  let a := Addr.passPqCfg q
  let en := s.rb a 31
  let d := fld v 4 0
  if s.pqLocked q = true ∨ (d = 0 ∧ s.pqDepth q ≠ 0) then s.refuse a v
  else
    let s := s.noteRsvd a v
    let bad := d != s.pqDepth q && (en || decide (16 < d))
    let s := if bad then s.cfgErr 0x05 q else s.setRf a 4 0 d
    if bit v 31 = true ∧ en = false then
      if s.pqDepth q = 0 then s.cfgErr 0x05 q
      else
        let x := s.queue q
        (s.setRf a 31 31 1).setQueue q { x with credits := s.pqDepth q - x.items.length }
    else if bit v 31 = false ∧ en = true then (s.setRf a 31 31 0).flushStart q
    else s

/-- `PQ_ENABLE`: R381, R420, R863. -/
def execPqEnable (q : Nat) (v : Word) (s : State) : Host.Outcome State Fault Refusal :=
  .next (if q < 64 then s.pqCfgWrite q v else s)

/-- `PQ_DISABLE`: R404, R411. -/
def execPqDisable (q : Nat) (v : Word) (s : State) : Host.Outcome State Fault Refusal :=
  .next (if q < 64 then s.pqCfgWrite q v else s)

/-- `PQ_FLUSH`: a write of 1 to PASS_PQ_n_FLUSH (R401 step 1, R402, R411). -/
def State.pqFlushCmd (s : State) (q : Nat) : State :=
  if s.pqLocked q then s.cfgErr 0x05 q else s.flushStart q

/-- `PQ_FLUSH`: R401, R402, R411, R414. -/
def execPqFlush (q : Nat) (s : State) : Host.Outcome State Fault Refusal := .next (if q < 64 then s.pqFlushCmd q else s)

/-- `PQ_FLUSH_COMPLETE`: R401 steps 2-4, R403, R404. -/
def execPqFlushComplete (q : Nat) (s : State) : Host.Outcome State Fault Refusal :=
  .next (if q < 64 ∧ (s.queue q).flushing = true then s.flushEnd q else s)

/-- The holders that a REVOKE write names (R398). -/
def revokeNames (hi : Bool) (mask : Word) : List Nat :=
  if hi then (maskBits mask.toNat 4).map hCpu else maskBits mask.toNat 32

/-- A REVOKE write (R397, R398): a bump begins, unless it names a context in READY or a wait state. -/
def State.revoke (s : State) (p : Nat) (hi : Bool) (mask : Word) : State :=
  let names := revokeNames hi mask
  let s := if hi then s.noteRsvd (Addr.passPlRevokeHi p) mask else s
  if (!hi && names.any fun k => (s.ctx k).state.live) then s.cfgErr 0x06 p
  else match (s.pool p).bump with
    | some _ => s
    | none => s.setPool p { s.pool p with bump := some names }

/-- `POOL_REVOKE`: R397, R398, R400, R415. -/
def execPoolRevoke (p : Nat) (hi : Bool) (mask : Word) (s : State) : Host.Outcome State Fault Refusal :=
  .next (if p < 32 then s.revoke p hi mask else s)

/-- The bump of a pool performed, once no queue that holds its items is flushing (R397, R400). -/
def State.bumpDone (s : State) (p : Nat) : State :=
  match (s.pool p).bump with
  | some names => if s.flushHolds p then s else s.bumpPool p names
  | none => s

/-- `POOL_BUMP_COMPLETE`: R397, R400. -/
def execPoolBumpComplete (p : Nat) (s : State) : Host.Outcome State Fault Refusal := .next (if p < 32 then s.bumpDone p else s)

/-- A write of PASS_CTRL (R421). -/
def State.passCtrlSet (s : State) (v : Word) : State :=
  let busy := (List.range 64).any (fun q => s.rb (Addr.passPqCfg q) 31) ||
    (List.range 32).any fun p => (s.pool p).held != [] || (s.pool p).queued != []
  if s.rb Addr.passCtrl 0 = true ∧ bit v 0 = false ∧ busy = true then s.refuse Addr.passCtrl v
  else s.putReg Addr.passCtrl v

/-- `PASS_CTRL_WRITE`: R421. -/
def execPassCtrlWrite (v : Word) (s : State) : Host.Outcome State Fault Refusal := .next (s.passCtrlSet v)

/-! ## Pools as registers -/

/-- Whether a pool may be enabled with a base, a size and a count (R386). -/
def plFits (base size count : Nat) : Bool :=
  decide (64 ≤ size) && decide (size ≤ 268435456) && decide (dramBase ≤ base) && decide (base + size * count ≤ dramEnd)

/-- Whether every handle of a pool is free (R387). -/
def State.plIdle (s : State) (p : Nat) : Bool := decide ((s.pool p).held = []) && decide ((s.pool p).queued = [])

/-- A write of a pool's BASE, SIZE or CFG (R386, R387, R389): `a` is the register. -/
def State.plWrite (s : State) (p a : Nat) (v : Word) : State :=
  if s.plIdle p = false then s.refuse a v
  else
    let t := s.putReg a v
    let n := t.plCount p
    let bad := decide (4096 < n) || (n != 0 && !plFits (t.plBase p) (t.plSize p) n) ||
      (a == Addr.passPlSize p && t.plSize p != s.plSize p && !(decide (64 ≤ t.plSize p) && decide (t.plSize p ≤ 268435456)))
    if bad then s.refuse a v
    else if a = Addr.passPlCfg p ∧ n ≠ s.plCount p then t.setPool p { t.pool p with free := List.range n }
    else t

/-! ## Software register sets -/

/-- Whether an initiator may use software set k (R395). -/
def swOwner (who : Initiator) (k : Nat) : Bool := who == .cpu k

/-- The status of a software set. -/
def State.swStatus (s : State) (k v : Nat) : State := s.setReg (Addr.passSwStatus k) (w32 v)

/-- A software operation on a handle it may not use (R388, R396). -/
def State.swStale (s : State) (k : Nat) (detail : List (Nat × Nat)) : State :=
  (s.swStatus k 3).raise .swHandle 0x0F k none detail

/-- A software set's command by its owner, else ignored with E_CFG (R395). -/
def swCmd (who : Initiator) (k : Nat) (f : State → State) (s : State) : Host.Outcome State Fault Refusal :=
  .next (if 4 ≤ k then s else if swOwner who k then f s else s.cfgErr 0x17 0)

/-- PL of a software set. -/
def State.swPl (s : State) (k : Nat) : Nat := s.rf (Addr.passSwSel k) 20 16
/-- PQ of a software set. -/
def State.swPq (s : State) (k : Nat) : Nat := s.rf (Addr.passSwSel k) 5 0

/-- A software POP (R388, R390, R392, R395). -/
def State.swPopCmd (s : State) (k : Nat) : State :=
  let q := s.swPq k
  let s := match (s.queue q).items with | it :: _ => s.bumpDone (hdPool it.handle) | [] => s
  match (s.queue q).items, s.canPop (hCpu k) q with
  | it :: _, true =>
    match s.whyStale it.handle HState.isQueued with
    | some d => s.swStale k d
    | none =>
      let s := (s.pop (hCpu k) q).2
      let got := s.addrWord it.handle
      let a := got.1
      let s := got.2
      ((((((s.setReg (Addr.passSwHandle k) it.handle).setReg (Addr.passSwMetaLo k) (w32 (mfld it.md 31 0))).setReg
        (Addr.passSwMetaHi k) (w32 (mfld it.md 63 32))).setReg (Addr.passSwVreg k) it.vreg).setReg (Addr.passSwAddr k) a).swStatus k 0)
  | _, _ => s.swStatus k 1

/-- `SW_POP`: R388, R395, R400. -/
def execSwPop (who : Initiator) (k : Nat) (s : State) : Host.Outcome State Fault Refusal := swCmd who k (·.swPopCmd k) s

/-- A software ALLOC (R388, R389, R395, R421). -/
def State.swAllocCmd (s : State) (k : Nat) : State :=
  let p := s.swPl k
  let s := s.bumpDone p
  match s.alloc (hCpu k) p with
  | (some i, t) => ((t.setReg (Addr.passSwHandle k) (t.handle p i)).setReg (Addr.passSwAddr k) (w32 (t.bufAddr p i / 64))).swStatus k 0
  | (none, t) => t.swStatus k 1

/-- `SW_ALLOC`: R388, R389, R395, R400, R421. -/
def execSwAlloc (who : Initiator) (k : Nat) (s : State) : Host.Outcome State Fault Refusal := swCmd who k (·.swAllocCmd k) s

/-- A software RELEASE (R246, R388, R395, R416). -/
def State.swReleaseCmd (s : State) (k : Nat) : State :=
  let h := s.reg (Addr.passSwHandle k)
  if hdPool h = 63 then s.swStatus k 0
  else
    let s := s.bumpDone (hdPool h)
    match s.whyStale h HState.isHeld with
    | some d => s.swStale k d
    | none => (s.release (hdPool h) (hdIdx h)).swStatus k 0

/-- `SW_RELEASE`: R388, R395, R400, R416. -/
def execSwRelease (who : Initiator) (k : Nat) (s : State) : Host.Outcome State Fault Refusal := swCmd who k (·.swReleaseCmd k) s

/-- A software push, committed by the write of META_HI (R388, R396, R404). -/
def State.swPushCmd (s : State) (k : Nat) (v : Word) : State :=
  let s := s.setReg (Addr.passSwMetaHi k) v
  let s := { s with pass := { s.pass with staged := tset (fun _ => false) s.pass.staged k false } }
  let h := s.reg (Addr.passSwHandle k)
  let it : Item := ⟨h, BitVec.ofNat 64 (v.toNat * 2 ^ 32 + (s.reg (Addr.passSwMetaLo k)).toNat), s.reg (Addr.passSwVreg k)⟩
  let s := if hdPool h = 63 then s else s.bumpDone (hdPool h)
  match s.whyStale h HState.isHeld with
  | some d => s.swStale k d
  | none =>
    match s.push (hCpu k) (s.swPq k) it with
    | (.done, t) => t.swStatus k 0
    | (.noCredit, t) => t.swStatus k 1
    | (.flushed, t) => t.swStatus k 2
    | (.stale, _) => s.swStale k []

/-- `SW_PUSH`: R388, R395, R396. -/
def execSwPush (who : Initiator) (k : Nat) (v : Word) (s : State) : Host.Outcome State Fault Refusal := swCmd who k (·.swPushCmd k v) s

/-! ## Audits -/

/-- A result code in bits [31:30]. -/
def auditWord (result rest : Nat) : Word := w32 (result * 2 ^ 30 + rest)

/-- The first enabled queue whose credits and occupancy do not sum to DEPTH (R412). -/
def State.badQueue (s : State) : Option Nat :=
  (List.range 64).find? fun q => s.rb (Addr.passPqCfg q) 31 && (s.queue q).credits + (s.queue q).items.length != s.pqDepth q

/-- The first enabled pool whose indices do not sum to COUNT (R412). -/
def State.badPool (s : State) : Option Nat :=
  (List.range 32).find? fun p => s.plCount p != 0 &&
    (s.pool p).free.length + (s.pool p).held.length + (s.pool p).queued.length != s.plCount p

/-- Whether a flush, a bump or a pop is in progress (R413). -/
def State.passBusy (s : State) : Bool :=
  (List.range 64).any (fun q => (s.queue q).flushing) || (List.range 32).any (fun p => (s.pool p).bump != none) ||
  (List.range 8).any fun n => (s.core n).slots.any fun e => e.op == 0x40 && e.running && e.item != none

/-- What the pass audit finds (R412, R413): the status it will report and the detail of E_AUDIT. -/
def State.passAuditOf (s : State) : Audit :=
  if s.passBusy then ⟨auditWord 1 0, []⟩
  else match s.badQueue, s.badPool with
    | some q, _ => ⟨auditWord 2 (q * 2 ^ 16), [(1, 10), (1, q), (1, (s.queue q).credits), (1, (s.queue q).items.length)]⟩
    | none, some p => ⟨auditWord 2 (2 ^ 24 + p * 2 ^ 16),
        [(1, 10), (1, p), (2, (s.pool p).free.length), (2, (s.pool p).held.length + (s.pool p).queued.length)]⟩
    | none, none => ⟨auditWord 0 0, []⟩

/-- What the chain audit finds (R412, R413). -/
def State.wchAuditOf (s : State) : Audit :=
  if (List.range 8).any fun n => s.bypassWanted n != s.bypassed n then ⟨auditWord 1 0, []⟩
  else match (List.range 8).find? fun i => s.hopFree i + (s.hop i).length != 2 with
    | some i => ⟨auditWord 2 i, [(1, 11), (1, i), (1, s.hopFree i), (1, (s.hop i).length)]⟩
    | none => ⟨auditWord 0 0, []⟩

/-- What the memory audit finds (R656, R657). -/
def State.memAuditOf (s : State) : Audit :=
  match (List.range 8).find? fun i => (s.slice i).free.1 + (s.slice i).waiting.length != 384 with
  | some i => ⟨auditWord 2 i, [(1, 17), (1, i), (2, (s.slice i).free.1), (2, (s.slice i).waiting.length)]⟩
  | none =>
    match (List.range 8).find? fun i => (s.slice i).free.2 + (s.slice i).entries.length != 256 with
    | some i => ⟨auditWord 2 (2 ^ 24 + i), [(1, 17), (1, i), (2, (s.slice i).free.2), (2, (s.slice i).entries.length)]⟩
    | none => ⟨auditWord 0 0, []⟩

/-- The word of a status register while an audit runs. -/
def auditBusy : Word := auditWord 3 0

/-- A write of GO to PASS_AUDIT_CTRL (R412). -/
def State.passAuditCmd (s : State) : State :=
  match s.pass.audit with
  | some _ => s.cfgErr 0x17 0
  | none => { s with pass := { s.pass with audit := some s.passAuditOf } }.setReg Addr.passAuditStatus auditBusy

/-- A write of GO to WCH_AUDIT_CTRL (R412). -/
def State.wchAuditCmd (s : State) : State :=
  match s.wch.audit with
  | some _ => s.cfgErr 0x07 0
  | none => { s with wch := { s.wch with audit := some s.wchAuditOf } }.setReg Addr.wchAuditStatus auditBusy

/-- A write of GO to MEM_AUDIT_CTRL (R656). -/
def State.memAuditCmd (s : State) : State :=
  match s.ms.audit with
  | some _ => s.cfgErr 0x10 0
  | none => { s with ms := { s.ms with audit := some s.memAuditOf } }.setReg Addr.memAuditStatus auditBusy

/-- `PASS_AUDIT`: R412, R413. -/
def execPassAudit (s : State) : Host.Outcome State Fault Refusal := .next s.passAuditCmd
/-- `WCH_AUDIT`: R412, R413. -/
def execWchAudit (s : State) : Host.Outcome State Fault Refusal := .next s.wchAuditCmd
/-- `MEM_AUDIT`: R656, R657. -/
def execMemAudit (s : State) : Host.Outcome State Fault Refusal := .next s.memAuditCmd

/-- An audit reports, raising E_AUDIT of the collector on an imbalance (R412, R656, R862). -/
def State.auditReport (s : State) (a : Nat) (x : Audit) : State :=
  let s := s.setReg a x.result
  if x.raise = [] then s else s.raise .audit 0x1B 0 none x.raise

/-- `AUDIT_COMPLETE`: R412, R413, R656, R657, R862. -/
def execAuditComplete (b : AuditBlock) (s : State) : Host.Outcome State Fault Refusal :=
  .next (match b with
    | .pass => match s.pass.audit with
      | some x => { s with pass := { s.pass with audit := none } }.auditReport Addr.passAuditStatus x
      | none => s
    | .wch => match s.wch.audit with
      | some x => { s with wch := { s.wch with audit := none } }.auditReport Addr.wchAuditStatus x
      | none => s
    | .mem => match s.ms.audit with
      | some x => { s with ms := { s.ms with audit := none } }.auditReport Addr.memAuditStatus x
      | none => s)

end Sys2Proof.Machine
end

