-- ==== Sys2Proof/Machine/Venc.lean ====
section
/-! DEFINITION. The video encoders (R503-R550): sessions, pictures, rows, the reference pool, the command ring. What the
coder itself chooses (modes, vectors, bits) is constants of Config; which samples it reads, which units are coded from
fill, the group QPs of R520-R522 and the sizes of R531 are computed here. -/

namespace Sys2Proof.Machine

open Sys2Proof

/-! ## Accessors -/

/-- A session, by 16 * engine + session. -/
def State.vsess (s : State) (k : Nat) : VSess := tget (fun _ => {}) s.venc.sess k
/-- The state with a session replaced. -/
def State.setVsess (s : State) (k : Nat) (x : VSess) : State :=
  { s with venc := { s.venc with sess := tset (fun _ => {}) s.venc.sess k x } }
/-- A reference buffer. -/
def State.vref (s : State) (e i : Nat) : VRef := tget (fun _ => {}) s.venc.refs (64 * e + i)
/-- The mark as REF_MARK shows it. -/
def VMark.code : VMark → Nat
  | .free => 0 | .short => 1 | .long => 2 | .held => 3 | .recon => Config.reconMark % 4
/-- The state with a reference buffer replaced, and its REF_MARK and REF_OWNER fields. -/
def State.setVref (s : State) (e i : Nat) (x : VRef) : State :=
  let s := { s with venc := { s.venc with refs := tset (fun _ => {}) s.venc.refs (64 * e + i) x } }
  let s := s.setRf (Addr.vencRefMark e (i / 16)) (2 * (i % 16) + 1) (2 * (i % 16)) x.mark.code
  s.setRf (Addr.vencRefOwner e (i / 8)) (4 * (i % 8) + 3) (4 * (i % 8)) x.owner
/-- The session whose row an engine codes. -/
def State.vcur (s : State) (e : Nat) : Option Nat := tget (fun _ => none) s.venc.cur e
/-- The state with that changed. -/
def State.setVcur (s : State) (e : Nat) (x : Option Nat) : State :=
  { s with venc := { s.venc with cur := tset (fun _ => none) s.venc.cur e x } }
/-- CTRL of a session. -/
def State.vctrl (s : State) (e ss : Nat) : Word := s.reg (Addr.vencSCtrl e ss)
/-- Whether a session is enabled. -/
def State.vOn (s : State) (e ss : Nat) : Bool := bit (s.vctrl e ss) 31
/-- CLASS of a session. -/
def State.vClass (s : State) (e ss : Nat) : Nat := fld (s.vctrl e ss) 29 28

/-- The QoS class of a session's reads and writes (R529). -/
def State.vQos (s : State) (e ss : Nat) : Qos := if s.vClass e ss = 0 then .live else .bulk
/-- Whether a session codes AVC. -/
def State.vAvc (s : State) (e ss : Nat) : Bool := fld (s.vctrl e ss) 27 26 == 1
/-- Bytes of a sample. -/
def State.vB (s : State) (e ss : Nat) : Nat := if s.vAvc e ss = false ∧ fld (s.vctrl e ss) 25 24 = 1 then 2 else 1
/-- W and H of a session. -/
def State.vDim (s : State) (e ss : Nat) : Nat × Nat :=
  (s.rf (Addr.vencSSize e ss) 15 0, s.rf (Addr.vencSSize e ss) 31 16)
/-- Luma lines of a row, and the size of a unit. -/
def State.vUnit (s : State) (e ss : Nat) : Nat := if s.vAvc e ss then 16 else 64
/-- Rows of a picture. -/
def State.vRows (s : State) (e ss : Nat) : Nat := cdiv (s.vDim e ss).2 (s.vUnit e ss)
/-- Whether a session is evidentiary (R534). -/
def State.vEvid (s : State) (e ss : Nat) : Bool := s.rb (Addr.vencEvidSess e) ss
/-- COUNT of the reference pool. -/
def State.vCount (s : State) (e : Nat) : Nat := s.rf (Addr.vencRefCfg e) 6 0
/-- REF_SIZE. -/
def State.vRefSize (s : State) (e : Nat) : Nat := s.rf (Addr.vencRefSize e) 29 6 * 64
/-- The address of a reference buffer (R512). -/
def State.vRefAddr (s : State) (e i : Nat) : Nat :=
  s.rf (Addr.vencRefBaseHi e) 7 0 * 2 ^ 32 + s.rf (Addr.vencRefBaseLo e) 31 6 * 64 + i * s.vRefSize e

/-- A number rounded up to a multiple of 64. -/
def up64 (n : Nat) : Nat := cdiv n 64 * 64
/-- The size of a tiled picture of b bytes a sample (R450). -/
def tiledSize (w h b : Nat) : Nat := cdiv w 64 * 1024 * b * (cdiv h 16 + cdiv h 32)
/-- Where its chroma plane begins. -/
def tiledCb (w h b : Nat) : Nat := cdiv w 64 * cdiv h 16 * 1024 * b
/-- Bytes a reconstruction needs, motion data included. -/
def refNeed (w h b : Nat) : Nat := 3 * up64 w * up64 h * b / 2 + up64 w * up64 h / 16
/-- Where the reconstruction ends and its motion data begins. -/
def motionAt (w h b : Nat) : Nat := 3 * up64 w * up64 h * b / 2
/-- A run of `n` samples of line y of a plane, from sample k, all in one tile: address and length (R450). -/
def tileSeg (base w b k y n : Nat) : Nat × Nat :=
  (base + (y / 16 * cdiv w 64 + k / 64) * (1024 * b) + y % 16 * (64 * b) + k % 64 * b, n * b)
/-- The runs that hold luma columns [x, x + n) (in one tile), lines [y0, y1), and the matching chroma. -/
def pictureSegs (base w h b x n y0 y1 : Nat) : List (Nat × Nat) :=
  ((List.range (y1 - y0)).map fun j => tileSeg base w b x (y0 + j) n) ++
  ((List.range (cdiv y1 2 - y0 / 2)).map fun j => tileSeg (base + tiledCb w h b) w b x (y0 / 2 + j) n)

/-- Runs of memory read by an engine, one after another. -/
def State.readSegs (s : State) (who : Initiator) (cls : Qos) (l : List (Nat × Nat)) : List (Byte × Bool) × State :=
  l.foldl (fun p c => let (d, t) := p.2.unitRead who cls c.1 c.2; (p.1 ++ d, t)) ([], s)

/-- Runs of memory written by an engine with the bytes a function gives. -/
def State.writeSegs (s : State) (who : Initiator) (cls : Qos) (f : Nat → Byte) (l : List (Nat × Nat)) : State :=
  (l.foldl (fun p c => (p.1 + c.2, p.2.unitWrite who cls c.1 ((List.range c.2).map fun i => f (p.1 + i)) false)) (0, s)).2

/-- A code raised by a session, for its item's domain. -/
def State.vRaise (s : State) (e ss : Nat) (c : Code) (dom : Option Nat) : State := s.raiseC c c.cls 0x0C (16 * e + ss) dom []

/-- Whether an item's handle is stale (R246, R508). -/
def State.staleItem (s : State) (it : Item) : Bool := decide (hdPool it.handle ≠ 63) && !s.fresh? it.handle

/-! ## Pop (R507, R508) -/

/-- A popped item with its stamps: the time of day, its domain's position, the order of pop (R507). -/
def State.vStamp (s : State) (it : Item) : VPic :=
  let d := mfld it.md 55 53
  { item := it, todSec := s.tod.sec, todTick := s.tod.tick, posFrame := (s.dom d).frame, pos := s.pub d,
    frame := s.fullFrame d (mfld it.md 52 42), order := s.venc.order }

/-- A session's picture is ready. -/
def State.vTake (s : State) (k : Nat) (it : Item) : State :=
  let t := s.setVsess k { s.vsess k with pic := some (s.vStamp it) }
  { t with venc := { t.venc with order := t.venc.order + 1 } }

/-- A session pops an item, stamps it and checks it. -/
def State.vPop (s : State) (e ss : Nat) : State :=
  let k := 16 * e + ss
  match s.unitPop (hVenc e) (s.rf (Addr.vencSIo e ss) 29 24) with
  | (none, t) => t
  | (some it, t) =>
    let d := mfld it.md 55 53
    let missing := mfld it.md 34 34 == 1
    let got := t.vDim e ss
    let w := got.1
    let h := got.2
    let p := hdPool it.handle
    if t.staleItem it then (t.dropItem it).raiseC .staleHandle .dropped 0x0C k (some d) []
    else if (p = 63 ∧ missing = false) ∨ (p ≠ 63 ∧ t.plSize p < tiledSize w h (t.vB e ss)) then (t.dropItem it).vRaise e ss .vencInput (some d)
    else t.vTake k it

/-- `VENC_PICTURE_POP`: R392, R394, R507, R508. -/
def execVencPicturePop (e ss : Nat) (s : State) : Host.Outcome State Fault Refusal :=
  let x := s.vsess (16 * e + ss)
  .next (if e < 2 ∧ ss < 16 ∧ s.rb (Addr.vencCtrl e) 0 = true ∧ s.vOn e ss = true ∧ x.pic = none ∧ x.run = none ∧ x.done = none
    then s.vPop e ss else s)

/-! ## Which row is next (R525-R527) -/

/-- The settings of a session that take effect at a picture start (R545). -/
def State.vCfgNow (s : State) (e ss : Nat) : List Word :=
  [Addr.vencSRc, Addr.vencSBitrate, Addr.vencSMaxrate, Addr.vencSVbv, Addr.vencSQp, Addr.vencSMap, Addr.vencSDeadline].map
    fun a => s.reg (a e ss)
/-- Their places: RC, BITRATE, MAXRATE, VBV, QP, MAP, DEADLINE. -/
def VSess.rc (x : VSess) : Word := lget 0 x.cfg 0
/-- QP in force. -/
def VSess.qp (x : VSess) : Word := lget 0 x.cfg 4
/-- MAP in force. -/
def VSess.mapCfg (x : VSess) : Word := lget 0 x.cfg 5
/-- DEADLINE in force. -/
def VSess.deadline (x : VSess) : Word := lget 0 x.cfg 6

/-- Order of pop of a session's picture, ready or in progress. -/
def VSess.order (x : VSess) : Nat := match x.run, x.pic with | some r, _ => r.pic.order | none, some p => p.order | none, none => 0

/-- Whether a session waits for a slice credit (R527). -/
def State.vStarved (s : State) (e ss : Nat) : Bool := bit (s.vctrl e ss) 30 && s.rf (Addr.vencSliceCredit e) 15 0 == 0

/-- Whether a session has a picture whose next row could be coded. -/
def State.vReady (s : State) (e ss : Nat) : Bool :=
  let x := s.vsess (16 * e + ss)
  s.vOn e ss && !s.vStarved e ss && (x.pic != none || (match x.run with | some r => decide (r.row < s.vRows e ss) | none => false))

/-- The first of some sessions in order of pop. -/
def State.vFirst (s : State) (e : Nat) (l : List Nat) : Option Nat :=
  l.foldl (fun b i => match b with
    | none => some i
    | some j => if (s.vsess (16 * e + i)).order < (s.vsess (16 * e + j)).order then some i else some j) none

/-- The session whose row an engine codes next (R525). -/
def State.vNext (s : State) (e : Nat) : Option Nat :=
  let l := (List.range 16).filter fun i => s.vReady e i
  let cls c := l.filter fun i => s.vClass e i == c
  let pre := l.filter fun i => s.vClass e i != 0 && (s.vsess (16 * e + i)).run != none
  ([cls 0, pre, cls 1, cls 2, cls 3].filterMap (s.vFirst e)).head?

/-- An engine begins a row of a picture in progress: the SCHED session spends a credit (R527). -/
def State.vBegin (s : State) (e ss : Nat) : State :=
  let s := s.setVcur e (some ss)
  if bit (s.vctrl e ss) 30 then s.setRf (Addr.vencSliceCredit e) 15 0 (s.rf (Addr.vencSliceCredit e) 15 0 - 1) else s

/-- An engine at a row boundary goes on with a picture in progress, or leaves the row to a picture that is to start. -/
def State.vGo (s : State) (e : Nat) : State :=
  let s := s.setVcur e none
  match s.vNext e with
  | some i => if (s.vsess (16 * e + i)).run = none then s else s.vBegin e i
  | none => s

/-! ## Picture start (R505, R506, R509, R513-R516, R523, R524, R530, R533-R536) -/

/-- The buffers of a session with one of some marks. -/
def State.vMarked (s : State) (e ss : Nat) (m : VMark → Bool) : List Nat :=
  (List.range (s.vCount e)).filter fun i => m (s.vref e i).mark && (s.vref e i).owner == ss

/-- SHORT or LONG. -/
def VMark.isRef : VMark → Bool | .short => true | .long => true | _ => false

/-- The SHORT and LONG buffers of a session become FREE (R514). -/
def State.vFreeRefs (s : State) (e ss : Nat) : State :=
  forEach (s.vMarked e ss VMark.isRef) (fun i t => t.setVref e i {}) s

/-- The reference list (R516). -/
def State.vRefList (s : State) (e ss : Nat) : List Nat :=
  let sh := sortBy (fun i j => decide ((s.vref e j).poc ≤ (s.vref e i).poc)) (s.vMarked e ss (· == .short))
  let lo := sortBy (fun i j => decide ((s.vref e i).long ≤ (s.vref e j).long)) (s.vMarked e ss (· == .long))
  (sh ++ lo).take (s.rf (Addr.vencSGop e ss) 31 28)

/-- The maps available on MAP_PQ are popped, the last of them held (R523, R524); `told` once E_VENC_MAP was raised. -/
def State.vMaps (s : State) (e ss : Nat) (told : Bool) : Nat → State
  | 0 => s
  | n + 1 =>
    match s.pop (hVenc e) (s.rf (Addr.vencSIo e ss) 13 8) with
    | (none, _) => s
    | (some it, t) =>
      let k := 16 * e + ss
      let x := t.vsess k
      let d := mfld it.md 55 53
      let b := lget 64 [16, 32, 64] (fld x.mapCfg 25 24)
      if t.staleItem it then ((t.dropItem it).raiseC .staleHandle .dropped 0x0C k (some d) []).vMaps e ss told n
      else if hdPool it.handle = 63 ∨ t.plSize (hdPool it.handle) < fld x.mapCfg 15 0 * cdiv (t.vDim e ss).2 b then
        let t := t.dropItem it
        (if told then t else t.vRaise e ss .vencMap (some d)).vMaps e ss true n
      else
        let t := match x.map with | some (p, i, _) => t.release p i | none => t
        (t.setVsess k { x with map := some (hdPool it.handle, hdIdx it.handle, d, t.fullFrame d (mfld it.md 52 42)) }).vMaps e ss told n

/-- Whether a map of frame `m` is neither younger than frame `f` nor more than `age` frames older: `m` has been reached at `f`,
and `f - age` at `m` (R523, R15). -/
def mapAged (m f age : Nat) : Bool := reached m 0 f 0 && reached (f + 2 ^ 32 - age) 0 m 0

/-- The frame of the held map where it applies to a picture (R523, R15). -/
def VSess.mapFor (x : VSess) (p : VPic) : Option Nat :=
  if bit x.mapCfg 31 then
    match x.map with
    | some (_, _, d, m) =>
      if d = mfld p.item.md 55 53 ∧ mapAged m p.frame (fld x.mapCfg 23 16) = true then some m else none
    | none => none
  else none

/-- Bits of a word as numbers, for the coder. -/
def nats (l : List Word) : List Nat := l.map (·.toNat)

/-- The settings the coder works under. -/
def State.vSettings (s : State) (e ss : Nat) (x : VSess) (r : VRun) : List Nat :=
  nats (s.vctrl e ss :: s.reg (Addr.vencSSize e ss) :: s.reg (Addr.vencSGop e ss) :: s.reg (Addr.vencSFps e ss) :: x.cfg)
    ++ [b2n r.idr, b2n (r.recon != none), r.poc, r.row, b2n r.beyond, b2n r.skip]
    ++ ((List.range (s.vCount e)).flatMap fun i =>
        let b := s.vref e i
        if b.owner = ss ∧ b.mark.isRef = true then [match b.mark with | .long => 2 | _ => 1, b.poc, b.long] else [])

/-- Bit `i` of a flag word. -/
def fb (c : Bool) (i : Nat) : Nat := if c then 2 ^ i else 0

/-- The flags of an output header (R530); `late` of the picture or its item. -/
def vFlags (r : VRun) (last : Bool) : Nat :=
  let f k := mfld r.pic.item.md (32 + k) (32 + k) == 1
  fb r.idr 0 + fb (r.recon != none) 1 + fb (r.fills != 0) 2 + fb (f 1 || r.pic.late) 3 + fb (f 0) 4 + fb (f 2) 5 + fb r.beyond 6
    + fb r.noref 7 + fb last 8 + fb (r.map != none) 9 + fb (f 6) 10

/-- `n` bytes of a number, the most significant first. -/
def beBytes (n v : Nat) : Bytes := (leBytes n v).reverse

/-- The payload of the timestamp SEI: UUID and 24 bytes (R506). -/
def State.vSei (s : State) (e ss : Nat) (r : VRun) : Bytes :=
  [0x42, 0x52, 0x44, 0x51, 0x2D, 0x5A, 0x53, 0x38, 0x2D, 0x54, 0x49, 0x4D, 0x45, 0x2D, 0x30, 0x31] ++
  beBytes 6 r.pic.todSec ++ beBytes 4 r.pic.todTick ++ beBytes 1 (mfld r.pic.item.md 55 53) ++ beBytes 1 (r.pic.pos % 256)
    ++ beBytes 2 (r.pic.pos / 256) ++ beBytes 4 r.pic.frame ++ beBytes 4 (s.tagHash 0x0C (16 * e + ss)).toNat
    ++ beBytes 2 (vFlags r (s.vsess (16 * e + ss)).ending)

/-- Stream bytes of a coder state appended to the output buffer, no more than fit below `room`. -/
def State.vEmit (s : State) (e ss : Nat) (r : VRun) (key room : Nat) : VRun × State :=
  let n := min (Config.vencLen key) room
  ({ r with key := key, len := r.len + n },
   s.unitWrite (.venc e) (s.vQos e ss) (s.bufAddr r.pool r.buf + 64 + r.len) ((List.range n).map (Config.vencByte 0 key)) false)

/-- Bytes an output buffer has left. -/
def State.vLeft (s : State) (r : VRun) : Nat := s.plSize r.pool - 64 - r.len

/-- The header of a picture (R530). -/
def State.vHeader (s : State) (e ss : Nat) (r : VRun) : Bytes :=
  let k := 16 * e + ss
  let md := r.pic.item.md
  leBytes 4 r.len ++ leBytes 4 (vFlags r (s.vsess k).ending) ++ leBytes 4 r.pic.frame ++ leBytes 4 r.fills ++ leBytes 6 r.pic.todSec
    ++ leBytes 4 r.pic.todTick ++ leBytes 2 0 ++ leBytes 2 (r.pic.pos / 256) ++ leBytes 1 (r.pic.pos % 256) ++ leBytes 1 (mfld md 55 53)
    ++ leBytes 4 r.poc ++ leBytes 1 (r.qpSum / max r.qpNum 1) ++ leBytes 1 (b2n !r.idr) ++ leBytes 1 ss ++ leBytes 1 e
    ++ leBytes 4 (8 * r.len) ++ leBytes 4 (s.tagHash 0x0C k).toNat ++ leBytes 4 (r.map.getD 0xFFFFFFFF) ++ leBytes 12 0

/-- The metadata of a picture's item (R533). -/
def State.vItemMd (s : State) (e ss : Nat) (r : VRun) : BitVec 64 :=
  let fl := vFlags r (s.vsess (16 * e + ss)).ending
  let md := r.pic.item.md
  let flags := nbit fl 4 * fTrunc + nbit fl 3 * fLate + nbit fl 5 * fMissing + fFrameEnd + nbit fl 2 * fPoisoned + nbit fl 10 * fExcluded
  mkMeta (hVenc e) (mfld md 55 53) (mfld md 52 42) (mfld md 41 39) flags (s.vRows e ss - 1) 0

/-- The header of a picture is written, and its item is put to be pushed (R530, R532, R533, R541). -/
def State.vFinish (s : State) (e ss : Nat) (r : VRun) : State :=
  let k := 16 * e + ss
  let x := s.vsess k
  let m := s.vItemMd e ss r
  let s := s.unitWrite (.venc e) (s.vQos e ss) (s.bufAddr r.pool r.buf) (s.vHeader e ss r) false
  let s := s.setReg (Addr.vencSLastbits e ss) (w32 (8 * r.len))
  let s := ((s.setStat 6 k 1 (· + 8 * r.len)).setStat 6 k 4 (· + r.qpSum / max r.qpNum 1)).setStat 6 k 5 (· + b2n r.pic.late)
  s.setVsess k { x with pic := none, run := none, key := r.key, done := some ⟨m, r.pool, r.buf, r.q, x.ending⟩ }

/-- The settings of a session come into force, and the maps that are there are popped (R523, R545). -/
def State.vLoad (s : State) (e ss : Nat) : State :=
  let k := 16 * e + ss
  let s := s.setVsess k { s.vsess k with cfg := s.vCfgNow e ss }
  if bit (s.vsess k).mapCfg 31 then s.vMaps e ss false 64 else s

/-- Whether a session has a reference. -/
def State.vHas (s : State) (e ss : Nat) : Bool := s.vMarked e ss VMark.isRef != []

/-- Whether a picture is coded as IDR (R509, R536). -/
def State.vIdr (s : State) (e ss : Nat) (missing : Bool) (route : Option (Nat × Nat)) : Bool :=
  let x := s.vsess (16 * e + ss)
  let period := s.rf (Addr.vencSGop e ss) 15 0
  !missing && (!x.started || (period != 0 && decide (period ≤ x.since)) || x.force || route != x.route || !s.vHas e ss)

/-- A picture takes its buffer of the reference pool, where one is free (R513, R514). -/
def State.vClaim (s : State) (e ss poc : Nat) (recon : Option Nat) (dom : Nat) : State :=
  match recon with
  | some i => s.setVref e i { mark := .recon, owner := ss, poc := poc }
  | none => if s.vCount e = 0 then s else s.vRaise e ss .vencNoref (some dom)

/-- A picture is in progress: its headers are coded and its first row begins (R505, R506, R536). -/
def State.vOpen (s : State) (e ss : Nat) (r : VRun) (route : Option (Nat × Nat)) : State :=
  let k := 16 * e + ss
  let x := s.vsess k
  let s := s.setVsess k { x with pic := none, started := true, force := if r.idr then false else x.force, since := if r.idr then 1 else x.since + 1,
                                 poc := r.poc + 1, route := route }
  let sei := if bit (s.vctrl e ss) 4 || route.isSome then s.vSei e ss r else []
  let got := s.vEmit e ss r (Config.vencOpen (s.vSettings e ss x r) sei r.key) (s.vLeft r)
  (got.2.setVsess k { got.2.vsess k with run := some got.1 }).vBegin e ss

/-- A picture starts in a buffer it has. -/
def State.vStart (s : State) (e ss : Nat) (pic : VPic) (pool buf q : Nat) (route : Option (Nat × Nat)) : State :=
  let k := 16 * e + ss
  let s := s.vLoad e ss
  let x := s.vsess k
  let missing := mfld pic.item.md 34 34 == 1
  let base : VRun := { pic := pic, idr := false, recon := none, pool := pool, buf := buf, q := q, refs := [], poc := x.poc, key := x.key }
  if missing = true ∧ s.vHas e ss = false then s.vFinish e ss base
  else
    let idr := s.vIdr e ss missing route
    let s := if idr then s.vFreeRefs e ss else s
    let poc := if idr then 0 else x.poc
    let recon := (List.range (s.vCount e)).find? fun i => (s.vref e i).mark == .free
    let refs := if idr then [] else s.vRefList e ss
    let r := { base with idr := idr, recon := recon, refs := refs, poc := poc, map := if missing then none else x.mapFor pic,
                         noref := s.vCount e != 0 && recon == none, skip := missing }
    (s.vClaim e ss poc recon (mfld pic.item.md 55 53)).vOpen e ss r route

/-- A session's ready picture starts, is skipped or is refused its routing. -/
def State.vPicture (s : State) (e ss : Nat) (pic : VPic) : State :=
  let k := 16 * e + ss
  let dom := some (mfld pic.item.md 55 53)
  let evq := s.rf (Addr.vencEvidCfg e) 13 8
  let evpl := s.rf (Addr.vencEvidCfg e) 4 0
  let ev := s.vEvid e ss
  let drop (t : State) := (t.setVsess k { t.vsess k with pic := none }).dropItem pic.item
  if ev = true ∧ s.pqLocked evq = false then (drop s).vRaise e ss .vencEvid dom
  else
    let pool := if ev then evpl else s.rf (Addr.vencSIo e ss) 4 0
    match s.alloc (hVenc e) pool with
    | (none, t) => ((drop t).inc (Addr.vencSSkips e ss) 1).vRaise e ss .vencSkip dom
    | (some b, t) =>
      let t := t.vStart e ss pic pool b (if ev then evq else s.rf (Addr.vencSIo e ss) 21 16) (if ev then some (evq, evpl) else none)
      if (t.vsess k).done = none then t else t.dropItem pic.item

/-- `VENC_PICTURE_START`: R15, R505, R506, R509, R513-R516, R523-R525, R530, R533-R536, R545, R547. -/
def execVencPictureStart (e ss : Nat) (s : State) : Host.Outcome State Fault Refusal :=
  .next (if e < 2 ∧ s.rb (Addr.vencCtrl e) 0 = true ∧ s.vcur e = none ∧ s.vNext e = some ss then
    match (s.vsess (16 * e + ss)).pic with
    | some p => s.vPicture e ss p
    | none => s
  else s)

/-! ## A row (R510, R511, R517-R522, R531, R537) -/

/-- The QP of a group from the base QP and the map (R522). -/
def vGroupQp (qp : Word) (base : Int) (off : Int) : Nat :=
  (min (max (base + off) (fld qp 23 16 : Nat)) (fld qp 31 24 : Nat)).toNat

/-- The QPs of the 16 x 16 groups of rows [g0, g1) of groups (R520-R522). -/
def State.vQps (s : State) (e ss : Nat) (x : VSess) (r : VRun) (g0 g1 : Nat) : List Nat × State :=
  let w := cdiv (s.vDim e ss).1 16
  let base : Nat := if fld x.rc 1 0 = 0 then (if r.idr then fld x.qp 7 0 else fld x.qp 15 8)
    else Config.vencRowQp r.key % 52
  let b := lget 4 [1, 2, 4] (fld x.mapCfg 25 24)
  let line (s : State) (g : Nat) : List Nat × State :=
    match r.map, x.map with
    | some _, some (p, i, _) =>
      let got := s.unitRead (.venc e) (s.vQos e ss) (s.bufAddr p i + g / b * fld x.mapCfg 15 0) (cdiv w b)
      let m := got.1
      let t := got.2
      ((List.range w).map fun c => vGroupQp x.qp base (sx 8 ((lget (0, false) m (c / b)).1.toNat)), t)
    | _, _ => (List.replicate w (vGroupQp x.qp base 0), s)
  (List.range (g1 - g0)).foldl (fun p j => let (l, t) := line p.2 (g0 + j); (p.1 ++ l, t)) ([], s)

/-- The input samples of each unit of a row, and which of them came with poison (R537). -/
def State.vInput (s : State) (e ss : Nat) (r : VRun) (y0 y1 : Nat) : List (Bytes × Bool) × State :=
  let got := s.vDim e ss
  let w := got.1
  let h := got.2
  let u := s.vUnit e ss
  let a := s.bufAddr (hdPool r.pic.item.handle) (hdIdx r.pic.item.handle)
  (List.range (cdiv w u)).foldl (fun p c =>
    let got := p.2.readSegs (.venc e) (s.vQos e ss) (pictureSegs a w h (s.vB e ss) (u * c) (min u (w - u * c)) y0 y1)
    let l := got.1
    let t := got.2
    (p.1 ++ [(plain l, anyPoison l)], t)) ([], s)

/-- The strips of the search window of a row, by reference and tile column, each with its poison (R517-R519). -/
def State.vWindows (s : State) (e ss : Nat) (r : VRun) (y0 : Nat) : List (List (Bytes × Bool)) × State :=
  let got := s.vDim e ss
  let w := got.1
  let h := got.2
  let b := s.vB e ss
  r.refs.foldl (fun p i =>
    let (l, t) := (List.range (cdiv w 64)).foldl (fun q c =>
      let (d, t) := q.2.readSegs (.venc e) (s.vQos e ss)
        (pictureSegs (s.vRefAddr e i) (up64 w) (up64 h) b (64 * c) (min 64 (w - 64 * c)) (y0 - 112) (min h (y0 + 176)))
      (q.1 ++ [(plain d, anyPoison d)], t)) (([] : List (Bytes × Bool)), p.2)
    (p.1 ++ [l], t)) ([], s)

/-- Whether the window of a unit in tile column c holds poison (R517, R537). -/
def winBad (wins : List (List (Bytes × Bool))) (c : Nat) : Bool :=
  wins.any fun l => (List.range 7).any fun j => decide (3 ≤ c + j) && (lget ([], false) l (c + j - 3)).2

/-- The reconstruction of a row and its motion data are written (R512, R513). -/
def State.vRecon (s : State) (e ss key y0 y1 : Nat) : Option Nat → State
  | none => s
  | some i =>
    let got := s.vDim e ss
    let w := got.1
    let h := got.2
    let b := s.vB e ss
    let a := s.vRefAddr e i
    let z1 := if y1 = h then up64 h else y1
    let s := (List.range (cdiv w 64)).foldl (fun (t : State) c =>
      t.writeSegs (.venc e) (s.vQos e ss) (fun j => Config.vencByte 1 key (6144 * b * c + j)) (pictureSegs a (up64 w) (up64 h) b (64 * c) 64 y0 z1)) s
    let m0 := up64 w * y0 / 16
    s.unitWrite (.venc e) (s.vQos e ss) (a + motionAt w h b + m0) ((List.range (up64 w * z1 / 16 - m0)).map (Config.vencByte 2 key)) false

/-- An engine has been busy for `ns` nanoseconds more (R549). -/
def State.vBusy (s : State) (e ns : Nat) : State :=
  let ns := tget (fun _ => 0) s.venc.ns e + ns
  let s := s.incWrap (Addr.vencBusy e) (ns / 1000)
  { s with venc := { s.venc with ns := tset (fun _ => 0) s.venc.ns e (ns % 1000) } }

/-- What a row's coding reads: the group QPs, the input units and the windows of the references (R517-R522, R537). -/
def State.vRowIn (s : State) (e ss : Nat) (r : VRun) (y0 y1 : Nat) : (List Nat × List (Bytes × Bool) × List (List (Bytes × Bool))) × State :=
  let got := s.vQps e ss (s.vsess (16 * e + ss)) r (y0 / 16) (cdiv y1 16)
  let qps := got.1
  let s := got.2
  let got := if r.skip then ([], s) else s.vInput e ss r y0 y1
  let ins := got.1
  let got := got.2.vWindows e ss r y0
  ((qps, ins, got.1), got.2)

/-- The present row of a session is coded from what it reads. -/
def State.vRowOut (s : State) (e ss : Nat) (r : VRun) (y0 y1 : Nat) (qps : List Nat) (ins : List (Bytes × Bool))
    (wins : List (List (Bytes × Bool))) : State :=
  let k := 16 * e + ss
  let x := s.vsess k
  let w := (s.vDim e ss).1
  let u := s.vUnit e ss
  let n := cdiv w u
  let fills := (List.range n).map fun c => (lget ([], false) ins c).2 || winBad wins (u * c / 64)
  let key := Config.vencRow (s.vSettings e ss x r) qps fills (ins.map (·.1)) (wins.flatMap fun l => l.map (·.1)) r.key
  let after := n * (s.vRows e ss - r.row - 1)
  let got := s.vEmit e ss r key (if r.beyond then min (s.vLeft r) (64 * n) else s.vLeft r - 64 * after)
  let r := got.1
  let s := got.2
  let beyond := r.beyond || decide (s.vLeft r < 64 * after + 4096) || (fld x.rc 1 0 != 0 && Config.vencOver key)
  let s := (s.vRecon e ss key y0 y1 r.recon).vBusy e (cdiv w 16 * cdiv (y1 - y0) 16 * 256)
  s.setVsess k { s.vsess k with run := some { r with row := r.row + 1, beyond := beyond, fills := r.fills + (fills.filter id).length,
                                                            qpSum := r.qpSum + qps.foldl (· + ·) 0, qpNum := r.qpNum + qps.length } }

/-- The present row of a session is coded. -/
def State.vRow (s : State) (e ss : Nat) (r : VRun) : State :=
  let u := s.vUnit e ss
  let y0 := u * r.row
  let y1 := min (s.vDim e ss).2 (y0 + u)
  let got := s.vRowIn e ss r y0 y1
  got.2.vRowOut e ss r y0 y1 got.1.1 got.1.2.1 got.1.2.2

/-- `VENC_ROW_BOUNDARY`: R510, R511, R517-R522, R525-R527, R531, R537, R548, R549. -/
def execVencRowBoundary (e : Nat) (s : State) : Host.Outcome State Fault Refusal :=
  .next (if e < 2 ∧ s.rb (Addr.vencCtrl e) 0 = true then
    match s.vcur e with
    | none => s.vGo e
    | some ss =>
      match (s.vsess (16 * e + ss)).run with
      | none => s.vGo e
      | some r =>
        if s.vRows e ss ≤ r.row then s
        else
          let s := s.vRow e ss r
          if r.row + 1 = s.vRows e ss then s else s.vGo e
  else s)

/-! ## Completion (R514, R532, R541) -/

/-- The oldest SHORT buffer of a session becomes FREE while it has more than MAX_SHORT (R514). -/
def State.vTrim (s : State) (e ss : Nat) : State :=
  let sh := sortBy (fun i j => decide ((s.vref e i).poc ≤ (s.vref e j).poc)) (s.vMarked e ss (· == .short))
  forEach (sh.take (sh.length - s.rf (Addr.vencSGop e ss) 23 20)) (fun i t => t.setVref e i {}) s

/-- What a session holds goes back and its marks are freed (R514, R543); its EN clears. -/
def State.vDisable (s : State) (e ss : Nat) : State :=
  let k := 16 * e + ss
  let x := s.vsess k
  let s := match x.pic with | some p => s.dropItem p.item | none => s
  let s := match x.run with
    | some r =>
      let s := (s.dropItem r.pic.item).release r.pool r.buf
      (match r.recon with | some i => s.setVref e i {} | none => s)
    | none => s
  let s := match x.done with | some d => (s.release d.pool d.buf).unwait (hVenc e) d.q | none => s
  let s := match x.map with | some (p, i, _) => s.release p i | none => s
  let s := (s.vFreeRefs e ss).unwait (hVenc e) (s.rf (Addr.vencSIo e ss) 29 24)
  let s := s.setVsess k {}
  let s := s.setRf (Addr.vencSCtrl e ss) 31 31 0
  if s.vcur e = some ss then s.vGo e else s

/-- A session's finished item after a push: gone, waiting for a credit, flushed, or stale. -/
def State.vPushed (e ss : Nat) (d : VDone) (r : Pushed × State) : State :=
  let k := 16 * e + ss
  let gone (t : State) : State :=
    let t := (t.setVsess k { t.vsess k with done := none }).incWrap (Addr.vencSPics e ss) 1
    let t := t.setStat 6 k 0 (· + 1)
    if d.last then t.vDisable e ss else t
  match r with
  | (.done, t) => gone t
  | (.noCredit, t) => t.waitPush (hVenc e) d.q
  | (.flushed, t) => t
  | (.stale, t) => (t.raiseC .staleHandle .dropped 0x0C k (some (mfld d.md 55 53)) []).setVsess k { t.vsess k with done := none }

/-- A session's output item is pushed; the session ends with it where END_SESSION asked (R38, R394, R532, R541, R546). -/
def State.vPush (s : State) (e ss : Nat) : State :=
  match (s.vsess (16 * e + ss)).done with
  | none => s
  | some d => State.vPushed e ss d (s.push (hVenc e) d.q { handle := s.handle d.pool d.buf, md := d.md, vreg := 0xFFFFFFFF })

/-- The header-only item that ends a session with no picture at hand (R541): what it would say of a picture is free. -/
def State.vEndItem (s : State) (e ss : Nat) : State :=
  let x := s.vsess (16 * e + ss)
  if x.ending = true ∧ x.pic = none ∧ x.run = none ∧ x.done = none then
    let ev := s.vEvid e ss
    let pool := if ev then s.rf (Addr.vencEvidCfg e) 4 0 else s.rf (Addr.vencSIo e ss) 4 0
    match s.alloc (hVenc e) pool with
    | (none, t) => t
    | (some b, t) =>
      let got := t.draw
      let f := got.1
      let t := got.2
      let got := t.draw
      let sec := got.1
      let t := got.2
      let got := t.draw
      let tick := got.1
      let t := got.2
      let got := t.draw
      let pos := got.1
      let t := got.2
      let md := mkMeta 0 (fld pos 31 29) (f.toNat % 2048) 0 0 0 0
      t.vFinish e ss { pic := { item := { handle := placeholder, md := md }, todSec := sec.toNat, todTick := tick.toNat, posFrame := 0,
                                pos := fld pos 23 0, frame := f.toNat, order := 0 },
                       idr := false, recon := none, pool := pool, buf := b,
                       q := if ev then s.rf (Addr.vencEvidCfg e) 13 8 else s.rf (Addr.vencSIo e ss) 21 16,
                       refs := [], poc := x.poc, key := x.key }
  else s

/-- The picture in progress has its last row: it completes (R514, R521, R532). -/
def State.vComplete (s : State) (e ss : Nat) (r : VRun) : State :=
  let x := s.vsess (16 * e + ss)
  let got := if fld x.rc 1 0 = 1 then s.vEmit e ss r (Config.vencFiller r.key) (s.vLeft r) else (r, s)
  let r := got.1
  let s := got.2
  let s := match r.recon with
    | some i => (s.setVref e i { s.vref e i with mark := .short }).vTrim e ss
    | none => s
  let s := (s.vFinish e ss r).dropItem r.pic.item
  ((s.incWrap (Addr.vencBusy e) 8).vGo e)

/-- `VENC_PICTURE_COMPLETE`: R38, R394, R510, R514, R521, R530, R532, R533, R541, R546. -/
def execVencPictureComplete (e ss : Nat) (s : State) : Host.Outcome State Fault Refusal :=
  .next (if e < 2 ∧ ss < 16 ∧ s.rb (Addr.vencCtrl e) 0 = true ∧ s.vOn e ss = true then
    let s := match (s.vsess (16 * e + ss)).run with
      | some r => if s.vcur e = some ss ∧ s.vRows e ss ≤ r.row then s.vComplete e ss r else s
      | none => s.vEndItem e ss
    s.vPush e ss
  else s)

/-- A picture misses its deadline (R528). -/
def State.vLate (s : State) (e ss : Nat) (p : VPic) : Bool :=
  let dl := (s.vsess (16 * e + ss)).deadline
  let d := mfld p.item.md 55 53
  let t := s.posPlus d p.posFrame p.pos (fld dl 15 0)
  bit dl 31 && !p.late && (s.dom d).running && s.posReached d t.1 t.2

/-- `VENC_DEADLINE`: R528. -/
def execVencDeadline (e ss : Nat) (s : State) : Host.Outcome State Fault Refusal :=
  let k := 16 * e + ss
  let x := s.vsess k
  let tell (p : VPic) (y : VSess) : State := (s.vRaise e ss .vencLate (some (mfld p.item.md 55 53))).setVsess k y
  .next (if e < 2 ∧ ss < 16 then
    match x.run, x.pic with
    | some r, _ => if s.vLate e ss r.pic then tell r.pic { x with run := some { r with pic := { r.pic with late := true } } } else s
    | none, some p => if s.vLate e ss p then tell p { x with pic := some { p with late := true } } else s
    | none, none => s
  else s)

/-! ## Session registers (R504, R512, R516, R524, R527, R531, R543-R545, R550) -/

/-- The maximum luma picture size of a level: HEVC MaxLumaPs, AVC MaxFS x 256. -/
def maxLuma (avc : Bool) (level : Nat) : Option Nat :=
  if avc then
    (match level with
      | 10 => some 99 | 11 => some 396 | 12 => some 396 | 13 => some 396 | 20 => some 396 | 21 => some 792 | 22 => some 1620
      | 30 => some 1620 | 31 => some 3600 | 32 => some 5120 | 40 => some 8192 | 41 => some 8192 | 42 => some 8704
      | 50 => some 22080 | 51 => some 36864 | 52 => some 36864 | _ => none : Option Nat).map (· * 256)
  else
    match level with
    | 30 => some 36864 | 60 => some 122880 | 63 => some 245760 | 90 => some 552960 | 93 => some 983040 | 120 => some 2228224
    | 123 => some 2228224 | 150 => some 8912896 | 153 => some 8912896 | 156 => some 8912896 | _ => none

/-- Whether a session may be enabled. -/
def State.vOk (s : State) (e ss : Nat) : Bool :=
  let c := s.vctrl e ss
  let avc := s.vAvc e ss
  let ten := s.vB e ss == 2
  let got := s.vDim e ss
  let w := got.1
  let h := got.2
  let gop := s.reg (Addr.vencSGop e ss)
  let rc := s.reg (Addr.vencSRc e ss)
  let mode := fld rc 1 0
  let br := s.rf (Addr.vencSBitrate e ss) 23 0
  let qp := s.reg (Addr.vencSQp e ss)
  let map := s.reg (Addr.vencSMap e ss)
  let pool := if s.vEvid e ss then s.rf (Addr.vencEvidCfg e) 4 0 else s.rf (Addr.vencSIo e ss) 4 0
  let nref := fld gop 31 28
  -- R503
  decide (64 ≤ w) && decide (w ≤ 8192) && decide (64 ≤ h) && decide (h ≤ 8192) &&
  (if avc then w % 2 == 0 && h % 2 == 0 else w % 8 == 0 && h % 8 == 0 && fld c 25 24 != 2) &&
  -- R504
  (match maxLuma avc (fld c 23 16) with | some m => decide (w * h ≤ m) | none => false) &&
  fld c 15 8 != 0 && fld gop 23 20 != 0 &&
  -- R512, R513
  (s.vCount e == 0 || decide (refNeed w h (s.vB e ss) ≤ s.vRefSize e)) &&
  -- R516
  decide (1 ≤ nref) && decide (nref ≤ if ten then 2 else 4) &&
  -- R524
  (!bit map 31 || decide (cdiv w (lget 64 [16, 32, 64] (fld map 25 24)) ≤ fld map 15 0)) &&
  -- R527
  (!bit c 30 || (fld c 29 28 == 0 && (List.range 16).all fun i => i == ss || !(s.vOn e i && bit (s.vctrl e i) 30))) &&
  -- R531
  decide (65536 + up64 w * up64 h / 4 ≤ s.plSize pool) &&
  -- R550
  decide (fld qp 23 16 ≤ fld qp 31 24) && ([fld qp 31 24, fld qp 23 16, fld qp 15 8, fld qp 7 0].all fun v => decide (v ≤ 51)) &&
  (mode == 0 || (br != 0 && s.rf (Addr.vencSVbv e ss) 23 0 != 0 && fld rc 14 8 != 0)) &&
  s.rf (Addr.vencSFps e ss) 31 16 != 0 && s.rf (Addr.vencSFps e ss) 15 0 != 0 &&
  (mode != 2 || decide (br ≤ s.rf (Addr.vencSMaxrate e ss) 23 0))

/-- A write of VENC_n_S_s_CTRL. -/
def State.vCtrlWrite (s : State) (e ss : Nat) (v : Word) : State :=
  let a := Addr.vencSCtrl e ss
  let k := 16 * e + ss
  if s.vOn e ss then
    let s := s.noteRsvd a v
    let same := setFld v 31 31 1 == s.reg a
    -- reserved bits alone make no change of a field (R19, R545)
    let fields := setFld (setFld (setFld v 31 31 1) 7 5 0) 0 0 0 == setFld (s.reg a) 31 31 1
    let held := bit v 31 = false && s.vEvid e ss
    let s := if bit v 31 = false ∧ held = false then s.vDisable e ss else s
    if held || !(same || fields) then s.cfgErr 0x0C k else s
  else
    let s := s.putReg a (setFld v 31 31 0)
    if bit v 31 then
      if s.vOk e ss then (s.setRf a 31 31 1).setVsess k { cfg := s.vCfgNow e ss } else s.cfgErr 0x0C k
    else s

/-- `VENC_SESSION_ENABLE`: R504, R512, R516, R524, R527, R531, R545, R550. -/
def execVencSessionEnable (e ss : Nat) (v : Word) (s : State) : Host.Outcome State Fault Refusal :=
  .next (if e < 2 ∧ ss < 16 then s.vCtrlWrite e ss v else s)

/-- `VENC_SESSION_DISABLE`: R514, R543, R544. -/
def execVencSessionDisable (e ss : Nat) (v : Word) (s : State) : Host.Outcome State Fault Refusal :=
  .next (if e < 2 ∧ ss < 16 then s.vCtrlWrite e ss v else s)

/-- A write of another register of a session (R545): SIZE, FPS and IO only while it is disabled. -/
def State.vSessWrite (s : State) (e ss a : Nat) (v : Word) : State :=
  if s.vOn e ss = true ∧ (a = Addr.vencSSize e ss ∨ a = Addr.vencSFps e ss ∨ a = Addr.vencSIo e ss) then
    (if s.reg a = v then s else s.refuse a v)
  else s.putReg a v

/-- A write of REF_BASE, REF_SIZE or COUNT (R512): only while every buffer is FREE. -/
def State.vRefWrite (s : State) (e a : Nat) (v : Word) : State :=
  if (List.range 64).all fun i => (s.vref e i).mark == .free then s.putReg a v else s.refuse a v

/-- What an engine's sessions hold goes back when the engine is disabled (R394); marks and settings stay. -/
def State.vIdle (s : State) (e ss : Nat) : State :=
  let k := 16 * e + ss
  let x := s.vsess k
  let s := match x.run with
    | some r => (match r.recon with | some i => s.setVref e i {} | none => s)
    | none => s
  s.setVsess k { x with pic := none, run := none, done := none, map := none }

/-- A write of VENC_n_CTRL (R394, R544). -/
def State.vEngineWrite (s : State) (e : Nat) (v : Word) : State :=
  let a := Addr.vencCtrl e
  if s.rb a 0 = true ∧ bit v 0 = false then
    if (List.range 16).any fun i => s.vOn e i && s.vEvid e i then s.refuse a v
    else
      let s := forEach (List.range 16) (fun i t => t.vIdle e i) (s.putReg a v)
      let s := forEach (List.range 64) (fun q t => t.unwait (hVenc e) q) s
      (s.releaseAll (hVenc e)).setVcur e none
  else s.putReg a v

/-! ## The command ring (R538-R541, R547) -/

/-- Where the entry at CMD_HEAD lies. -/
def State.vSlot (s : State) (e : Nat) : Nat :=
  s.rf (Addr.vencCmdBaseHi e) 7 0 * 2 ^ 32 + s.rf (Addr.vencCmdBaseLo e) 31 6 * 64 + 32 * s.rf (Addr.vencCmdHead e) 11 0

/-- The index after CMD_HEAD. -/
def State.vHeadNext (s : State) (e : Nat) : Nat := (s.rf (Addr.vencCmdHead e) 11 0 + 1) % 2 ^ s.rf (Addr.vencCmdSize e) 3 0

/-- The last word of an entry that has been answered: DONE, and REJECTED where it was (R539). -/
def vAnswerWord (ok : Bool) : Bytes := leBytes 4 (2 ^ 31 + b2n !ok)

/-- The entry at CMD_HEAD. -/
def State.vEntry (s : State) (e : Nat) : Bytes × State :=
  let r := s.unitRead (.venc e) .ctrl (s.vSlot e) 32
  (plain r.1, r.2)

/-- Whether the ring holds an entry. -/
def State.vRing (s : State) (e : Nat) : Bool :=
  s.rb (Addr.vencCtrl e) 0 && s.rf (Addr.vencCmdHead e) 11 0 != s.rf (Addr.vencCmdTail e) 11 0

/-- The entry at CMD_HEAD is answered and the head moves on (R538, R539). -/
def State.vAnswer (s : State) (e : Nat) (ok : Bool) : State :=
  let t := (s.unitWrite (.venc e) .ctrl (s.vSlot e + 28) (vAnswerWord ok) false).setRf (Addr.vencCmdHead e) 11 0 (s.vHeadNext e)
  if ok then t else t.raise .vencCmd 0x0B e none []

/-- Entries with a reserved OP at the head are rejected (R539). -/
def State.vSkip (s : State) (e : Nat) : Nat → State
  | 0 => s
  | n + 1 =>
    if s.vRing e then
      let r := s.vEntry e
      if 1 ≤ at_ r.1 0 1 ∧ at_ r.1 0 1 ≤ 8 then s else (r.2.vAnswer e false).vSkip e n
    else s

/-- Whether an entry's zero fields are zero and its numbers in range (R539). -/
def State.vWellFormed (s : State) (e op : Nat) (l : Bytes) : Bool :=
  (l.drop 8).take 20 == List.replicate 20 0 && decide (at_ l 1 1 < 16) &&
  (!(decide (2 ≤ op) && decide (op ≤ 5)) || decide (at_ l 2 1 < s.vCount e))

/-- The command at the head of the ring, where its OP is `op`, is applied once no picture of its session (or of its
buffer's owner) is in progress (R540). `f` answers none where the command is rejected. -/
def State.vCommand (s : State) (e op : Nat) (f : State → Nat → Nat → Bytes → Option State) : State :=
  if s.vRing e then
    let r := s.vEntry e
    let l := r.1
    let t := r.2
    let ss := at_ l 1 1
    let buf := at_ l 2 1
    if at_ l 0 1 ≠ op then s
    else if t.vWellFormed e op l = false then (t.vAnswer e false).vSkip e 4096
    else
      let buffer := decide (2 ≤ op) && decide (op ≤ 5)
      let who := if buffer then (t.vref e buf).owner else ss
      let waits := (t.vsess (16 * e + who)).run != none && !(buffer && (t.vref e buf).mark == .free)
      if waits then s
      else match f t ss buf l with
        | some u => (u.vAnswer e true).vSkip e 4096
        | none => (t.vAnswer e false).vSkip e 4096
  else s

/-- A ring command of an engine. -/
def vCmd (e op : Nat) (f : State → Nat → Nat → Bytes → Option State) (s : State) : Host.Outcome State Fault Refusal :=
  .next (if e < 2 then s.vCommand e op f else s)

/-- `VENC_CMD_TAIL_WRITE`: R538. -/
def State.vTailWrite (s : State) (e : Nat) (v : Word) : State :=
  let a := Addr.vencCmdTail e
  if 2 ^ s.rf (Addr.vencCmdSize e) 3 0 ≤ fld v 11 0 then s.refuse a v else (s.putReg a v).vSkip e 4096

/-- `VENC_CMD_TAIL_WRITE`: R538, R539. -/
def execVencCmdTailWrite (e : Nat) (v : Word) (s : State) : Host.Outcome State Fault Refusal :=
  .next (if e < 2 then s.vTailWrite e v else s)

/-- `FORCE_IDR`: R509, R539, R540. -/
def execForceIdr (e : Nat) (s : State) : Host.Outcome State Fault Refusal :=
  vCmd e 1 (fun t ss _ _ => if t.vOn e ss then some (t.setVsess (16 * e + ss) { t.vsess (16 * e + ss) with force := true }) else none) s

/-- `MARK_LONG`: R514, R539, R540. -/
def execMarkLong (e : Nat) (s : State) : Host.Outcome State Fault Refusal :=
  vCmd e 2 (fun t _ b l =>
    let x := t.vref e b
    let idx := at_ l 3 1
    let longs := t.vMarked e x.owner (· == .long)
    if x.mark = .short ∧ idx ≤ 3 ∧ (longs.all fun i => (t.vref e i).long != idx) = true ∧
        longs.length + 1 ≤ t.rf (Addr.vencSGop e x.owner) 27 24
    then some (t.setVref e b { x with mark := .long, long := idx }) else none) s

/-- `UNMARK`: R514, R539, R540, R547. -/
def execUnmark (e : Nat) (s : State) : Host.Outcome State Fault Refusal :=
  vCmd e 3 (fun t _ b _ => if (t.vref e b).mark.isRef then some (t.setVref e b {}) else none) s

/-- `HOLD`: R514, R539, R540, R547. -/
def execHoldCmd (e : Nat) (s : State) : Host.Outcome State Fault Refusal :=
  vCmd e 4 (fun t _ b _ => if (t.vref e b).mark = .free then none else some (t.setVref e b { t.vref e b with mark := .held })) s

/-- `RELEASE`: R514, R539, R540. -/
def execReleaseCmd (e : Nat) (s : State) : Host.Outcome State Fault Refusal :=
  vCmd e 5 (fun t _ b _ => if (t.vref e b).mark = .held then some (t.setVref e b {}) else none) s

/-- `SET_RATE`: R539, R540, R545. -/
def execSetRate (e : Nat) (s : State) : Host.Outcome State Fault Refusal :=
  vCmd e 6 (fun t ss _ l =>
    let r := at_ l 4 3
    if t.vOn e ss = true ∧ r ≠ 0 then some (t.setRf (Addr.vencSBitrate e ss) 23 0 r) else none) s

/-- `SET_QP`: R539, R540, R545. -/
def execSetQp (e : Nat) (s : State) : Host.Outcome State Fault Refusal :=
  vCmd e 7 (fun t ss _ l =>
    let i := at_ l 4 1 % 64
    let p := at_ l 5 1 % 64
    if i ≤ 51 ∧ p ≤ 51 then some ((t.setRf (Addr.vencSQp e ss) 7 0 i).setRf (Addr.vencSQp e ss) 15 8 p) else none) s

/-- `END_SESSION`: R539-R541. -/
def execEndSession (e : Nat) (s : State) : Host.Outcome State Fault Refusal :=
  vCmd e 8 (fun t ss _ _ =>
    if t.vOn e ss then
      let t := t.setVsess (16 * e + ss) { t.vsess (16 * e + ss) with ending := true }
      some ((t.vEndItem e ss).vPush e ss)
    else none) s

end Sys2Proof.Machine
end

