-- ==== Sys2Proof/Machine/Dsv.lean ====
section
/-! DEFINITION. Supervisor commands and events (chapter 18): boot, the mailbox commands, the dual-control protocol, debug
unlock, evidentiary items and segments, tags, the flash. -/

namespace Sys2Proof.Machine

open Sys2Proof

/-! ## Boot (R726-R731) -/

/-- How many bits are set in the anti-rollback counter (R726: OTP bytes 112-119). -/
def State.svCount (s : State) : Nat :=
  ((List.range 64).filter fun i => nbit (tget (fun _ => (0 : Byte)) s.dsv.otp (112 + i / 8)).toNat (i % 8) == 1).length

/-- An OTP bit programmed (R726: never cleared). -/
def State.otpSet (s : State) (byte i : Nat) : State :=
  let b : Byte := tget (fun _ => 0) s.dsv.otp byte
  { s with dsv := { s.dsv with otp := tset (fun _ => 0) s.dsv.otp byte (BitVec.ofNat 8 (b.toNat.lor (2 ^ i))) } }

/-- The anti-rollback count raised to `v`: the lowest clear bits are programmed. -/
def State.commitSv (s : State) (v : Nat) : State :=
  forEach (List.range 64) (fun i t =>
    if t.svCount < v ∧ nbit (tget (fun _ => (0 : Byte)) t.dsv.otp (112 + i / 8)).toNat (i % 8) = 0 then t.otpSet (112 + i / 8) (i % 8) else t) s

/-- Whether the ROM accepts an image (R727). -/
def State.imageOk (s : State) (x : BootImage) : Bool := x.present && x.sigOk && decide (s.svCount ≤ x.sv)

/-- The first accepted image starts; after a power-on reset the end of the checks requests ACTIVE (R772). -/
def State.startImage (s : State) (slotB : Bool) (x : BootImage) : State :=
  let s := s.setReg Addr.dsvBootStatus (w32 (b2n slotB * 2 ^ 31))
  let s := { s with dsv := { s.dsv with fw := some ⟨slotB, x.sv, x.digest⟩, boots := s.dsv.boots + 1, nextId := 1 } }
  if s.rf Addr.pwrState 2 0 = 0 then s.powerReq 2 else s

/-- `BOOT_ROM`: R727, R728. -/
def execBootRom (a b : BootImage) (s : State) : Host.Outcome State Fault Refusal :=
  .next (if s.dsv.fw.isSome ∨ s.rf Addr.dsvBootStatus 7 0 ≠ 0 then s
    else if s.imageOk a then s.startImage false a
    else if s.imageOk b then (s.startImage true b).raiseC .bootImage .corrected 0x17 0 none []
    else
      let code := 1 + Config.bootFailCode s.fresh % 255
      (s.setReg Addr.dsvBootStatus (w32 code)).uartPut 0 (BitVec.ofNat 8 code))

/-- A digest under which a key of a slot type signs (R730, R741). -/
def slotDigest (type : Nat) (m : Bytes) : Bytes := if type = 1 then Config.sha256 m else Config.sha384 m

/-- Whether the loader's signature verifies (R730). -/
def State.loaderOk (s : State) (loader sig : Bytes) : Bool :=
  let l := (List.range 8).filter fun k => (s.keySlot k).1 == 3
  if l == [] then Config.verify Config.rootKey (Config.sha384 loader) sig
  else l.any fun k => Config.verify (s.keySlot k).2 (Config.sha384 loader) sig

/-- DRAM brought up by the firmware (R626). -/
def State.bringUpDram (s : State) : State :=
  if s.rb Addr.memStatus 31 then s
  else
    let s := s.memCfgWrite Config.memCfg
    (s.memCtrlWrite (w32 (4 + 2 * b2n Config.eccEn))).memTrained

/-- The BOOT record (R752, R754): PREV from the checkpoint, SEQ 1,024 past it. -/
def State.bootRecord (s : State) (f : Firmware) : State :=
  let c := s.dsv.checkpoint
  let s := { s with dsv := { s.dsv with prevHash := c.2 } }.setChainNext (c.1 + 1024)
  s.chainAppend 4 s.tod.holdover (leBytes 8 c.1 ++ leBytes 4 f.sv ++ List.replicate 20 0 ++ pad 48 f.digest)

/-- CPU0 released at the loader's entry (R729 step 6). -/
def State.releaseCpu0 (s : State) (loader : Bytes) : State :=
  let e := Config.loaderEntry loader
  let s := (s.setReg (Addr.pwrCpuRvbar 0) (w32 (e / 4 * 4))).setReg (Addr.pwrCpuRvbar 0 + 4) (w32 (e / 2 ^ 32 % 256))
  s.cohJoin 0

/-- `SUPERVISOR_BOOT`: R728-R731, R754, R758. -/
def execSupervisorBoot (loader sig : Bytes) (tagOk : Bool) (s : State) : Host.Outcome State Fault Refusal :=
  .next (match s.dsv.fw with
  | none => s
  | some f =>
    if s.dsv.booted = true ∨ s.rf Addr.pwrState 2 0 ≠ 2 then s
    else
      let s := s.bringUpDram.applyProt
      let s := { s with dsv := { s.dsv with booted := true, loaderHash := Config.sha384 loader } }
      let s := if tagOk then s else { s with dsv := { s.dsv with tag := [] } }.raise .tagIntegrity 0x17 0 none []
      let s := s.bootRecord f
      if s.loaderOk loader sig then (s.supWrite .bulk (Config.loaderBase loader) loader).releaseCpu0 loader
      else s.raiseC .bootImage .fatal 0x17 0 none [])

/-! ## Debug unlock (R747, R766) -/

/-- The debug level in force. -/
def State.debugLevel (s : State) : Nat := match s.dsv.unlock with | some (l, _, _) => l | none => 0

/-- `DEBUG_LOCK`: R747, R750, R752, R766. -/
def execDebugLock (s : State) : Host.Outcome State Fault Refusal :=
  .next (match s.dsv.unlock with
  | some (_, e, p) =>
    if s.now < e then s
    else
      let s := s.closeSegments
      { s with dsv := { s.dsv with unlock := none } }.chainAppend 5 s.tod.holdover (leBytes 4 p)
  | none => s)

/-! ## Proposals (R732, R733, R739-R746) -/

/-- A little-endian field of a record. -/
def fieldAt (l : Bytes) (o n : Nat) : Nat := leNat ((l.drop o).take n)

/-- Whether bytes [o, o + n) of a record are zero. -/
def zeroAt (l : Bytes) (o n : Nat) : Bool := ((l.drop o).take n).all (· == 0)

/-- N_OPS and N_KEYS of a record, its operations and its key blocks. -/
def nOps (r : Bytes) : Nat := fieldAt r 6 1
def nKeys (r : Bytes) : Nat := fieldAt r 7 1
def propOp (r : Bytes) (i : Nat) : Bytes := (r.drop (64 + 16 * i)).take 16
def propKey (r : Bytes) (i : Nat) : Bytes := (r.drop (64 + 16 * nOps r + 128 * i)).take 128
/-- OP, ADDR, VALUE, MASK of an operation (R740). -/
def opCode (o : Bytes) : Nat := fieldAt o 0 1
def opAddr (o : Bytes) : Nat := fieldAt o 4 4
def opValue (o : Bytes) : Nat := fieldAt o 8 4
def opMask (o : Bytes) : Nat := fieldAt o 12 4

/-- Whether a key block is well formed: its slot accepts its type, and its zero bytes are zero (R732, R740). -/
def keyBlockOk (b : Bytes) : Bool :=
  let slot := fieldAt b 0 1
  let t := fieldAt b 1 1
  decide (slot < 8) && decide (t < 4) && (slot != 0 || decide (t < 3)) && zeroAt b 2 6 && zeroAt b 104 24
    && (t != 1 || zeroAt b 72 32) && (t != 0 || zeroAt b 8 96)

/-- Whether an operation of a record is well formed (R740, R883). -/
def State.opOk (s : State) (r o : Bytes) : Bool :=
  zeroAt o 1 3 &&
  match opCode o with
  | 1 => rwdRegs.any (· == opAddr o)
  | 2 => decide (opAddr o < nKeys r) && decide (opValue o < 8) && fieldAt (propKey r (opAddr o)) 0 1 == opValue o
  | 3 => decide (1 ≤ opValue o) && decide (opValue o ≤ 7)
  | 4 => (opValue o == 1 || opValue o == 2) && decide (1 ≤ opMask o) && decide (opMask o ≤ 604800)
  | 5 => decide (s.svCount < opValue o) && decide (opValue o ≤ 64)
      && (match s.dsv.fw with | some f => decide (opValue o ≤ f.sv) | none => false)
  | _ => false

/-- Whether a record is well formed (R739, R744 code 1). The supervisor's fields are not the driver's to set. -/
def State.recordOk (s : State) (r : Bytes) : Bool :=
  r.length == 64 + 16 * nOps r + 128 * nKeys r && fieldAt r 0 4 == 0x44504352 && fieldAt r 4 2 == 1 && decide (1 ≤ nOps r)
    && decide (nOps r ≤ 32) && decide (nKeys r ≤ 4) && decide (fieldAt r 28 1 < 8) && zeroAt r 29 3
    && (List.range (nKeys r)).all (fun i => keyBlockOk (propKey r i)) && (List.range (nOps r)).all fun i => s.opOk r (propOp r i)

/-- The device serial number (R726). -/
def State.serial (s : State) : Bytes := (List.range 8).map fun i => tget (fun _ => 0) s.dsv.otp (96 + i)

/-- The pending proposal, if any, is cancelled by a new one (R742). -/
def State.supersede (s : State) : State :=
  match s.dsv.proposal with
  | some p => { s with dsv := { s.dsv with proposal := none, superseded := s.dsv.superseded ++ [p.id] } }
  | none => s

/-- A proposal completed and made pending (R739, R742, R743). -/
def State.proposeWith (s : State) (r : Bytes) : Nat × Bytes × State :=
  if s.recordOk r then
    let s := s.supersede
    let id := s.dsv.nextId
    let win := s.rf Addr.dsvDcWindow 16 0
    let out := r.take 8 ++ s.serial ++ leBytes 4 id ++ leBytes 4 (s.reg Addr.dsvProtSeq).toNat ++ leBytes 4 win ++ (r.drop 28).take 4
      ++ freeRun s.fresh 32 ++ r.drop 64
    let p : Proposal := { id := id, data := out, ends := s.now + win * tickHz }
    (0, out, { s with fresh := s.fresh + 1, dsv := { s.dsv with proposal := some p, nextId := id + 1 } })
  else (1, [], s)

/-- `PROPOSE`: R739-R742, R744, R761. -/
def execPropose (p : Page) (s : State) : Host.Outcome State Fault Refusal :=
  .next (s.serve p 0x0010 false (fun n => decide (80 ≤ n)) fun m t => t.proposeWith m)

/-- `CANCEL`: R761. -/
def execCancelProposal (p : Page) (s : State) : Host.Outcome State Fault Refusal :=
  .next (s.serve p 0x0012 false (· == 0) fun _ t => (0, [], { t with dsv := { t.dsv with proposal := none } }))

/-- An endorsement fails (R744): the proposal ends with the code. -/
def State.dcReject (s : State) (code id : Nat) : Nat × Bytes × State :=
  let s := (s.inc Addr.dsvDcFails 1).raise .dcReject 0x17 0 none [(1, code), (4, id)]
  let keep := match s.dsv.proposal with | some p => if p.id = id then none else some p | none => none
  (0x100 + code, [], { s with dsv := { s.dsv with proposal := keep, badSigs := if code = 8 then s.dsv.badSigs else 0 } })

/-- The run of bad signatures grows to `n`; the eighth locks endorsements out. -/
def State.countBad (s : State) (n : Nat) : State :=
  if n < 8 then { s with dsv := { s.dsv with badSigs := n } }
  else { s with dsv := { s.dsv with badSigs := 0, lockEnd := some (s.now + 600 * tickHz), proposal := none } }

/-- A bad signature: the eighth in a row locks endorsements out for 600 s and cancels the pending proposal (R745). -/
def State.badSignature (s : State) (id : Nat) : Nat × Bytes × State :=
  let got := s.dcReject 8 id
  (got.1, got.2.1, got.2.2.countBad (got.2.2.dsv.badSigs + 1))

/-- Whether a record sets KS0, and the key block that does. -/
def setsKs0 (r : Bytes) : Option Bytes :=
  ((List.range (nOps r)).map (propOp r)).findSome? fun o =>
    if opCode o = 2 ∧ opValue o = 0 then some (propKey r (opAddr o)) else none

/-- TYPE and public key of a key block: X and Y of 32 or 48 bytes (R740). -/
def blockKey (b : Bytes) : Nat × Bytes :=
  let t := fieldAt b 1 1
  (t, if t = 0 then [] else (b.drop 8).take (if t = 1 then 64 else 96))

/-- The key that must sign a record (R733, R741): of its endorsing slot, or in factory state that which it installs. -/
def State.endorsing (s : State) (r : Bytes) : Option (Nat × Bytes) :=
  let k := if (s.keySlot 0).1 = 0 then (match setsKs0 r with | some b => blockKey b | none => (0, [])) else s.keySlot (fieldAt r 28 1)
  if k.1 = 1 ∨ k.1 = 2 then some k else none

/-- One endorsed operation applied (R740, R746), with its read-back. -/
def State.applyOp (s : State) (id : Nat) (r o : Bytes) : Bytes × State :=
  match opCode o with
  | 1 =>
    let a := opAddr o
    let m := w32 (opMask o)
    let s := s.putRwd a ((s.reg a &&& ~~~ m) ||| (w32 (opValue o) &&& m))
    (leBytes 4 (s.reg a).toNat, s)
  | 2 => let k := blockKey (propKey r (opAddr o)); ([], s.setKey (opValue o) k.1 k.2)
  | 3 => ([], s.setKey (opValue o) 0 [])
  | 4 => ([], { s with dsv := { s.dsv with unlock := some (opValue o, s.now + opMask o * tickHz, id) } })
  | _ => ([], s.commitSv (opValue o))

/-- Endorsed operations applied in order, with their read-backs. -/
def State.applyOps (s : State) (id : Nat) (r : Bytes) : List Bytes → Bytes × State
  | [] => ([], s)
  | o :: l =>
    let got := s.applyOp id r o
    let b := got.1
    let t := got.2
    let rest := t.applyOps id r l
    let c := rest.1
    let u := rest.2
    (b ++ c, u)

/-- The operations of a record. -/
def propOps (r : Bytes) : List Bytes := (List.range (nOps r)).map (propOp r)

/-- The debug level that operations leave. -/
def opsLevel (ops : List Bytes) : Nat := ops.foldl (fun l o => if opCode o = 4 then opValue o else l) 0

/-- The pending proposal is done with, and the run of bad signatures. -/
def State.proposalDone (s : State) : State := { s with dsv := { s.dsv with proposal := none, badSigs := 0 } }

/-- An accepted endorsement takes effect (R746). -/
def State.applyProposal (s : State) (p : Proposal) : Nat × Bytes × State :=
  let r := p.data
  let seq := (s.reg Addr.dsvProtSeq).toNat + 1
  let got := (s.setReg Addr.dsvProtSeq (w32 seq)).applyOps p.id r (propOps r)
  let s := (got.2.storeProt seq).proposalDone
  let s := (s.chainAppend 3 s.tod.holdover (leBytes 4 p.id ++ leBytes 4 seq ++ leBytes 1 (fieldAt r 28 1) ++ leBytes 1 (opsLevel (propOps r))
    ++ List.replicate 22 0 ++ pad 48 (Config.sha384 r))).chainCheckpoint
  (0, got.1, s)

/-- An endorsement judged (R744) and applied. -/
def State.endorseWith (s : State) (m : Bytes) (stored : Bool) : Nat × Bytes × State :=
  let id := fieldAt m 0 4
  let sig := m.drop 4
  if sig.length ≠ 64 ∧ sig.length ≠ 96 then s.dcReject 1 id
  else if id ∈ s.dsv.superseded then s.dcReject 3 id
  else
    match s.dsv.proposal with
    | none => s.dcReject 2 id
    | some p =>
      if p.id ≠ id then s.dcReject 2 id
      else if s.recordOk p.data = false then s.dcReject 1 id
      else if p.ends < s.now then s.dcReject 4 id
      else if fieldAt p.data 20 4 ≠ (s.reg Addr.dsvProtSeq).toNat then s.dcReject 5 id
      else
        match s.endorsing p.data with
        | none => s.dcReject 6 id
        | some k =>
          if s.dsv.lockEnd ≠ none then s.dcReject 7 id
          else if sig.length ≠ (if k.1 = 1 then 64 else 96) ∨ Config.verify k.2 (slotDigest k.1 p.data) sig = false then s.badSignature id
          else if stored = false then s.dcReject 9 id
          else s.applyProposal p

/-- `ENDORSE`: R733, R740, R741, R744-R746, R761, R763. -/
def execEndorse (p : Page) (stored : Bool) (s : State) : Host.Outcome State Fault Refusal :=
  .next (s.serve p 0x0011 true (fun n => decide (4 ≤ n)) fun m t => t.endorseWith m stored)

/-- `ENDORSE_LOCKOUT_END`: R745. -/
def execEndorseLockoutEnd (s : State) : Host.Outcome State Fault Refusal :=
  .next (match s.dsv.lockEnd with
  | some e => if s.now < e then s else { s with dsv := { s.dsv with lockEnd := none } }
  | none => s)

/-! ## Information, tags, flash (R731, R758, R761, R762) -/

/-- `GET_INFO`: R761. -/
def execGetInfo (p : Page) (s : State) : Host.Outcome State Fault Refusal :=
  .next (s.serve p 0x0001 true (· == 0) fun _ t =>
    let sv := match t.dsv.fw with | some f => f.sv | none => 0
    (0, Config.respLayout 0x0001 [t.serial, leBytes 4 sv, leBytes 4 t.dsv.boots, leBytes 4 (t.reg Addr.dsvProtSeq).toNat, leBytes 1 t.debugLevel], t))

/-- `GET_DEVICE_CERT`: R761. -/
def execGetDeviceCert (p : Page) (s : State) : Host.Outcome State Fault Refusal :=
  .next (s.serve p 0x0002 true (· == 0) fun _ t => (0, Config.deviceCert, t))

/-- `ATTEST`: R731, R761. -/
def execAttest (p : Page) (s : State) : Host.Outcome State Fault Refusal :=
  .next (s.serve p 0x0003 true (· == 32) fun m t =>
    let img := match t.dsv.fw with | some f => f.digest | none => []
    let items := [img, t.dsv.loaderHash, t.dsv.protHash, leBytes 4 (t.reg Addr.dsvProtSeq).toNat, leBytes 1 t.debugLevel]
    let sig := Config.sign 255 t.fresh (Config.sha384 (m ++ items.flatten))
    (0, Config.respLayout 0x0003 (items ++ [sig]), { t with fresh := t.fresh + 1 }))

/-- `GET_PROTECTION`: R761. -/
def execGetProtection (p : Page) (s : State) : Host.Outcome State Fault Refusal :=
  .next (s.serve p 0x0013 true (· == 0) fun _ t =>
    let slots := List.range 8
    let wins := (List.range 64).flatMap fun w =>
      [Addr.dsvFwBase w, Addr.dsvFwLimit w, Addr.dsvFwPerm w, Addr.dsvFwCtrl w].flatMap fun a => leBytes 4 (t.reg a).toNat
    (0, Config.respLayout 0x0013 ([leBytes 4 (t.reg Addr.dsvProtSeq).toNat, slots.flatMap fun k => leBytes 1 (t.keySlot k).1]
      ++ (slots.map fun k => Config.sha384 (t.keySlot k).2) ++ [wins]), t))

/-- `CHAIN_FLUSH`: R750, R761. -/
def execChainFlush (p : Page) (s : State) : Host.Outcome State Fault Refusal :=
  .next (s.serve p 0x0020 false (· == 0) fun _ t =>
    let t := t.closeSegments
    (0, leBytes 8 (t.chainNext - 1), t))

/-- `GET_DEVICE_TAG`: R758, R761. -/
def execGetDeviceTag (p : Page) (s : State) : Host.Outcome State Fault Refusal :=
  .next (s.serve p 0x0030 true (· == 0) fun _ t => (0, pad 512 t.dsv.tag, t))

/-- `SET_DEVICE_TAG`: R758, R761. -/
def execSetDeviceTag (p : Page) (s : State) : Host.Outcome State Fault Refusal :=
  .next (s.serve p 0x0031 false (· == 512) fun m t => (0, [], { t with dsv := { t.dsv with tag := m } }))

/-- Whether every byte of a range of the flash lies in one of some parts. -/
def flashIn (o n : Nat) (parts : List Nat) : Bool := (List.range n).all fun i => parts.contains (Config.flashPart (o + i))

/-- A byte of the flash: erased where nothing has written it. -/
def State.flashByte (s : State) (a : Nat) : Byte := tget (fun _ => 0xFF) s.dsv.flash a

/-- `FLASH_READ`: R761. -/
def execFlashRead (p : Page) (s : State) : Host.Outcome State Fault Refusal :=
  .next (s.serve p 0x0040 false (· == 8) fun m t =>
    let o := fieldAt m 0 4
    let n := fieldAt m 4 4
    if 4080 < n then (1, [], t)
    else if flashIn o n [1, 2] then (0, (List.range n).map fun i => t.flashByte (o + i), t)
    else (2, [], t))

/-- `FLASH_WRITE`: R761. -/
def execFlashWrite (p : Page) (s : State) : Host.Outcome State Fault Refusal :=
  .next (s.serve p 0x0041 false (fun n => decide (4 ≤ n)) fun m t =>
    let o := fieldAt m 0 4
    let d := m.drop 4
    let inactive := match t.dsv.fw with | some f => if f.slotB then 3 else 4 | none => 0
    if flashIn o d.length [1, inactive] then
      let fl := (d.foldl (fun x b => (x.1 + 1, tset (fun _ => 0xFF) x.2 x.1 b)) (o, t.dsv.flash)).2
      (0, [], { t with dsv := { t.dsv with flash := fl } })
    else (2, [], t))

/-- Whether CMD names a command (R761, R799, R838). -/
def isCommand (c : Nat) : Bool :=
  [0x0001, 0x0002, 0x0003, 0x0010, 0x0011, 0x0012, 0x0013, 0x0020, 0x0030, 0x0031, 0x0040, 0x0041, 0x0060, 0x0061, 0x0062, 0x0070, 0x0071].contains c

/-- `MAILBOX_MALFORMED`: R762. -/
def execMailboxMalformed (p : Page) (s : State) : Host.Outcome State Fault Refusal :=
  let c := fld (s.cmdWord p 0) 15 0
  .next (if s.serving p c = true ∧ isCommand c = false then s.reply p 1 [] else s)

/-- `DOORBELL_WHILE_BUSY`: R760. -/
def execDoorbellWhileBusy (p : Page) (s : State) : Host.Outcome State Fault Refusal :=
  .next (if s.rb (Addr.dsvMbstatus (pageNum p)) 31 then s.doorbell p else s)

/-! ## Evidence (R748-R751, R755, R756) -/

/-- Whether a buffer lies in one enabled window that grants no read, and no write but to the encoders (R748). -/
def State.evidSafe (s : State) (a n : Nat) : Bool :=
  (List.range 64).any fun w =>
    let r x := s.reg x
    bit (r (Addr.dsvFwCtrl w)) 31 && decide (fld (r (Addr.dsvFwBase w)) 27 0 * 4096 ≤ a)
      && decide (a + n ≤ fld (r (Addr.dsvFwLimit w)) 27 0 * 4096 + 4096)
      && (r (Addr.dsvFwPerm w)).toNat.land (0xFFFFFF - 2 ^ 9 - 2 ^ 11) == 0

/-- The copied item that waits is pushed. -/
def State.forwardTry (s : State) : State :=
  match s.dsv.forward with
  | none => s
  | some it =>
    let q := s.rf Addr.dsvEvidFwd 29 24
    let gone (t : State) : State := { t with dsv := { t.dsv with forward := none } }
    match s.push hSup q it with
    | (.done, t) => gone t
    | (.noCredit, t) => t.waitPush hSup q
    | (.flushed, t) => t
    | (.stale, t) => (gone t).raiseC .staleHandle .dropped 0x17 0 (some (mfld it.md 55 53)) []

/-- The segment that a picture joins, opened where none is open, with its record's SEQ issued (R749, R750). -/
def State.segFor (s : State) (k frame : Nat) : Segment × State :=
  match s.seg k with
  | some g => (g, s)
  | none =>
    let got := s.chainTake
    let n := got.1
    let s := got.2
    ({ seqNo := n, first := frame, last := frame, todSec := s.tod.sec, todTick := s.tod.tick, since := s.now }, s)

/-- An item in a safe buffer hashed, copied into forward buffer `b` and forwarded (R749, R750). -/
def State.evidSeal (s : State) (e : Nat) (it : Item) (pl b : Nat) : State :=
  let a := s.bufAddr (hdPool it.handle) (hdIdx it.handle)
  let r := s.supRead .bulk a 64
  let head := r.1
  let s := r.2
  let r := s.supRead .bulk (a + 64) (min (fieldAt head 0 4) (s.plSize (hdPool it.handle) - 64))
  let body := r.1
  let s := r.2
  let flags := fieldAt head 4 4
  let frame := fieldAt head 8 4
  let k := 16 * e + fieldAt head 38 1 % 16
  let s := if nbit flags 0 = 1 then s.segClose k else s
  let r := s.segFor k frame
  let g := r.1
  let s := r.2
  let dig := Config.sha384 (head.take 52 ++ List.replicate 12 0 ++ body)
  let s := s.supWrite .bulk (s.bufAddr pl b) ((head.take 52 ++ leBytes 8 g.seqNo ++ leBytes 2 g.n ++ leBytes 2 0 ++ body).take (s.plSize pl))
  let g := { g with digests := g.digests ++ dig, n := g.n + 1, last := frame, flags := g.flags.lor (flags % 65536), hold := g.hold || s.tod.holdover }
  let s := (s.setSeg k (some g)).dropItem it
  let s := { s with dsv := { s.dsv with forward := some { it with handle := s.handle pl b, md := msetFld it.md 63 56 hSup } } }.forwardTry
  if s.rf Addr.dsvSegCfg 23 16 ≤ g.n ∨ nbit flags 8 = 1 then s.segClose k else s

/-- `EVID_ITEM_POP`: R748-R750, R755. -/
def execEvidItemPop (e : Nat) (s : State) : Host.Outcome State Fault Refusal :=
  .next (
    let s := s.forwardTry
    let q := s.rf (Addr.vencEvidCfg e) 13 8
    let pl := s.rf Addr.dsvEvidFwd 20 16
    if ¬ (e < 2 ∧ s.dsv.booted = true) ∨ s.dsv.forward.isSome ∨ 2 ^ s.rf Addr.dsvChainSize 3 0 ≤ s.chainHeld + 1 then s
    else if s.canPop hSup q = false then s.waitPop hSup q
    else if (s.alloc hSup pl).1 = none then (s.alloc hSup pl).2
    else
      match s.pop hSup q with
      | (none, u) => u
      | (some it, u) =>
        let p := hdPool it.handle
        if p = 63 then u
        else if u.staleItem it then (u.dropItem it).raiseC .staleHandle .dropped 0x17 0 (some (mfld it.md 55 53)) []
        else if u.evidSafe (u.bufAddr p (hdIdx it.handle)) (u.plSize p) = false then (u.dropItem it).raise .evidExposed 0x17 0 none []
        else
          match u.alloc hSup pl with
          | (none, u) => u
          | (some b, u) => u.evidSeal e it pl b)

/-- `SEGMENT_TIMEOUT`: R750. -/
def execSegmentTimeout (e ss : Nat) (s : State) : Host.Outcome State Fault Refusal :=
  .next (match s.seg (16 * e + ss) with
  | some g => if e < 2 ∧ ss < 16 ∧ g.since + msTicks (s.rf Addr.dsvSegCfg 15 0) ≤ s.now then s.segClose (16 * e + ss) else s
  | none => s)

end Sys2Proof.Machine
end

