-- ==== Sys2Proof/Machine/Errors.lean ====
section
/-! DEFINITION. The record collector and telemetry (chapter 21): records rendered, accepted, lost and written; rate-limit
intervals; snapshots and their records; the writes of their registers. -/

namespace Sys2Proof.Machine

open Sys2Proof

/-! ## Records (R845, R850) -/

/-- An offset rounded up to a multiple. -/
def alignUp (o n : Nat) : Nat := cdiv o n * n

/-- The detail items placed in order (R850): aligned to their size, an address of 5 bytes anywhere. -/
def placeDetail : List (Nat × Nat) → Bytes → Bytes
  | [], acc => acc
  | (n, v) :: r, acc =>
    let o := if n = 5 then acc.length else alignUp acc.length n
    placeDetail r (pad o acc ++ leBytes n v)

/-- The 32 bytes of a record (R845). -/
def ErrRec.bytes (r : ErrRec) : Bytes :=
  leBytes 2 (r.cls.num * 8192 + b2n r.pos.isSome * 4096 + r.code.num) ++ leBytes 2 (r.kind * 256 + r.inst % 256)
    ++ leBytes 4 r.tagHash.toNat ++ leBytes 4 (match r.pos with | some p => p.2 | none => 0) ++ leBytes 4 r.todSec
    ++ leBytes 4 (b2n r.holdover * 2 ^ 31 + r.todTick) ++ pad 12 (placeDetail r.detail [])

/-! ## Collection (R849, R852, R853, R855, R867) -/

/-- The state with the records held replaced, and DSV_ERR_FIFO. -/
def State.setFifo (s : State) (l : List FifoRec) : State :=
  { s with coll := { s.coll with fifo := l } }.setReg Addr.dsvErrFifo (w32 l.length)

/-- Whether a record of a class finds an entry it may take (R853). -/
def State.fifoTakes (s : State) (k : Cls) : Bool := decide (s.coll.fifo.length < (if k = .fatal then 256 else 240))

/-- A record accepted (R854, R855). -/
def State.accept (s : State) (r : ErrRec) : State :=
  let c := r.cls.num
  let host := s.rb Addr.dsvErrCtrl 30 && s.rb Addr.dsvErrHostMask c
  (s.inc (Addr.dsvErrCnt c) 1).setFifo (s.coll.fifo ++ [{ record := r, driver := true, host := host }])

/-- A record lost (R853). -/
def State.lose (s : State) (r : ErrRec) : State :=
  let c := r.cls.num
  { s.inc Addr.dsvErrLost 1 with coll := { s.coll with owed := true, lost := lset s.coll.lost c (min (lget 0 s.coll.lost c + 1) 255) } }

/-- After losses, one E_REC_LOST record is accepted once an entry is free (R853); a FATAL record that waits takes the last
one first (R867). -/
def State.tellLost (s : State) : State :=
  let fatal := match s.coll.posted with | r :: _ => r.cls == .fatal | [] => false
  if s.coll.owed = true ∧ s.coll.fifo.length < (if fatal = true then 239 else 240) then
    let r := s.mkRec .recLost .dropped 0x1B 0 none (s.coll.lost.map fun n => (1, n))
    { s with coll := { s.coll with owed := false, lost := [0, 0, 0, 0, 0, 0] } }.accept r
  else s

/-- `ERROR_RECORD_POST`: R849, R852, R853. While the main domains are off, records wait in order. -/
def execErrorRecordPost (s : State) : Host.Outcome State Fault Refusal :=
  .next (if s.rf Addr.pwrState 2 0 ≠ 2 then s
  else match s.coll.posted with
    | [] => s
    | r :: rest =>
      let s := { s with coll := { s.coll with posted := rest } }
      if s.fifoTakes r.cls then s.accept r else s.lose r)

/-! ## Rings (R755, R854-R856, R865) -/

/-- The registers of a ring of this chapter, from its BASE: base, size, index, base of TAIL. -/
def State.ringBase (s : State) (a : Nat) : Nat := s.rf (a + 4) 7 0 * 2 ^ 32 + s.rf a 31 6 * 64
/-- Its size in entries. -/
def State.ringSize (s : State) (a : Nat) : Nat := 2 ^ s.rf (a + 8) 3 0
/-- Its HEAD. -/
def State.ringHead (s : State) (a : Nat) : Nat := s.rf (a + 12) 11 0
/-- Whether it has room. -/
def State.ringRoom (s : State) (a : Nat) : Bool :=
  let n := s.ringSize a
  decide ((s.ringHead a + n - s.rf (a + 16) 11 0) % n + 1 < n)

/-- An entry written at a ring's HEAD, which moves on: records at CTRL (R855), telemetry at BULK (R42). -/
def State.ringPut (s : State) (cls : Qos) (a : Nat) (entry : Bytes) : State :=
  let h := s.ringHead a
  (s.supWrite cls (s.ringBase a + entry.length * h) entry).setReg (a + 12) (w32 ((h + 1) % s.ringSize a))

/-- The first record still due for a ring. -/
def firstDue (f : FifoRec → Bool) (l : List FifoRec) : Option FifoRec := l.find? f

/-- Records with the first one due for a ring marked as taken by it. -/
def markTaken (due : FifoRec → Bool) (mark : FifoRec → FifoRec) : List FifoRec → List FifoRec
  | [] => []
  | x :: r => if due x then mark x :: r else x :: markTaken due mark r

/-- The driver ring takes its next record when it has room. -/
def State.driverRing (s : State) : State :=
  match firstDue (·.driver) s.coll.fifo with
  | none => s
  | some x =>
    if s.ringRoom Addr.dsvErrDBase then
      ((s.ringPut .ctrl Addr.dsvErrDBase x.record.bytes).setFifo (markTaken (·.driver) (fun y => { y with driver := false }) s.coll.fifo)).irq .dsvError
    else s

/-- The host ring takes its next record when it has room. -/
def State.hostRing (s : State) : State :=
  match firstDue (·.host) s.coll.fifo with
  | none => s
  | some x =>
    if s.ringRoom Addr.dsvErrHBase then
      ((s.ringPut .ctrl Addr.dsvErrHBase x.record.bytes).setFifo (markTaken (·.host) (fun y => { y with host := false }) s.coll.fifo)).msix 1
    else s

/-- `ERROR_RING_WRITE`: R853-R856. -/
def execErrorRingWrite (s : State) : Host.Outcome State Fault Refusal :=
  .next (if s.rb Addr.dsvErrCtrl 31 = false ∨ s.rf Addr.pwrState 2 0 ≠ 2 then s
  else
    let s := s.driverRing.hostRing
    (s.setFifo (s.coll.fifo.filter fun x => x.driver || x.host)).tellLost)

/-- A ring starts at index 0 (R865). -/
def State.ringStart (s : State) (a : Nat) : State := (s.setReg (a + 12) 0).setReg (a + 16) 0

/-- A write of DSV_ERR_CTRL (R854, R865). -/
def State.errCtrlWrite (s : State) (v : Word) : State :=
  let a := Addr.dsvErrCtrl
  let en := s.rb a 31
  let hen := s.rb a 30
  let s := s.putReg a v
  let s := if en = false ∧ s.rb a 31 = true then s.ringStart Addr.dsvErrDBase else s
  let s := if hen = false ∧ s.rb a 30 = true then s.ringStart Addr.dsvErrHBase else s
  if hen = true ∧ s.rb a 30 = false then
    (s.setFifo ((s.coll.fifo.map fun x => { x with host := false }).filter (·.driver))).tellLost
  else s

/-- A write of a ring's base or size, accepted only while the ring is off (R865). -/
def State.ringCfgWrite (s : State) (a : Nat) (on : Bool) (v : Word) : State := if on then s.refuse a v else s.putReg a v

/-- A write of a ring's TAIL (R755): an index outside the ring is not accepted. `b` is its BASE. -/
def State.ringTailWrite (s : State) (a b : Nat) (v : Word) : State :=
  if s.ringSize b ≤ fld v 11 0 then s.refuse a v else s.putReg a v

/-- A write of a chain ring register (R768): its base and size while no evidentiary session is enabled; records that wait
follow. -/
def State.chainRegWrite (s : State) (a : Nat) (v : Word) : State :=
  let busy := (List.range 32).any fun k => s.rb (Addr.vencSCtrl (k / 16) (k % 16)) 31 && s.rb (Addr.vencEvidSess (k / 16)) (k % 16)
  let s := if a = Addr.dsvChainTail then s.ringTailWrite a Addr.dsvChainBase v else s.ringCfgWrite a busy v
  s.chainDrain s.dsv.waiting.length

/-! ## Rate limits (R910) -/

/-- `RATE_LIMIT_INTERVAL_END`: R910. -/
def execRateLimitIntervalEnd (key : Nat) (s : State) : Host.Outcome State Fault Refusal :=
  let r := s.rate key
  .next (match r.opened with
  | none => s
  | some t =>
    if s.now < t + tickHz then s
    else match r.first with
      | none => s.setRate key {}
      | some f => (s.setRate key { opened := some s.now }).postRec { f with detail := (4, r.count) :: f.detail.drop 1 })

/-! ## Telemetry (R858-R861, R866) -/

/-- A telemetry record (R859). -/
def State.telRecord (s : State) (kind ukind unit : Nat) (gap : Bool) (v : List Nat) : Bytes :=
  leBytes 1 kind ++ leBytes 1 1 ++ leBytes 2 (ukind * 256 + unit) ++ leBytes 4 (s.tagHash ukind unit).toNat
    ++ leBytes 4 s.tod.sec ++ leBytes 4 (b2n s.tod.holdover * 2 ^ 31 + s.tod.tick) ++ leBytes 4 s.coll.seq ++ leBytes 4 (b2n gap)
    ++ ((v ++ List.replicate 10 0).take 10).flatMap (leBytes 4)

/-- A register's value. -/
def State.regN (s : State) (a : Nat) : Nat := (s.reg a).toNat

/-- The sum of registers. -/
def State.sumRegs (s : State) (l : List Nat) : Nat := (l.map s.regN).foldl (· + ·) 0

/-- The commanded value of an AVS rail, in quarters of a millivolt, at tick `t` (R794). -/
def Avs.at (x : Avs) (slew t : Nat) : Nat :=
  match x.ramps.find? fun r => decide (r.1 ≤ t) with
  | none => 0
  | some (t0, v0, v1) =>
    let d := (t - t0) * slew * 10 / 12288
    if v0 ≤ v1 then min (v0 + d) v1 else max (v0 - d) v1

/-- An AVS rail. -/
def State.avs (s : State) (r : Nat) : Avs := tget (fun _ => {}) s.clk.rails r

/-- The commanded value of a rail in mV. -/
def State.railMv (s : State) (r : Nat) : Nat := (s.avs r).at (s.rf Addr.pwrAvsCfg 4 0) s.now / 4

/-- The units of a kind that are enabled, and their unit kind (R860). -/
def State.telUnits (s : State) (kind : Nat) : Nat × List Nat :=
  match kind with
  | 0 => (0x1B, [0])
  | 1 => (0x03, (List.range 8).filter fun n => s.rb Addr.pwrTcStatus n)
  | 2 => (0x05, (List.range 64).filter s.pqOn)
  | 3 => (0x06, (List.range 32).filter s.plOn)
  | 4 => (0x02, (List.range 16).filter fun n => s.rb (Addr.sfeCtxCtrl n) 31)
  | 5 => (0x09, (List.range 48).filter fun n => s.rb (Addr.fmtOsCtrl n) 31)
  | 6 => (0x0C, (List.range 32).filter fun k => s.rb (Addr.vencSCtrl (k / 16) (k % 16)) 31)
  | 7 => (0x0E, (List.range 8).filter fun n => s.rb (Addr.vdecSCtrl n) 31)
  | 8 => (0x10, List.range 8)
  | _ => (0x01, (List.range 8).filter fun d => (s.dom d).running)

/-- The values of a record (R860); `total` is the records in the snapshot. Bank conflicts are free: the model has no bank
timing. -/
def State.telValues (s : State) (kind n total : Nat) : List Nat :=
  match kind with
  | 0 => [total, s.rf Addr.thmTj 15 0, s.thm.load, s.thm.b / 2 ^ 24, s.rf Addr.clkTclk 10 0, s.rf Addr.clkCpu 10 0, s.railMv 0, s.railMv 1,
          s.rf Addr.thmFlow 15 0, s.rf Addr.thmBallast 29 24]
  | 1 => let c := s.core n
    [c.dpaBusy] ++ c.issues ++ [s.sumRegs ([0, 1, 2, 3].map fun m => Addr.tcCxMiss n m), s.regN (Addr.tcReplayCnt n), (Config.freeWord (s.fresh + n)).toNat,
      s.regN (Addr.spmParityCnt n), s.sumRegs ([0, 1, 2, 3].map fun m => Addr.tcCxPexcl n m)]
  | 2 => (s.queue n).items.length :: tget (fun _ => [0, 0, 0, 0, 0]) s.pass.pqStats n
  | 3 => let x := s.pool n
    let l := tget (fun _ => [0, 0, 0]) s.pass.plStats n
    [x.free.length, x.held.length, s.plCount n - lget 0 l 0, lget 0 l 1, lget 0 l 2, x.gen]
  | 4 => (List.range 5).map fun i => s.stat 4 n i
  | 5 => [s.regN (Addr.fmtOsFrames n), s.regN (Addr.fmtOsSkips n), s.stat 5 n 2, s.stat 5 n 3]
  | 6 => let p := s.stat 6 n 0
    [p, s.stat 6 n 1, s.stat 6 n 1 / 2 ^ 32, s.regN (Addr.vencSSkips (n / 16) (n % 16)), s.stat 6 n 4 * 256 / max p 1, s.stat 6 n 5]
  | 7 => [s.regN (Addr.vdecSPics n), s.regN (Addr.vdecSConceal n), s.regN (Addr.vdecSAbandon n)]
  | 8 => [s.stat 8 n 0, s.stat 8 n 1 / 64, s.stat 8 n 2 / 64, s.stat 8 n 3, s.stat 8 n 4, s.stat 8 n 5]
  | _ => let x := s.dom n
    [x.frame, x.per, s.stat 9 n 0, s.regN Addr.lptSchedSkip]

/-- The peaks begin again from their present values (R858). -/
def State.peaksAnew (s : State) : State :=
  let s := forEach (List.range 64) (fun q t => if t.pqOn q then t.pqStat q 0 (fun _ => (t.queue q).items.length) else t) s
  let s := forEach (List.range 32) (fun p t => if t.plOn p then t.plStat p 0 (fun _ => t.plCount p - (t.pool p).free.length) else t) s
  let s := forEach (List.range 16) (fun n t => t.setStat 4 n 4 (fun _ => 0)) s
  forEach (List.range 8) (fun i t => (t.setStat 8 i 0 (fun _ => 0)).setStat 8 i 5 (fun _ => (t.slice i).reads.length)) s

/-- The next snapshot falls due after the PERIOD of this moment: a later change of it applies from that one on (R858, R866). -/
def State.telArm (s : State) : State :=
  { s with coll := { s.coll with telDue := s.now + msTicks (s.rf Addr.dsvTelPeriod 13 0) } }

/-- A snapshot taken (R858-R860), or lost (R861). -/
def State.snapshot (s : State) : State :=
  let s := s.telArm
  if 2 ≤ s.coll.snaps.length then { s.inc Addr.dsvTelLost 1 with coll := { s.coll with gap := true } }
  else
    let units := (setBitsOf (s.rf Addr.dsvTelCtrl 9 0)).flatMap fun k => (s.telUnits k).2.map fun n => (k, (s.telUnits k).1, n)
    let l := units.map fun u => s.telRecord u.1 u.2.1 u.2.2 s.coll.gap (s.telValues u.1 u.2.2 units.length)
    let x : Snapshot := { records := l, at_ := s.now }
    { s with coll := { s.coll with snaps := s.coll.snaps ++ [x], gap := false, seq := s.coll.seq + 1 }, fresh := s.fresh + 8 }.peaksAnew
where
  /-- The set bits of a mask of ten. -/
  setBitsOf (m : Nat) : List Nat := (List.range 10).filter fun i => nbit m i == 1

/-- Records of a snapshot written while the ring has room; the rest. -/
def State.telPut (s : State) : List Bytes → List Bytes × State
  | [] => ([], s)
  | r :: l => if s.ringRoom Addr.dsvTelBase then (s.ringPut .bulk Addr.dsvTelBase r).telPut l else (r :: l, s)

/-- The telemetry job: the oldest snapshot is written (R861). -/
def State.telWrite (s : State) : State :=
  match s.coll.snaps with
  | [] => s
  | x :: r =>
    let got := s.telPut x.records
    let l := got.1
    let s := got.2
    { s with coll := { s.coll with snaps := if l = [] then r else { x with records := l } :: r } }

/-- `TELEMETRY_SNAPSHOT`: R858-R861, R866. With no LOCKED domain running its writes wait for no window (R40). -/
def execTelemetrySnapshot (s : State) : Host.Outcome State Fault Refusal :=
  .next (if s.rb Addr.dsvTelCtrl 31 = true ∧ s.coll.telDue ≤ s.now then
    (if s.unplaced then s.snapshot.telWrite else s.snapshot)
  else s)

/-- A write of DSV_TEL_TAIL (R755): with no LOCKED domain running, what waited for room in the ring is written (R40, R861). -/
def State.telTailWrite (s : State) (v : Word) : State :=
  let s := s.ringTailWrite Addr.dsvTelTail Addr.dsvTelBase v
  if s.unplaced then s.telWrite else s

/-- `TELEMETRY_UNPLACED`: R861. -/
def execTelemetryUnplaced (s : State) : Host.Outcome State Fault Refusal :=
  .next (match s.coll.snaps with
  | x :: _ => if x.at_ + 2 * tickHz ≤ s.now then s.telWrite else s
  | [] => s)

/-- A write of DSV_TEL_CTRL (R865). -/
def State.telCtrlWrite (s : State) (v : Word) : State :=
  let a := Addr.dsvTelCtrl
  let en := s.rb a 31
  let s := s.putReg a v
  if en = false ∧ s.rb a 31 = true then s.telArm.ringStart Addr.dsvTelBase else s

end Sys2Proof.Machine
end

