-- ==== Sys2Proof/Machine/Pcie.lean ====
section
/-! DEFINITION. The PCIe port (R664-R676, R699-R705): links, outbound requests, MSI-X, the resets of its block. Inbound
requests are in `Inbound.lean`. -/

namespace Sys2Proof.Machine

open Sys2Proof

/-- The configuration of the port (R664). -/
def State.pcieMode (s : State) : Nat := s.rf Addr.pcieStatus 29 28

/-- Whether the configuration has a port. -/
def State.hasPort (s : State) (p : Nat) : Bool := (p == 0 && s.pcieMode != 3) || (p == 1 && s.pcieMode == 2)

/-- LINK_UP of a port. -/
def State.linkUp (s : State) (p : Nat) : Bool := s.hasPort p && s.rb Addr.pcieStatus (8 * p + 7)

/-- Whether a port's link is training. -/
def State.linkTrains (s : State) (p : Nat) : Bool := tget (fun _ => false) s.pcie.train p

/-- The state with that replaced. -/
def State.setTrains (s : State) (p : Nat) (b : Bool) : State :=
  { s with pcie := { s.pcie with train := tset (fun _ => false) s.pcie.train p b } }

/-- A code of a port (R705). -/
def State.pcieErr (s : State) (c : Code) (p : Nat) : State := s.ioErr c 0x11 p

/-- `PCIE_LINK_TRAIN`: R666. -/
def execPcieLinkTrain (p : Nat) (s : State) : Host.Outcome State Fault Refusal :=
  .next (if s.hasPort p = true ∧ s.rb Addr.pcieCtrl 31 = true ∧ s.rb Addr.pcieCtrl p = true ∧ s.linkUp p = false then s.setTrains p true else s)

/-- `PCIE_LINK_UP`: R664, R665, R675. -/
def execPcieLinkUp (p width speed : Nat) (s : State) : Host.Outcome State Fault Refusal :=
  .next (if s.linkTrains p then
    (s.setTrains p false).setRf Addr.pcieStatus (8 * p + 7) (8 * p) (128 + width % 8 * 16 + speed % 16)
  else s)

/-- The requests of a port that wait end with an error response (R675). -/
def State.failOut (s : State) (p : Nat) : State :=
  let mine := s.pcie.out.filter fun o => o.port == p
  let s := { s with pcie := { s.pcie with out := s.pcie.out.filter fun o => o.port != p } }
  if mine = [] then s else { s with resp := { err := true } }

/-- `PCIE_LINK_DOWN`: R653, R675. `cut` posted writes were on their way. -/
def execPcieLinkDown (p cut : Nat) (s : State) : Host.Outcome State Fault Refusal :=
  .next (if s.linkUp p then
    let s := s.setRf Addr.pcieStatus (8 * p + 7) (8 * p) 0
    (((s.failOut p).inc Addr.pcieErrCnt cut).cutTraffic .pcie).pcieErr .pcieLink p
  else s)

/-- Registers that a predicate names return to their reset values. -/
def State.resetRegs (s : State) (f : Nat → Bool) : State := { s with regs := s.regs.filter fun x => !f x.1 }

/-- A hot reset of the block (R676, R704, R803): the configuration, PCIE_BAR2_CFG and PCIE_BAR2_TGT keep their values. -/
def State.pcieHotReset (s : State) : State :=
  let m := s.pcieMode
  let s := ((s.failOut 0).failOut 1).cutTraffic .pcie
  let s := s.resetRegs fun a => a / 0x100000 == 0x190 && a != Addr.pcieBar2Cfg && a != Addr.pcieBar2TgtLo && a != Addr.pcieBar2TgtHi
  { s with pcie := {} }.setReg Addr.pcieStatus (w32 (m * 2 ^ 28))

/-- `PCIE_PERST`: R676, R704. -/
def execPciePerst (s : State) : Host.Outcome State Fault Refusal := .next (if s.isEndpoint then s.pcieHotReset else s)

/-! ## Interrupts (R665, R700, R703) -/

/-- A write of PCIE_EP_IRQ (R700). -/
def State.epIrqWrite (s : State) (v : Word) : State :=
  let n := fld v 5 0
  if n < 2 then s.refuse Addr.pcieEpIrq v else (s.noteRsvd Addr.pcieEpIrq v).msix n

/-- `PCIE_EP_IRQ`: R700, R703. -/
def execPcieEpIrq (v : Word) (s : State) : Host.Outcome State Fault Refusal := .next (s.epIrqWrite v)

/-- A vector unmasked: a pending one is delivered, once (R703). -/
def State.msixDeliver (s : State) (v : Nat) : State :=
  if tget (fun _ => false) s.pcie.pba v = true ∧ bit (s.msixWord (4 * v + 3)) 0 = false then (s.setPba v false).irq (.msix v) else s

/-- A word of the MSI-X table written. -/
def State.setMsixWord (s : State) (k : Nat) (w : Word) : State :=
  { s with pcie := { s.pcie with msix := tset msixReset s.pcie.msix k w } }

/-- `MSIX_UNMASK`: R703. -/
def execMsixUnmask (v : Nat) (s : State) : Host.Outcome State Fault Refusal :=
  .next (if v < 64 ∧ s.isEndpoint = true then (s.setMsixWord (4 * v + 3) (setFld (s.msixWord (4 * v + 3)) 0 0 0)).msixDeliver v else s)

/-- `PCIE_INTERRUPT_RECEIVED`: R665. INTA to INTD are 0-3. -/
def execPcieInterruptReceived (intx : Bool) (v : Nat) (s : State) : Host.Outcome State Fault Refusal :=
  .next (if s.pcieMode = 1 ∨ s.pcieMode = 2 then
    if intx then (if v < 4 then (s.setRf Addr.pcieStatus (24 + v) (24 + v) 1).irq (.pcie (64 + v)) else s)
    else if v < 64 then (s.setRf (Addr.pcieMsiStatus + v / 32 * 4) (v % 32) (v % 32) 1).irq (.pcie v)
    else s
  else s)

/-! ## Outbound (R667, R668, R673, R674) -/

/-- The port that owns an outbound address, and its window's base (R667). -/
def State.obWindow (s : State) (a : Nat) : Option (Nat × Nat) :=
  if a < 0x2000000000 ∨ 0x10000000000 ≤ a ∨ s.pcieMode = 3 then none
  else if s.pcieMode = 2 ∧ 0x9000000000 ≤ a then some (1, 0x9000000000)
  else some (0, 0x2000000000)

/-- PCIE_OB_p_OFFSET. -/
def State.obOffset (s : State) (p : Nat) : Nat := (s.reg (Addr.pcieObOffset p)).toNat + 2 ^ 32 * (s.reg (Addr.pcieObOffset p + 4)).toNat

/-- The first tag of a port that no request holds (R665). -/
def State.freeTag (s : State) (p : Nat) : Option Nat :=
  (List.range 256).find? fun t => !s.pcie.out.any fun o => o.port == p && o.tag == t

/-- An outbound request of a core or the supervisor: non-posted ones wait for their completion; the root port's own
configuration space answers at once with free data. -/
def State.outbound (s : State) (who : Initiator) (a : Nat) (write : Bool) : State :=
  match s.obWindow a with
  | none => s.denied who none a 8 write true
  | some (p, base) =>
    let off := a - base
    let cfg := s.pcieMode != 0 && decide (off < 0x10000000)
    let posted := write && !cfg
    if cfg = true ∧ off < 0x1000 then
      { s with resp := if write then {} else { data := freeRun s.fresh 8, poison := [false] }, fresh := s.fresh + 1 }
    else if s.linkUp p = false then
      let s := if posted then s.inc Addr.pcieErrCnt 1 else s
      { s with resp := { err := !posted } }
    else if posted then { s with resp := {} }
    else
      match s.freeTag p with
      | none => s
      | some t =>
        let o : OutReq := { port := p, tag := t, who := who, cfg := cfg, addr := if cfg then off else (off + s.obOffset p) % 2 ^ 64,
                            write := write, since := s.now }
        { s with pcie := { s.pcie with out := s.pcie.out ++ [o] } }

/-- `PCIE_OUTBOUND_REQUEST`: R667, R668, R674, R735, R870. -/
def execPcieOutboundRequest (who : Initiator) (a : Nat) (write : Bool) (s : State) : Host.Outcome State Fault Refusal :=
  .next (if a < 0x2000000000 ∨ 0x10000000000 ≤ a then s
    else match who with
      | .sup => s.outbound who a write
      | .cpu _ => if s.fwAllow who a write then s.outbound who a write else s.denied who (s.fwGov a) a 8 write false
      | _ => s.denied who none a 8 write false)

/-- `PCIE_COMPLETION_TIMEOUT`: R674. -/
def execPcieCompletionTimeout (p tag : Nat) (s : State) : Host.Outcome State Fault Refusal :=
  .next (match s.pcie.out.find? fun o => o.port == p && o.tag == tag with
  | none => s
  | some o =>
    if s.now < o.since + msTicks (s.rf Addr.pcieCto 9 0) then s
    else
      let s := { s with pcie := { s.pcie with out := s.pcie.out.filter (· != o) }, resp := { err := true } }
      s.pcieErr .pcieCto p)

/-- `PCIE_COMPLETION_RECEIVED`: R665, R674. What a read returns is the far side's, so it is free. -/
def execPcieCompletionReceived (p tag : Nat) (poisoned : Bool) (s : State) : Host.Outcome State Fault Refusal :=
  .next (match s.pcie.out.find? fun o => o.port == p && o.tag == tag with
  | none => s
  | some o =>
    { s with pcie := { s.pcie with out := s.pcie.out.filter (· != o) }, fresh := s.fresh + 1,
             resp := if o.write then {} else { data := freeRun s.fresh 8, poison := [poisoned] } })

/-- A write of PCIE_BAR2_CFG (R670, R704). -/
def State.bar2CfgWrite (s : State) (v : Word) : State :=
  let a := Addr.pcieBar2Cfg
  if s.rb a 31 then (if v = s.reg a then s else s.refuse a v)
  else
    let base := s.rf Addr.pcieBar2TgtHi 7 0 * 2 ^ 32 + s.rf Addr.pcieBar2TgtLo 31 20 * 2 ^ 20
    if bit v 31 = true ∧ ¬ (20 ≤ fld v 5 0 ∧ fld v 5 0 ≤ 36 ∧ dramBase ≤ base ∧ base + 2 ^ fld v 5 0 ≤ s.memTop) then s.refuse a v
    else s.putReg a v

/-- A write of PCIE_BAR2_TGT (R704). -/
def State.bar2TgtWrite (s : State) (a : Nat) (v : Word) : State :=
  if s.rb Addr.pcieBar2Cfg 31 = true ∧ v ≠ s.reg a then s.refuse a v else s.putReg a v

end Sys2Proof.Machine
end

