-- ==== Sys2Proof/Machine/Tod.lean ====
section
/-! DEFINITION. The time of day (R79-R83, R913, R914): steps, its source and holdover, PPS_IN and PPS_OUT. -/

namespace Sys2Proof.Machine

open Sys2Proof

/-- Half the width of the interval in which a PPS_IN edge is expected: 10 us of raw ticks (R914). -/
def ppsSlack : Nat := usTicks 10

/-- Whole seconds in the current or last holdover (R82). -/
def State.holdSeconds (s : State) : Nat := if s.tod.holdover then (s.now - s.tod.holdFrom) / tickHz else s.tod.holdLast

/-- The TOD as seconds and tick. -/
def State.todNow (s : State) : Nat × Nat := (s.tod.sec, s.tod.tick)

/-- Holdover begins (R82, R913). -/
def State.holdEnter (s : State) : State :=
  if s.tod.holdover then s
  else { s with tod := { s.tod with holdover := true, holdFrom := s.now, ppsRun := 0 } }.setRf Addr.lptTodSrc 30 30 1

/-- Holdover ends and is reported to the supervisor (R80, R83, R753). DESIGN CHOICE (log entry 77): the count of consecutive
misses starts at 0 outside holdover, and the next edge stays expected where the last qualifying edge put it. -/
def State.holdExit (s : State) : State :=
  if s.tod.holdover = false then s
  else
    let n := s.holdSeconds
    let s := { s with tod := { s.tod with holdover := false, holdLast := n, ppsMisses := 0 } }.setRf Addr.lptTodSrc 30 30 0
    s.timeCorrection 1 true 0 0 n s.todNow s.todNow

/-- `TOD_STEP_GO`: R79, R80, R753. -/
def State.todStep (s : State) : State :=
  let ds := sx 32 (s.reg Addr.lptTodStepSec).toNat
  let dt := sx 32 (s.reg Addr.lptTodStepTick).toNat
  let before := s.todNow
  let tot : Int := ((s.tod.sec * tickHz + s.tod.tick : Nat) : Int) + ds * (tickHz : Nat) + dt
  let n := (tot % ((2 ^ 48 * tickHz : Nat) : Int)).toNat
  let s := { s with tod := { s.tod with sec := n / tickHz, tick := n % tickHz, placed := true } }
  s.timeCorrection 0 s.tod.holdover ds dt s.holdSeconds before s.todNow

/-- `TOD_STEP_GO`: R79, R80, R753. -/
def execTodStepGo (s : State) : Host.Outcome State Fault Refusal := .next s.todStep

/-- A write of LPT_TOD_SRC (R83, R913). -/
def State.todSrcWrite (s : State) (v : Word) : State :=
  let a := Addr.lptTodSrc
  let s := s.noteRsvd a v
  let old := s.rf a 1 0
  let s := (s.setRf a 31 31 (fld v 31 31)).setRf a 1 0 (fld v 1 0)
  match fld v 1 0 with
  | 0 => s.holdEnter
  | 3 => if old = 3 then s
    else { s with tod := { s.tod with ppsExpect := none, ppsIdle := s.now, ppsMisses := 0, ppsRun := 0 } }
  | _ => if bit v 31 then s.holdExit else s.holdEnter

/-- `TOD_SRC_WRITE`: R83, R913. -/
def execTodSrcWrite (v : Word) (s : State) : Host.Outcome State Fault Refusal := .next (s.todSrcWrite v)

/-- When the next missed edge is certain: after the expected interval, or a full second and 10 us with no edge (R914). -/
def State.ppsMissAt (s : State) : Nat :=
  match s.tod.ppsExpect with
  | some e => e + ppsSlack
  | none => s.tod.ppsIdle + tickHz + ppsSlack

/-- One missed edge (R913, R914). -/
def State.ppsMissed (s : State) : State :=
  let m := s.tod.ppsMisses + 1
  let s := { s with tod := match s.tod.ppsExpect with
    | some e => { s.tod with ppsMisses := m, ppsExpect := some (e + tickHz) }
    | none => { s.tod with ppsMisses := m, ppsIdle := s.tod.ppsIdle + tickHz + ppsSlack } }
  if 2 ≤ m then s.holdEnter else s

/-- The misses that are certain by now. `n` bounds them. -/
def State.ppsCatchUp (s : State) : Nat → State
  | 0 => s
  | n + 1 => if s.ppsMissAt < s.now then s.ppsMissed.ppsCatchUp n else s

/-- `PPS_MISS`: R913, R914. -/
def execPpsMiss (s : State) : Host.Outcome State Fault Refusal :=
  .next (if s.rf Addr.lptTodSrc 1 0 = 3 ∧ s.ppsMissAt < s.now then s.ppsMissed else s)

/-- Whether two raw times are a second apart within 10 us. -/
def secondApart (a b : Nat) : Bool := decide (a + tickHz ≤ b + ppsSlack) && decide (b ≤ a + tickHz + ppsSlack)

/-- A PPS_IN edge judged (R83, R914). -/
def State.ppsJudge (s : State) : State :=
  let s := s.ppsCatchUp ((s.now - s.tod.ppsIdle) / tickHz + 2)
  let ok := match s.tod.ppsExpect with
    | none => true
    | some e => decide (e ≤ s.now + ppsSlack) && decide (s.now ≤ e + ppsSlack)
  let s := if ok then { s with tod := { s.tod with ppsExpect := some (s.now + tickHz), ppsMisses := 0 } } else s
  if s.tod.holdover then
    let run := if s.tod.ppsRun ≠ 0 ∧ secondApart s.tod.ppsLast s.now = true then s.tod.ppsRun + 1 else 1
    let s := { s with tod := { s.tod with ppsRun := run, ppsLast := s.now } }
    if 4 ≤ run then s.holdExit else s
  else s

/-- `PPS_IN_EDGE`: R83, R914. -/
def execPpsInEdge (s : State) : Host.Outcome State Fault Refusal :=
  .next (
    let s := (s.setReg Addr.lptPpsTsSec (w32 (s.tod.sec % 2 ^ 32))).setReg (Addr.lptPpsTsSec + 4) (w32 (s.tod.sec / 2 ^ 32))
    let s := s.setReg Addr.lptPpsTsTick (w32 s.tod.tick)
    if s.rf Addr.lptTodSrc 1 0 = 3 then s.ppsJudge else s)

/-- Raw ticks until the TOD next reaches a second boundary by advancing; 0 on the tick on which it reached one so. A counter
that reset or a step put on a boundary has not reached it by advancing (R81). -/
def State.toSecond (s : State) : Nat :=
  let q : Nat := 2 ^ 40
  let at_ : Nat := s.tod.tick * q + s.tod.frac
  let rate : Nat := ((q : Int) + sx 32 (s.reg Addr.lptTodRate).toNat).toNat
  if s.tod.placed = false ∧ at_ < rate then 0 else cdiv (tickHz * q - at_) rate

/-- `PPS_OUT_RISE`: R81. A boundary reached while the pin is high restarts its width. -/
def execPpsOutRise (s : State) : Host.Outcome State Fault Refusal :=
  .next (if s.rb Addr.lptPpsOutCtrl 31 = true ∧ s.pwr.refLost = none then
    let s := s.ticks s.toSecond
    { s with tod := { s.tod with ppsOut := true, ppsOutEnd := s.now + msTicks (s.rf Addr.lptPpsOutCtrl 9 0) } }
  else s)

/-- `PPS_OUT_FALL`: R81. -/
def execPpsOutFall (s : State) : Host.Outcome State Fault Refusal :=
  .next (if s.tod.ppsOut then
    let s := s.goto s.tod.ppsOutEnd
    { s with tod := { s.tod with ppsOut := false } }
  else s)

/-- A write of LPT_PPS_OUT_CTRL (R81): clearing EN drives the pin low. -/
def State.ppsOutWrite (s : State) (v : Word) : State :=
  let s := s.putReg Addr.lptPpsOutCtrl v
  if s.rb Addr.lptPpsOutCtrl 31 then s else { s with tod := { s.tod with ppsOut := false } }

/-- A write of LPT_TOD_RATE (R82): ignored in holdover. -/
def State.todRateWrite (s : State) (v : Word) : State := if s.tod.holdover then s else s.putReg Addr.lptTodRate v

end Sys2Proof.Machine
end

