-- ==== Sys2Proof/Machine/Power.lean ====
section
/-! DEFINITION. The power-state machine (R769-R782, R810), loss of power-good and REFCLK, the hardware trip, the power
mailbox commands, power-on and warm resets (R788, R789, R799-R802, R835-R837). -/

namespace Sys2Proof.Machine

open Sys2Proof

/-! ## Resets of the main domains (R800, R802, R879) -/

/-- Whether a register lies in the always-on island: XSPI, UART_0, DSV, THM, PWR, CLK, but for the dual-control registers and
the supervisor's tag, which a main power-up clears too (R802). -/
def alwaysOn (a : Nat) : Bool :=
  (a / 0x100000 == 0x194 || a / 0x100 == 0x195000 || decide (0x1B000000 ≤ a)) && !rwdRegs.contains a && a / 32 != Addr.dsvTag / 32

/-- Every main domain takes its reset values. The kept DRAM configuration, the UART_0 FIFOs and the always-on island stay. -/
def State.mainReset (s : State) : State :=
  let s := s.resetRegs fun a => !alwaysOn a
  let s := { s with
    doms := [], pins := [], sched := {}, pass := {}, cores := [], ctxs := [], wch := {}, ills := [], sfe := {}, fmt := {}, dpp := {},
    venc := {}, vdec := {}, coh := {}, eth := {}, pcie := {}, stats := [],
    per := { uart := s.per.uart.filter (fun x => x.1 == 0), uartTx := s.per.uartTx.filter fun x => x.1 == 0 },
    ms := { kept := s.ms.kept }, pwr := { s.pwr with held := [] }, dsv := { s.dsv with booted := false } }
  let s := (s.setReg Addr.pwrTcStatus 0).setReg Addr.pwrCpuStatus 0
  (s.setReg Addr.pwrRstStatus 0).holdEnter

/-- The configuration that the DRAM keeps in self-refresh (R801). -/
def State.selfRefresh (s : State) : State :=
  if s.rb Addr.memStatus 31 then
    { s with ms := { s.ms with kept := some (w32 (fld (s.reg Addr.memCtrl) 1 1), s.reg Addr.memCfg) } }
  else s

/-- DRAM without power: its contents are lost (R771). -/
def State.dramOff (s : State) : State := { s.dramLost with ms := { s.ms with kept := none } }

/-- The state of the device and its pending request (PWR_STATE). -/
def State.pwrSt (s : State) : Nat := s.rf Addr.pwrState 2 0
def State.pwrReq (s : State) : Nat := s.rf Addr.pwrState 6 4
def State.setPwr (s : State) (st req : Nat) : State := (s.setRf Addr.pwrState 2 0 st).setRf Addr.pwrState 6 4 req

/-- The rails of a step of R777, by their numbers in R769. -/
def stepRails (k : Nat) : List Nat := lget [] [[], [2], [3, 4], [5], [6], [7], [8], [9], [10, 11, 12], [], []] k

/-- Power-good bits of some rails set or cleared. -/
def State.setRails (s : State) (l : List Nat) (on : Bool) : State :=
  forEach l (fun r t => t.setRf Addr.pwrRailStatus r r (b2n on)) s

/-- Ballast is applied only in ACTIVE (R48, R820): it ends when the device leaves it. -/
def State.noBallast (s : State) : State := (s.setRf Addr.thmBallast 29 24 0).setRf Addr.thmStatus 0 0 0

/-- A main enable of every rail falls at once (R780, R781, R788, R810): the state becomes `st`, the request is consumed. -/
def State.mainsOff (s : State) (st fault : Nat) : State :=
  let s := s.mainReset.dramOff.noBallast
  let s := ((s.setReg Addr.pwrRailStatus 3).setReg Addr.clkStatus 0).setRf Addr.clkTclk 10 0 0
  let s := (s.setRf Addr.clkCpu 10 0 0).setPwr st 7
  { s with clk := {}, pwr := { s.pwr with step := 0, grace := none, ready := s.now + msTicks 5, offAt := s.now, fault := fault } }

/-! ## Power-up (R775, R777, R782, R820, R837) -/

/-- Whether TRIPPED may be left (R837). -/
def State.rearmed (s : State) : Bool :=
  (match s.thm.tripAt with | some t => decide (t + 60 * tickHz ≤ s.now) | none => true)
    && (match s.thm.above90 with | some t => decide (t + 10 * tickHz ≤ s.now) | none => true)
    && (s.rb Addr.thmNtcIn 31 || decide (sx 16 (s.rf Addr.thmNtcIn 15 0) ≤ 400))

/-- Whether a power-up may begin. -/
def State.mayRise (s : State) : Bool :=
  s.pwrReq == 2 && s.pwr.refLost.isNone && (decide (s.pwrSt < 2) || (s.pwrSt == 3 && s.rearmed))

/-- Step 10: every main domain from its reset values, ACTIVE (R777, R800, R820). -/
def State.enterActive (s : State) : State :=
  let trip := s.rb Addr.pwrState 8
  let s := s.mainReset
  let s := (s.setReg Addr.pwrState (w32 (if s.pwrReq = 2 then 0x72 else 2 + 16 * s.pwrReq))).setReg Addr.pwrCpuStatus
    (w32 (15 - fld (s.reg Addr.pwrCpuGate) 3 0))
  let s := (s.setRf Addr.pwrRailStatus 13 13 1).setReg Addr.pcieStatus (w32 (Config.pcieMode % 4 * 2 ^ 28))
  let cap := if trip then s.rf Addr.thmRampFloor 10 0 else s.rf Addr.clkTclkReq 10 0
  { s with thm := { s.thm with b := s.thm.load * 2 ^ 24, capRamp := cap, samples := 0, soft := false, loss := false, released := false,
                               flows := [], overMs := 0, frozen := [] } }

/-- A power-up step takes place with its power-goods. -/
def State.upStep (s : State) (k : Nat) : State :=
  let s := s.setRails (stepRails k) true
  let s := { s with pwr := { s.pwr with step := k, ready := s.now + usTicks (if k = 9 then 1 else 100) } }
  if k = 2 then
    let x : Avs := { ramps := [(s.now, 2880, 2880)], settled := 2880 }
    { s with clk := { rails := [(0, x), (1, x)], bus := none } }
  else if k = 9 then ((s.setReg Addr.clkStatus 15).setReg Addr.clkTclk (w32 (800 * 65536 + 800))).setReg Addr.clkCpu (w32 (1600 * 65536 + 800))
  else if k = 10 then s.enterActive
  else s

/-- `POWER_UP_STEP`: R774, R775, R777, R782, R820, R837. From RETAIN steps 5-7 are skipped. -/
def execPowerUpStep (s : State) : Host.Outcome State Fault Refusal :=
  let k := if s.pwr.step = 4 ∧ s.rb Addr.pwrRailStatus 9 = true then 8 else s.pwr.step + 1
  .next (if s.now < s.pwr.ready then s
  else if s.pwrSt = 4 ∧ (s.pwrReq = 2 ∨ s.pwrReq = 7) then s.upStep k
  else if s.mayRise then ({ s with pwr := { s.pwr with step := 0 } }.setRf Addr.pwrState 2 0 4).upStep 1
  else s)

/-! ## Power-down (R774, R776, R778) -/

/-- A power-down toward a target begins at the step last done. -/
def State.beginDown (s : State) (target : Nat) : State :=
  let k := if target = 0 ∧ s.rb Addr.pwrRailStatus 9 = true then max s.pwr.step 7 else s.pwr.step
  { s with pwr := { s.pwr with step := k, target := target, grace := none } }.setRf Addr.pwrState 2 0 5

/-- The target of a power-down is reached. -/
def State.endDown (s : State) : State :=
  let t := s.pwr.target
  let s := s.setPwr t (if s.pwrReq = t then 7 else s.pwrReq)
  { s with pwr := { s.pwr with step := 0, ready := s.now + msTicks 5, offAt := s.now } }

/-- A step of R777 in reverse (R778). -/
def State.downStep (s : State) (k : Nat) : State :=
  let s := if k = 10 then s.selfRefresh.mainReset.noBallast.setRf Addr.pwrRailStatus 13 13 0
    else if k = 9 then { (((s.setReg Addr.clkStatus 0).setRf Addr.clkTclk 10 0 0).setRf Addr.clkCpu 10 0 0) with clk := {} }
    else if k = 7 ∨ k = 6 ∨ k = 5 then (if s.pwr.target = 0 then (s.setRails (stepRails k) false).dramOff else s)
    else s.setRails (stepRails k) false
  { s with pwr := { s.pwr with step := k - 1 } }

/-- `POWER_DOWN_STEP`: R774, R778. -/
def execPowerDownStep (s : State) : Host.Outcome State Fault Refusal :=
  let s := if s.pwrSt = 4 ∧ s.pwrReq < 2 then s.beginDown s.pwrReq
    else if s.pwrSt = 1 ∧ s.pwrReq = 0 then s.beginDown 0
    else s
  .next (if s.pwrSt = 5 then
    let s := s.downStep s.pwr.step
    if s.pwr.step = 0 then s.endDown else s
  else s)

/-- `POWER_GRACE_END`: R750, R776. -/
def execPowerGraceEnd (s : State) : Host.Outcome State Fault Refusal :=
  .next (match s.pwr.grace with
  | some t =>
    if s.now < t ∨ s.pwrSt ≠ 2 then s
    else if s.pwrReq < 2 then s.closeSegments.beginDown s.pwrReq
    else { s with pwr := { s.pwr with grace := none } }
  | none => s)

/-- `PG_TIMEOUT`: R779. -/
def execPgTimeout (rail : Nat) (s : State) : Host.Outcome State Fault Refusal :=
  let k := if s.pwr.step = 4 ∧ s.rb Addr.pwrRailStatus 9 = true then 8 else s.pwr.step + 1
  .next (if s.pwrSt = 4 ∧ rail ∈ stepRails k ∧ s.pwr.ready + msTicks 10 ≤ s.now then
    let s := s.raise .pwrSeq 0x18 rail none [(1, rail)]
    let s := { s with pwr := { s.pwr with step := k, fault := Code.pwrSeq.num } }
    (s.setRf Addr.pwrState 6 4 7).beginDown 0
  else s)

/-- `PG_FALL`: R780, R810. -/
def execPgFall (rail : Nat) (s : State) : Host.Outcome State Fault Refusal :=
  .next (if 2 ≤ rail ∧ rail ≤ 12 ∧ s.rb Addr.pwrRailStatus rail = true ∧ (s.pwrSt = 2 ∨ s.pwrSt = 4 ∨ s.pwrSt = 5) then
    (s.mainsOff 0 Code.pwrPg.num).raise .pwrPg 0x18 rail none [(1, rail)]
  else s)

/-- `HARDWARE_TRIP`: R781, R810, R835, R836, R840. -/
def execHardwareTrip (n : Nat) (s : State) : Host.Outcome State Fault Refusal :=
  .next (if n < 24 ∧ s.pwrSt ≠ 3 then
    let sample := s.rf (Addr.thmTs n) 15 0
    let s := (s.mainsOff 3 Code.thmTrip.num).setRf Addr.pwrState 8 8 1
    let s := ((s.setReg Addr.thmTripLast (w32 (n * 2 ^ 27 + sample))).setReg Addr.thmTripTod (w32 s.tod.sec)).inc Addr.thmTripCnt 1
    let s := { s with thm := { s.thm with soft := false, loss := false, released := false, frozen := [], tripAt := some s.now,
                                          trips := ((n, sample, s.tod.sec, s.dsv.boots) :: s.thm.trips).take 8 } }
    s.raise .thmTrip 0x19 n none []
  else s)

/-! ## REFCLK (R788, R789) -/

/-- `REFCLK_LOSS`: R788. TRIPPED stays latched. -/
def execRefclkLoss (s : State) : Host.Outcome State Fault Refusal :=
  .next (if s.pwr.refLost.isSome then s
  else
    let s := s.mainsOff (if s.pwrSt = 3 then 3 else 0) Code.refclk.num
    { s with pwr := { s.pwr with refLost := some s.todNow } }.raise .refclk 0x17 0 none [])

/-- `REFCLK_RESUME`: R82, R789, R753. The measured absence is in ms. -/
def execRefclkResume (ms : Nat) (s : State) : Host.Outcome State Fault Refusal :=
  .next (match s.pwr.refLost with
  | none => s
  | some before =>
    let tot := before.1 * tickHz + before.2 + msTicks ms
    let s := { s with pwr := { s.pwr with refLost := none }, tod := { s.tod with sec := tot / tickHz % 2 ^ 48, tick := tot % tickHz } }.holdEnter
    s.timeCorrection 2 true (ms / 1000 : Nat) (msTicks (ms % 1000) : Nat) ms before s.todNow)

/-! ## Requests and mailbox commands (R772, R773, R799) -/

/-- `WAKE_N_FALL`: R772. -/
def execWakeNFall (s : State) : Host.Outcome State Fault Refusal := .next (s.powerReq 2)

/-- `WAKE_ALARM`: R772. -/
def execWakeAlarm (s : State) : Host.Outcome State Fault Refusal :=
  .next (if s.pwr.alarm ≠ 0 ∧ s.pwr.alarm ≤ s.tod.sec then { s with pwr := { s.pwr with alarm := 0 } }.powerReq 2 else s)

/-- `GET_POWER`: R773, R799. -/
def execGetPower (p : Page) (s : State) : Host.Outcome State Fault Refusal :=
  .next (s.serve p 0x0060 true (· == 0) fun _ t =>
    (0, Config.respLayout 0x0060 [leBytes 1 t.pwrSt, leBytes 1 t.pwrReq, leBytes 1 (t.rf Addr.pwrState 8 8), leBytes 2 (t.rf Addr.clkTclk 10 0),
      leBytes 2 (t.rf Addr.clkCpu 10 0), leBytes 2 t.pwr.fault], t))

/-- `SET_POWER`: R772, R773, R799. -/
def execSetPower (p : Page) (s : State) : Host.Outcome State Fault Refusal :=
  .next (s.serve p 0x0061 true (fun n => decide (14 ≤ n)) fun m t =>
    let v := fieldAt m 0 1
    if 2 < v then (1, [], t) else (0, [], { t with pwr := { t.pwr with alarm := fieldAt m 8 6 } }.powerReq v))

/-- The voltage in mV of a rail that is not adaptive, while its power-good stands, and 0 otherwise (R769): the rails of the table in its order, then the
three banks and VDD_GATE, whose voltages are the board's. -/
def State.fixedMv (s : State) (r : Nat) : Nat :=
  if s.rb Addr.pwrRailStatus r then (if 10 ≤ r then Config.bankMv r else lget 0 [800, 1800, 800, 0, 0, 800, 1200, 1800, 1050, 500] r) else 0

/-- `GET_RAILS`: R799. What the regulators read back is theirs, so it is free. -/
def execGetRails (p : Page) (s : State) : Host.Outcome State Fault Refusal :=
  .next (s.serve p 0x0062 true (· == 0) fun _ t =>
    let target := fun r => if r = 3 then t.rf Addr.pwrVcore 25 16 else t.rf Addr.pwrVcpu 25 16
    let item := fun r => if r = 3 ∨ r = 4 then leBytes 2 (t.railMv (r - 3)) ++ leBytes 2 (target r) else leBytes 2 (t.fixedMv r) ++ leBytes 2 (t.fixedMv r)
    (0, Config.respLayout 0x0062 ((List.range 14).map item ++ [freeRun t.fresh 56]), { t with fresh := t.fresh + 1 }))

/-! ## Power-on and warm reset (R800-R802) -/

/-- `POWER_ON_RESET`: R800. What the OTP and the boot flash hold stays; the queue of commands and the counter of free values
are not the device's. -/
def execPowerOnReset (s : State) : Host.Outcome State Fault Refusal :=
  let d := s.dsv
  .next { State.reset with
    pending := s.pending, fresh := s.fresh,
    dsv := { otp := d.otp, boots := d.boots, copyA := d.copyA, copyB := d.copyB, checkpoint := d.checkpoint, tag := d.tag, flash := d.flash } }

/-- `WARM_RESET`: R743, R747, R800-R802. -/
def execWarmReset (s : State) : Host.Outcome State Fault Refusal :=
  .next (
    let s := (s.selfRefresh.mainReset).setReg Addr.dsvBootStatus 0
    let s := (s.setReg (Addr.dsvMbstatus 0) 0).setReg (Addr.dsvMbstatus 1) 0
    let s := { s with dsv := { s.dsv with fw := none, proposal := none, superseded := [], unlock := none, segs := [], waiting := [], forward := none,
                                          order := [] } }
    if s.pwrSt = 2 then
      (s.setReg Addr.pwrCpuStatus (w32 (15 - fld (s.reg Addr.pwrCpuGate) 3 0))).setReg Addr.pcieStatus (w32 (Config.pcieMode % 4 * 2 ^ 28))
    else s)

end Sys2Proof.Machine
end

