-- ==== Sys2Proof/Machine/Lpt.lean ====
section
/-! DEFINITION. The line domains (R55-R69, R84, R85, R94-R100, R911): starting, stopping, line boundaries, the slaved
role, and the writes of their registers. -/

namespace Sys2Proof.Machine

open Sys2Proof

/-! ## Conditions and registers -/

/-- Whether a domain is slaved by its ROLE. -/
def State.ldSlaved (s : State) (d : Nat) : Bool := s.rf (Addr.lptLdCtrl d) 30 29 == 1

/-- Whether every start condition but FLEN_M1 holds (R61). -/
def State.ldOthers (s : State) (d : Nat) : Bool :=
  s.rb (Addr.lptLdCtrl d) 31 && s.rb Addr.lptCtrl 0 && (s.ldSlaved d || s.reg (Addr.lptLdPeriod d) != 0)

/-- FLEN_M1 as programmed. -/
def State.ldFlen (s : State) (d : Nat) : Nat := s.rf (Addr.lptLdFlen d) 15 0

/-- A domain that is not running becomes eligible or not (R61): a master starts on the next tick, a slaved one waits. -/
def State.tryArm (s : State) (d : Nat) : State :=
  let x := s.dom d
  if x.running then s
  else if s.ldOthers d = true ∧ s.ldFlen d ≠ 0 then
    if s.ldSlaved d then s.setDom d { x with arming := none, waiting := true }
    else s.setDom d { x with arming := some (x.arming.getD (s.now + 1)), waiting := false }
  else s.setDom d { x with arming := none, waiting := false }

/-- The programmed values come into force (R59, R61); a new frame length has its entries judged (R90). -/
def State.ldApply (s : State) (d : Nat) : State :=
  let x := s.dom d
  let n := s.ldFlen d
  let t := s.setDom d { x with period := (s.reg (Addr.lptLdPeriod d)).toNat, flenM1 := n, fswinM1 := s.rf (Addr.lptLdFlen d) 31 24 }
  if n = x.flenM1 then t else t.flenCheck d

/-- What follows any write that start conditions depend on: `before` says whether the others held (R61). -/
def State.ldAfter (s : State) (d : Nat) (before : Bool) : State :=
  let s := if (s.dom d).running then s else s.ldApply d
  let s := if before = false ∧ s.ldOthers d = true ∧ s.ldFlen d = 0 then s.cfgErr 0x01 d else s
  s.tryArm d

/-- A write of LPT_LD_PERIOD_n (R57, R59-R61). -/
def State.ldPeriodWrite (s : State) (d : Nat) (v : Word) : State := (s.putReg (Addr.lptLdPeriod d) v).ldAfter d (s.ldOthers d)

/-- A write of LPT_LD_FLEN_n (R59, R61, R100). -/
def State.ldFlenWrite (s : State) (d : Nat) (v : Word) : State := (s.putReg (Addr.lptLdFlen d) v).ldAfter d (s.ldOthers d)

/-! ## Stopping -/

/-- The E_FS_LATE record of the present frame, if any occurrence fell in it (R97). -/
def State.flushLate (s : State) (d : Nat) : State :=
  let x := s.dom d
  if x.late = 0 then s
  else (s.raise .fsLate 0x01 d (some d) [(4, x.late)]).setDom d { x with late := 0 }

/-- A running domain stops at position `hold` of its frame (R60, R61, R95, R98, R169, R716). -/
def State.stopAt (s : State) (d hold : Nat) : State :=
  let s := s.flushLate d
  let x := s.dom d
  let s := s.setDom d { x with
    running := false, arming := none, waiting := false, provisional := false, accepted := false, coasted := 0, ivs := [],
    adj := 0, floor := 0, hold := hold, open_ := [], members := x.membersNext.getD x.members, membersNext := none, maintOpen := false }
  ((s.pinsOff d).releaseDomain d).illStopDomain d

/-- A domain stops at its present position. -/
def State.stopDomain (s : State) (d : Nat) : State :=
  if (s.dom d).running then s.stopAt d (s.pub d)
  else s.setDom d { s.dom d with arming := none, waiting := false }

/-! ## Line 0 -/

/-- The correction of an anchored domain's frame that begins now, in 2^-16 ticks (R84). -/
def State.anchorAdj (s : State) (d : Nat) : Int :=
  let fps := (tget (fun _ => 0) s.regs (Addr.lptLdAnchor d + 4)).toNat % 256
  if s.rb (Addr.lptLdCtrl d) 26 = false ∨ fps = 0 then 0
  else
    let x := s.dom d
    let full : Int := (tickHz * 65536 : Nat)
    let at16 : Int := (s.tod.tick * 65536 : Nat) - ((s.now16 - x.frameAt : Nat) : Int)
    let e := ((at16 - (s.rf (Addr.lptLdAnchor d) 30 0 * 65536 : Nat)) * fps) % full
    let e := if full < 2 * e then e - full else e
    min (max (-(e / fps)) (-(64 * 65536))) (64 * 65536)

/-- Line 0 of frame `frame` begins at the exact time `t16` (R58, R59, R61, R84, R88, R94). MEMBERS waiting take effect here,
so also at a line 0 that prediction begins. -/
def State.beginFrame (s : State) (d frame t16 : Nat) : State :=
  let x := s.dom d
  let s := s.setDom d { x with
    running := true, arming := none, waiting := false, issued := true, frame := frame % 2 ^ 32, line := 0, lineAt := t16,
    frameAt := t16, floor := 0, members := x.membersNext.getD x.members, membersNext := none }
  let s := s.ldApply d
  let s := s.setDom d { s.dom d with adj := if (s.dom d).slaved then 0 else s.anchorAdj d }
  (s.commitLine0 d).autoPulses d s.now

/-- The number of the next frame a starting domain issues (R61, R99). -/
def Dom.nextFrame (x : Dom) : Nat := if x.issued then x.frame + 1 else 0

/-- `DOMAIN_START`: R61. -/
def execDomainStart (d : Nat) (s : State) : Host.Outcome State Fault Refusal :=
  .next (match (s.dom d).arming with
    | some t =>
      if d < 8 ∧ (s.dom d).running = false then
        let s := s.goto t
        let x := s.dom d
        (s.setDom d { x with slaved := false }).beginFrame d x.nextFrame s.now16
      else s
    | none => s)

/-- `LINE_BOUNDARY`: R55, R58-R60, R84, R99. -/
def execLineBoundary (d : Nat) (s : State) : Host.Outcome State Fault Refusal :=
  .next (
    let x := s.dom d
    if d < 8 ∧ x.running = true ∧ x.slaved = false then
      if x.line < x.flenM1 then
        let t := x.lineStart (x.line + 1)
        (s.goto (x.posTick ((x.line + 1) * 256))).setDom d { x with line := x.line + 1, lineAt := t }
      else
        let t := x.lineStart (x.flenM1 + 1)
        let s := s.goto (x.posTick ((x.flenM1 + 1) * 256))
        if s.reg (Addr.lptLdPeriod d) = 0 then s.stopAt d (x.flenM1 * 256 + 255)
        else s.beginFrame d (x.frame + 1) t
    else s)

/-! ## The slaved role -/

/-- The predicted start of a slaved domain's next frame (R66). -/
def Dom.predicted (x : Dom) : Nat := x.frameAt + (x.flenM1 + 1) * x.per

/-- Half the Frame Start window (R66). -/
def Dom.halfWin (x : Dom) : Nat := (x.fswinM1 + 1) * x.per

/-- The end of the window of the present frame, where prediction began it (R66). -/
def Dom.winEnd (x : Dom) : Nat := x.frameAt + x.halfWin

/-- The first Frame Start window to end of the frames begun by prediction (R66, R97). -/
def Dom.nextEnd (x : Dom) : Option Nat :=
  match x.open_ with
  | w :: _ => some w
  | [] => if x.provisional then some x.winEnd else none

/-- A slaved domain begins its next frame by prediction (R65, R66, R97); the window of a frame begun by prediction before it
stays open. -/
def State.predictStart (s : State) (d : Nat) : State :=
  let c := (s.dom d).predicted
  let s := (s.goto (tickOf16 c)).flushLate d
  let x := s.dom d
  (s.setDom d { x with provisional := true, accepted := false, open_ := if x.provisional then x.open_ ++ [x.winEnd] else x.open_ }).beginFrame
    d (x.frame + 1) c

/-- Whether a slaved domain is due a prediction: it runs with a period, and no open window ends before the next centre
(R66). -/
def Dom.predicts (x : Dom) : Bool :=
  x.running && x.slaved && x.per != 0 && (match x.nextEnd with | none => true | some w => decide (x.predicted ≤ w))

/-- `PREDICTED_FRAME_START`: R65, R66, R97, R99. -/
def execPredictedFrameStart (d : Nat) (s : State) : Host.Outcome State Fault Refusal :=
  .next (if d < 8 ∧ (s.dom d).predicts = true then s.predictStart d else s)

/-- The domain after the first window to end has ended. -/
def Dom.dropWin (x : Dom) : Dom :=
  match x.open_ with
  | _ :: r => { x with open_ := r }
  | [] => { x with provisional := false }

/-- The Frame Start window of a frame begun by prediction ends with no packet accepted (R97, R98): the first to end of those
open. -/
def State.windowEnd (s : State) (d : Nat) : State :=
  let x := s.dom d
  let s := s.goto (tickOf16 (x.nextEnd.getD 0))
  let s := (s.setDom d { x.dropWin with accepted := false, late := x.late + 1, coasted := x.coasted + 1 }).setStat 9 d 0 (· + 1)
  if x.coasted < 4 then s
  else
    let s := s.raise .domainStopped 0x01 d (some d) []
    (s.setRf (Addr.lptLdCtrl d) 31 31 0).stopDomain d

/-- `FS_WINDOW_END`: R97, R98. -/
def execFsWindowEnd (d : Nat) (s : State) : Host.Outcome State Fault Refusal :=
  .next (if d < 8 ∧ (s.dom d).running = true ∧ (s.dom d).slaved = true ∧ (s.dom d).nextEnd.isSome = true then s.windowEnd d else s)

/-- An accepted Frame Start begins a frame now (R64, R67, R98, R912). -/
def State.fsBegin (s : State) (d : Nat) : State :=
  let s := if (s.dom d).running then (s.passOver d (s.pub d) (((s.dom d).flenM1 + 1) * 256)).flushLate d else s
  let x := s.dom d
  (s.setDom d { x with slaved := true, accepted := true, provisional := false, open_ := [], coasted := 0 }).beginFrame d x.nextFrame s.now16

/-- What prediction has due by now for a slaved domain: windows that ended before now, centres reached. `n` bounds the
events. -/
def State.slavedDue (s : State) (d : Nat) : Nat → State
  | 0 => s
  | n + 1 =>
    let x := s.dom d
    if x.running = false then s
    else if x.predicts = true ∧ x.predicted ≤ s.now16 then (s.predictStart d).slavedDue d n
    else match x.nextEnd with
      | some w => if w < s.now16 then (s.windowEnd d).slavedDue d n else s
      | none => s

/-- The source context's Frame Start reaches a slaved domain (R64, R66, R67, R97, R98, R911). A packet accepted inside the
window of the present frame sets that frame's real line 0, and earlier windows still open close with it (DESIGN CHOICE, log
entry 77). A MEMBERS value written since the predicted line 0 waits for the next frame's (DESIGN CHOICE, log entry 77). -/
def State.domFrameStart (s : State) (d : Nat) : State :=
  if (s.dom d).waiting then s.fsBegin d
  else if (s.dom d).running = false ∨ (s.dom d).slaved = false then s
  else if (s.dom d).per = 0 then s.fsBegin d
  else
    let s := s.slavedDue d 16
    let x := s.dom d
    if x.running = false then s
    else if x.provisional then
      if s.now16 ≤ x.winEnd then
        s.setDom d { x with provisional := false, open_ := [], accepted := true, coasted := 0, floor := s.pub d, line := 0,
                            lineAt := s.now16, frameAt := s.now16 }
      else s.setDom d { x with late := x.late + 1, accepted := false }
    else if x.predicted ≤ s.now16 + x.halfWin then s.fsBegin d
    else s.setDom d { x with late := x.late + 1, accepted := false }

/-- The last 16 of a list. -/
def last16 (l : List Nat) : List Nat := l.drop (l.length - 16)

/-- A counted line other than the first reaches a slaved domain (R64, R65, R911, R912). -/
def State.domLine (s : State) (d : Nat) : State :=
  let x := s.dom d
  if x.running = true ∧ x.slaved = true ∧ x.accepted = true ∧ x.line < x.flenM1 then
    let p := s.pub d
    let s := s.setDom d { x with line := x.line + 1, lineAt := s.now16, ivs := last16 (x.ivs ++ [s.now16 - x.lineAt]), floor := p }
    if p < (x.line + 1) * 256 then s.passOver d p ((x.line + 1) * 256) else s
  else s

/-! ## Enabling -/

/-- Whether a MEMBERS value would put a context into two domains (R68). -/
def State.memberClash (s : State) (d m : Nat) : Bool :=
  (List.range 8).any fun e =>
    let x := s.dom e
    e != d && Nat.land m (Nat.lor x.members (x.membersNext.getD 0)) != 0

/-- Whether ANCHOR may be enabled (R85): the frame period is within 100 ppm of a second / FPS. -/
def State.anchorOk (s : State) (d : Nat) : Bool :=
  let fps := (tget (fun _ => 0) s.regs (Addr.lptLdAnchor d + 4)).toNat % 256
  let a : Int := ((s.ldFlen d + 1) * (s.reg (Addr.lptLdPeriod d)).toNat * fps : Nat)
  let b : Int := (tickHz * 65536 : Nat)
  decide ((a - b).natAbs * 10000 ≤ tickHz * 65536)

/-- What a write of LPT_LD_CTRL_n does not accept: ROLE, SRC_SC, GROUP, ANCHOR, MEMBERS (R20, R68, R85, R94). -/
def State.ldCtrlBad (s : State) (d : Nat) (v : Word) : Bool × Bool × Bool × Bool × Bool :=
  let old := s.reg (Addr.lptLdCtrl d)
  let en := bit old 31
  let new hi lo := fld v hi lo != fld old hi lo
  (new 30 29 && (en || decide (1 < fld v 30 29)), new 19 16 && en, new 28 27 && decide (2 < fld v 28 27),
    bit v 26 && !bit old 26 && !s.anchorOk d, new 15 0 && s.memberClash d (fld v 15 0))

/-- A field of a written word as it was where it is not accepted. -/
def keepFld (bad : Bool) (old : Word) (hi lo : Nat) (w : Word) : Word := if bad then setFld w hi lo (fld old hi lo) else w

/-- The word that a write of LPT_LD_CTRL_n leaves (R20). -/
def State.ldCtrlWord (s : State) (d : Nat) (v : Word) : Word :=
  let old := s.reg (Addr.lptLdCtrl d)
  let b := s.ldCtrlBad d v
  keepFld b.2.2.2.2 old 15 0 (keepFld b.2.2.2.1 old 26 26 (keepFld b.2.2.1 old 28 27 (keepFld b.2.1 old 19 16 (keepFld b.1 old 30 29
    (setFld v 25 20 0)))))

/-- MEMBERS of a domain written: at once, or at its next line 0 where it runs (R94). -/
def State.membersWrite (s : State) (d m : Nat) : State :=
  if (s.dom d).running then s.setDom d { s.dom d with membersNext := some m } else s.setDom d { s.dom d with members := m }

/-- A write of LPT_LD_CTRL_n stored (R20, R68, R85, R94). -/
def State.ldCtrlPut (s : State) (d : Nat) (v : Word) : State :=
  let a := Addr.lptLdCtrl d
  let old := s.reg a
  let b := s.ldCtrlBad d v
  let w := s.ldCtrlWord d v
  let s := (s.noteRsvd a v).setReg a w
  let s := if b.1 || b.2.1 || b.2.2.1 || b.2.2.2.1 || b.2.2.2.2 then s.cfgErr 0x01 d else s
  if fld w 15 0 = fld old 15 0 then s else s.membersWrite d (fld w 15 0)

/-- A write of LPT_LD_CTRL_n (R20, R61, R68, R85, R94). -/
def State.ldCtrlWrite (s : State) (d : Nat) (v : Word) : State :=
  let t := s.ldCtrlPut d v
  let t := if s.rb (Addr.lptLdCtrl d) 31 = true ∧ bit v 31 = false then t.stopDomain d else t
  t.ldAfter d (s.ldOthers d)

/-- `DOMAIN_ENABLE`: R61, R67. -/
def execDomainEnable (d : Nat) (v : Word) (s : State) : Host.Outcome State Fault Refusal :=
  .next (if d < 8 then s.ldCtrlWrite d v else s)

/-- `DOMAIN_DISABLE`: R61, R95, R169, R716. -/
def execDomainDisable (d : Nat) (v : Word) (s : State) : Host.Outcome State Fault Refusal :=
  .next (if d < 8 then s.ldCtrlWrite d v else s)

/-- A write of LPT_CTRL (R61, R96). -/
def State.lptCtrlWrite (s : State) (v : Word) : State :=
  let was := s.rb Addr.lptCtrl 0
  let before := (List.range 8).map s.ldOthers
  let t := s.putReg Addr.lptCtrl v
  if was = true ∧ t.rb Addr.lptCtrl 0 = false then
    let t := forEach (List.range 8) (fun d u => u.stopDomain d) t
    forEach (List.range 16) (fun i u => u.setPin i {}) t
  else forEach (List.range 8) (fun d u => u.ldAfter d (lget false before d)) t

/-- `LPT_ENABLE`: R61, R96. -/
def execLptEnable (s : State) : Host.Outcome State Fault Refusal := .next (s.lptCtrlWrite 1)

/-- `LPT_DISABLE`: R95, R96, R169, R716. -/
def execLptDisable (s : State) : Host.Outcome State Fault Refusal := .next (s.lptCtrlWrite 0)

end Sys2Proof.Machine
end

