-- ==== Sys2Proof/Machine/Sched.lean ====
section
/-! DEFINITION. The commands of the schedule table and its pins (R62, R71-R75, R86-R95): one action per code, pin
edges, entry writes, COMMIT. -/

namespace Sys2Proof.Machine

open Sys2Proof

/-- `NONE`: the entry counts its repeats (R28, R72, R91). -/
def execSchedNone (n : Nat) (s : State) : Host.Outcome State Fault Refusal := .next (if n < 512 then s.fireAt n 0 else s)

/-- `FSYNC_SET`: R28, R62, R72, R73, R86, R87, R91. -/
def execFsyncSet (n : Nat) (s : State) : Host.Outcome State Fault Refusal := .next (if n < 512 then s.fireAt n 1 else s)

/-- `FSYNC_CLR`: R28, R62, R72, R73, R86, R87, R91. -/
def execFsyncClr (n : Nat) (s : State) : Host.Outcome State Fault Refusal := .next (if n < 512 then s.fireAt n 2 else s)

/-- `ILL_ON`: R72, R73, R86, R87, R91, R92, R707. -/
def execIllOn (n : Nat) (s : State) : Host.Outcome State Fault Refusal := .next (if n < 512 then s.fireAt n 3 else s)

/-- `ILL_OFF`: R72, R73, R86, R87, R91, R710. -/
def execIllOff (n : Nat) (s : State) : Host.Outcome State Fault Refusal := .next (if n < 512 then s.fireAt n 4 else s)

/-- `CTX_WAKE`: R72, R73, R86, R91, R93, R165, R191. -/
def execCtxWake (n : Nat) (s : State) : Host.Outcome State Fault Refusal := .next (if n < 512 then s.fireAt n 5 else s)

/-- `FMT_START`: R72, R73, R86, R91, R434. -/
def execFmtStart (n : Nat) (s : State) : Host.Outcome State Fault Refusal := .next (if n < 512 then s.fireAt n 6 else s)

/-- `VENC_SLICE`: R72, R73, R86, R91, R527, R549. -/
def execVencSlice (n : Nat) (s : State) : Host.Outcome State Fault Refusal := .next (if n < 512 then s.fireAt n 7 else s)

/-- `IRQ`: R72, R73, R86, R91, R694. -/
def execIrq (n : Nat) (s : State) : Host.Outcome State Fault Refusal := .next (if n < 512 then s.fireAt n 8 else s)

/-- `MAINT_OPEN`: R39, R72, R73, R91. -/
def execMaintOpen (n : Nat) (s : State) : Host.Outcome State Fault Refusal := .next (if n < 512 then s.fireAt n 9 else s)

/-- `MAINT_CLOSE`: R39, R72, R73, R91. -/
def execMaintClose (n : Nat) (s : State) : Host.Outcome State Fault Refusal := .next (if n < 512 then s.fireAt n 10 else s)

/-- `FSYNC_TRIM_EDGE`: the first delayed edge of a pin takes effect (R62, R63, R70, R87). -/
def execFsyncTrimEdge (pin : Nat) (s : State) : Host.Outcome State Fault Refusal :=
  .next (match (s.pin pin).edges with
    | (t, v) :: r =>
      if pin < 16 then
        let s := s.goto t
        s.setPin pin { (s.pin pin).edge t v with edges := r }
      else s
    | [] => s)

/-- `FSYNC_AUTO_PULSE_END`: R61, R62. -/
def execFsyncAutoPulseEnd (pin : Nat) (s : State) : Host.Outcome State Fault Refusal :=
  .next (match (s.pin pin).ends with
    | t :: r =>
      if pin < 16 then
        let s := s.goto t
        s.setPin pin { (s.pin pin).edge t false with ends := r }
      else s
    | [] => s)

/-- A write of LPT_FSYNC_n (R95). -/
def State.fsyncWrite (s : State) (pin : Nat) (v : Word) : State :=
  let a := Addr.lptFsync pin
  let t := s.putReg a v
  if t.rf a 29 27 = s.rf a 29 27 then t else t.setPin pin {}

/-- `FSYNC_DOMAIN_WRITE`: R95. -/
def execFsyncDomainWrite (pin : Nat) (v : Word) (s : State) : Host.Outcome State Fault Refusal :=
  .next (if pin < 16 then s.fsyncWrite pin v else s)

/-- An entry with a word written (R20, R71): an unlisted ACTION and an FPHASE not below FSTRIDE_M1 + 1 are not accepted.
The second value says that something was not. -/
def Ent.put (e : Ent) (word : Nat) (v : Word) : Ent × Bool :=
  match word with
  | 0 => if fld v 27 24 ≠ fld e.w0 27 24 ∧ 10 < fld v 27 24 then ({ e with w0 := setFld v 27 24 (fld e.w0 27 24) }, true)
    else ({ e with w0 := v }, false)
  | 1 => if fld v 15 0 ≠ fld e.w1 15 0 ∧ fld v 15 8 < fld v 7 0 then ({ e with w1 := setFld v 15 0 (fld e.w1 15 0) }, true)
    else ({ e with w1 := v }, false)
  | 2 => ({ e with w2 := v }, false)
  | _ => ({ e with w3 := v }, false)

/-- A write of a word of LPT_SCHED_ENT_n (R71, R88-R90). -/
def State.entWrite (s : State) (n word : Nat) (v : Word) : State :=
  if s.rb Addr.lptSchedCtrl 0 then
    let old := (s.shadow n).getD ((s.committed n).getD (s.ent n))
    let got := old.put word v
    let e := got.1
    let bad := got.2
    let s := s.setShadow n (some e)
    if bad then s.cfgErr 0x17 0 else s
  else
    let got := (s.ent n).put word v
    let e := got.1
    let bad := got.2
    let s := ((s.setShadow n none).setCommitted n none).entEffect n e
    if bad then s.cfgErr 0x17 0 else s

/-- `SCHED_ENTRY_WRITE`: R71, R88-R90. -/
def execSchedEntryWrite (n word : Nat) (v : Word) (s : State) : Host.Outcome State Fault Refusal :=
  .next (if n < 512 ∧ word < 4 then s.entWrite n word v else s)

/-- COMMIT: shadowed entries take effect at the next line 0 of their domains, at once where those do not run
(R88-R90). -/
def State.commit (s : State) : State :=
  forEach (List.range 512) (fun n t =>
    match t.shadow n with
    | some e =>
      let t := t.setShadow n none
      if (t.dom (t.ent n).dom).running then t.setCommitted n (some e) else (t.setCommitted n none).entEffect n e
    | none => t) s

/-- `COMMIT`: R88-R90. -/
def execSchedCommit (s : State) : Host.Outcome State Fault Refusal := .next s.commit

/-- A write of LPT_SCHED_CTRL (R88). -/
def State.schedCtrlWrite (s : State) (v : Word) : State :=
  let s := s.putReg Addr.lptSchedCtrl v
  if bit v 1 then s.commit else s

end Sys2Proof.Machine
end

