-- ==== Sys2Proof/Machine/Sfe.lean ====
section
/-! DEFINITION. The sensor front end: reception (R101-R113, R135-R142), conditioning (R114-R118), statistics
(R119-R123), stripes and their items (R124-R134), aligned groups (R51, R68, R69, R137-R140), registers (R143, R144). -/

namespace Sys2Proof.Machine

open Sys2Proof

/-- A sensor context. -/
def State.sc (s : State) (i : Nat) : SfeCtx := tget (fun _ => {}) s.sfe.ctxs i
/-- The state with a sensor context replaced. -/
def State.setSc (s : State) (i : Nat) (x : SfeCtx) : State :=
  { s with sfe := { s.sfe with ctxs := tset (fun _ => {}) s.sfe.ctxs i x } }
/-- The present group frame of a domain. -/
def State.grp (s : State) (d : Nat) : Option SfeGroup := tget (fun _ => none) s.sfe.grps d
/-- The state with the present group frame of a domain replaced. -/
def State.setGrp (s : State) (d : Nat) (g : Option SfeGroup) : State :=
  { s with sfe := { s.sfe with grps := tset (fun _ => none) s.sfe.grps d g } }
/-- The group frame that awaits its lead. -/
def State.early (s : State) (d : Nat) : Option SfeGroup := tget (fun _ => none) s.sfe.early d
/-- The state with that group frame replaced. -/
def State.setEarly (s : State) (d : Nat) (g : Option SfeGroup) : State :=
  { s with sfe := { s.sfe with early := tset (fun _ => none) s.sfe.early d g } }

/-- Whether a context receives: enabled, with its block. -/
def State.scOn (s : State) (i : Nat) : Bool := s.rb Addr.sfeCtrl 0 && s.rb (Addr.sfeCtxCtrl i) 31

/-- Whether a link receives. -/
def State.lnkOn (s : State) (l : Nat) : Bool := s.rb Addr.sfeCtrl 0 && decide (l < 16) && s.rb (Addr.sfeLnkCfg l) 31

/-- The enabled contexts of a link and virtual channel (R109). -/
def State.scMatch (s : State) (link vc : Nat) : List Nat :=
  if s.lnkOn link = false ∨ 15 < vc then [] else
  (List.range 16).filter fun i => s.scOn i && s.rf (Addr.sfeCtxSrc i) 19 16 == link && s.rf (Addr.sfeCtxSrc i) 11 8 == vc

/-- Bits per pixel of an image data type (R108). -/
def dtBits (dt : Nat) : Option Nat :=
  match dt with
  | 0x2A => some 8 | 0x2B => some 10 | 0x2C => some 12 | 0x2D => some 14 | 0x2E => some 16 | 0x2F => some 20 | _ => none

/-- The link is heard: HS active of its quad. -/
def State.hear (s : State) (link : Nat) : State := s.setRf (Addr.sfePhyStatus (link / 2)) 0 0 1

/-- The frame a context receives: the last, unless it takes no more rows. -/
def SfeCtx.rx (x : SfeCtx) : Option SfeFrame := if x.recv then x.frames.getLast? else none

/-- A frame of a context replaced by its number. -/
def SfeCtx.setFrame (x : SfeCtx) (f : SfeFrame) : SfeCtx :=
  { x with frames := x.frames.map fun g => if g.fid = f.fid then f else g }

/-- Word `k` of the settings of a frame: CTRL, SIZE, FMT, STAT, OUT, STAT_XY, STAT_WH, EMB_MAX. -/
def SfeFrame.word (f : SfeFrame) (k : Nat) : Word := lget 0 f.cfg k
/-- WIDTH of a frame. -/
def SfeFrame.width (f : SfeFrame) : Nat := fld (f.word 1) 13 0
/-- HEIGHT of a frame. -/
def SfeFrame.height (f : SfeFrame) : Nat := fld (f.word 1) 31 16
/-- Rows of a stripe. -/
def SfeFrame.stripeRows (f : SfeFrame) : Nat := if bit (f.word 0) 28 then 32 else 16
/-- Bytes per pixel of OFMT (R124). -/
def SfeFrame.bpp (f : SfeFrame) : Nat := if bit (f.word 0) 29 then 4 else 2
/-- Bytes from one row of a stripe buffer to the next (R125). -/
def stripeStride (width bpp : Nat) : Nat := cdiv (width * bpp) 64 * 64
/-- Table bank of a frame. -/
def SfeFrame.bank (f : SfeFrame) : Nat := fld (f.word 0) 30 30
/-- Whether a frame delivers nothing (R113). -/
def SfeFrame.null (f : SfeFrame) : Bool := f.width == 0 || f.height == 0
/-- How CSI-2 packs pixels of `bits` bits (R114; PRESUMED, log entry 85): pixels and bytes of a group. A RAW20 pixel is packed as
two RAW10 ones, its upper half first. -/
def packGroup (bits : Nat) : Nat × Nat :=
  match bits with
  | 10 => (4, 5) | 12 => (2, 3) | 14 => (4, 7) | 16 => (1, 2) | 20 => (2, 5) | _ => (1, 1)
/-- The pixels of one group: the eight upper bits of each in a byte of its own, then the lower bits of all, the first pixel's
lowest. -/
def unpackGroup (n bits : Nat) (g : Bytes) : List Nat :=
  let low := leNat (g.drop n)
  let k := 2 ^ (bits - 8)
  (List.range n).map fun j => (lget 0 g j).toNat * k + low / k ^ j % k
/-- The pixels that the whole groups of a payload hold (R114). -/
def unpack (bits : Nat) (p : Bytes) : List Nat :=
  let size := (packGroup bits).2
  (List.range (p.length / size)).flatMap fun k =>
    let g := (p.drop (k * size)).take size
    if bits = 20 then
      let h := unpackGroup 4 10 g
      [lget 0 h 0 * 1024 + lget 0 h 1, lget 0 h 2 * 1024 + lget 0 h 3]
    else unpackGroup (packGroup bits).1 bits g
/-- The line length of a context in bytes (R136): the groups that hold its pixels. -/
def lineBytes (width bits : Nat) : Nat := cdiv width (packGroup bits).1 * (packGroup bits).2
/-- FIFO bytes of a row from a column on. -/
def SfeRow.bytes (r : SfeRow) (bits : Nat) : Nat := cdiv ((r.px.length - r.col) * bits) 8

/-- Occupancy of a context's input FIFO, in bytes (R111). -/
def SfeCtx.fifoBytes (x : SfeCtx) : Nat :=
  (x.frames.map fun f => (f.fifo.map fun r => r.bytes f.bits).foldl (· + ·) 0).foldl (· + ·) 0

/-! ## Conditioning (R114-R118) -/

/-- Segment `k` of a PWL table: X, Y, G. -/
def State.pwlSeg (s : State) (tab k : Nat) : Nat × Nat × Nat :=
  let lo := s.reg (Addr.sfePwl tab + 8 * k)
  let hi := s.reg (Addr.sfePwl tab + 8 * k + 4)
  (fld lo 15 0, fld lo 31 16 + fld hi 3 0 * 65536, fld hi 31 16)

/-- The decompanded value of a code (R115). -/
def State.pwl (s : State) (tab nseg x : Nat) : Nat :=
  let k := (List.range nseg).foldl (fun b k => if (s.pwlSeg tab k).1 ≤ x then k else b) 0
  let got := s.pwlSeg tab k
  let X := got.1
  let Y := got.2.1
  let G := got.2.2
  min (Y + ((x - X) * G + 128) / 256) 1048575

/-- Whether a PWL table may be selected (R115). -/
def State.pwlOk (s : State) (tab nseg : Nat) : Bool :=
  (s.pwlSeg tab 0).1 == 0 && (List.range (nseg - 1)).all fun k => decide ((s.pwlSeg tab k).1 < (s.pwlSeg tab (k + 1)).1)

/-- The defect words of a list that count (R116): each greater than the one before it. -/
def State.defects (s : State) (tab count : Nat) : List Nat :=
  (List.range count).filterMap fun k =>
    let w := (s.reg (Addr.sfeDfl tab + 4 * k)).toNat
    if k = 0 then some w else if (s.reg (Addr.sfeDfl tab + 4 * (k - 1))).toNat < w then some w else none

/-- A shading gain (R117): phase, node column, node row. -/
def State.gain (s : State) (tab p i j : Nat) : Nat :=
  let o := 2 * (p * 1089 + j * 33 + i)
  (s.reg (Addr.sfeLsctab tab + o / 4 * 4)).toNat / 2 ^ (8 * (o % 4)) % 65536

/-- The shaded value of a pixel (R118). -/
def State.shade (s : State) (i tab p row col v : Nat) : Nat :=
  let l := s.reg (Addr.sfeCtxLsc i)
  let cw := fld l 3 0
  let ch := fld l 11 8
  let W := 2 ^ cw
  let H := 2 ^ ch
  let a := col / W
  let b := row / H
  let dx := col % W
  let dy := row % H
  let g x y := s.gain tab p x y
  let gn := (((g a b * (W - dx) + g (a + 1) b * dx) * (H - dy) + (g a (b + 1) * (W - dx) + g (a + 1) (b + 1) * dx) * dy) + W * H / 2)
    / 2 ^ (cw + ch)
  min ((v * gn + 2048) / 4096) 1048575

/-- A pixel after decompanding and black level (R114). -/
def State.linear (s : State) (i : Nat) (f : SfeFrame) (row col x : Nat) : Nat :=
  let tab := 2 * i + f.bank
  let v := if bit (f.word 2) 4 = true ∧ f.bits ≤ 16 then s.pwl tab (fld (f.word 2) 3 0 + 1) x else x * 2 ^ (20 - f.bits)
  v - s.rf (Addr.sfeCtxBl i (2 * (row % 2) + col % 2)) 19 0

/-- A pixel after defect correction, and whether it stays uncorrected (R116). `listed` are the row's listed columns. -/
def State.mend (s : State) (i : Nat) (f : SfeFrame) (row : Nat) (px : List Nat) (listed : List Nat) (col : Nat) : Nat × Bool :=
  let at_ c := s.linear i f row c (lget 0 px c)
  if listed.contains col then
    let a := if 2 ≤ col ∧ listed.contains (col - 2) = false then some (at_ (col - 2)) else none
    let b := if col + 2 < px.length ∧ listed.contains (col + 2) = false then some (at_ (col + 2)) else none
    match a, b with
    | some a, some b => ((a + b + 1) / 2, false)
    | some a, none => (a, false)
    | none, some b => (b, false)
    | none, none => (at_ col, true)
  else (at_ col, false)

/-- The shaded values of `n` columns of a row from `col`, and how many defects stay uncorrected. -/
def State.conditionCols (s : State) (i : Nat) (f : SfeFrame) (r : SfeRow) (col n : Nat) : List Nat × Nat :=
  let tab := 2 * i + f.bank
  let listed := if bit (f.word 0) 27 then
      ((s.defects tab (s.rf (Addr.sfeCtxDefect i) 12 0)).filter fun w => w / 65536 == r.idx).map (· % 65536)
    else []
  let m := (List.range n).map fun k => s.mend i f r.idx r.px listed (col + k)
  let vs := (m.zipIdx).map fun p =>
    let c := col + p.2
    if bit (f.word 0) 26 then s.shade i tab (2 * (r.idx % 2) + c % 2) r.idx c p.1.1 else p.1.1
  (vs, (m.filter (·.2)).length)

/-! ## Statistics (R119-R123) -/

/-- The histogram bin of a value. -/
def histBin (log : Bool) (v : Nat) : Nat :=
  if log then
    (if v = 0 then 0 else
      let e := Nat.log2 v
      1 + 8 * e + (if e < 3 then v * 2 ^ (3 - e) % 8 else v / 2 ^ (e - 3) % 8))
  else v / 4096

/-- A saturating 32-bit addition to an entry of a table. -/
def addSat (t : Table Nat) (k v : Nat) : Table Nat := tset (fun _ => 0) t k (min (tget (fun _ => 0) t k + v) 0xFFFFFFFF)

/-- The histogram with a row counted (R119). Every STEP-th column and row counts from STAT_X0 and STAT_Y0 (DESIGN CHOICE, log
entry 78). -/
def SfeFrame.histRow (f : SfeFrame) (row : Nat) (vs : List Nat) : Table Nat :=
  let st := f.word 3
  let x0 := fld (f.word 5) 15 0
  let y0 := fld (f.word 5) 31 16
  let w := fld (f.word 6) 15 0
  let h := fld (f.word 6) 31 16
  let step := 2 ^ fld st 27 26
  if row < y0 ∨ y0 + h ≤ row ∨ (row - y0) % step ≠ 0 then f.hist
  else (vs.zipIdx).foldl (fun t p =>
    let c := p.2
    if x0 ≤ c ∧ c < x0 + w ∧ (c - x0) % step = 0 ∧ nbit (fld st 31 28) (2 * (row % 2) + c % 2) = 1
    then addSat t (histBin (bit st 25) p.1) 1 else t) f.hist

/-- R, G and B of a quad from its four values by phase (R121). The codes of CFA follow the order in which the spec lists its
values: 0 RGGB, 1 GRBG, 2 GBRG, 3 BGGR, 4 MONO, no other (DESIGN CHOICE, log entry 78). -/
def quadRgb (cfa : Nat) (v : Nat → Nat) : Nat × Nat × Nat :=
  match cfa with
  | 0 => (v 0, (v 1 + v 2) / 2, v 3)
  | 1 => (v 1, (v 0 + v 3) / 2, v 2)
  | 2 => (v 2, (v 0 + v 3) / 2, v 1)
  | 3 => (v 3, (v 1 + v 2) / 2, v 0)
  | _ => let m := (v 0 + v 1 + v 2 + v 3) / 4; (m, m, m)

/-- The zone of a quad index among `n` zones over `len` pixels (R120). -/
def zoneOf (n len q : Nat) : Nat :=
  let z := len / 2 / n
  if z = 0 then n - 1 else min (q / z) (n - 1)

/-- The zones with the quads of two rows added: `a` the upper, of number `row`, `b` the lower (R120, R121). -/
def State.zoneRows (s : State) (i : Nat) (f : SfeFrame) (row : Nat) (a b : List Nat) : Table Nat :=
  let x0 := fld (f.word 5) 15 0
  let y0 := fld (f.word 5) 31 16
  let w := fld (f.word 6) 15 0
  let h := fld (f.word 6) 31 16
  let zx := fld (f.word 3) 12 8 + 1
  let zy := fld (f.word 3) 20 16 + 1
  let thr := s.rf (Addr.sfeCtxSatThr i) 19 0
  (List.range (w / 2)).foldl (fun t q =>
    let c := x0 + 2 * q
    let val p := -- the value of phase p of the quad
      let r := if p / 2 = row % 2 then a else b
      lget 0 r (if p % 2 = c % 2 then c else c + 1)
    let z := 5 * (zoneOf zy h ((row - y0) / 2) * zx + zoneOf zx w q)
    if [0, 1, 2, 3].any fun p => decide (thr ≤ val p) then addSat t (z + 4) 1
    else
      let got := quadRgb (fld (f.word 2) 10 8) val
      let r := got.1
      let g := got.2.1
      let bl := got.2.2
      addSat (addSat (addSat (addSat t z (r / 16)) (z + 1) (g / 16)) (z + 2) (bl / 16)) (z + 3) 1) f.zones

/-- A conditioned row enters the statistics. -/
def State.statRow (s : State) (i : Nat) (f : SfeFrame) (r : SfeRow) (vs : List Nat) : SfeFrame :=
  let y0 := fld (f.word 5) 31 16
  let h := fld (f.word 6) 31 16
  if bit (f.word 0) 25 = false then f
  else if r.poison then { f with prev := [] }
  else
    let f := { f with hist := f.histRow r.idx vs }
    if r.idx < y0 ∨ y0 + h / 2 * 2 ≤ r.idx then { f with prev := [] }
    else if (r.idx - y0) % 2 = 0 then { f with prev := vs }
    else if f.prev = [] then f
    else { f with zones := s.zoneRows i f (r.idx - 1) f.prev vs, prev := [] }

/-- The size of a statistics buffer (R122). -/
def statSize (zx zy emb : Nat) : Nat := 1088 + 16 * zx * zy + emb

/-- The statistics buffer of a frame (R122). -/
def SfeFrame.statData (f : SfeFrame) (i : Nat) : Bytes :=
  let zx := fld (f.word 3) 12 8 + 1
  let zy := fld (f.word 3) 20 16 + 1
  let z k := tget (fun _ => 0) f.zones k
  leBytes 4 (i + 0x100) ++ leBytes 4 f.frame ++ leBytes 8 (f.todSec % 2 ^ 48) ++ leBytes 4 f.rows ++ leBytes 4 f.bad
    ++ leBytes 4 (b2n f.trunc + 2 * b2n f.late) ++ leBytes 4 (zy * 256 + zx) ++ leBytes 4 f.emb.length ++ leBytes 4 f.todTick
    ++ List.replicate 24 0 ++ (List.range 256).flatMap (fun b => leBytes 4 (tget (fun _ => 0) f.hist b))
    ++ (List.range (zx * zy)).flatMap (fun k => leBytes 4 (z (5 * k)) ++ leBytes 4 (z (5 * k + 1)) ++ leBytes 4 (z (5 * k + 2))
      ++ leBytes 4 (z (5 * k + 3) % 65536 * 65536 + z (5 * k + 4) % 65536))
    ++ f.emb

/-! ## Stripes -/

/-- The item of a stripe; `end_` is set on the last of its frame (R126, R128). -/
def SfeFrame.item (f : SfeFrame) (i : Nat) (st : SfeStripe) (end_ : Bool) : SfeItem :=
  let flags := (if f.trunc ∧ end_ then fTrunc else 0) + (if f.late then fLate else 0) + (if end_ then fFrameEnd else 0)
    + (if st.poison then fPoisoned else 0)
  ⟨f.fid, f.domain, f.gated, fld (f.word 4) 13 8, mkMeta (hSc i) f.domain f.frame 0 flags (st.first + st.count - 1) st.first,
    some (st.pool, st.buf), if end_ then f.due else none⟩

/-- The item of a stripe joins those of its context that wait to be pushed (R126, R134). -/
def State.emitStripe (s : State) (i : Nat) (f : SfeFrame) (st : SfeStripe) (end_ : Bool) : State :=
  let x := s.sc i
  s.setSc i { x with held := x.held ++ [f.item i st end_] }

/-- The last item of a frame that ends with what it has (R128, R135, R139): of the stripe in progress where it holds a row,
else of the completed one before it. -/
def State.emitLast (s : State) (i : Nat) (f : SfeFrame) : State :=
  let s := match f.stripe with
    | some st => if st.count = 0 then s.release st.pool st.buf else s.emitStripe i f st true
    | none => s
  match f.full with
  | some st => s.emitStripe i f st true
  | none => s

/-- The statistics of a frame that delivers any (R122, R130). -/
def SfeFrame.stats (f : SfeFrame) (i : Nat) : List SfeStat :=
  if bit (f.word 0) 25 = true ∧ f.null = false ∧ f.drop = false then
    [⟨f.fid, f.domain, f.gated, fld (f.word 4) 29 24, fld (f.word 4) 20 16,
      mkMeta (hSc i) f.domain f.frame 0 (fFrameEnd + (if f.trunc then fTrunc else 0) + (if f.late then fLate else 0)) (f.rows - 1) 0,
      f.statData i, none⟩]
  else []

/-- A frame that takes no more rows and has none in the FIFO is finished (R122, R128, R130, R135). -/
def State.finishFrame (s : State) (i : Nat) (f : SfeFrame) : State :=
  let s := (s.emitLast i f).setReg (Addr.sfeCtxUncorr i) (w32 f.uncorr)
  let s := (s.setStat 4 i 0 (· + 1)).setStat 4 i 3 (· + b2n f.trunc)
  let x := s.sc i
  s.setSc i { x with frames := x.frames.filter (·.fid != f.fid), stats := x.stats ++ f.stats i }

/-- The frames at the front that are done are finished, oldest first. -/
def State.settleSc (s : State) (i : Nat) : Nat → State
  | 0 => s
  | fuel + 1 =>
    match (s.sc i).frames with
    | f :: _ => if f.closed = true ∧ f.fifo = [] then (s.finishFrame i f).settleSc i fuel else s
    | [] => s

/-- A frame takes no more rows; with `now` those still in its FIFO are discarded (R139, R142). -/
def State.closeFrame (s : State) (i : Nat) (f : SfeFrame) (trunc now : Bool) : State :=
  if f.closed then s
  else
    let s := s.setSc i ((s.sc i).setFrame { f with closed := true, trunc := trunc && !f.null, fifo := if now then [] else f.fifo })
    s.settleSc i (s.sc i).frames.length

/-- A frame ends with the rows conditioned so far, unless all its rows are (R139). -/
def State.endNow (s : State) (i fid : Nat) : State :=
  match (s.sc i).frames.find? (·.fid == fid) with
  | some f =>
    if f.rows < f.height ∨ f.fifo ≠ [] then
      let s := s.setSc i ((s.sc i).setFrame { f with closed := true, trunc := !f.null, fifo := [] })
      s.settleSc i (s.sc i).frames.length
    else s
  | none => s

/-! ## Input faults (R141, R142) -/

/-- One occurrence of a fault added to those of a frame. -/
def countFault (n : SfeFault) : List SfeFault → List SfeFault
  | [] => [n]
  | f :: t => if f.code = n.code then { f with count := f.count + 1 } :: t else f :: countFault n t

/-- The record of a fault (R141): the occurrences, what else its detail names, the first affected row. -/
def SfeFault.report (f : SfeFault) : ErrRec := { f.record with detail := (4, f.count) :: f.extra ++ [(2, f.row)] }

/-- An input fault of a context at a row. It is counted in the frame the context receives and reported when that frame's
reception ends; outside any frame it is reported at once, and each code once up to the next Frame Start (DESIGN CHOICE, log
entry 78). -/
def State.inputFault (s : State) (i : Nat) (c : Code) (row : Nat) (extra : List (Nat × Nat)) : State :=
  let x := s.sc i
  let n : SfeFault := ⟨c, 1, row, s.mkRec c c.cls 0x02 i (some (s.rf (Addr.sfeCtxCtrl i) 2 0)) [], extra⟩
  if x.recv then s.setSc i { x with faults := countFault n x.faults }
  else if x.told.contains c then s
  else (s.setSc i { x with told := c :: x.told }).postRec n.report

/-- The faults of the frame whose reception ends are reported. -/
def State.reportFaults (s : State) (i : Nat) : State :=
  let x := s.sc i
  x.faults.foldl (fun t f => t.postRec f.report) (s.setSc i { x with faults := [], told := x.faults.map (·.code) ++ x.told })

/-! ## Groups -/

/-- The domain whose group a context is a member of, by the MEMBERS in force. -/
def State.memberOf (s : State) (i : Nat) : Option Nat :=
  (List.range 8).find? fun d => nbit (s.dom d).members i == 1

/-- GROUP of a domain. -/
def State.groupMode (s : State) (d : Nat) : Nat := s.rf (Addr.lptLdCtrl d) 28 27

/-- The source context of a slaved domain, the lead of its group (R69). -/
def State.lead (s : State) (d : Nat) : Nat := s.rf (Addr.lptLdCtrl d) 19 16

/-- The enabled members of a domain's group that have neither arrived in a group frame nor been missed. -/
def State.lacking (s : State) (d : Nat) (g : SfeGroup) : List Nat :=
  (List.range 16).filter fun i => nbit (s.dom d).members i == 1 && s.scOn i && !(g.arrived.any (·.cx == i)) && !g.missed.contains i

/-- A context with a frame's pushes released from the gate. -/
def SfeCtx.ungate (x : SfeCtx) (fid : Nat) : SfeCtx :=
  { x with
    frames := x.frames.map fun f => if f.fid = fid then { f with gated := false } else f
    held := x.held.map fun it => if it.fid = fid then { it with gated := false } else it
    stats := x.stats.map fun it => if it.fid = fid then { it with gated := false } else it }

/-- The gate of a group frame opens: its members' pushes are released (R137). -/
def State.openGate (s : State) (g : SfeGroup) : State :=
  g.arrived.foldl (fun t a => t.setSc a.cx ((t.sc a.cx).ungate a.fid)) s

/-- A frame of a context is dropped: every handle it holds goes back, nothing of it is pushed, its remaining rows are
discarded (R138). -/
def State.dropFrame (s : State) (i fid : Nat) : State :=
  let x := s.sc i
  let back (l : List (Option (Nat × Nat))) (t : State) : State := l.foldl State.giveBack t
  let s := back ((x.frames.filter (·.fid == fid)).map fun f => f.stripe.map fun st => (st.pool, st.buf)) s
  let s := back ((x.frames.filter (·.fid == fid)).map fun f => f.full.map fun st => (st.pool, st.buf)) s
  let s := back ((x.held.filter (·.fid == fid)).map (·.buf)) s
  let s := back ((x.stats.filter (·.fid == fid)).map fun it => it.buf.map fun b => (it.pool, b)) s
  (s.setSc i { x with
    frames := x.frames.map fun f => if f.fid = fid then { f with drop := true, fifo := [], stripe := none, full := none } else f
    held := x.held.filter (·.fid != fid)
    stats := x.stats.filter (·.fid != fid) }).settleSc i x.frames.length

/-- A group frame is dropped for every member (R51, R138). -/
def State.dropGroup (s : State) (g : SfeGroup) : State := g.arrived.foldl (fun t a => t.dropFrame a.cx a.fid) s

/-- Placeholders for the frame that a LOOSE member missed (R140): one for each stripe that the frame would have had, none for a
frame without stripes (R113). -/
def State.placeholders (s : State) (d i frame : Nat) : State :=
  let h := if s.rf (Addr.sfeCtxSize i) 13 0 = 0 then 0 else s.rf (Addr.sfeCtxSize i) 31 16
  let st := if s.rb (Addr.sfeCtxCtrl i) 28 then 32 else 16
  let n := cdiv h st
  let x := s.sc i
  let q := s.rf (Addr.sfeCtxOut i) 13 8
  s.setSc i { x with nextFid := x.nextFid + 1, held := x.held ++ (List.range n).map fun k =>
    ⟨x.nextFid, d, false, q,
      mkMeta (hSc i) d frame 0 (fMissing + (if k + 1 = n then fFrameEnd else 0)) (min h ((k + 1) * st) - 1) (k * st), none, none⟩ }

/-- A member of a group frame has underrun it (R51, R138, R140). -/
def State.underrun (s : State) (d i : Nat) (g : SfeGroup) : State × SfeGroup :=
  if s.groupMode d = 1 then
    ((s.dropGroup g).raise .groupDrop 0x02 i (some d) [(4, 1), (1, i), (2, 0)], { g with late := true })
  else (s.placeholders d i g.frame, { g with missed := g.missed ++ [i] })

/-- The gate opened where no member is lacking any more. -/
def State.checkGate (s : State) (d : Nat) (g : SfeGroup) : State × SfeGroup :=
  if g.opened = false ∧ g.late = false ∧ g.origin ≠ none ∧ s.lacking d g = [] then (s.openGate g, { g with opened := true })
  else (s, g)

/-- A group frame gives way to another: the members still lacking have underrun it, the lead first where it never came (R51,
R138, R140). -/
def State.overGroup (s : State) (d : Nat) (g : SfeGroup) : State :=
  if g.late = true ∨ g.opened = true then s
  else if s.groupMode d = 1 then
    (match (if g.origin = none then [s.lead d] else s.lacking d g) with
      | i :: _ => (s.underrun d i g).1
      | [] => s.openGate g)
  else forEach (s.lacking d g) (fun i t => (t.underrun d i g).1) s

/-- Group frame `frame` in the place of the present one, or of the one that awaits its lead; another one there is over. -/
def State.takeGroup (s : State) (d : Nat) (early : Bool) (frame : Nat) (origin : Option Nat) : State × SfeGroup :=
  match (if early then s.early d else s.grp d) with
  | some g => if g.frame = frame then (s, g) else (s.overGroup d g, ⟨frame, origin, [], [], false, false, false⟩)
  | none => (s, ⟨frame, origin, [], [], false, false, false⟩)

/-- A group frame put back into its place. -/
def State.putGroup (s : State) (d : Nat) (early : Bool) (g : SfeGroup) : State :=
  if early then s.setEarly d (some g) else s.setGrp d (some g)

/-- The bound of a group's Frame Starts (R69, R137); none while the domain has no period. -/
def State.groupBound (s : State) (d : Nat) : Option Nat :=
  let x := s.dom d
  if x.per = 0 then none else some ((x.fswinM1 + 1) * x.per)

/-- A member's Frame Start joins a group frame: whether its frame is discarded, and whether it waits for the gate. -/
def State.joinFrame (s : State) (d i : Nat) (g : SfeGroup) : (Bool × Bool) × State × SfeGroup :=
  if g.late = true ∨ g.missed.contains i = true ∨ g.cut = true then ((true, false), s, g)
  else
    let late := match g.origin, s.groupBound d with
      | some t, some b => decide (t + b < s.now16)
      | _, _ => false
    if late then ((true, false), s.underrun d i g)
    else
      let got := s.checkGate d { g with arrived := g.arrived ++ [⟨i, s.now16, (s.sc i).nextFid⟩] }
      ((false, decide (s.groupMode d = 1) && !got.2.opened), got)

/-- The lead of a slaved domain's group begins group frame `frame` now (R69): members that came too early underrun. -/
def State.leadBegins (s : State) (d frame : Nat) : State × SfeGroup :=
  let got := s.takeGroup d true frame none
  let s := got.1.setEarly d none
  let g := { got.2 with origin := some s.now16 }
  let soon (a : SfeArrival) := match s.groupBound d with | some b => decide (s.now16 ≤ a.at_ + b) | none => true
  match g.arrived.filter fun a => !soon a with
  | [] => (s, g)
  | a :: r =>
    if s.groupMode d = 1 then s.underrun d a.cx g
    else
      let s := (a :: r).foldl (fun t a => t.dropFrame a.cx a.fid) s
      (a :: r).foldl (fun p a => p.1.underrun d a.cx p.2) (s, { g with arrived := g.arrived.filter soon })

/-- The present group frame of a domain, where it is that of the domain's frame. -/
def State.nowGroup (s : State) (d : Nat) : Option SfeGroup := (s.grp d).filter fun g => g.frame == (s.dom d).frame

/-- Whether the Frame Start of a member of a slaved domain that is not the lead is for a frame whose lead has yet to come, and
the number of its frame. It joins the present frame up to half of that frame's lines, and the next frame after that (DESIGN
CHOICE, log entry 78). -/
def State.joins (s : State) (d i : Nat) : Bool × Nat :=
  let x := s.dom d
  match s.nowGroup d with
  | some g =>
    if (g.arrived.any (·.cx == i)) = false ∧ s.pub d ≤ (x.flenM1 + 1) * 128 then (false, x.frame) else (true, (x.frame + 1) % 2 ^ 32)
  | none => (true, if x.provisional then x.frame else (x.frame + 1) % 2 ^ 32)

/-- What a Frame Start of context `i` does to its group; the frame number it takes, whether its frame is discarded,
whether it waits for the gate (R69, R137-R140). -/
def State.groupStart (s : State) (i : Nat) : (Nat × Bool × Bool) × State :=
  let d := s.rf (Addr.sfeCtxCtrl i) 2 0
  let x := s.dom d
  let head := !x.slaved || i == s.lead d
  let again := match s.nowGroup d with | some g => g.arrived.any (·.cx == i) | none => false
  if s.memberOf i ≠ some d ∨ s.groupMode d = 0 ∨ x.running = false ∨ (head = true ∧ again = true) then ((x.frame, false, false), s)
  else
    let at_ := if head then (false, x.frame) else s.joins d i
    let got := if x.slaved = true ∧ i = s.lead d ∧ (s.nowGroup d).isNone = true then
        let got := s.leadBegins d x.frame
        ((got.1.takeGroup d false x.frame none).1, got.2)
      else s.takeGroup d at_.1 at_.2 (if x.slaved then none else some x.frameAt)
    let r := got.1.joinFrame d i got.2
    ((r.2.2.frame, r.1), r.2.1.putGroup d at_.1 r.2.2)

/-- A member of a domain's group has not come within its bound (R137, R138, R140). -/
def State.memberExpiry (s : State) (d i : Nat) : State :=
  let x := s.dom d
  let got := if x.slaved then (s.nowGroup d).map fun g => (s, g) else some (s.takeGroup d false x.frame (some x.frameAt))
  match got, s.groupBound d with
  | some (s', g), some b =>
    (match g.origin with
      | none => s
      | some t =>
        if (s.lacking d g).contains i = false ∨ g.late = true then s
        else
          let r := (s'.goto (tickOf16 (t + b))).underrun d i g
          let r := r.1.checkGate d r.2
          r.1.setGrp d (some r.2))
  | _, _ => s

/-- The lead of a slaved domain's group has not come by the end of the window of the present frame: the group frame that awaits
it runs from the predicted line 0 (R51, R69, R97). -/
def State.leadExpiry (s : State) (d i : Nat) : State :=
  let x := s.dom d
  if x.accepted = true ∨ x.provisional = true ∨ (s.nowGroup d).isSome = true then s
  else
    let got := s.takeGroup d true x.frame none
    let s := ((got.1.setEarly d none).takeGroup d false x.frame none).1
    let r := s.underrun d i { got.2 with origin := some x.frameAt }
    let r := r.1.checkGate d r.2
    r.1.setGrp d (some r.2)

/-- `GROUP_FS_BOUND_EXPIRY`: R51, R69, R137, R138, R140. -/
def execGroupFsBoundExpiry (i : Nat) (s : State) : Host.Outcome State Fault Refusal :=
  .next (match s.memberOf i with
    | none => s
    | some d =>
      let x := s.dom d
      if x.running = false ∨ s.groupMode d = 0 ∨ s.scOn i = false ∨ s.rf (Addr.sfeCtxCtrl i) 2 0 ≠ d then s
      else if x.slaved = true ∧ i = s.lead d then s.leadExpiry d i
      else s.memberExpiry d i)

/-- The group frame dropped or cut by a fault of a frame of its member `i` at a row, and what stands in its place: before the
gate opens every member drops the frame (R51), after it every member ends it now (R139). -/
def State.cutIn (s : State) (i : Nat) (f : SfeFrame) (row : Nat) (g : SfeGroup) : State × SfeGroup :=
  if (g.arrived.any fun a => a.cx == i && a.fid == f.fid) = false ∨ g.late = true ∨ g.cut = true then (s, g)
  else if g.opened then
    ((g.arrived.foldl (fun t a => if a.cx = i then t else t.endNow a.cx a.fid) s).inputFault i .groupDrop row [(1, i)],
      { g with cut := true })
  else ((s.dropGroup g).inputFault i .groupDrop row [(1, i)], { g with late := true })

/-- The frame of a LOCKED member has been cut short: its group's frame with it (R51, R139). -/
def State.cutGroup (s : State) (i : Nat) (f : SfeFrame) (row : Nat) : State :=
  if s.memberOf i ≠ some f.domain ∨ s.groupMode f.domain ≠ 1 then s
  else
    let one (early : Bool) (s : State) : State :=
      match (if early then s.early f.domain else s.grp f.domain) with
      | some g =>
        let r := s.cutIn i f row g
        r.1.putGroup f.domain early r.2
      | none => s
    one true (one false s)

/-- A frame is cut short by a fault at a row (R51, R135, R139, R142); with `now` its rows in the FIFO are discarded too. -/
def State.cutFrame (s : State) (i : Nat) (f : SfeFrame) (c : Code) (row : Nat) (now : Bool) : State :=
  let s := s.inputFault i c row []
  if f.closed = true ∨ f.drop = true then s else (s.closeFrame i f true now).cutGroup i f row

/-- A context's frame ends at its Frame End, or at a Frame Start without one; its faults are reported (R135, R141). -/
def State.endRx (s : State) (i : Nat) : State :=
  if (s.sc i).recv = false then s
  else
    let s := match (s.sc i).rx with
      | none => s
      | some f =>
        if f.null = false ∧ f.drop = false ∧ f.closed = false ∧ f.rows < f.height then s.cutFrame i f .sfeShort f.rows false
        else s.closeFrame i f false false
    let s := s.reportFaults i
    (s.setSc i { s.sc i with recv := false }).setRf Addr.sfeStatus i i 0

/-! ## Reception -/

/-- A packet header as its link hears it: a corrected one is counted on the link and in each context it concerns (R107,
R142). -/
def State.header (s : State) (link : Nat) (fixed : Bool) (l : List Nat) : State :=
  if fixed then forEach l (fun i t => t.inputFault i .csiEcc (t.sc i).lines []) (s.inc (Addr.sfeLnkEcc link) 1) else s

/-- The settings a frame takes at its Frame Start (R132). -/
def State.scCfg (s : State) (i : Nat) : List Word :=
  [s.reg (Addr.sfeCtxCtrl i), s.reg (Addr.sfeCtxSize i), s.reg (Addr.sfeCtxFmt i), s.reg (Addr.sfeCtxStat i), s.reg (Addr.sfeCtxOut i),
   s.reg (Addr.sfeCtxStatXy i), s.reg (Addr.sfeCtxStatWh i), s.reg (Addr.sfeCtxEmbMax i)]

/-- The domains that a context is the source of. -/
def State.sourceOf (s : State) (i : Nat) : List Nat := (List.range 8).filter fun d => s.ldSlaved d && s.lead d == i

/-- A Frame Start of one context (R64, R97, R110, R132, R135, R137, R142). DEFECT.SKIP is set to the number that the frame's list
skips (DESIGN CHOICE, log entry 78). -/
def State.scFrameStart (s : State) (i : Nat) : State :=
  let s := s.endRx i
  let dd := s.rf (Addr.sfeCtxCtrl i) 2 0
  let s := forEach (s.sourceOf i) (fun d t => t.domFrameStart d) s
  let late := s.ldSlaved dd && s.lead dd == i && (s.dom dd).running && !(s.dom dd).accepted
  let ((frame, drop, gated), s) := s.groupStart i
  let x := s.sc i
  let bits := (dtBits (s.rf (Addr.sfeCtxSrc i) 5 0)).getD 8
  let f : SfeFrame := { fid := x.nextFid, frame := frame, domain := dd, late := late, cfg := s.scCfg i, bits := bits, todSec := s.tod.sec,
                        todTick := s.tod.tick, drop := drop, gated := gated }
  let s := if bit (f.word 0) 27 then
      let n := s.rf (Addr.sfeCtxDefect i) 12 0
      s.setRf (Addr.sfeCtxDefect i) 28 16 (min (n - (s.defects (2 * i + f.bank) n).length) 8191)
    else s
  (s.setSc i { x with
    frames := x.frames ++ [f], recv := true, lines := 0, first := true, height := if f.null then 0 else f.height,
    lineB := if f.null then 0 else lineBytes f.width bits, faults := [], told := [], nextFid := x.nextFid + 1,
    bank := f.bank }).setRf Addr.sfeStatus i i 1

/-- `FRAME_START`: R64, R66, R67, R97, R98, R107, R132, R135, R137, R139, R141, R142. A corrected header counts in the frame it
begins. A short packet that no enabled context takes is not counted in UNMATCHED (DESIGN CHOICE, log entry 78). -/
def execFrameStart (link vc : Nat) (fixed : Bool) (s : State) : Host.Outcome State Fault Refusal :=
  .next (if s.lnkOn link then
    let s := s.hear link
    let l := s.scMatch link vc
    (forEach l (fun i t => t.scFrameStart i) s).header link fixed l
  else s)

/-- `FRAME_END_PACKET`: R107, R135, R139, R141, R142. -/
def execFrameEndPacket (link vc : Nat) (fixed : Bool) (s : State) : Host.Outcome State Fault Refusal :=
  .next (if s.lnkOn link then
    let s := s.hear link
    let l := s.scMatch link vc
    forEach l (fun i t => t.endRx i) (s.header link fixed l)
  else s)

/-- A list cut to `n` elements or padded to them. -/
def fitTo (n : Nat) (l : List Nat) : List Nat := l.take n ++ List.replicate (n - l.length) 0

/-- An image row reaches a frame (R113, R134-R136, R142). The item of the last row to come is due two lines after it (R36). -/
def State.rowIn (s : State) (i : Nat) (f : SfeFrame) (row : Nat) (payload : Bytes) (bad : Bool) : State :=
  if f.null = true ∨ f.drop = true ∨ f.closed = true ∨ f.height ≤ row then s
  else if 32768 < (s.sc i).fifoBytes + lineBytes f.width f.bits then s.cutFrame i f .sfeOverflow row true
  else
    let r : SfeRow := { idx := row, px := fitTo f.width (unpack f.bits payload), poison := bad }
    let p := (s.dom f.domain).per
    let due := if p = 0 then none else some (s.now16 + 2 * p)
    let s := s.setSc i ((s.sc i).setFrame { f with fifo := f.fifo ++ [r], rows := row + 1, bad := f.bad + b2n bad, due := due })
    ((s.setStat 4 i 1 (· + 1)).setStat 4 i 2 (· + b2n bad)).setStat 4 i 4 (max (s.sc i).fifoBytes)

/-- A counted line of a context: it advances the domains the context is the source of, its payload is checked, and it joins the
frame received (R64, R107, R110, R135, R136, R142). -/
def State.rowHeard (s : State) (i : Nat) (p : Packet) : State :=
  let x := s.sc i
  let row := x.lines
  let s := s.setSc i { x with lines := row + 1, first := false }
  let s := if x.first then s else forEach (s.sourceOf i) (fun d t => t.domLine d) s
  let wrong := x.lineB != 0 && p.payload.length != x.lineB
  let s := if p.crcBad then s.inputFault i .csiCrc row [] else s
  let s := if wrong then s.inputFault i .csiLen row [] else s
  let s := if x.height ≠ 0 ∧ x.height ≤ row then s.inc (Addr.sfeCtxExtra i) 1 else s
  match (s.sc i).rx with
  | some f => s.rowIn i f row p.payload (p.crcBad || wrong)
  | none => s

/-- `COUNTED_LINE`: R64, R65, R107-R110, R113, R114, R135, R136, R139, R141, R142, R911, R912. -/
def execCountedLine (p : Packet) (s : State) : Host.Outcome State Fault Refusal :=
  .next (if s.lnkOn p.link then
    let s := s.hear p.link
    match (s.scMatch p.link p.vc).filter fun i => (dtBits p.dt).isSome && s.rf (Addr.sfeCtxSrc i) 5 0 == p.dt with
    | i :: _ => (s.header p.link p.fixed [i]).rowHeard i p
    | [] => (s.header p.link p.fixed []).inc (Addr.sfeLnkUnmatched p.link) 1
  else s)

/-- `EMBEDDED_DATA_PACKET`: R107-R109, R122, R142. -/
def execEmbeddedDataPacket (link vc : Nat) (payload : Bytes) (crcBad fixed : Bool) (s : State) : Host.Outcome State Fault Refusal :=
  .next (if s.lnkOn link then
    let s := s.hear link
    let l := s.scMatch link vc
    let s := s.header link fixed l
    if l = [] then s.inc (Addr.sfeLnkUnmatched link) 1
    else forEach l (fun i t =>
        let t := if crcBad then t.inputFault i .csiCrc (t.sc i).lines [] else t
        let x := t.sc i
        match x.rx with
        | some f =>
          if f.closed = true ∨ f.drop = true then t
          else t.setSc i (x.setFrame { f with emb := (f.emb ++ payload).take (fld (f.word 7) 13 0) })
        | none => t) s
  else s)

/-- `GENERIC_SHORT_PACKET`: one of 0x08-0x0F is counted and discarded (R107); no register holds the count. A Line Start or Line
End is heard. -/
def execGenericShortPacket (link vc dt : Nat) (fixed : Bool) (s : State) : Host.Outcome State Fault Refusal :=
  .next (if s.lnkOn link = true ∧ (dt = 2 ∨ dt = 3 ∨ 8 ≤ dt ∧ dt ≤ 15) then
    let s := (s.hear link).header link fixed (s.scMatch link vc)
    if 8 ≤ dt then s.setStat 255 link 0 (· + 1) else s
  else s)

/-- `UNMATCHED_PACKET`: R107-R109. -/
def execUnmatchedPacket (link vc dt : Nat) (fixed : Bool) (s : State) : Host.Outcome State Fault Refusal :=
  .next (
    let l := s.scMatch link vc
    let hit := if dt = 0x12 then l != [] else l.any fun i => s.rf (Addr.sfeCtxSrc i) 5 0 == dt && (dtBits dt).isSome
    if s.lnkOn link = true ∧ hit = false then ((s.hear link).header link fixed []).inc (Addr.sfeLnkUnmatched link) 1 else s)

/-- `UNCORRECTABLE_HEADER`: loss of sync of the link (R139, R141, R142). -/
def execUncorrectableHeader (link : Nat) (s : State) : Host.Outcome State Fault Refusal :=
  .next (if s.lnkOn link then
    forEach ((List.range 16).filter fun i => s.scOn i && s.rf (Addr.sfeCtxSrc i) 19 16 == link) (fun i t =>
      match (t.sc i).rx with
      | some f => t.cutFrame i f .csiSync (t.sc i).lines true
      | none => t.inputFault i .csiSync (t.sc i).lines []) s
  else s)

/-- `DESKEW_CALIBRATION`: R104. A calibration that succeeds adds its lanes to those calibrated and clears DESKEW_FAIL (DESIGN
CHOICE, log entry 78). -/
def execDeskewCalibration (phy : Nat) (ok : Bool) (lanes : Nat) (s : State) : Host.Outcome State Fault Refusal :=
  .next (if phy < 8 ∧ s.rf (Addr.sfePhyCfg phy) 1 0 < 2 then
    (if ok then (s.setRf (Addr.sfePhyStatus phy) 7 4 (Nat.lor (s.rf (Addr.sfePhyStatus phy) 7 4) (lanes % 16))).setRf (Addr.sfePhyStatus phy) 1 1 0
     else s.setRf (Addr.sfePhyStatus phy) 1 1 1)
  else s)

/-- `ULPS_ENTRY_EXIT`: R106. -/
def execUlpsEntryExit (phy lane : Nat) (enter : Bool) (s : State) : Host.Outcome State Fault Refusal :=
  .next (if phy < 8 ∧ lane < 4 then
    let s := { s with sfe := { s.sfe with ulps := tset (fun _ => false) s.sfe.ulps (4 * phy + lane) enter } }
    if enter then s.setRf (Addr.sfePhyStatus phy) 0 0 0 else s
  else s)

/-- The frame in conditioning of a context, and whether its head row can go on (R134): with fewer than three completed
items, the one kept back among them, and a stripe buffer where one is needed. -/
def State.canBurst (s : State) (i : Nat) : Bool :=
  let x := s.sc i
  (match x.frames with
    | f :: _ => decide (x.held.length + b2n f.full.isSome < 3) && (match f.fifo with
      | [] => false
      | _ => match f.stripe with
        | some st => decide (st.count < f.stripeRows)
        | none => let p := s.pool (fld (f.word 4) 4 0); s.plOn (fld (f.word 4) 4 0) && p.free != [] && !s.bumping (fld (f.word 4) 4 0))
    | [] => false)

/-- The context that the next burst goes to (R111): the fullest FIFO, the lowest number among equals. -/
def State.burstCtx (s : State) : Option Nat :=
  ((List.range 16).filter fun i => s.scOn i && s.canBurst i).foldl (fun b i =>
    match b with
    | none => some i
    | some j => if (s.sc j).fifoBytes < (s.sc i).fifoBytes then some i else some j) none

/-- A burst conditions up to 192 pixels of the head row of a context (R111-R118, R123-R126, R129). -/
def State.burst (s : State) (i : Nat) : State :=
  match (s.sc i).frames with
  | [] => s
  | f :: _ =>
    match f.fifo with
    | [] => s
    | r :: rest =>
      let p := fld (f.word 4) 4 0
      let (st, s) := match f.stripe with
        | some st => (some st, s)
        | none => match s.alloc (hSc i) p with
          | (some b, t) => (some ⟨p, b, r.idx, 0, false⟩, t)
          | (none, t) => (none, t)
      match st with
      | none => s
      | some st =>
        let n := min 192 (r.px.length - r.col)
        let got := s.conditionCols i f r r.col n
        let vs := got.1
        let bad := got.2
        let stride := stripeStride f.width f.bpp
        let base := s.bufAddr st.pool st.buf + (r.idx - st.first) * stride
        let bytes := vs.flatMap fun v => if f.bpp = 4 then leBytes 4 v else leBytes 2 (v / 16)
        let col := r.col + n
        let done := r.px.length ≤ col
        let tail := if done then List.replicate (stride - f.width * f.bpp) 0 else []
        let s := s.unitWrite .sfe .line (base + r.col * f.bpp) (bytes ++ tail) r.poison
        let r := { r with col := col, outv := r.outv ++ vs }
        let f := { f with uncorr := f.uncorr + bad }
        if done = false then s.setSc i ((s.sc i).setFrame { f with fifo := r :: rest, stripe := some st })
        else
          let st := { st with poison := st.poison || r.poison, count := st.count + 1 }
          let s := match f.full with | some o => s.emitStripe i f o false | none => s
          let f := { s.statRow i f r r.outv with fifo := rest, stripe := none, full := none }
          let s := if r.idx + 1 = f.height then (s.emitStripe i f st true).setSc i (((s.emitStripe i f st true).sc i).setFrame f)
            else if f.stripeRows ≤ st.count then s.setSc i ((s.sc i).setFrame { f with full := some st })
            else s.setSc i ((s.sc i).setFrame { f with stripe := some st })
          s.settleSc i (s.sc i).frames.length

/-- `CONDITIONING_BURST`: R111, R112, R114-R121, R123, R124, R126, R129, R134. -/
def execConditioningBurst (s : State) : Host.Outcome State Fault Refusal :=
  .next (match s.burstCtx with | some i => s.burst i | none => s)

/-- Whether what a group's gate holds back stays held: while the group is LOCKED and its domain runs (R137). -/
def State.gateHolds (s : State) (d : Nat) (gated : Bool) : Bool := gated && s.groupMode d == 1 && (s.dom d).running

/-- The metadata of an item pushed now: LATE where its stage has overrun its share (R36). -/
def State.lateMd (s : State) (it : SfeItem) : BitVec 64 :=
  match it.due with
  | some t => if t < s.now16 then it.md ||| BitVec.ofNat 64 (fLate * 2 ^ 32) else it.md
  | none => it.md

/-- The first waiting stripe item of a context is pushed (R126, R134, R137, R394). -/
def State.stripePushCmd (s : State) (i : Nat) : State :=
  let x := s.sc i
  match x.held with
  | [] => s
  | it :: r =>
    if s.gateHolds it.domain it.gated then s
    else
      let h := match it.buf with | some (p, b) => s.handle p b | none => placeholder
      match s.push (hSc i) it.q ⟨h, s.lateMd it, 0xFFFFFFFF⟩ with
      | (.done, t) => t.setSc i { x with held := r }
      | (.noCredit, t) => t.waitPush (hSc i) it.q
      | (.flushed, t) => t
      | (.stale, t) => (t.setSc i { x with held := r }).raiseC .staleHandle .dropped 0x02 i (some (mfld it.md 55 53)) []

/-- `STRIPE_PUSH`: R125-R128, R134, R137, R320, R391, R394. -/
def execStripePush (i : Nat) (s : State) : Host.Outcome State Fault Refusal := .next (if i < 16 then s.stripePushCmd i else s)

/-- A context's first statistics after a push; `x` is the context without them. -/
def State.statsPushed (i : Nat) (x : SfeCtx) (it : SfeStat) (r : Pushed × State) : State :=
  match r with
  | (.done, t) => t.setSc i x
  | (.noCredit, t) => t.waitPush (hSc i) it.q
  | (.flushed, t) => t
  | (.stale, t) => (t.setSc i x).raiseC .staleHandle .dropped 0x02 i (some (mfld it.md 55 53)) []

/-- The first waiting statistics are written and pushed (R122, R130, R394). -/
def State.statsPushCmd (s : State) (i : Nat) : State :=
  let x := s.sc i
  match x.stats with
  | [] => s
  | it :: r =>
    if s.gateHolds it.domain it.gated then s
    else
      let (b, s) := match it.buf with
        | some b => (some b, s)
        | none => match s.alloc (hSc i) it.pool with
          | (some b, t) => (some b, t.unitWrite .sfe .line (t.bufAddr it.pool b) it.data false)
          | (none, t) => (none, t)
      match b with
      | none => s
      | some b =>
        let s := s.setSc i { x with stats := { it with buf := some b } :: r }
        State.statsPushed i { x with stats := r } it (s.push (hSc i) it.q ⟨s.handle it.pool b, it.md, 0xFFFFFFFF⟩)

/-- `STATS_PUSH`: R122, R123, R130, R394. -/
def execStatsPush (i : Nat) (s : State) : Host.Outcome State Fault Refusal := .next (if i < 16 then s.statsPushCmd i else s)

/-! ## Registers of the front end -/

/-- Whether a quad's mode uses a link (R101, R144). -/
def State.linkUsed (s : State) (l : Nat) : Bool :=
  l % 2 == 0 || s.rf (Addr.sfePhyCfg (l / 2)) 1 0 == 1 || s.rf (Addr.sfePhyCfg (l / 2)) 1 0 == 3

/-- The most quads a zone holds along one axis. -/
def zoneMax (n len : Nat) : Nat := len / 2 - (n - 1) * (len / 2 / n)

/-- The domains that a context is a member of, by the MEMBERS in force and by those that wait for line 0 (R68). -/
def State.membership (s : State) (i : Nat) : List Nat :=
  (List.range 8).filter fun d => nbit (s.dom d).members i == 1 || nbit ((s.dom d).membersNext.getD 0) i == 1

/-- Whether a context may be enabled with what its registers hold (R109, R113, R115, R117, R122, R125, R131, R143,
R144). -/
def State.scCanEnable (s : State) (i : Nat) : Bool :=
  let c := s.reg (Addr.sfeCtxCtrl i)
  let src := s.reg (Addr.sfeCtxSrc i)
  let w := s.rf (Addr.sfeCtxSize i) 13 0
  let h := s.rf (Addr.sfeCtxSize i) 31 16
  let fmt := s.reg (Addr.sfeCtxFmt i)
  let lsc := s.reg (Addr.sfeCtxLsc i)
  let st := s.reg (Addr.sfeCtxStat i)
  let out := s.reg (Addr.sfeCtxOut i)
  let x0 := s.rf (Addr.sfeCtxStatXy i) 15 0
  let y0 := s.rf (Addr.sfeCtxStatXy i) 31 16
  let sw := s.rf (Addr.sfeCtxStatWh i) 15 0
  let sh := s.rf (Addr.sfeCtxStatWh i) 31 16
  let zx := fld st 12 8 + 1
  let zy := fld st 20 16 + 1
  let bpp := if bit c 29 then 4 else 2
  let dup := (List.range 16).any fun k => k != i && s.rb (Addr.sfeCtxCtrl k) 31 && s.reg (Addr.sfeCtxSrc k) == src
  let covers (n c len : Nat) := decide (len + 2 ^ c ≤ n * 2 ^ c + 1)
  !dup && s.linkUsed (fld src 19 16) && w % 2 == 0 && decide (w ≤ 8192) &&
  (!bit fmt 4 || (fld src 5 0 != 0x2F && s.pwlOk (2 * i + fld c 30 30) (fld fmt 3 0 + 1))) &&
  (s.membership i).all (· == fld c 2 0) &&
  covers (fld lsc 21 16) (fld lsc 3 0) w && covers (fld lsc 29 24) (fld lsc 11 8) h &&
  decide (stripeStride w bpp * (if bit c 28 then 32 else 16) ≤ s.plSize (fld out 4 0)) &&
  decide (statSize zx zy (s.rf (Addr.sfeCtxEmbMax i) 13 0) ≤ s.plSize (fld out 20 16)) &&
  decide (x0 + sw ≤ w) && decide (y0 + sh ≤ h) && decide (zoneMax zx sw * zoneMax zy sh ≤ 65535)

/-- A context is disabled: its faults are reported, its handles return, its frames end (R394), and its group waits for it no
longer (R137). -/
def State.scOff (s : State) (i : Nat) : State :=
  let s := s.reportFaults i
  let x := s.sc i
  let qs := x.held.map (·.q) ++ x.stats.map (·.q)
  let s := (s.releaseAll (hSc i)).setSc i { bank := x.bank, nextFid := x.nextFid }
  let s := (forEach qs (fun q t => t.unwait (hSc i) q) s).setRf Addr.sfeStatus i i 0
  match s.memberOf i with
  | some d => (match s.grp d with
    | some g =>
      let r := s.checkGate d g
      r.1.setGrp d (some r.2)
    | none => s)
  | none => s

/-- A write of SFE_CTX_n_CTRL (R20, R109, R113, R115, R131-R133). -/
def State.scCtrlWrite (s : State) (i : Nat) (v : Word) : State :=
  let a := Addr.sfeCtxCtrl i
  let old := s.reg a
  let en := bit old 31
  let s := s.noteRsvd a v
  let badDom := en && fld v 2 0 != fld old 2 0
  let fmt := s.reg (Addr.sfeCtxFmt i)
  let badBank := en && fld v 30 30 != fld old 30 30 && bit fmt 4 && !s.pwlOk (2 * i + fld v 30 30) (fld fmt 3 0 + 1)
  let w := setFld v 24 3 0
  let w := if badDom then setFld w 2 0 (fld old 2 0) else w
  let w := if badBank then setFld w 30 30 (fld old 30 30) else w
  let s := s.setReg a w
  let badEn := !en && bit w 31 && !s.scCanEnable i
  let s := if badEn then s.setRf a 31 31 0 else s
  let s := if badDom || badBank || badEn then s.cfgErr 0x02 i else s
  if en = true ∧ bit w 31 = false then s.scOff i
  else if en = false ∧ s.rb a 31 = true then s.setSc i { s.sc i with bank := fld w 30 30 }
  else s

/-- `SFE_CTX_ENABLE`: R109, R113, R115, R117, R122, R125, R131, R143, R144. -/
def execSfeCtxEnable (i : Nat) (v : Word) (s : State) : Host.Outcome State Fault Refusal :=
  .next (if i < 16 then s.scCtrlWrite i v else s)

/-- A write of SFE_CTX_n_SRC (R132). -/
def State.scSrcWrite (s : State) (i : Nat) (v : Word) : State :=
  if s.rb (Addr.sfeCtxCtrl i) 31 then s.refuse (Addr.sfeCtxSrc i) v else s.putReg (Addr.sfeCtxSrc i) v

/-- A write of SFE_CTX_n_FMT (R115). On an enabled context PWL is not accepted with 20 bits, nor PWL or a number of segments that
the table of the selected bank does not fit. -/
def State.scFmtWrite (s : State) (i : Nat) (v : Word) : State :=
  let a := Addr.sfeCtxFmt i
  let old := s.reg a
  let on := s.rb (Addr.sfeCtxCtrl i) 31 && bit v 4
  let tab := 2 * i + s.rf (Addr.sfeCtxCtrl i) 30 30
  let badN := on && fld v 3 0 != fld old 3 0 && !s.pwlOk tab (fld v 3 0 + 1)
  let n := if badN then fld old 3 0 else fld v 3 0
  let badEn := on && !bit old 4 && (s.rf (Addr.sfeCtxSrc i) 5 0 == 0x2F || !s.pwlOk tab (n + 1))
  let badCfa := fld v 10 8 != fld old 10 8 && decide (4 < fld v 10 8)
  let w := setFld (setFld (setFld 0 3 0 n) 4 4 (if badEn then 0 else fld v 4 4)) 10 8 (if badCfa then fld old 10 8 else fld v 10 8)
  let t := (s.noteRsvd a v).setReg a w
  if badN || badEn || badCfa then t.cfgErr 0x02 i else t

/-- A write of SFE_PHY_n_CFG (R101, R102, R132, R144). -/
def State.phyCfgWrite (s : State) (q : Nat) (v : Word) : State :=
  let a := Addr.sfePhyCfg q
  let busy := (List.range 16).any fun i => s.rb (Addr.sfeCtxCtrl i) 31 && s.rf (Addr.sfeCtxSrc i) 19 16 / 2 == q
  if busy then s.refuse a v
  else
    let mode := fld v 1 0
    let okA n := decide (n ≤ lget 0 [3, 1, 2, 0] mode)
    let okB n := mode == 0 || mode == 2 || decide (n ≤ 1)
    let old := s.reg a
    let s := s.noteRsvd a v
    let na := if okA (fld v 5 4) then fld v 5 4 else fld old 5 4
    let nb := if okB (fld v 7 6) then fld v 7 6 else fld old 7 6
    if okA na = false ∨ okB nb = false then s.cfgErr 0x1A (2 * q)
    else
      let s := s.setReg a (w32 (nb * 64 + na * 16 + mode))
      if na = fld v 5 4 ∧ nb = fld v 7 6 then s else s.cfgErr 0x1A (2 * q)

/-- Whether the four lanes of a map are distinct (R103). -/
def lanesDistinct (v : Word) : Bool :=
  let l := [fld v 3 0, fld v 7 4, fld v 11 8, fld v 15 12]
  l.all (fun x => decide (x ≤ 3)) && l.eraseDups.length == 4

/-- A write of SFE_PHY_n_LANEMAP (R20, R103): a map that names a lane twice and a trio order that is none of the six keep what
they were. -/
def State.laneMapWrite (s : State) (q : Nat) (v : Word) : State :=
  let a := Addr.sfePhyLanemap q
  let old := s.reg a
  let badMap := !lanesDistinct v
  let bad (lo : Nat) := decide (5 < fld v (lo + 2) lo)
  let w := keepFld (bad 26) old 28 26 (keepFld (bad 23) old 25 23 (keepFld (bad 20) old 22 20 (keepFld badMap old 15 0 (setFld v 31 29 0))))
  let t := (s.noteRsvd a v).setReg a w
  if badMap || bad 20 || bad 23 || bad 26 then t.cfgErr 0x1A (2 * q) else t

/-- A write of a word of a table, `tab` = 2 * context + bank (R133). -/
def State.scTabWrite (s : State) (a tab : Nat) (v : Word) : State :=
  let i := tab / 2
  if s.rb (Addr.sfeCtxCtrl i) 31 = true ∧ ((s.sc i).bank = tab % 2 ∨ s.rf (Addr.sfeCtxCtrl i) 30 30 = tab % 2) then s.cfgErr 0x02 i
  else s.setReg a v

end Sys2Proof.Machine
end

