-- ==== Sys2Proof/Machine/Vdec.lean ====
section
/-! DEFINITION. The video decoder (R551-R584). What the standards' parsing and decoding processes give comes with the
command (`NalUnit`); the samples are constants of Config. Input, marks, error modes, concealment, taint, bounds, output and
the registers are computed here. -/

namespace Sys2Proof.Machine

open Sys2Proof

/-! ## Accessors -/

/-- A decoder session. -/
def State.vd (s : State) (k : Nat) : VdSess := tget (fun _ => {}) s.vdec.sess k
/-- The state with a decoder session replaced. -/
def State.setVd (s : State) (k : Nat) (x : VdSess) : State :=
  { s with vdec := { s.vdec with sess := tset (fun _ => {}) s.vdec.sess k x } }
/-- A DPB buffer. -/
def State.vb (s : State) (i : Nat) : VdBuf := tget (fun _ => {}) s.vdec.bufs i
/-- The state with a DPB buffer replaced. -/
def State.setVb (s : State) (i : Nat) (x : VdBuf) : State :=
  { s with vdec := { s.vdec with bufs := tset (fun _ => {}) s.vdec.bufs i x } }
/-- CTRL of a session. -/
def State.vdCtrl (s : State) (k : Nat) : Word := s.reg (Addr.vdecSCtrl k)
/-- Whether a session is enabled and the decoder too. -/
def State.vdOn (s : State) (k : Nat) : Bool := decide (k < 8) && bit (s.vdCtrl k) 31 && s.rb Addr.vdecCtrl 0
/-- Whether a session is in STRICT mode. -/
def State.vdStrict (s : State) (k : Nat) : Bool := bit (s.vdCtrl k) 25
/-- Bytes of a sample. -/
def State.vdB (s : State) (k : Nat) : Nat := if bit (s.vdCtrl k) 24 then 2 else 1
/-- MAX_W and MAX_H. -/
def State.vdMax (s : State) (k : Nat) : Nat × Nat := (s.rf (Addr.vdecSMaxsize k) 15 0, s.rf (Addr.vdecSMaxsize k) 31 16)
/-- Where a DPB buffer lies (R559). -/
def State.vdAddr (s : State) (i : Nat) : Nat :=
  s.rf Addr.vdecDpbBaseHi 7 0 * 2 ^ 32 + s.rf Addr.vdecDpbBaseLo 31 6 * 64 + i * (s.rf Addr.vdecDpbSize 29 6 * 64)
/-- OUTFMT. -/
def State.vdFmt (s : State) (k : Nat) : Nat := fld (s.vdCtrl k) 23 22
/-- Rows of a band. -/
def State.vdBand (s : State) (k : Nat) : Nat := 16 * 2 ^ fld (s.vdCtrl k) 21 20
/-- OUT_STRIDE. -/
def State.vdStride (s : State) (k : Nat) : Nat := s.rf (Addr.vdecSStride k) 23 6 * 64
/-- OUT_PL. -/
def State.vdPl (s : State) (k : Nat) : Nat := s.rf (Addr.vdecSIo k) 4 0
/-- OUT_PQ. -/
def State.vdPq (s : State) (k : Nat) : Nat := s.rf (Addr.vdecSIo k) 21 16
/-- 16x16 areas across a picture. -/
def spsCols (p : SpsInfo) : Nat := cdiv p.w 16
/-- 16x16 areas of a picture. -/
def spsAreas (p : SpsInfo) : Nat := spsCols p * cdiv p.h 16
/-- The runs of an area of a DPB buffer. -/
def State.areaSegs (s : State) (k i : Nat) (p : SpsInfo) (a : Nat) : List (Nat × Nat) :=
  let got := s.vdMax k
  let w := got.1
  let h := got.2
  let y := a / spsCols p * 16
  pictureSegs (s.vdAddr i) (up64 w) (up64 h) (s.vdB k) (a % spsCols p * 16) 16 y (y + 16)
/-- Whether an area of a DPB buffer is tainted. -/
def State.tainted (s : State) (i a : Nat) : Bool := tget (fun _ => false) (s.vb i).taint a
/-- An area of a DPB buffer tainted. -/
def State.setTaint (s : State) (i a : Nat) : State :=
  s.setVb i { s.vb i with taint := tset (fun _ => false) (s.vb i).taint a true }

/-- The class of an error in a session's mode. -/
def State.vdCls (s : State) (k : Nat) : Cls := if s.vdStrict k then .dropped else .poisoned

/-- A record of a session with the detail of R579. -/
def State.vdRaise (s : State) (k : Nat) (c : Code) (cls : Cls) (dom : Option Nat) (n off cu : Nat) : State :=
  s.raiseC c cls 0x0E k dom [(4, n), (4, off), (4, cu)]

/-- An error added to those of a picture (R579). -/
def addErr (c : Code) (off cu : Nat) : List VdErr → List VdErr
  | [] => [⟨c, 1, off, cu⟩]
  | e :: r => if e.code = c then { e with count := e.count + 1 } :: r else e :: addErr c off cu r

/-- The records of a picture. -/
def State.vdRecords (s : State) (k : Nat) (dom : Option Nat) (l : List VdErr) : State :=
  l.foldl (fun t e => t.vdRaise k e.code (t.vdCls k) dom e.count e.off e.cu) s

/-! ## Input (R555-R558) -/

/-- A session pops an item of byte stream. -/
def State.vdPop (s : State) (k : Nat) : State :=
  match s.unitPop hVdec (s.rf (Addr.vdecSIo k) 29 24) with
  | (none, t) => t
  | (some it, t) =>
    let x := t.vd k
    let dom := some (mfld it.md 55 53)
    let p := hdPool it.handle
    let missing := mfld it.md 34 34 == 1
    let wait := if x.inp = [] then t.vdec.order else x.since
    let t := { t with vdec := { t.vdec with order := t.vdec.order + 1 } }
    if t.staleItem it then
      ((t.dropItem it).setVd k { x with cut := true, drained := false }).vdRaise k .staleHandle .dropped dom 1 x.off 0
    else if p = 63 then t.setVd k { x with cut := true, drained := false }
    else
      let a := t.bufAddr p (hdIdx it.handle)
      let r := t.unitRead .vdec .bulk a 64
      let h := r.1
      let t := r.2
      let l := leNat (plain (h.take 4))
      let room := t.plSize p - 64
      let cut := x.cut || missing || anyPoison (h.take 4)
      let t := if room < l then t.vdRaise k .vdecInput .dropped dom 1 x.off 0 else t
      if min l room = 0 then (t.dropItem it).setVd k { x with cut := cut, drained := false }
      else t.setVd k { x with inp := x.inp ++ [{ item := it, len := min l room, cut := cut }], cut := decide (room < l), since := wait,
                              drained := false }

/-- `VDEC_INPUT_POP`: R392, R394, R555-R557. -/
def execVdecInputPop (k : Nat) (s : State) : Host.Outcome State Fault Refusal :=
  .next (if s.vdOn k = true ∧ (s.vd k).inp.length < 2 then s.vdPop k else s)

/-- Bytes of stream that a session holds unparsed. -/
def VdSess.held (x : VdSess) : Nat := x.inp.foldl (fun n i => n + (i.len - i.at_)) 0

/-- The next `n` bytes of the stream, each with whether an error is at it: poison, or a discontinuity before it (R557). -/
def State.vdRead (s : State) (n : Nat) : List VdIn → List (Byte × Bool) × State
  | [] => ([], s)
  | i :: r =>
    let m := min n (i.len - i.at_)
    let got := s.unitRead .vdec .bulk (s.bufAddr (hdPool i.item.handle) (hdIdx i.item.handle) + 64 + i.at_) m
    let l := got.1
    let t := got.2
    let l := if i.cut = true ∧ i.at_ = 0 then (match l with | (b, _) :: q => (b, true) :: q | [] => []) else l
    if n - m = 0 then (l, t) else let (q, u) := t.vdRead (n - m) r; (l ++ q, u)

/-- `n` bytes parsed: what is left of the input, and the items whose last byte was parsed. -/
def vdEat : Nat → List VdIn → List VdIn × List Item
  | _, [] => ([], [])
  | n, i :: r =>
    if n < i.len - i.at_ then ({ i with at_ := i.at_ + n } :: r, [])
    else let (a, b) := vdEat (n - (i.len - i.at_)) r; (a, i.item :: b)

/-! ## Placeholders and abandonment (R572) -/

/-- Placeholders of a session pushed as far as they will go (R394, R572). -/
def State.vdHoles (s : State) (k : Nat) : Nat → State
  | 0 => s
  | n + 1 =>
    match (s.vd k).holes with
    | [] => s
    | m :: r =>
      match s.push hVdec (s.vdPq k) { handle := placeholder, md := m, vreg := 0xFFFFFFFF } with
      | (.done, t) => (t.setVd k { t.vd k with holes := r }).vdHoles k n
      | (.noCredit, t) => t.waitPush hVdec (t.vdPq k)
      | (.flushed, t) => t
      | (.stale, t) => t

/-- A placeholder for a picture that is not output (R572). -/
def State.vdHole (s : State) (k dom frame : Nat) : State :=
  let m := mkMeta hVdec dom frame 0 (fMissing + fFrameEnd) 0 0
  (s.setVd k { s.vd k with holes := (s.vd k).holes ++ [m] }).vdHoles k 64

/-- Whether a session's output stage reads a DPB buffer. -/
def VdSess.outs (x : VdSess) (i : Nat) : Bool := match x.out with | some o => o.buf == i | none => false

/-- A DPB buffer freed when nothing needs it. -/
def State.vdFree (s : State) (k i : Nat) : State :=
  let b := s.vb i
  let x := s.vd k
  let mine := match x.pic with | some p => p.buf == i | none => false
  if b.isRef = false ∧ b.out = false ∧ x.outs i = false ∧ mine = false then s.setVb i {} else s

/-- Pictures abandoned or discarded counted. -/
def State.vdLost (s : State) (k : Nat) : State := s.inc (Addr.vdecSAbandon k) 1

/-- The session no longer decodes: the engine is at a picture boundary. -/
def State.vdRest (s : State) (k : Nat) : State :=
  let x := s.vd k
  { s.setVd k { x with pic := none, since := s.vdec.order } with vdec := { (s.setVd k { x with pic := none, since := s.vdec.order }).vdec with
      cur := none, order := s.vdec.order + 1 } }

/-- A picture is abandoned in STRICT mode (R572). -/
def State.vdAbandon (s : State) (k : Nat) (p : VdPic) : State :=
  let b := s.vb p.buf
  let s := (s.vdRecords k (some b.domain) p.errs).vdLost k
  let s := (s.setVd k { s.vd k with skip := .strict }).setVb p.buf {}
  (s.vdHole k b.domain (b.frame % 2048)).vdRest k

/-! ## Pictures (R560, R568-R574) -/

/-- A free DPB buffer of a session. -/
def State.vdSpare (s : State) (k : Nat) : Option Nat := (s.vd k).bufs.find? fun i => !(s.vb i).used

/-- Whether a session holds the first byte of a picture and has a free buffer (R568). -/
def State.vdReady (s : State) (k : Nat) : Bool := s.vdOn k && decide ((s.vd k).inp ≠ []) && (s.vdSpare k).isSome

/-- `VDEC_PICTURE_START`: R568. -/
def execVdecPictureStart (s : State) : Host.Outcome State Fault Refusal :=
  .next (if s.vdec.cur ≠ none then s
    else
      let l := (List.range 8).filter fun k => s.vdReady k
      let best := l.foldl (fun b k => match b with
        | none => some k
        | some j => if (s.vd k).since < (s.vd j).since then some k else some j) (none : Option Nat)
      { s with vdec := { s.vdec with cur := best } })

/-- Whether a parameter set is supported (R551, R553). -/
def State.spsOk (s : State) (k : Nat) (p : SpsInfo) : Bool :=
  let got := s.vdMax k
  let w := got.1
  let h := got.2
  p.profileOk && decide (p.level ≤ (if fld (s.vdCtrl k) 27 26 = 0 then 156 else 52)) && decide (p.w ≤ w) && decide (p.h ≤ h) &&
  decide (p.dpb + 1 ≤ s.rf (Addr.vdecSDpb k) 4 0)

/-- The mid value as a sample is stored. -/
def midBytes (b : Nat) : Bytes := if b = 1 then [0x80] else [0x00, 0x80]

/-- Byte `i` of samples that all hold the mid value. -/
def midByte (b i : Nat) : Byte := if b = 1 then 0x80 else if i % 2 = 1 then 0x80 else 0

/-- A whole buffer of mid samples, tainted: a generated reference (R571). -/
def State.vdGenerate (s : State) (k i : Nat) (p : SpsInfo) (era : Nat) : State :=
  let s := (List.range (spsAreas p)).foldl (fun (t : State) a => t.writeSegs .vdec .bulk (midByte (t.vdB k)) (t.areaSegs k i p a)) s
  s.setVb i { used := true, isRef := true, era := era, sps := some p, taint := (List.range (spsAreas p)).map fun a => (a, true) }

/-- The references of a picture that is starting, with those that are missing generated; how many were missing. -/
def State.vdRefs (s : State) (k : Nat) (p : SpsInfo) : List (Option Nat) → List Nat × Nat × State
  | [] => ([], 0, s)
  | some i :: r => let (l, n, t) := s.vdRefs k p r; (i :: l, n, t)
  | none :: r =>
    match s.vdSpare k with
    | some i => let (l, n, t) := (s.vdGenerate k i p (s.vd k).era).vdRefs k p r; (i :: l, n + 1, t)
    | none => let (l, n, t) := s.vdRefs k p r; (l, n + 1, t)

/-- A discarded picture (R553, R572): a placeholder where STRICT mode skips. -/
def State.vdDiscard (s : State) (k dom frame : Nat) (placeholder : Bool) : State :=
  let s := s.vdLost k
  (if placeholder then s.vdHole k dom frame else s).vdRest k

/-- A picture whose parameter sets cannot be used is discarded, told once per SPS (R553). A STRICT skip lasts until the next
random-access picture, and each picture it discards whose slice header could be parsed leaves a placeholder (R572). -/
def State.vdUnsup (s : State) (k dom low off : Nat) (i : SliceInfo) (parsed : Bool) : State :=
  let x := s.vd k
  let told := x.told.contains i.sps
  let strict := x.skip == .strict && !i.rap
  let s := if told then s else s.vdRaise k .vdecUnsup .dropped (some dom) 1 off 0
  let s := s.setVd k { x with skip := if strict then .strict else .unsup, told := if told then x.told else i.sps :: x.told }
  s.vdDiscard k dom low (strict && parsed)

/-- A slice that begins a picture: none where the picture is discarded, else the picture it begins. -/
def State.vdBegin (s : State) (k dom frame off : Nat) (i : SliceInfo) : Option VdPic × State :=
  let x := s.vd k
  let low := frame % 2048
  let sps := tget (fun _ => none) x.spss i.sps
  match sps with
  | none => (none, s.vdUnsup k dom low off i false)
  | some p =>
    if s.spsOk k p = false ∨ i.setsOk = false then
      (none, s.vdUnsup k dom low off i i.setsOk)
    else if (x.skip ≠ .none ∧ i.rap = false) ∨ i.rasl = true then (none, s.vdDiscard k dom low (x.skip == .strict))
    else
      let era := if i.idr then x.era + 1 else x.era
      let s := s.setVd k { x with skip := .none, era := era }
      let s := x.bufs.foldl (fun (t : State) j =>
        if j ∈ i.keep ∧ i.idr = false then t else (t.setVb j { t.vb j with isRef := false }).vdFree k j) s
      let miss := (i.refs.filter (· == none)).length
      if miss ≠ 0 ∧ s.vdStrict k = true then
        (none, ((s.vdRaise k .vdecNoref .dropped (some dom) miss off 0).setVd k { s.vd k with skip := .strict }).vdDiscard k dom low true)
      else
        let got := s.vdRefs k p i.refs
        let refs := got.1
        let n := got.2.1
        let s := got.2.2
        match s.vdSpare k with
        | none => (none, (s.vdRaise k .vdecSyntax (s.vdCls k) (some dom) 1 off 0).vdDiscard k dom low (s.vdStrict k))
        | some b =>
          let s := s.setVb b { used := true, era := era, poc := i.poc, domain := dom, frame := frame, sps := some p }
          (some { buf := b, sps := p, intra := i.intra, ref0 := refs.head?, isRef := i.isRef, out := i.out,
                  errs := if n = 0 then [] else [⟨.vdecNoref, n, off, 0⟩] }, s)

/-- The areas of a slice decoded: reference reads checked (R576) and read, samples written, taint spread (R574). `fault` is
set by a read outside the session's buffers. -/
def State.vdDecode (s : State) (k : Nat) (p : VdPic) (bytes : Bytes) (i : SliceInfo) : VdPic × Bool × State :=
  let x := s.vd k
  let inside (b a : Nat) : Bool := x.bufs.contains b && decide (a < spsAreas p.sps)
  let good := i.reads.all fun r => match r.2.1 with | some b => inside b r.2.2 | none => decide (r.2.2 < spsAreas p.sps)
  let areas := i.areas.filter fun a => decide (a < spsAreas p.sps)
  let (ref, s) := i.reads.foldl (fun q r => match r.2.1 with
    | some b => if inside b r.2.2 then let (l, t) := q.2.readSegs .vdec .bulk (q.2.areaSegs k b p.sps r.2.2); (q.1 ++ plain l, t) else q
    | none => q) (([] : Bytes), s)
  let key := Config.vdecNal bytes ref x.key
  let s := s.setVd k { x with key := key }
  let s := areas.foldl (fun (t : State) a =>
    let t := t.writeSegs .vdec .bulk (Config.vdecByte key a) (t.areaSegs k p.buf p.sps a)
    if i.reads.any fun r => r.1 == a && (match r.2.1 with | some b => t.tainted b r.2.2 | none => t.tainted p.buf r.2.2)
    then t.setTaint p.buf a else t) s
  ({ p with areas := areas.foldl (fun t a => tset (fun _ => false) t a true) p.areas,
            bits := p.bits + 8 * bytes.length, bad := false }, !good || areas.length != i.areas.length, s)

/-- An error in a picture: added to its errors; in STRICT mode it is abandoned (R570, R572). -/
def State.vdFail (s : State) (k : Nat) (p : VdPic) (c : Code) (off cu : Nat) : State :=
  let p := { p with errs := addErr c off cu p.errs, bad := true }
  if s.vdStrict k then s.vdAbandon k p else s.setVd k { s.vd k with pic := some p }

/-- The first error of a NAL unit: what the parser found, or a byte that is poisoned or follows a discontinuity. -/
def nalErr (n : NalUnit) (l : List (Byte × Bool)) (cu : Nat) : Option (Bool × Nat × Nat) :=
  match l.findIdx? (·.2), n.err with
  | none, e => e
  | some j, none => some (false, j, cu)
  | some j, some (b, o, c) => if j < o then some (false, j, c) else some (b, o, c)

/-- A NAL unit is parsed and decoded. -/
def State.vdNal (s : State) (k : Nat) (n : NalUnit) : State :=
  let x := s.vd k
  let off := x.off
  let md : BitVec 64 := match x.inp with | i :: _ => i.item.md | [] => 0
  let dom := mfld md 55 53
  let frame := s.fullFrame dom (mfld md 52 42)
  let got := s.vdRead n.bytes x.inp
  let l := got.1
  let s := got.2
  let got := vdEat n.bytes x.inp
  let inp := got.1
  let gone := got.2
  let s := gone.foldl State.dropItem (s.setVd k { s.vd k with inp := inp, off := off + n.bytes })
  let code (b : Bool) : Code := if b then .vdecBounds else .vdecSyntax
  let plainErr (e : Bool × Nat × Nat) : State :=
    match (s.vd k).pic with
    | some p => s.vdFail k p (code e.1) (off + e.2.1) e.2.2
    | none => s.vdRaise k (code e.1) (s.vdCls k) (some dom) 1 (off + e.2.1) e.2.2
  match n.body with
  | .other => (match nalErr n l 0 with | some e => plainErr e | none => s)
  | .sps i =>
    (match nalErr n l 0 with
    | some e => plainErr e
    | none => s.setVd k { s.vd k with spss := tset (fun _ => none) (s.vd k).spss i.id (some i), told := (s.vd k).told.filter (· != i.id) })
  | .slice i =>
    let got := if i.first then s.vdBegin k dom frame off i else ((s.vd k).pic, s)
    let pic := got.1
    let s := got.2
    match pic with
    | none => s
    | some p =>
      if p.stopped then s
      else if i.first = true ∧ p.errs ≠ [] ∧ s.vdStrict k = true then s.vdAbandon k p
      else
        let got := s.vdDecode k p (plain l) i
        let p := got.1
        let outside := got.2.1
        let s := got.2.2
        let s := s.setVd k { s.vd k with pic := some p }
        match nalErr n l (match i.areas.getLast? with | some a => a + 1 | none => 0) with
        | some e => s.vdFail k p (code e.1) (off + e.2.1) e.2.2
        | none => if outside then s.vdFail k p .vdecBounds off 0 else s

/-- Whether a NAL unit may be parsed now: its bytes are held, and it does not begin a picture while one is in progress. -/
def State.vdTakes (s : State) (k : Nat) (n : NalUnit) : Bool :=
  let x := s.vd k
  s.vdOn k && s.vdec.cur == some k && decide (0 < n.bytes) && decide (n.bytes ≤ x.held) &&
  (match n.body with | .slice i => !(i.first && x.pic != none) | _ => true)

/-- `VDEC_NAL_UNIT`: R552-R554, R556-R558, R569-R574, R576-R579. -/
def execVdecNalUnit (k : Nat) (n : NalUnit) (s : State) : Host.Outcome State Fault Refusal :=
  .next (if s.vdTakes k n then s.vdNal k n else s)

/-- `VDEC_BUDGET_EXHAUSTED`: R569, R572, R575, R578. -/
def execVdecBudgetExhausted (k : Nat) (nalBudget : Bool) (s : State) : Host.Outcome State Fault Refusal :=
  .next (if s.vdOn k = true ∧ s.vdec.cur = some k then
    match (s.vd k).pic with
    | some p => if p.bad then s else s.vdFail k { p with stopped := p.stopped || !nalBudget } .vdecBudget (s.vd k).off
        (match p.areas.getLast? with | some a => a.1 + 1 | none => 0)
    | none => s
  else s)

/-- An area no slice decoded is concealed (R573). -/
def State.vdConceal (s : State) (k : Nat) (p : VdPic) (a : Nat) : State :=
  let b := s.vdB k
  let s := match p.intra, p.ref0 with
    | false, some r =>
      let got := s.readSegs .vdec .bulk (s.areaSegs k r p.sps a)
      let l := got.1
      let t := got.2
      t.writeSegs .vdec .bulk (lget 0 (plain l)) (t.areaSegs k p.buf p.sps a)
    | _, _ => s.writeSegs .vdec .bulk (midByte b) (s.areaSegs k p.buf p.sps a)
  s.setTaint p.buf a

/-- A picture is complete (R560, R561, R567, R570, R573, R579). -/
def State.vdComplete (s : State) (k : Nat) (p : VdPic) : State :=
  let open_ := (List.range (spsAreas p.sps)).filter fun a => !tget (fun _ => false) p.areas a
  if open_ ≠ [] ∧ s.vdStrict k = true then s.vdAbandon k { p with errs := addErr .vdecSyntax (s.vd k).off (lget 0 open_ 0) p.errs }
  else
    let s := open_.foldl (fun t a => t.vdConceal k p a) s
    let s := s.inc (Addr.vdecSConceal k) open_.length
    let b := s.vb p.buf
    let s := s.vdRecords k (some b.domain) p.errs
    let s := s.setVb p.buf { b with isRef := p.isRef, out := p.out }
    let nominal := max (spsAreas p.sps * 256) (p.bits / 2) + 8000
    let got := s.draw
    let f := got.1
    let s := got.2
    let s := s.incWrap Addr.vdecBusy (f.toNat % (nominal / 1000 + 1))
    let s := s.vdRest k
    s.vdFree k p.buf

/-! ## Output (R562-R565, R574) -/

/-- A line of samples of a DPB plane, each with its taint. -/
def State.vdLine (s : State) (k i : Nat) (p : SpsInfo) (chroma : Bool) (y : Nat) : List (Nat × Bool) × State :=
  let got := s.vdMax k
  let w := got.1
  let h := got.2
  let b := s.vdB k
  let base := s.vdAddr i + (if chroma then tiledCb (up64 w) (up64 h) b else 0)
  let got := s.readSegs .vdec .bulk ((List.range (cdiv p.w 64)).map fun c => tileSeg base (up64 w) b (64 * c) y 64)
  let l := got.1
  let t := got.2
  let v := plain l
  let taint (x : Nat) : Bool := s.tainted i ((if chroma then y / 8 else y / 16) * spsCols p + x / 16)
  ((List.range (min p.w (cdiv p.w 64 * 64))).map fun x => ((at_ v (b * x) b) / (if b = 2 then 64 else 1), taint x), t)

/-- A stored sample expanded to 16 bits (R563). -/
def vdExpand (b x : Nat) : Nat := if b = 2 then expand10 x else x * 257

/-- MATRIX and full range of a session for a picture (R563). -/
def State.vdColour (s : State) (k : Nat) (p : SpsInfo) : Nat × Bool :=
  let m := fld (s.vdCtrl k) 19 18
  let r := fld (s.vdCtrl k) 17 16
  let known (c : Nat) : Option Nat := if c = 1 then some 1 else if c = 5 ∨ c = 6 then some 0 else if c = 9 then some 2 else none
  match p.vui with
  | some (c, full) =>
    match known c with
    | some v => (if m = 3 then v else m, if r = 2 then full else r == 1)
    | none => (if m = 3 then 1 else m, if r = 2 then false else r == 1)
  | none => (if m = 3 then 1 else m, if r = 2 then false else r == 1)

/-- R, G and B in 16 bits of a pixel (R563, the inverse of R444 and R445), weights in units of 2^-14. -/
def rgbOfYuv (m : Nat) (full : Bool) (y cb cr : Nat) : List Nat :=
  let got := matrixK m
  let kr := got.1
  let kb := got.2
  let kg := 10000 - kr - kb
  let sy : Int := if full then 65535 else 56064
  let sc : Int := if full then 65535 else 57344
  let q n d := roundDiv (n * 65535 * 16384) d
  let wy := q 1 sy
  let one (wb wr : Int) : Nat :=
    let v := (wy * ((y : Int) - (if full then 0 else 4096)) + wb * ((cb : Int) - 32768) + wr * ((cr : Int) - 32768) + 8192) / 16384
    (min (max v 0) 65535).toNat
  [one 0 (q (2 * (10000 - kr)) (10000 * sc)), one (q (-(2 * kb * (10000 - kb))) (kg * 10000 * sc)) (q (-(2 * kr * (10000 - kr))) (kg * 10000 * sc)),
   one (q (2 * (10000 - kb)) (10000 * sc)) 0]

/-- A row of pixels of the output rectangle as its buffer's cells; `o` is the row's offset (R562, R563). -/
def State.vdRgbRow (s : State) (k i : Nat) (p : SpsInfo) (y o : Nat) : List OutCell × State :=
  let b := s.vdB k
  let got := s.vdLine k i p false (p.y0 + y)
  let lu := got.1
  let s := got.2
  let got := s.vdLine k i p true ((p.y0 + y) / 2)
  let ch := got.1
  let s := got.2
  let got := s.vdColour k p
  let m := got.1
  let full := got.2
  let mid := if b = 2 then 0x200 else 0x80
  let px (x : Nat) : List OutCell :=
    let z := p.x0 + x
    let a := lget (0, false) lu z
    let c := lget (mid, false) ch (z / 2 * 2)
    let d := lget (mid, false) ch (z / 2 * 2 + 1)
    let v := rgbOfYuv m full (vdExpand b a.1) (vdExpand b (if p.mono then mid else c.1)) (vdExpand b (if p.mono then mid else d.1))
    let t := a.2 || c.2 || d.2
    if s.vdFmt k = 2 then (v.zipIdx).flatMap fun q => cellsOf (o + 3 * x + q.2) 1 (quant 8 q.1) t
    else cellsOf (o + 4 * x) 4 (quant 10 (lget 0 v 0) * 2 ^ 20 + quant 10 (lget 0 v 1) * 2 ^ 10 + quant 10 (lget 0 v 2)) t
  ((List.range p.ow).flatMap px, s)

/-- A row of samples of a tiled output plane, padded to whole tiles (R450). -/
def tileCells (w bo base rep y rows : Nat) (smp : List (Nat × Bool)) : List OutCell :=
  let ys := if y + 1 = rows then (List.range (cdiv rows 16 * 16 - y)).map (· + y) else [y]
  let n := smp.length
  ys.flatMap fun yy => (List.range (cdiv w 64 * 64)).flatMap fun x =>
    let p := lget (0, false) smp (if x < n then x else n - rep + x % rep)
    cellsOf (tileSeg base w bo x yy 1).1 bo p.1 p.2

/-- A sample of the DPB as a tiled output stores it. -/
def vdTileVal (b bo v : Nat) : Nat :=
  if bo = 2 then (if b = 2 then v * 64 else quant 10 (v * 257) * 64) else if b = 1 then v else quant 8 (expand10 v)

/-- A row of a tiled output picture, with a row of chroma after each odd one. -/
def State.vdTileRow (s : State) (k i : Nat) (p : SpsInfo) (y : Nat) : List OutCell × State :=
  let b := s.vdB k
  let bo := if s.vdFmt k = 1 then 2 else 1
  let conv (l : List (Nat × Bool)) (x : Nat) : List (Nat × Bool) := ((l.drop x).take p.ow).map fun q => (vdTileVal b bo q.1, q.2)
  let got := s.vdLine k i p false (p.y0 + y)
  let lu := got.1
  let s := got.2
  let a := tileCells p.ow bo 0 1 y p.oh (conv lu p.x0)
  if y % 2 = 1 then
    let got := s.vdLine k i p true ((p.y0 + y) / 2)
    let ch := got.1
    let s := got.2
    let ch := if p.mono then ch.map fun q => (if b = 2 then 0x200 else 0x80, q.2) else ch
    (a ++ tileCells p.ow bo (tiledCb p.ow p.oh bo) 2 (y / 2) (p.oh / 2) (conv ch (p.x0 / 2 * 2)), s)
  else (a, s)

/-- Rows of an output item. -/
def State.vdItemRows (s : State) (k : Nat) (p : SpsInfo) : Nat := if s.vdFmt k < 2 then p.oh else s.vdBand k

/-- The rows [r, r + n) of a picture written to an output buffer, and whether a sample of them is tainted. -/
def State.vdWrite (s : State) (k i : Nat) (p : SpsInfo) (base r n : Nat) : State :=
  (List.range n).foldl (fun (t : State) j =>
    let got := if t.vdFmt k < 2 then t.vdTileRow k i p (r + j) else t.vdRgbRow k i p (r + j) (j * t.vdStride k)
    let l := got.1
    let t := got.2
    t.putCells base l .vdec .bulk) s

/-- Whether a sample of rows [r, r + n) of the output rectangle is tainted. -/
def State.vdTaintIn (s : State) (i : Nat) (p : SpsInfo) (r n : Nat) : Bool :=
  (s.vb i).taint.any fun q =>
    let ay := q.1 / spsCols p * 16
    let ax := q.1 % spsCols p * 16
    q.2 && decide (ay < p.y0 + r + n) && decide (p.y0 + r < ay + 16) && decide (ax < p.x0 + p.ow) && decide (p.x0 < ax + 16)

/-- An output after the push of an item of `n` rows: whether it goes on, and the state (R394, R556, R567, R572). -/
def State.vdSent (k : Nat) (o : VdOut) (b : VdBuf) (n : Nat) (last : Bool) (r : Pushed × State) : Bool × State :=
  match r with
  | (.done, t) =>
    if last then
      let t := (t.setVd k { t.vd k with out := none }).incWrap (Addr.vdecSPics k) 1
      (false, (t.setVb o.buf { t.vb o.buf with out := false }).vdFree k o.buf)
    else (true, t.setVd k { t.vd k with out := some { buf := o.buf, row := o.row + n } })
  | (.noCredit, t) => (false, t.waitPush hVdec (t.vdPq k))
  | (.flushed, t) => (false, t)
  | (.stale, t) => (false, (t.raiseC .staleHandle .dropped 0x0E k (some b.domain) []).setVd k { t.vd k with out := some { o with held := none } })

/-- The output stage of a session goes on with its picture as far as it can (R564, R565). -/
def State.vdOutGo (s : State) (k : Nat) : Nat → State
  | 0 => s
  | fuel + 1 =>
    let x := s.vd k
    match x.out with
    | none => s
    | some o =>
      match (s.vb o.buf).sps with
      | none => s
      | some p =>
        let n := min (s.vdItemRows k p) (p.oh - o.row)
        match o.held with
        | none =>
          match s.alloc hVdec (s.vdPl k) with
          | (none, t) => t
          | (some h, t) => (t.setVd k { x with out := some { o with held := some h, written := false } }).vdOutGo k fuel
        | some h =>
          let s := if o.written then s else s.vdWrite k o.buf p (s.bufAddr (s.vdPl k) h) o.row n
          let s := s.setVd k { s.vd k with out := some { o with written := true } }
          let b := s.vb o.buf
          let last := decide (p.oh ≤ o.row + n)
          let m := mkMeta hVdec b.domain (b.frame % 2048) 0
            ((if last then fFrameEnd else 0) + (if s.vdTaintIn o.buf p o.row n then fPoisoned else 0)) (o.row + n - 1) o.row
          let r := State.vdSent k o b n last (s.push hVdec (s.vdPq k) { handle := s.handle (s.vdPl k) h, md := m, vreg := 0xFFFFFFFF })
          if r.1 then r.2.vdOutGo k fuel else r.2

/-- The picture of a session that the output process gives first. -/
def State.vdFirst (s : State) (k : Nat) : Option Nat :=
  ((s.vd k).bufs.filter fun i => (s.vb i).out && !(s.vd k).outs i).foldl (fun b i => match b with
    | none => some i
    | some j =>
      let u := s.vb i
      let v := s.vb j
      if u.era < v.era ∨ (u.era = v.era ∧ u.poc < v.poc) then some i else some j) none

/-- The output process releases a picture: its first buffer is allocated, or its output is skipped (R565). -/
def State.vdRelease (s : State) (k i : Nat) : State :=
  let b := s.vb i
  match s.alloc hVdec (s.vdPl k) with
  | (none, t) =>
    let t := t.vdRaise k .vdecSkip .dropped (some b.domain) 1 (t.vd k).off 0
    (t.setVb i { t.vb i with out := false }).vdFree k i
  | (some h, t) => (t.setVd k { t.vd k with out := some { buf := i, held := some h } }).vdOutGo k 2048

/-- A drained stream: once everything is parsed, its pictures are completed and output in order (R580). -/
def State.vdDrainGo (s : State) (k : Nat) : Nat → State
  | 0 => s
  | fuel + 1 =>
    let x := s.vd k
    if x.drain = true ∧ x.inp = [] ∧ (s.queue (s.rf (Addr.vdecSIo k) 29 24)).items = [] then
      match x.pic, x.out with
      | some p, _ => (s.vdComplete k p).vdDrainGo k fuel
      | none, some _ =>
        let t := s.vdOutGo k 2048
        if (t.vd k).out = none then t.vdDrainGo k fuel else t
      | none, none =>
        match s.vdFirst k with
        | some i => (s.vdRelease k i).vdDrainGo k fuel
        | none =>
          let s := x.bufs.foldl (fun (t : State) i => t.setVb i {}) s
          let s := s.setVd k { x with drain := false, drained := true, skip := .start, spss := [], told := [], cut := false }
          if s.vdec.cur = some k then { s with vdec := { s.vdec with cur := none } } else s
    else s

/-- What a session can push or output now. -/
def State.vdPump (s : State) (k : Nat) : State := ((s.vdHoles k 64).vdOutGo k 2048).vdDrainGo k 64

/-- `VDEC_PICTURE_COMPLETE`: R560, R561, R567, R570, R573, R579, R580. -/
def execVdecPictureComplete (k : Nat) (s : State) : Host.Outcome State Fault Refusal :=
  .next (if s.vdOn k = true ∧ s.vdec.cur = some k then
    match (s.vd k).pic with
    | some p => (s.vdComplete k p).vdPump k
    | none => s
  else s)

/-- `VDEC_OUTPUT`: R394, R562-R565, R574, R576, R580, R582. -/
def execVdecOutput (k buf : Nat) (s : State) : Host.Outcome State Fault Refusal :=
  .next (if s.vdOn k then
    let s := s.vdPump k
    if (s.vd k).out = none ∧ s.vdFirst k = some buf then (s.vdRelease k buf).vdDrainGo k 64 else s
  else s)

/-! ## Registers (R559, R562, R580, R581, R583, R584) -/

/-- DPB buffers that enabled sessions own. -/
def State.vdOwned (s : State) : List Nat := (List.range 8).flatMap fun k => (s.vd k).bufs

/-- Whether a session may be enabled. -/
def State.vdOk (s : State) (k : Nat) : Bool :=
  let c := s.vdCtrl k
  let got := s.vdMax k
  let w := got.1
  let h := got.2
  let ten := bit c 24
  let size := s.plSize (s.vdPl k)
  let max := s.rf (Addr.vdecSDpb k) 4 0
  decide (64 ≤ w) && decide (64 ≤ h) && !(ten && fld c 27 26 == 1) &&
  decide (refNeed w h (s.vdB k) ≤ s.rf Addr.vdecDpbSize 29 6 * 64) &&
  decide (s.vdOwned.length + max ≤ s.rf Addr.vdecDpbCfg 6 0) &&
  (match s.vdFmt k with
    | 0 => decide (tiledSize w h 1 ≤ size)
    | 1 => ten && decide (tiledSize w h 2 ≤ size)
    | 2 => decide (s.vdStride k * s.vdBand k ≤ size) && decide (3 * w ≤ s.vdStride k)
    | _ => decide (s.vdStride k * s.vdBand k ≤ size) && decide (4 * w ≤ s.vdStride k))

/-- A session ends: its picture, its input, its buffers (R581). -/
def State.vdEnd (s : State) (k : Nat) : State :=
  let x := s.vd k
  let s := (x.inp.map (·.item)).foldl State.dropItem s
  let s := match x.out with
    | some o => (match o.held with | some h => s.release (s.vdPl k) h | none => s)
    | none => s
  let s := x.bufs.foldl (fun (t : State) i => t.setVb i {}) s
  let s := (s.unwait hVdec (s.rf (Addr.vdecSIo k) 29 24)).unwait hVdec (s.vdPq k)
  let s := (s.setVd k {}).setRf (Addr.vdecSCtrl k) 31 31 0
  if s.vdec.cur = some k then { s with vdec := { s.vdec with cur := none } } else s

/-- A write of VDEC_S_s_CTRL. -/
def State.vdCtrlWrite (s : State) (k : Nat) (v : Word) : State :=
  let a := Addr.vdecSCtrl k
  if bit (s.vdCtrl k) 31 then
    let s := s.noteRsvd a v
    let same := setFld (setFld (setFld (setFld v 31 31 1) 30 30 0) 29 28 0) 15 0 0 == s.reg a
    let s := if same then s else s.cfgErr 0x0E k
    if bit v 31 = false then s.vdEnd k
    else if bit v 30 then (s.setVd k { s.vd k with drain := true }).vdPump k else s
  else
    let s := s.putReg a (setFld v 31 31 0)
    if bit v 31 then
      if s.vdOk k then
        let n := s.rf (Addr.vdecSDpb k) 4 0
        let own := ((List.range (s.rf Addr.vdecDpbCfg 6 0)).filter fun i => !s.vdOwned.contains i).take n
        (s.setRf a 31 31 1).setVd k { bufs := own }
      else s.cfgErr 0x0E k
    else s

/-- `VDEC_DRAIN`: R580. -/
def execVdecDrain (k : Nat) (s : State) : Host.Outcome State Fault Refusal :=
  .next (if s.vdOn k then s.vdCtrlWrite k (setFld (s.vdCtrl k) 30 30 1) else s)

/-- `VDEC_SESSION_DISABLE`: R394, R581. -/
def execVdecSessionDisable (k : Nat) (v : Word) (s : State) : Host.Outcome State Fault Refusal :=
  .next (if k < 8 then s.vdCtrlWrite k v else s)

/-- A write of another register of a session (R583): PICBUD at any time, the rest only while it is disabled. -/
def State.vdSessWrite (s : State) (k a : Nat) (v : Word) : State :=
  if bit (s.vdCtrl k) 31 = true ∧ a ≠ Addr.vdecSPicbud k ∧ (a < Addr.vdecSTag k) then (if s.reg a = v then s else s.refuse a v)
  else s.putReg a v

/-- A write of DPB_BASE, DPB_SIZE or COUNT (R559): only while no session is enabled. -/
def State.vdDpbWrite (s : State) (a : Nat) (v : Word) : State :=
  if (List.range 8).any fun k => bit (s.vdCtrl k) 31 then s.refuse a v else s.putReg a v

/-- A write of VDEC_CTRL (R581). -/
def State.vdEngineWrite (s : State) (v : Word) : State :=
  let was := s.rb Addr.vdecCtrl 0
  let s := s.putReg Addr.vdecCtrl v
  if was = true ∧ s.rb Addr.vdecCtrl 0 = false then
    forEach (List.range 8) (fun k t => if bit (t.vdCtrl k) 31 then t.vdEnd k else t) s
  else s

end Sys2Proof.Machine
end

