-- ==== Sys2Proof/Machine/Reset.lean ====
section
/-! DEFINITION. The unit resets of PWR_RST (R190, R394, R405, R464, R499, R543, R581, R615, R653-R655, R676, R702,
R802-R807). -/

namespace Sys2Proof.Machine

open Sys2Proof

/-- Whether a register keeps its value across a unit reset: access RWD, and the unit tags (R802). -/
def keptOnReset (a : Nat) : Bool :=
  match regAt a with
  | some r => r.desc.acc == .rwd ||
    [RegId.sfeCtxTag, .tcTag, .tcCxTag, .fmtOsTag, .dppTag, .vencTag, .vencSTag, .vdecTag, .vdecSTag, .ethTag].contains r.desc.id
  | none => false

/-- The registers of a 1 MiB block return to their reset values, but for those kept (R802, R803). -/
def State.resetBlock (s : State) (b : Nat) : State := s.resetRegs fun a => a / 0x100000 == b && !keptOnReset a

/-- `who` waits on no queue. -/
def State.unwaitAll (s : State) (who : Nat) : State := forEach (List.range 64) (fun q t => t.unwait who q) s

/-- Ticks of 64 cycles of a clock of `mhz` MHz, rounded up (R803). -/
def resetTicks (mhz : Nat) : Nat := cdiv (64 * 12288) (mhz * 10)

/-- The clock of a unit of PWR_RST, in MHz (R786). -/
def State.unitMhz (s : State) (b : Nat) : Nat :=
  if b < 8 then max 1 (s.rf Addr.clkTclk 10 0)
  else if b < 12 then max 1 (s.rf Addr.clkCpu 10 0)
  else if b = 12 ∨ b = 15 ∨ b = 16 ∨ b = 17 then 800
  else 1000

/-- Whether the unit of a bit of PWR_RST is gated. -/
def State.gatedUnit (s : State) (b : Nat) : Bool :=
  if b < 8 then !s.rb Addr.pwrTcStatus b else if b < 12 then !s.rb Addr.pwrCpuStatus (b - 8) else false

/-- Whether a write of the power registers is performed; outside ACTIVE it raises E_CFG where the SOC domain can record it
(R806). -/
def State.inActive (s : State) (f : State → State) : State :=
  if s.pwrSt = 2 then f s else if s.pwr.step = 10 then s.cfgErr 0x17 0 else s

/-- A unit is reset and held in reset (R803, R805, R806): without effect on a gated unit or one already in reset. -/
def State.heldReset (s : State) (b : Nat) (f : State → State) : State :=
  s.inActive fun s =>
    if s.gatedUnit b ∨ s.rb Addr.pwrRstStatus b then s
    else
      let s := f s
      { s.setRf Addr.pwrRstStatus b b 1 with
        pwr := { s.pwr with held := tset (fun _ => none) s.pwr.held b (some (s.now + resetTicks (s.unitMhz b))) } }

/-- A context leaves the barrier it has arrived at. -/
def State.barLeave (s : State) (k : Nat) : State :=
  forEach (List.range 16) (fun id t =>
    match tget (fun _ => none) t.pass.barriers id with
    | some b =>
      if b.arrived.contains k then
        let a := b.arrived.filter (· != k)
        { t with pass := { t.pass with barriers := tset (fun _ => none) t.pass.barriers id (if a = [] then none else some { b with arrived := a }) } }
      else t
    | none => t) s

/-- What a tensor core loses: its contexts are OFF, its operations in flight are abandoned, its requests to the chain are
withdrawn, it waits for nothing (R377, R783, R803). The handles its contexts hold stay HELD. -/
def State.tcDrop (s : State) (n : Nat) : State :=
  let c := s.core n
  let s := s.setCore n { c with slots := [], halted := false, dpaBusy := 0, issues := [0, 0, 0, 0], turn := 1, turnUsed := 0, wsets := [] }
  let s := { s with wch := { s.wch with groupsA := dropCore n s.wch.groupsA, groupsB := dropCore n s.wch.groupsB,
                                        refills := s.wch.refills.filter fun r => r.core != n } }
  let s := forEach [0, 1, 2, 3] (fun m t => (((t.unwaitAll (hCtx n m)).barLeave (4 * n + m)).setCtx (4 * n + m) {})) s
  s.barAll

/-- Whether an address is one of a tensor core's registers that its reset leaves: SPM_n_ and the activation tables (R803). -/
def tcKept (a : Nat) : Bool := decide (0x1000 ≤ a % 0x100000)

/-- TCn. -/
def State.resetTc (s : State) (n : Nat) : State :=
  s.heldReset n fun s =>
    ((s.cutTraffic (.tc n)).tcDrop n).resetRegs fun a => a / 0x100000 == 0x120 + n && !keptOnReset a && !tcKept a

/-- CPUn. -/
def State.resetCpu (s : State) (n : Nat) : State :=
  s.heldReset (8 + n) fun s =>
    let s := ((s.cutTraffic (.cpu n)).cohReset n).setReg (Addr.cohCpuPoison n) 0
    { s.setRf Addr.pwrCpuStatus (4 + n) (4 + n) 0 with coh := { s.coh with wfi := tset (fun _ => false) s.coh.wfi n false } }

/-- SFE: every context is disabled (R394). -/
def State.resetSfe (s : State) : State :=
  s.heldReset 12 fun s =>
    let s := forEach (List.range 16) (fun i t => t.scOff i) (s.cutTraffic .sfe)
    { (s.resetBlock 0x100).resetBlock 0x101 with sfe := {} }

/-- FMT: every source ends as under R464; what streams and sources hold returns (R394). -/
def State.resetFmt (s : State) : State :=
  s.heldReset 13 fun s =>
    let s := forEach (List.range 16) (fun i t => (t.fmtSrcOff i).releaseAll (hSrc i)) (s.cutTraffic .fmt)
    let s := forEach (List.range 48) (fun i t => (t.releaseAll (hOs i)).unwaitAll (hOs i)) s
    { s.resetBlock 0x140 with fmt := {} }

/-- DPP: every slot is aborted (R499). -/
def State.resetDpp (s : State) : State :=
  s.heldReset 14 fun s =>
    let s := forEach (List.range 8) (fun i t => t.dppAbort i) (s.cutTraffic .dpp)
    { ((s.releaseAll hDpp).unwaitAll hDpp).resetBlock 0x150 with dpp := { order := s.dpp.order } }

/-- VENCe: every session ends (R543), the reference buffers are FREE, the ring's HEAD is 0; not while it encodes evidence
(R804). -/
def State.resetVenc (s : State) (e : Nat) : State :=
  if s.pwrSt = 2 ∧ s.reg (Addr.vencEvidSess e) ≠ 0 then s.cfgErr 0x17 0
  else s.heldReset (15 + e) fun s =>
    let s := forEach (List.range 16) (fun i t => if t.rb (Addr.vencSCtrl e i) 31 then t.vDisable e i else t) (s.cutTraffic (.venc e))
    let s := forEach (List.range 64) (fun i t => t.setVref e i {}) s
    ((s.releaseAll (hVenc e)).unwaitAll (hVenc e)).resetBlock (0x160 + e)

/-- VDEC: every session ends (R581). -/
def State.resetVdec (s : State) : State :=
  s.heldReset 17 fun s =>
    let s := forEach (List.range 8) (fun k t => if t.rb (Addr.vdecSCtrl k) 31 then t.vdEnd k else t) (s.cutTraffic .vdec)
    ((s.releaseAll hVdec).unwaitAll hVdec).resetBlock 0x162

/-- PCIe: as a hot reset (R676). -/
def State.resetPcie (s : State) : State := s.heldReset 18 (·.pcieHotReset)

/-- ETHn: its rings stop, HEAD is 0. -/
def State.resetEth (s : State) (n : Nat) : State :=
  s.heldReset (19 + n) fun s =>
    let s := (s.cutTraffic (.eth n)).resetBlock (0x191 + n)
    { s with eth := { s.eth with pause := tset (fun _ => 0) s.eth.pause n 0 } }

/-- I3C_0-I3C_7: as ABORT, then disabled (R702). -/
def State.resetI3c (s : State) : State :=
  s.heldReset 21 fun s => (forEach (List.range 8) (fun n t => t.i3cAbortCmd n) s).resetBlock 0x193

/-- The reset of one bit of PWR_RST. -/
def State.resetBit (s : State) (b : Nat) : State :=
  if b < 8 then s.resetTc b
  else if b < 12 then s.resetCpu (b - 8)
  else if b = 12 then s.resetSfe
  else if b = 13 then s.resetFmt
  else if b = 14 then s.resetDpp
  else if b < 17 then s.resetVenc (b - 15)
  else if b = 17 then s.resetVdec
  else if b = 18 then s.resetPcie
  else if b < 21 then s.resetEth (b - 19)
  else s.resetI3c

/-- A write of PWR_RST: every bit of 1 resets its unit. -/
def State.rstWrite (s : State) (v : Word) : State :=
  let s := s.noteRsvd Addr.pwrRst v
  if s.pwrSt = 2 then forEach ((List.range 22).filter fun b => bit v b) (fun b t => t.resetBit b) s else s.inActive id

/-- A unit leaves reset when its cycles have passed (R803); a core joins the ring (R615, R785). -/
def State.releaseUnit (s : State) (b : Nat) : State :=
  match tget (fun _ => none) s.pwr.held b with
  | some t =>
    if s.now < t then s
    else
      let s := { s.setRf Addr.pwrRstStatus b b 0 with pwr := { s.pwr with held := tset (fun _ => none) s.pwr.held b none } }
      if 8 ≤ b ∧ b < 12 ∧ s.rb Addr.pwrCpuStatus (b - 8) = true then s.cohJoin (b - 8) else s
  | none => s

/-- `UNIT_RESET_TC`: R190, R803, R805. -/
def execUnitResetTc (n : Nat) (s : State) : Host.Outcome State Fault Refusal := .next (if n < 8 then s.resetTc n else s)
/-- `UNIT_RESET_CPU`: R615, R617, R803. -/
def execUnitResetCpu (n : Nat) (s : State) : Host.Outcome State Fault Refusal := .next (if n < 4 then s.resetCpu n else s)
/-- `UNIT_RESET_SFE`: R394, R405, R803. -/
def execUnitResetSfe (s : State) : Host.Outcome State Fault Refusal := .next s.resetSfe
/-- `UNIT_RESET_FMT`: R464, R803. -/
def execUnitResetFmt (s : State) : Host.Outcome State Fault Refusal := .next s.resetFmt
/-- `UNIT_RESET_DPP`: R499, R803. -/
def execUnitResetDpp (s : State) : Host.Outcome State Fault Refusal := .next s.resetDpp
/-- `UNIT_RESET_VENC`: R543, R803, R804. -/
def execUnitResetVenc (e : Nat) (s : State) : Host.Outcome State Fault Refusal := .next (if e < 2 then s.resetVenc e else s)
/-- `UNIT_RESET_VDEC`: R581, R803. -/
def execUnitResetVdec (s : State) : Host.Outcome State Fault Refusal := .next s.resetVdec
/-- `UNIT_RESET_PCIE`: R676, R704, R803. -/
def execUnitResetPcie (s : State) : Host.Outcome State Fault Refusal := .next s.resetPcie
/-- `UNIT_RESET_ETH`: R803. -/
def execUnitResetEth (n : Nat) (s : State) : Host.Outcome State Fault Refusal := .next (if n < 2 then s.resetEth n else s)
/-- `UNIT_RESET_I3C`: R702, R803. -/
def execUnitResetI3c (s : State) : Host.Outcome State Fault Refusal := .next s.resetI3c
/-- `UNIT_RESET_RELEASE`: R803. -/
def execUnitResetRelease (b : Nat) (s : State) : Host.Outcome State Fault Refusal := .next (if b < 22 then s.releaseUnit b else s)

end Sys2Proof.Machine
end

