-- ==== Sys2Proof/Machine/Clock.lean ====
section
/-! DEFINITION. Power gating of the tensor cores and of the CPUs (R783-R785, R806, R807), clock requests and steps (R786,
R790, R791, R797, R808, R809), adaptive voltage scaling (R792-R798). -/

namespace Sys2Proof.Machine

open Sys2Proof

/-! ## Tensor cores (R783, R784) -/

/-- Whether a powered core may be turned off: every context OFF, DONE or HALTED, nothing in flight. -/
def State.tcQuiet (s : State) (n : Nat) : Bool :=
  ([0, 1, 2, 3].all fun m => match (s.ctx (4 * n + m)).state with | .off => true | .done => true | .halted => true | _ => false)
    && (s.core n).flying.isEmpty

/-- A core's domain goes off: what it held is lost. -/
def State.tcOff (s : State) (n : Nat) : State :=
  let s := ((s.tcDrop n).setCore n {}).resetRegs fun a => a / 0x100000 == 0x120 + n
  (s.setRf Addr.pwrTcStatus n n 0).setRf Addr.pwrTcStatus (n + 8) (n + 8) 0

/-- One bit of a write of PWR_TC_GATE. -/
def State.tcGateBit (s : State) (n : Nat) (off : Bool) : State :=
  if off ∧ s.rb Addr.pwrTcGate n = false ∧ s.rb Addr.pwrTcStatus n = true then
    if s.tcQuiet n then (s.setRf Addr.pwrTcGate n n 1).tcOff n else s.cfgErr 0x17 0
  else s.setRf Addr.pwrTcGate n n (b2n off)

/-- A write of PWR_TC_GATE. -/
def State.tcGateWrite (s : State) (v : Word) : State :=
  (s.noteRsvd Addr.pwrTcGate v).inActive fun s => forEach (List.range 8) (fun n t => t.tcGateBit n (bit v n)) s

/-- `TC_GATE`: R376, R783, R806, R807. -/
def execTcGate (v : Word) (s : State) : Host.Outcome State Fault Refusal := .next (s.tcGateWrite v)

/-- Whether a core waits to be powered. -/
def State.tcWants (s : State) (n : Nat) : Bool := !s.rb Addr.pwrTcGate n && !s.rb Addr.pwrTcStatus n

/-- `TC_POWER_UP`: R270, R301, R365, R784. The lowest core that waits comes up, its scratchpad begins to be initialised. -/
def execTcPowerUp (n : Nat) (s : State) : Host.Outcome State Fault Refusal :=
  .next (if s.pwrSt = 2 ∧ n < 8 ∧ s.tcWants n = true ∧ ((List.range n).any s.tcWants) = false then
    let s := (s.tcOff n).setCore n { initBusy := true }
    (s.setRf Addr.pwrTcStatus n n 1).setRf Addr.pwrTcStatus (n + 8) (n + 8) 1
  else s)

/-! ## CPUs (R785) -/

/-- A core leaves the ring and its domain goes off. -/
def State.cpuOff (s : State) (n : Nat) : State :=
  let s := (s.cutTraffic (.cpu n)).cohReset n
  { (s.setRf Addr.pwrCpuStatus n n 0).setRf Addr.pwrCpuStatus (4 + n) (4 + n) 0 with
    coh := { s.coh with wfi := tset (fun _ => false) s.coh.wfi n false, gate := tset (fun _ => none) s.coh.gate n none } }

/-- Whether a core is in WFI. -/
def State.inWfi (s : State) (n : Nat) : Bool := tget (fun _ => false) s.coh.wfi n

/-- One bit of a write of PWR_CPU_GATE: a request to turn a core off is performed in WFI, else waits 1 ms for it; it is not
accepted where no joined core would remain. A core turned on again comes up by a reset of it. -/
def State.cpuGateBit (s : State) (n : Nat) (off : Bool) : State :=
  let was := s.rb Addr.pwrCpuGate n
  if off ∧ was = false then
    if (List.range 4).any fun k => k != n && s.rb Addr.cohStatus k && !s.rb Addr.pwrCpuGate k then
      let s := s.setRf Addr.pwrCpuGate n n 1
      if s.inWfi n then s.cpuOff n
      else { s with coh := { s.coh with gate := tset (fun _ => none) s.coh.gate n (some (s.now + msTicks 1)) } }
    else s.cfgErr 0x17 0
  else if off = false ∧ was then
    let s := { s.setRf Addr.pwrCpuGate n n 0 with coh := { s.coh with gate := tset (fun _ => none) s.coh.gate n none } }
    if s.rb Addr.pwrCpuStatus n then s else (s.setRf Addr.pwrCpuStatus n n 1).resetCpu n
  else s

/-- A write of PWR_CPU_GATE. -/
def State.cpuGateWrite (s : State) (v : Word) : State :=
  (s.noteRsvd Addr.pwrCpuGate v).inActive fun s => forEach (List.range 4) (fun n t => t.cpuGateBit n (bit v n)) s

/-- `CPU_GATE`: R785, R806. -/
def execCpuGate (v : Word) (s : State) : Host.Outcome State Fault Refusal := .next (s.cpuGateWrite v)

/-- `CPU_GATE_TIMEOUT`: R785. -/
def execCpuGateTimeout (n : Nat) (s : State) : Host.Outcome State Fault Refusal :=
  .next (match tget (fun _ => none) s.coh.gate n with
  | some t =>
    if s.now < t then s
    else { s.setRf Addr.pwrCpuGate n n 0 with coh := { s.coh with gate := tset (fun _ => none) s.coh.gate n none } }.cfgErr 0x17 0
  | none => s)

/-- `WFI_ENTRY`: R785. -/
def execWfiEntry (n : Nat) (s : State) : Host.Outcome State Fault Refusal :=
  .next (if n < 4 ∧ s.rb Addr.pwrCpuStatus n = true ∧ s.rb Addr.pwrRstStatus (8 + n) = false then
    let s := { s.setRf Addr.pwrCpuStatus (4 + n) (4 + n) 1 with coh := { s.coh with wfi := tset (fun _ => false) s.coh.wfi n true } }
    (match tget (fun _ => none) s.coh.gate n with
    | some t => if t < s.now then s else s.cpuOff n
    | none => s)
  else s)

/-! ## Clocks (R786, R790, R791, R797, R808, R809) -/

/-- A write of CLK_TCLK_REQ. -/
def State.tclkReqWrite (s : State) (v : Word) : State :=
  (s.noteRsvd Addr.clkTclkReq v).inActive fun s =>
    let f := fld v 10 0
    if f % 50 ≠ 0 ∨ (Config.partE = true ∧ 1000 < f) then s.refuse Addr.clkTclkReq v else s.putReg Addr.clkTclkReq v

/-- A write of CLK_CPU_REQ. -/
def State.cpuReqWrite (s : State) (v : Word) : State :=
  (s.noteRsvd Addr.clkCpuReq v).inActive fun s => if fld v 10 0 % 100 ≠ 0 then s.refuse Addr.clkCpuReq v else s.putReg Addr.clkCpuReq v

/-- `TCLK_REQUEST`: R790, R806, R809. -/
def execTclkRequest (v : Word) (s : State) : Host.Outcome State Fault Refusal := .next (s.tclkReqWrite v)
/-- `CPU_CLOCK_REQUEST`: R790, R806, R809. -/
def execCpuClockRequest (v : Word) (s : State) : Host.Outcome State Fault Refusal := .next (s.cpuReqWrite v)

/-- The request and the state register of a clock. -/
def clkReqAddr (cpu : Bool) : Nat := if cpu then Addr.clkCpuReq else Addr.clkTclkReq
def clkAddr (cpu : Bool) : Nat := if cpu then Addr.clkCpu else Addr.clkTclk

/-- The step of a clock in MHz (R786). -/
def clkGrain (cpu : Bool) : Nat := if cpu then 100 else 50

/-- The clock that a request and its cap ask for: the lower of both (R790), on the steps of R786. -/
def State.clkWanted (s : State) (cpu : Bool) : Nat :=
  min (s.rf (clkReqAddr cpu) 10 0) (s.rf (clkAddr cpu) 26 16) / clkGrain cpu * clkGrain cpu

/-- The voltage in mV that a clock in MHz requires at most (R791). -/
def clkMv (cpu : Bool) (f : Nat) : Nat :=
  if cpu then (if f ≤ 400 then 650 else if f ≤ 800 then 720 else if f ≤ 1200 then 820 else 930)
  else if f ≤ 500 then 660 else if f ≤ 600 then 680 else if f ≤ 700 then 700 else if f ≤ 800 then 720
  else if f ≤ 900 then 750 else if f ≤ 1000 then 790 else if f ≤ 1100 then 840 else 890

/-- `CLOCK_STEP`: one step toward the clock wanted; a raise only to a clock whose voltage the rail is settled above (R790,
R796, R797, R808). -/
def execClockStep (cpu : Bool) (s : State) : Host.Outcome State Fault Refusal :=
  .next (
    let f := s.rf (clkAddr cpu) 10 0
    let goal := s.clkWanted cpu
    if s.pwrSt ≠ 2 then s
    else if goal < f then s.setRf (clkAddr cpu) 10 0 (max goal (f - clkGrain cpu))
    else if f < goal ∧ 4 * clkMv cpu (min goal (f + clkGrain cpu)) ≤ (s.avs (b2n cpu)).settled then
      s.setRf (clkAddr cpu) 10 0 (min goal (f + clkGrain cpu))
    else s)

/-! ## Adaptive voltage scaling (R792-R798) -/

/-- The state with an AVS rail replaced. -/
def State.setAvs (s : State) (r : Nat) (x : Avs) : State :=
  { s with clk := { s.clk with rails := tset (fun _ => {}) s.clk.rails r x } }

/-- The target that was last given to the regulator of a rail, in mV. -/
def State.avsLast (s : State) (r : Nat) : Nat :=
  match s.clk.bus with
  | some (k, t) => if k = r then t else (match (s.avs r).ramps with | (_, _, e) :: _ => e / 4 | [] => 0)
  | none => match (s.avs r).ramps with | (_, _, e) :: _ => e / 4 | [] => 0

/-- A waiting target goes to the bus as soon as it is free (R795). -/
def State.avsIssue (s : State) : State :=
  if s.clk.bus.isSome then s
  else
    match [0, 1].find? fun r => (s.avs r).want.isSome with
    | some r =>
      let x := s.avs r
      { s.setAvs r { x with want := none, tries := 0 } with clk := { (s.setAvs r { x with want := none, tries := 0 }).clk with bus := some (r, x.want.getD 0) } }
    | none => s

/-- The target of a rail (R792): what its monitors call for and 15 mV, up to 5 mV, between the rail's minimum and the value
of R791 for the clock it serves, which is the one in force until a lower one is reached (R797). -/
def State.avsTarget (s : State) (cpu : Bool) (monitor : Nat) : Nat :=
  let f := max (s.rf (clkAddr cpu) 10 0) (s.clkWanted cpu)
  max (if cpu then 650 else 600) (min (cdiv (monitor + 15) 5 * 5) (clkMv cpu f))

/-- `AVS_EVALUATE`: R792, R795, R797. -/
def execAvsEvaluate (cpu : Bool) (monitorMv : Nat) (s : State) : Host.Outcome State Fault Refusal :=
  .next (if s.pwrSt ≠ 2 then s
  else
    let r := b2n cpu
    let t := s.avsTarget cpu monitorMv
    let s := s.setRf (if cpu then Addr.pwrVcpu else Addr.pwrVcore) 25 16 t
    (s.setAvs r { s.avs r with want := if s.avsLast r = t then none else some t }).avsIssue)

/-- The ramps of a rail that still count at `t0` and later: those begun since, and the one in force then. -/
def rampsFrom (t0 : Nat) : List (Nat × Nat × Nat) → List (Nat × Nat × Nat)
  | [] => []
  | r :: l => if r.1 ≤ t0 then [r] else r :: rampsFrom t0 l

/-- The lowest commanded value of a rail over [t0, t1] (R794), in quarters of a millivolt. -/
def Avs.lowest (x : Avs) (slew t0 t1 : Nat) : Nat :=
  ((x.ramps.filter fun r => decide (t0 < r.1) && decide (r.1 ≤ t1)).map fun r => r.2.1).foldl min (min (x.at slew t0) (x.at slew t1))

/-- The end of the ramp in force. -/
def Avs.rampEnd (x : Avs) : Nat := match x.ramps with | (_, _, e) :: _ => e | [] => 0

/-- `PMBUS_TRANSACTION_DONE`: a ramp begins from the value of that moment (R794, R795); a failure is retried 3 times, then
reported (R798). -/
def execPmbusTransactionDone (cpu ok : Bool) (s : State) : Host.Outcome State Fault Refusal :=
  .next (match s.clk.bus with
  | some (r, t) =>
    if r ≠ b2n cpu ∨ s.pwrSt ≠ 2 then s
    else
      let x := s.avs r
      let free (s : State) := { s with clk := { s.clk with bus := none } }.avsIssue
      if ok then
        let v := x.at (s.rf Addr.pwrAvsCfg 4 0) s.now
        let keep := rampsFrom (s.now - usTicks 256) x.ramps
        free (s.setAvs r { x with ramps := (s.now, v, 4 * t) :: keep, tries := 0, settled := min x.settled (4 * t) })
      else if x.tries < 3 then s.setAvs r { x with tries := x.tries + 1 }
      else free ((s.setAvs r { x with tries := 0 }).raise .pmbus 0x18 (3 + r) none [(1, 3 + r)])
  | none => s)

/-- `RAIL_SETTLED`: the voltage that a rail is settled above (R796). -/
def execRailSettled (cpu : Bool) (s : State) : Host.Outcome State Fault Refusal :=
  .next (if s.pwrSt ≠ 2 then s
  else
    let r := b2n cpu
    let x := s.avs r
    s.setAvs r { x with settled := min x.rampEnd (x.lowest (s.rf Addr.pwrAvsCfg 4 0) (s.now - usTicks (s.rf Addr.pwrAvsCfg 15 8)) s.now) })

end Sys2Proof.Machine
end

