-- ==== Sys2Proof/Machine/Flow.lean ====
section
/-! DEFINITION. The flow instructions of a tensor core (R218, R220, R221, R248-R250, R322): each reads and writes its
scalars in its issue cycle and names the next instruction to fetch. -/

namespace Sys2Proof.Machine

open Sys2Proof

/-- A flow instruction issued: it retires, and dispatch goes on at index `target` when one is given, else at the next
(R220, R221). An index below 0 or past the instructions halts the context at its fetch. -/
def State.flowDone (s : State) (n m : Nat) (sl : Slot) (target : Option Int) : State :=
  let s := s.seqDone n m sl
  let x := s.ctx (4 * n + m)
  match target with
  | none => s.setCtx (4 * n + m) { x with hold := false }
  | some t =>
    if t < 0 then (s.setCtx (4 * n + m) { x with hold := false }).haltCtx n m sl.idx .desc []
    else s.setCtx (4 * n + m) { x with hold := false, fetchIdx := t.toNat }

/-- A scalar register written. -/
def State.setSreg (s : State) (n m k : Nat) (v : Word) : State := s.setReg (Addr.tcCxS n m k) v

/-- `LOOP`: R248. -/
def execLoopI (n m : Nat) (w : Insn) (s : State) : Host.Outcome State Fault Refusal :=
  atIssue n m 0x50 w (fun sl s =>
    let c : Int := if mo w 84 84 = 0 then (mo w 104 89 : Nat) else sx 32 (s.sreg n m (mo w 88 85)).toNat
    if c ≤ 0 then s.flowDone n m sl (some (sl.idx + mo w 127 112 + 1 : Nat))
    else (s.setSreg n m (mo w 83 80) (BitVec.ofInt 32 c)).flowDone n m sl none) s

/-- `ENDLOOP`: R218, R248. -/
def execEndloopI (n m : Nat) (w : Insn) (s : State) : Host.Outcome State Fault Refusal :=
  atIssue n m 0x51 w (fun sl s =>
    let v := s.sreg n m (mo w 83 80) - 1
    let s := s.setSreg n m (mo w 83 80) v
    if 0 < sx 32 v.toNat then s.flowDone n m sl (some ((sl.idx : Int) - (mo w 127 112 : Nat))) else s.flowDone n m sl none) s

/-- `JUMP`: R221, R248. -/
def execJumpI (n m : Nat) (w : Insn) (s : State) : Host.Outcome State Fault Refusal :=
  atIssue n m 0x52 w (fun sl s => s.flowDone n m sl (some ((sl.idx : Int) + sx 32 (mo w 111 80)))) s

/-- `BRZ`: R221, R248. -/
def execBrzI (n m : Nat) (w : Insn) (s : State) : Host.Outcome State Fault Refusal :=
  atIssue n m 0x53 w (fun sl s =>
    s.flowDone n m sl (if s.sreg n m (mo w 83 80) = 0 then some ((sl.idx : Int) + sx 32 (mo w 115 84)) else none)) s

/-- `BRNZ`: R221, R248. -/
def execBrnzI (n m : Nat) (w : Insn) (s : State) : Host.Outcome State Fault Refusal :=
  atIssue n m 0x54 w (fun sl s =>
    s.flowDone n m sl (if s.sreg n m (mo w 83 80) ≠ 0 then some ((sl.idx : Int) + sx 32 (mo w 115 84)) else none)) s

/-- `SETS`: R248. -/
def execSetsI (n m : Nat) (w : Insn) (s : State) : Host.Outcome State Fault Refusal :=
  atIssue n m 0x55 w (fun sl s => (s.setSreg n m (mo w 83 80) (w32 (mo w 115 84))).seqDone n m sl) s

/-- The result of an ADDS operation (R218, R248): shift counts are taken modulo 32. -/
def addsOp (op : Nat) (a b : Word) : Word :=
  match op with
  | 0 => a + b
  | 1 => a - b
  | 2 => a &&& b
  | 3 => a ||| b
  | 4 => a ^^^ b
  | 5 => a <<< (b.toNat % 32)
  | 6 => a >>> (b.toNat % 32)
  | _ => a.sshiftRight (b.toNat % 32)

/-- `ADDS`: R218, R248. -/
def execAddsI (n m : Nat) (w : Insn) (s : State) : Host.Outcome State Fault Refusal :=
  atIssue n m 0x56 w (fun sl s =>
    let a := s.sreg n m (mo w 87 84)
    let b := if mo w 91 91 = 1 then w32 (mo w 127 96) else s.sreg n m (mo w 95 92)
    (s.setSreg n m (mo w 83 80) (addsOp (mo w 90 88) a b)).seqDone n m sl) s

/-- The first bucket entry that covers h x w, with its index (R249). -/
def coverOf : List (Nat × Nat × Nat) → Nat → Nat → Nat → Option (Nat × Nat)
  | [], _, _, _ => none
  | b :: r, i, h, w => if h ≤ b.1 ∧ w ≤ b.2.1 then some (i, b.2.2) else coverOf r (i + 1) h w

/-- `BUCKET`: R249, R250, R322. -/
def execBucketI (n m : Nat) (w : Insn) (s : State) : Host.Outcome State Fault Refusal :=
  atIssue n m 0x57 w (fun sl s =>
    let k := 4 * n + m
    let x := s.ctx k
    let h := (s.sreg n m (mo w 87 84)).toNat
    let wd := (s.sreg n m (mo w 91 88)).toNat
    match coverOf x.buckets 0 h wd with
    | some (b, idx) =>
      let s := (s.setSreg n m (mo w 83 80) (w32 b)).setCtx k { x with bucketId := b, valid := some (h, wd) }
      s.flowDone n m sl (if mo w 92 92 = 1 then some (idx : Int) else none)
    | none => (s.setSreg n m (mo w 83 80) 0xFFFFFFFF).flowDone n m sl none) s

end Sys2Proof.Machine
end

