-- ==== Sys2Proof/Machine/Maint.lean ====
section
/-! DEFINITION. Background work (R39-R41, R75-R77, R640, R642-R644, R818, R861): the common maintenance window, the jobs due and
their durations, their granting and forcing. -/

namespace Sys2Proof.Machine

open Sys2Proof

/-- Whether the common maintenance window is open (R39): some LOCKED domain runs, and the window of each is open. -/
def State.windowOpen (s : State) : Bool := s.lockedDomains != [] && s.lockedDomains.all fun d => (s.dom d).maintOpen

/-- The tick on which an entry closes its domain's window next (R76): in the present frame where it still lies ahead, else in
the next frame that it selects; none where its line lies past the frame, so that it never fires (R90). -/
def State.closeAt (s : State) (n : Nat) : Option Nat :=
  let e := s.ent n
  let x := s.dom e.dom
  if x.flenM1 < e.line then none
  else ((List.range 257).find? fun j => e.selects (x.frame + j) && (j != 0 || decide (s.pub e.dom < e.pos))).map fun j =>
    x.reachTick (j * (x.flenM1 + 1) * 256 + e.pos)

/-- The earliest predicted MAINT_CLOSE of the participating domains. -/
def State.firstClose (s : State) : Option Nat :=
  let l := ((List.range 512).filter fun n => let e := s.ent n; e.valid && e.action == 10 && s.lockedRunning e.dom).filterMap s.closeAt
  l.foldl (fun b t => match b with | none => some t | some u => some (min t u)) none

/-- The jobs, in the order of R77: retraining, refresh catch-up, calibration, telemetry. -/
inductive Job where
  | retrain | refresh | calibrate | telemetry
  deriving DecidableEq, Repr

/-- Whether a job is due. -/
def State.jobDue (s : State) : Job → Bool
  | .retrain => s.dueChans != [] && s.ms.train == []
  | .refresh => (List.range 16).any fun c => (s.chan c).maxOwed != 0
  | .calibrate => s.thm.calDue.isSome
  | .telemetry => s.coll.snaps != [] && s.ringRoom Addr.dsvTelBase

/-- The declared duration of a job, in ns. -/
def State.jobNs (s : State) : Job → Nat
  | .retrain => 1500 * s.dueChans.length
  | .refresh => ((List.range 16).foldl (fun n c => max n (s.chan c).maxOwed) 0) * Config.trfcAb (s.rf Addr.memCfg 5 4)
  | .calibrate => 50000
  | .telemetry => 1000 + 16 * (match s.coll.snaps with | x :: _ => x.records.length | [] => 0)

/-- Calibration runs for 50 us (R818). -/
def State.calStart (s : State) : State := { s with thm := { s.thm with calDue := none, calEnd := some (s.now + usTicks 50) } }

/-- A job runs (R77). -/
def State.doMaint (s : State) (j : Job) : State :=
  let s := { s with sched := { s.sched with jobEnd := some (s.now + nsTicks (s.jobNs j)) } }
  match j with
  | .retrain => s.trainStart false
  | .refresh => s.catchUp
  | .calibrate => s.calStart
  | .telemetry => s.telWrite

/-- Whether a job may be granted now (R40, R76): its duration and the guard of 1 us fit, to the nanosecond, before the first
predicted close. DESIGN CHOICE (log entry 77): R76 gives no time where the window is open and no armed MAINT_CLOSE is
predicted; the model then grants the job. -/
def State.jobFits (s : State) (j : Job) : Bool :=
  s.unplaced ||
  (s.windowOpen && (match s.firstClose with
    | none => true
    | some t => decide (s.now * 10000 + (s.jobNs j + 1000) * 12288 ≤ t * 10000)))

/-- `MAINT_JOB_GRANT`: R39, R40, R75-R77. Jobs are granted one at a time; with no LOCKED domain running they wait for no
placement. -/
def execMaintJobGrant (s : State) : Host.Outcome State Fault Refusal :=
  let idle := s.unplaced || (match s.sched.jobEnd with | some e => decide (e ≤ s.now) | none => true)
  .next (if idle = false then s
  else match [Job.retrain, .refresh, .calibrate, .telemetry].find? fun j => s.jobDue j && s.jobFits j with
    | some j => s.doMaint j
    | none => s)

/-- `RETRAIN_FORCE`: R41, R643, R644. -/
def execRetrainForce (s : State) : Host.Outcome State Fault Refusal :=
  let late := (List.range 16).any fun c => match (s.chan c).due with | some t => decide (t + 2 * tickHz ≤ s.now) | none => false
  .next (if late = true ∧ s.ms.train = [] then
    let l := s.dueChans
    let c := l.headD 0
    (s.trainStart true).raise .memForced 0x10 (c / 2) none [(1, c / 2), (2, (l.map fun i => 2 ^ i).foldl (· + ·) 0)]
  else s)

end Sys2Proof.Machine
end

