-- ==== Sys2Proof/Machine/Thermal.lean ====
section
/-! DEFINITION. The thermal sensors (R814-R818), the governor (R819-R823), the soft limit (R824-R826), the coolant loop and
its pump (R827-R834, R839-R842), the thermal mailbox commands (R838). Temperatures in 0.125 degrees, powers in 0.125 W. -/

namespace Sys2Proof.Machine

open Sys2Proof

/-- The registers whose writes take effect when the higher loop ends (R841). -/
def thmHeld : List Nat :=
  [Addr.thmCtrl, Addr.thmRamp, Addr.thmRth, Addr.thmRampFloor, Addr.thmBallast, Addr.thmCal, Addr.thmFlowK, Addr.thmPump]

/-- The register number `i` of those, as the governor sees it (R841). -/
def State.thmEff (s : State) (i : Nat) : Word :=
  match s.thm.frozen with
  | [] => s.reg (lget 0 thmHeld i)
  | l => lget 0 l i

/-- The state with the thermal state replaced. -/
def State.setThm (s : State) (t : Therm) : State := { s with thm := t }

/-- Whether a higher loop is active (R819): the soft limit or the coolant-loss throttle; a tripped device runs no governor. -/
def Therm.higher (t : Therm) : Bool := t.soft || t.loss || t.released

/-- The registers are frozen when a higher loop begins, and released when it has ended (R841). -/
def State.freeze (s : State) : State :=
  if s.thm.higher then
    (if s.thm.frozen = [] then s.setThm { s.thm with frozen := thmHeld.map s.reg } else s)
  else s.setThm { s.thm with frozen := [] }

/-! ## Sensors (R815-R817, R842) -/

/-- Whether a sample lies within -50 to 150 degrees. -/
def inRange (t : Int) : Bool := decide (-400 ≤ t) && decide (t ≤ 1200)

/-- Whether sample `i` is valid: in range, and within 20 degrees of the mean of the other samples in range (R816). -/
def sampleOk (ts : List Int) (i : Nat) : Bool :=
  let t := lget (-10000) ts i
  let others := ((List.range 24).filter fun j => j != i && inRange (lget (-10000) ts j)).map fun j => lget 0 ts j
  let n : Int := others.length
  let sum := others.foldl (· + ·) 0
  inRange t && decide (n * t - sum ≤ 160 * n) && decide (sum - n * t ≤ 160 * n)

/-- The number of the hottest valid sensor. -/
def hottest (ts : List Int) (ok : List Nat) : Option Nat :=
  ok.foldl (fun b i => match b with
    | none => some i
    | some j => if lget 0 ts j < lget 0 ts i then some i else some j) none

/-- A second of Tj ends (R823): the means of the last 60 s and of the 60 s before are compared. -/
def State.tjSecond (s : State) : State :=
  let l := (s.thm.secSum :: s.thm.secs).take 120
  let s := s.setThm { s.thm with secs := l, secSum := 0, secN := 0 }
  let a := (l.take 60).foldl (· + ·) 0
  let b := (l.drop 60).foldl (· + ·) 0
  let lim := fld (s.thmEff 1) 3 0 * 8 * 60000
  if l.length = 120 ∧ (a + lim < b ∨ b + lim < a) then s.inc Addr.thmRampExcess 1 else s

/-- The samples in the sensors' registers, each with its valid bit. -/
def State.showSensors (s : State) (ts : List Int) (ok : List Nat) : State :=
  forEach (List.range 24) (fun i t => t.setReg (Addr.thmTs i) (w32 (b2n (ok.contains i) * 2 ^ 31 + ux 16 (lget 0 ts i)))) s

/-- Every sensor that turns bad is reported. -/
def State.tellSensors (s : State) (bad : List Nat) : State :=
  forEach (bad.filter fun i => !s.thm.bad.contains i) (fun i t => t.raise .thmSensor 0x19 i none []) s

/-- Tj and the number of the sensor it is from. -/
def State.showTj (s : State) (ts : List Int) (h : Option Nat) : State :=
  match h with
  | some h => (s.setReg Addr.thmTj (w32 (ux 16 (lget 0 ts h)))).setRf Addr.thmStatus 20 16 h
  | none => s

/-- What the governor keeps of the samples: the bad sensors, degraded operation, when a sensor last read above 90 degrees. -/
def State.keepSensors (s : State) (bad : List Nat) (hot : Bool) : State :=
  s.setThm { s.thm with
    bad := bad ++ s.thm.bad.filter fun i => decide (24 ≤ i), degraded := decide (8 < bad.length), above90 := if hot then some s.now else s.thm.above90 }

/-- The samples of all sensors are judged (R815-R817, R842); a sensor is reported once until it is valid again. -/
def State.judgeSensors (s : State) (ts : List Int) : State :=
  let ok := (List.range 24).filter (sampleOk ts)
  let bad := (List.range 24).filter fun i => !ok.contains i
  let s := ((s.showSensors ts ok).tellSensors bad).showTj ts (hottest ts ok)
  (s.setRf Addr.thmStatus 4 4 (b2n (decide (8 < bad.length)))).keepSensors bad (ok.any fun i => decide (720 < lget 0 ts i))

/-- Tj. -/
def State.tj (s : State) : Int := sx 16 (s.rf Addr.thmTj 15 0)

/-! ## Caps (R790, R819, R824-R826, R828, R830, R839, R842) -/

/-- The soft limit. -/
def softLimit : Int := if Config.partE then 840 else 800

/-- The caps of all loops, to the clocks: each takes the lowest (R839). -/
def State.capsOut (s : State) : State :=
  let t := s.thm
  let low (n : Nat) (on : Bool) (c : Nat) := if on then min n c else n
  let tclk := low (low (low t.capRamp t.soft t.softT) (t.loss || t.released) t.lossT) t.degraded 300
  let cpu := low (low (low 1600 t.soft t.softC) (t.loss || t.released) t.lossC) t.degraded 400
  let s := (s.setRf Addr.clkTclk 26 16 tclk).setRf Addr.clkCpu 26 16 cpu
  let s := (s.setRf Addr.thmStatus 3 3 (b2n t.loss)).setRf Addr.thmStatus 2 2 (b2n t.soft)
  s.setRf Addr.thmStatus 1 1 (b2n (decide (t.capRamp < s.rf Addr.clkTclkReq 10 0)))

/-- A loop's caps raised by one move: the CPU cap to its request, then the tensor cap (R826): (TCLK cap, CPU cap, last moves),
and whether both have reached their requests. -/
def State.raiseCaps (s : State) (t c mt mc : Nat) : (Nat × Nat × Nat × Nat) × Bool :=
  let rt := s.rf Addr.clkTclkReq 10 0
  let rc := s.rf Addr.clkCpuReq 10 0
  let r := if c < rc then (if mc + msTicks 1000 ≤ s.now then (t, min rc (c + 100), mt, s.now) else (t, c, mt, mc))
    else if t < rt then (if mt + msTicks 1000 ≤ s.now ∧ mc + msTicks 1000 ≤ s.now then (min rt (t + 50), c, s.now, mc) else (t, c, mt, mc))
    else (t, c, mt, mc)
  (r, decide (rt ≤ r.1) && decide (rc ≤ r.2.1))

/-- Entry to the soft limit (R825): its caps begin at the requests. -/
def State.softEnter (s : State) : State :=
  let s := s.setThm { s.thm with
    soft := true, softT := s.rf Addr.clkTclkReq 10 0, softC := s.rf Addr.clkCpuReq 10 0, movedT := s.now - msTicks 10, movedC := s.now - msTicks 10 }
  s.raise .thmSoft 0x19 (s.rf Addr.thmStatus 20 16) none []

/-- The soft caps at a sample (R824-R826). -/
def State.softStep (s : State) : State :=
  let tj := s.tj
  let s := if softLimit ≤ tj ∧ s.thm.soft = false then s.softEnter else s
  let t := s.thm
  if t.soft = false then s
  else if softLimit ≤ tj then
    if 300 < t.softT then
      if t.movedT + msTicks 10 ≤ s.now then s.setThm { t with softT := max 300 (t.softT - 50), movedT := s.now, movedC := s.now } else s
    else if softLimit + 40 ≤ tj ∧ 400 < t.softC ∧ t.movedC + msTicks 10 ≤ s.now then
      s.setThm { t with softC := max 400 (t.softC - 100), movedC := s.now }
    else s
  else
    let ((a, b, ma, mb), done) := if tj + 24 ≤ softLimit then s.raiseCaps t.softT t.softC t.movedT t.movedC
      else ((t.softT, t.softC, t.movedT, t.movedC),
            decide (s.rf Addr.clkTclkReq 10 0 ≤ t.softT) && decide (s.rf Addr.clkCpuReq 10 0 ≤ t.softC))
    s.setThm { t with softT := a, softC := b, movedT := ma, movedC := mb, soft := !done, b := if done then t.load * 2 ^ 24 else t.b }

/-- The coolant-loss caps at a sample, once the loss has ended (R830). -/
def State.lossStep (s : State) : State :=
  let t := s.thm
  if t.released = false ∨ softLimit < s.tj + 24 then s
  else
    let ((a, b, ma, mb), done) := s.raiseCaps t.lossT t.lossC t.movedT t.movedC
    s.setThm { t with lossT := a, lossC := b, movedT := ma, movedC := mb, released := !done, b := if done then t.load * 2 ^ 24 else t.b }

/-- How many samples in a row the load has been above 15 W under coolant loss. -/
def Therm.beyond (t : Therm) : Nat := if t.loss ∧ 120 < t.load then min 1001 (t.overMs + 1) else 0

/-- The state with that count. -/
def State.setBeyond (s : State) (n : Nat) : State := s.setThm { s.thm with overMs := n }

/-- The budget of coolant loss (R829): above 15 W for 1 s requests RETAIN. -/
def State.lossBudget (s : State) : State :=
  if s.thm.beyond = 1000 then ((s.setBeyond 1000).raise .thmBudget 0x19 26 none []).powerReq 1 else s.setBeyond s.thm.beyond

/-! ## The governor (R819-R821) -/

/-- The next B, from the present one, P_load and the slew `d` (R819). -/
def nextB (ramp : Bool) (b p d : Nat) : Nat :=
  if !ramp then p else if b < p then min p (b + d) else max p (b - d)

/-- The level of a ballast out of a maximum of `m` (R821): the nearest of 64, in a field of 6 bits. -/
def ballastLevel (ballast m : Nat) : Nat := if m = 0 then 0 else min 63 ((ballast * 128 + m) / (2 * m))

/-- cap_ramp at a 10 ms tick (R819). -/
def nextCap (cap floor req b p : Nat) : Nat :=
  if b + 4 * 2 ^ 24 < p then max (cap - 50) floor
  else if p + 16 * 2 ^ 24 < b then min (cap + 50) req
  else cap

/-- The most that B moves in a millisecond: RAMP / (60,000 × RTH) W (R819). -/
def State.govSlew (s : State) : Nat := fld (s.thmEff 1) 3 0 * 8 * 2 ^ 24 / (600 * fld (s.thmEff 2) 6 0)

/-- B of this sample: it ramps while the governor is on and no higher loop is active (R819). -/
def State.govB (s : State) : Nat := nextB (bit (s.thmEff 0) 0 && !s.thm.higher) s.thm.b (s.thm.load * 2 ^ 24) s.govSlew

/-- The ballast wanted: what B is above the load, up to `m` (R819, R820). -/
def State.govBallast (s : State) (m : Nat) : Nat :=
  if bit (s.thmEff 0) 1 && bit (s.thmEff 0) 0 && !s.thm.higher then min (s.govB - s.thm.load * 2 ^ 24) m else 0

/-- cap_ramp of this sample: it moves every 10 ms (R819). -/
def State.govCap (s : State) : Nat :=
  if (s.thm.samples + 1) % 10 = 0 then
    nextCap s.thm.capRamp (fld (s.thmEff 3) 10 0) (s.rf Addr.clkTclkReq 10 0) s.govB (s.thm.load * 2 ^ 24)
  else s.thm.capRamp

/-- Ballast, B and the load in their registers. -/
def State.govShow (s : State) (ballast m : Nat) : State :=
  ((s.setRf Addr.thmBallast 29 24 (ballastLevel ballast m)).setRf Addr.thmStatus 0 0 (b2n (decide (0 < ballast)))).setReg Addr.thmBudget
    (w32 (min 65535 (s.thm.b / 2 ^ 24) * 65536 + min 65535 s.thm.load))

/-- The procedure of R819. -/
def State.governor (s : State) : State :=
  let m := fld (s.thmEff 4) 6 0 * 8 * 2 ^ 24
  (s.setThm { s.thm with b := s.govB, capRamp := s.govCap, samples := s.thm.samples + 1 }).govShow (s.govBallast m) m

/-- Whether calibration runs: the governor uses the previous samples (R818). -/
def State.calibrating (s : State) : Bool := match s.thm.calEnd with | some t => decide (s.now < t) | none => false

/-- The load of a sample taken over, and its Tj counted (R823). -/
def State.govLoad (s : State) (power : Nat) : State :=
  s.setThm { s.thm with load := power, secSum := s.thm.secSum + (s.tj + 400).toNat, secN := s.thm.secN + 1 }

/-- A sample taken over: during calibration the sensors keep their previous values (R818). -/
def State.govTake (s : State) (g : GovernorInput) : State :=
  let s := (if s.calibrating then s else s.judgeSensors g.temps).govLoad g.power
  if s.thm.secN = 1000 then s.tjSecond else s

/-- The loops, in order, and their caps. -/
def State.govLoops (s : State) : State := s.softStep.lossStep.lossBudget.governor.freeze.capsOut

/-- `GOVERNOR_SAMPLE`: R815-R819, R823-R826, R829, R830, R839, R841, R842. -/
def execGovernorSample (g : GovernorInput) (s : State) : Host.Outcome State Fault Refusal :=
  .next (if (s.govTake g).pwrSt = 2 then (s.govTake g).govLoops else s.govTake g)

/-! ## Calibration (R818) -/

/-- `THM_CAL_DUE`: R818. With no LOCKED domain running calibration runs when it falls due (R40). -/
def execThmCalDue (s : State) : Host.Outcome State Fault Refusal :=
  .next (if s.thm.calBase + fld (s.thmEff 5) 9 0 * tickHz ≤ s.now then
    let s := s.setThm { s.thm with calBase := s.now, calDue := match s.thm.calDue with | some t => some t | none => some s.now }
    if s.unplaced then s.calStart else s
  else s)

/-- `THM_CAL_UNPLACED`: R818. -/
def execThmCalUnplaced (s : State) : Host.Outcome State Fault Refusal :=
  .next (match s.thm.calDue with
  | some t => if t + 2 * tickHz ≤ s.now then s.calStart else s
  | none => s)

/-- `THM_CAL_END`: R818. -/
def execThmCalEnd (s : State) : Host.Outcome State Fault Refusal :=
  .next (match s.thm.calEnd with
  | some t => if t ≤ s.now then s.setThm { s.thm with calEnd := none } else s
  | none => s)

/-! ## Coolant and pump (R827-R834) -/

/-- The duty that PUMP_PWM is driven at: full under coolant loss (R828), else DUTY (R832). -/
def State.duty (s : State) : Nat := if s.thm.loss then 255 else s.rf Addr.thmPump 23 16

/-- Coolant loss is declared (R828). -/
def State.lossDeclare (s : State) : State :=
  let s := s.raise .coolantLoss 0x19 26 none []
  let s := s.setThm { s.thm with loss := true, released := false, lossT := 300, lossC := 400, movedT := s.now, movedC := s.now, overMs := 0 }
  s.noBallast.freeze.capsOut

/-- Coolant loss ends (R830). -/
def State.lossEnd (s : State) : State := (s.setThm { s.thm with loss := false, released := true, overMs := 0 }).capsOut

/-- The flow of a window shown and kept: the latest 40 (R827, R828, R830). -/
def State.takeFlow (s : State) (flow : Nat) : State :=
  (s.setReg Addr.thmFlow (w32 (min 65535 flow))).setThm { s.thm with flows := (flow :: s.thm.flows).take 40 }

/-- What the flows of the latest windows bring: 2 s below 200 mL/min the loss of coolant, 10 s of at least 300 its end. -/
def State.judgeFlow (s : State) (l : List Nat) : State :=
  if s.thm.loss = false ∧ 8 ≤ l.length ∧ ((l.take 8).all fun f => decide (f < 200)) = true then s.lossDeclare
  else if s.thm.loss = true ∧ l.length = 40 ∧ (l.all fun f => decide (300 ≤ f)) = true then s.lossEnd
  else s

/-- MODE 1: DUTY moves by 4 toward FLOW_SET (R832). -/
def State.pumpStep (s : State) (flow : Nat) : State :=
  let w := s.thmEff 7
  let set := fld w 15 0
  let duty := s.rf Addr.thmPump 23 16
  if bit w 31 = false ∨ s.thm.loss then s
  else if flow + 10 < set then s.setRf Addr.thmPump 23 16 (max 64 (min 255 (duty + 4)))
  else if set + 10 < flow then s.setRf Addr.thmPump 23 16 (max 64 (duty - 4))
  else s

/-- The flow that a window's pulses mean, in mL/min (R827). -/
def State.flowOf (s : State) (pulses : Nat) : Nat := pulses * 240000 / fld (s.thmEff 6) 15 0

/-- `FLOW_WINDOW`: R827, R828, R830, R832. The pins are used only while the SOC domain is powered (R834). -/
def execFlowWindow (pulses : Nat) (s : State) : Host.Outcome State Fault Refusal :=
  .next (if s.pwrSt ≠ 2 then s
  else ((s.takeFlow (s.flowOf pulses)).judgeFlow (s.takeFlow (s.flowOf pulses)).thm.flows).pumpStep (s.flowOf pulses))

/-- Whether an NTC reading marks its channel FAULT (R831). -/
def ntcBad (t : Int) : Bool := decide (t < -320) || decide (1000 < t)

/-- One NTC channel (R831): its register, its sensor number, whether it was reported. -/
def State.ntc (s : State) (a n : Nat) (t : Int) : State :=
  let s := s.setReg a (w32 (b2n (ntcBad t) * 2 ^ 31 + ux 16 t))
  let s := if ntcBad t && !s.thm.bad.contains n then s.raise .thmSensor 0x19 n none [] else s
  let rest := s.thm.bad.filter (· != n)
  s.setThm { s.thm with bad := if ntcBad t then rest ++ [n] else rest }

/-- What a reading of the inlet brings: above 50 degrees for 10 s, E_COOLANT_HOT, once until it falls below 48 (R831). -/
def State.judgeInlet (s : State) (inlet : Int) : State :=
  if ntcBad inlet then s.setThm { s.thm with hotFrom := none }
  else if inlet < 384 then s.setThm { s.thm with hotFrom := none, hotTold := false }
  else if inlet ≤ 400 then s.setThm { s.thm with hotFrom := none }
  else match s.thm.hotFrom with
    | none => s.setThm { s.thm with hotFrom := some s.now }
    | some t0 =>
      if t0 + 10 * tickHz ≤ s.now ∧ s.thm.hotTold = false then
        (s.setThm { s.thm with hotTold := true }).raise .coolantHot 0x19 24 none []
      else s

/-- `NTC_SAMPLE`: R831. -/
def execNtcSample (inlet outlet : Int) (s : State) : Host.Outcome State Fault Refusal :=
  .next (((s.ntc Addr.thmNtcIn 24 inlet).ntc Addr.thmNtcOut 25 outlet).judgeInlet inlet)

/-- `PUMP_STALL`: R833. -/
def execPumpStall (s : State) : Host.Outcome State Fault Refusal :=
  .next (if s.pwrSt = 2 ∧ 64 ≤ s.duty then (s.setReg Addr.thmPumpTach 0).raise .pumpStall 0x19 26 none [] else s)

/-! ## Mailbox commands (R838) -/

/-- `GET_THERMAL`: R838. -/
def execGetThermal (p : Page) (s : State) : Host.Outcome State Fault Refusal :=
  .next (s.serve p 0x0070 true (· == 0) fun _ t =>
    let w := fun a => leBytes 4 (t.regN a)
    (0, Config.respLayout 0x0070 ([leBytes 2 (t.rf Addr.thmTj 15 0)] ++ ((List.range 24).map fun i => w (Addr.thmTs i)) ++
      [w Addr.thmNtcIn, w Addr.thmNtcOut, leBytes 2 (t.rf Addr.thmFlow 15 0), leBytes 1 t.duty, leBytes 2 (t.rf Addr.clkTclk 26 16),
       leBytes 2 (t.rf Addr.clkCpu 26 16), leBytes 2 (t.rf Addr.thmBudget 31 16), leBytes 2 (t.rf Addr.thmBudget 15 0),
       leBytes 1 (t.rf Addr.thmBallast 29 24), w Addr.thmStatus]), t))

/-- `GET_TRIP_LOG`: R838. -/
def execGetTripLog (p : Page) (s : State) : Host.Outcome State Fault Refusal :=
  .next (s.serve p 0x0071 true (· == 0) fun _ t =>
    (0, Config.respLayout 0x0071 (t.thm.trips.map fun x => leBytes 1 x.1 ++ leBytes 2 x.2.1 ++ leBytes 6 x.2.2.1 ++ leBytes 4 x.2.2.2), t))

end Sys2Proof.Machine
end

