-- ==== Sys2Proof/Machine/Flags.lean ====
section
/-! DEFINITION. The status registers and fields that report live state of the device: what each reads as (the register
tables of the owning chapters). Every other register reads as it stands in the register file. -/

namespace Sys2Proof.Machine

open Sys2Proof

/-- The numbers below `n` that a predicate holds of, as a mask. -/
def maskOf (n : Nat) (f : Nat → Bool) : Nat := ((List.range n).filter f).foldl (fun a i => a + 2 ^ i) 0

/-- The code of a context's state (R182). -/
def CxState.num : CxState → Nat
  | .off => 0 | .ready => 1 | .waitLine => 2 | .waitPass => 3 | .waitSync => 4 | .stopped => 5 | .done => 6 | .halted => 7

/-- `LPT_STATUS`: domains running, domains coasting (R98). -/
def State.lptStatusView (s : State) : Word :=
  w32 (maskOf 8 (fun d => (s.dom d).running) * 256 + maskOf 8 fun d => (s.dom d).running && decide (0 < (s.dom d).coasted))

/-- `LPT_LD_n_POS` (R74). -/
def State.ldPosView (s : State) (d : Nat) : Word := w32 (s.pub d % 2 ^ 24)

/-- `LPT_MAINT_STATUS` (R75). -/
def State.maintStatusView (s : State) : Word :=
  w32 (b2n s.windowOpen * 2 ^ 31 + maskOf 8 fun d => (s.dom d).running && (s.dom d).maintOpen)

/-- `LPT_MAINT_PENDING` (R77). -/
def State.maintPendingView (s : State) : Word :=
  w32 (b2n (s.jobDue .retrain) + 2 * b2n (s.jobDue .refresh) + 4 * b2n (s.jobDue .calibrate) + 8 * b2n (s.jobDue .telemetry))

/-- `TC_n_STATUS`. -/
def State.tcStatusView (s : State) (n : Nat) : Word :=
  w32 (b2n (s.core n).halted * 2 ^ 31 + min 15 (s.core n).flying.length * 256 + maskOf 4 fun m => (s.ctx (4 * n + m)).state != .off)

/-- `TC_n_SB_STATUS` (R161). -/
def State.tcSbView (s : State) (n : Nat) : Word :=
  w32 ((s.core n).sbHigh % 64 * 256 + ((s.core n).flying.map fun e => e.ranges.length).foldl (· + ·) 0 % 64)

/-- `TC_n_CX_m_STATE` (R182). -/
def State.cxStateView (s : State) (n m : Nat) : Word :=
  let x := s.ctx (4 * n + m)
  let d := match x.wait with | .line d _ => d | .timed d _ _ => d | _ => 0
  let q := match x.wait with | .pass q _ => q | _ => 0
  w32 (b2n x.late * 2 ^ 31 + b2n x.excluded * 2 ^ 30 + d * 65536 + q * 256 + x.state.num)

/-- `SPM_n_STATUS`. -/
def State.spmStatusView (s : State) (n : Nat) : Word := w32 (b2n (s.core n).initBusy * 2 ^ 31 + maskOf 16 (s.resValid n))

/-- `PASS_STATUS`. -/
def State.passStatusView (s : State) : Word :=
  w32 (b2n ((List.range 32).any fun p => (s.pool p).bump != none) * 2 ^ 31 + b2n ((List.range 64).any fun q => (s.queue q).flushing) * 2 ^ 30)

/-- `PASS_BAR_n_MASK` and `PASS_BAR_n_ARRIVED` (R406). -/
def State.barView (s : State) (id : Nat) (arrived : Bool) : Word :=
  match tget (fun _ => none) s.pass.barriers id with
  | some b => w32 (if arrived then maskOf 32 b.arrived.contains else b.mask)
  | none => 0

/-- `PASS_PQ_n_STATUS`. -/
def State.pqStatusView (s : State) (q : Nat) : Word :=
  let x := s.queue q
  w32 (b2n x.flushing * 2 ^ 31 + min 31 x.pushWait.length * 65536 + x.credits * 256 + x.items.length)

/-- `PASS_PL_n_CFG` with its GEN (R397). -/
def State.plCfgView (s : State) (p : Nat) : Word := setFld (s.reg (Addr.passPlCfg p)) 23 16 (s.pool p).gen

/-- `PASS_PL_n_STAT`: a queued handle is neither. -/
def State.plStatView (s : State) (p : Nat) : Word := w32 ((s.pool p).held.length * 65536 + (s.pool p).free.length)

/-- The groups at a chain head. -/
def State.groupCount (s : State) (h : Nat) : Nat := ((List.range 16).filter fun i => (s.group h i).isSome).length

/-- `WCH_STATUS`. -/
def State.wchStatusView (s : State) : Word :=
  w32 (b2n s.chainIdle * 2 ^ 31 + s.wch.bypass % 256 * 65536 + s.groupCount 1 * 256 + s.groupCount 0)

/-- `DPP_STATUS`. -/
def State.dppStatusView (s : State) : Word :=
  w32 (b2n ((List.range 8).any fun i => (s.dslot i).phase == .running) * 2 ^ 31 + maskOf 8 fun i => (s.dslot i).phase != .free)

/-- `VENC_n_STATUS` (R510, R535). -/
def State.vencStatusView (s : State) (e : Nat) : Word :=
  let c := s.vcur e
  let held := (List.range 16).any fun i => (s.vsess (16 * e + i)).run.isSome && c != some i
  w32 (b2n c.isSome * 2 ^ 31 + b2n held * 2 ^ 30 + c.getD 0 * 65536 + maskOf 16 fun i => s.vOn e i)

/-- `VDEC_STATUS`. -/
def State.vdecStatusView (s : State) : Word :=
  w32 (b2n s.vdec.cur.isSome * 2 ^ 31 + s.vdec.cur.getD 0 * 65536 + maskOf 8 fun k => bit (s.vdCtrl k) 31)

/-- `VDEC_S_s_STATUS` (R560, R572, R580). -/
def State.vdSessView (s : State) (k : Nat) : Word :=
  let x := s.vd k
  w32 (b2n x.drained * 2 ^ 31 + b2n (x.skip != .none) * 2 ^ 30 + (x.bufs.filter fun i => (s.vb i).used).length)

/-- `ILL_STATUS`: undervoltage, gates on, faults. -/
def State.illStatusView (s : State) : Word :=
  w32 (b2n s.illUv * 2 ^ 31 + maskOf 8 (fun i => (s.ill i).isOn) * 256 + maskOf 8 fun i => (s.ill i).faulted)

/-- `ILL_n_STATUS`. -/
def State.illChView (s : State) (i : Nat) : Word :=
  let x := s.ill i
  w32 (b2n x.isOn * 2 ^ 31 + x.domain * 16 + b2n x.maxonHit * 8 + x.cause * 2 + b2n x.faulted)

/-- `DSV_DEBUG`: the level in force and the seconds left (R747). -/
def State.debugView (s : State) : Word :=
  match s.dsv.unlock with
  | some (l, e, _) => w32 (l * 2 ^ 30 + min 0xFFFFF (cdiv (e - s.now) tickHz))
  | none => 0

/-- `PWR_RAIL_STATUS`: bit 13 also falls with VDD_GATE (R717). -/
def State.railView (s : State) : Word := if s.illUv then setFld (s.reg Addr.pwrRailStatus) 13 13 0 else s.reg Addr.pwrRailStatus

/-- What a register of the map reads as: a live value, or the word in the register file. `i` and `j` are its numbers. -/
def State.liveView (s : State) (id : RegId) (i j a : Nat) (word : Nat) : Word :=
  match id with
  | .lptStatus => s.lptStatusView
  | .lptTodSrc => setFld (s.reg a) 30 30 (b2n s.tod.holdover)
  | .lptHoldover => w32 s.holdSeconds
  | .lptTodSec => w32 (if word = 0 then s.tod.sec % 2 ^ 32 else s.tod.sec / 2 ^ 32)
  | .lptTodTick => w32 s.tod.tick
  | .lptLdPos => s.ldPosView i
  | .lptLdFrame => w32 (s.dom i).frame
  | .lptMaintStatus => s.maintStatusView
  | .lptMaintPending => s.maintPendingView
  | .tcStatus => s.tcStatusView i
  | .tcSbStatus => s.tcSbView i
  | .tcCxState => s.cxStateView i j
  | .spmStatus => s.spmStatusView i
  | .passStatus => s.passStatusView
  | .passBarMask => s.barView i false
  | .passBarArrived => s.barView i true
  | .passPqStatus => s.pqStatusView i
  | .passPlCfg => s.plCfgView i
  | .passPlStat => s.plStatView i
  | .wchStatus => s.wchStatusView
  | .dppStatus => s.dppStatusView
  | .vencStatus => s.vencStatusView i
  | .vdecStatus => s.vdecStatusView
  | .vdecSStatus => s.vdSessView i
  | .uartStatus => setFld (s.reg a) 6 0 (s.uartOut i).length
  | .illStatus => s.illStatusView
  | .illChStatus => s.illChView i
  | .dsvDebug => s.debugView
  | .pwrRailStatus => s.railView
  | .pwrVcore => setFld (s.reg a) 9 0 (s.railMv 0)
  | .pwrVcpu => setFld (s.reg a) 9 0 (s.railMv 1)
  | _ => s.reg a

/-- The bits of a register that read: those of its fields that are not write-only (R18, chapter 00). -/
def readMask (acc : Acc) (l : List Field) : Nat := fieldMask (l.filter fun f => f.acc.getD acc != .wo)

/-- The word that a read of a register address gives; 0 where no register lies (R18, R874). -/
def State.view (s : State) (a : Nat) : Word :=
  match regAt a with
  | none => 0
  | some r =>
    let v := s.liveView r.desc.id (lget 0 r.idx 0) (lget 0 r.idx 1) a r.word
    w32 (v.toNat.land (readMask r.desc.acc r.fields))

end Sys2Proof.Machine
end

