-- ==== Sys2Proof/Machine/Window.lean ====
section
/-! DEFINITION. Accesses that wait for a unit in reset (R878, R885), and the debug windows of the scratchpads (R286-R293). -/

namespace Sys2Proof.Machine

open Sys2Proof

/-- The bit of PWR_RST of the unit an address belongs to (R803). -/
def resetBitOf (a : Nat) : Option Nat :=
  let b := a / 0x100000
  if b = 0x100 ∨ b = 0x101 then some 12
  else if 0x120 ≤ b ∧ b < 0x128 then some (b - 0x120)
  else if b = 0x140 then some 13
  else if b = 0x150 then some 14
  else if 0x160 ≤ b ∧ b ≤ 0x162 then some (15 + (b - 0x160))
  else if 0x190 ≤ b ∧ b ≤ 0x193 then some (18 + (b - 0x190))
  else none

/-- An access waits until its unit is released from reset (R878, R885). -/
def State.waitUnit (s : State) (a : Nat) : State :=
  match resetBitOf a with
  | some b => (match tget (fun _ => none) s.pwr.held b with | some t => (s.goto t).releaseUnit b | none => s)
  | none => s

/-- Where the debug windows begin (R869). -/
def dbgBase : Nat := 0x20000000

/-- The core and the scratchpad address of a debug-window address. -/
def dbgAt (a : Nat) : Nat × Nat := ((a - dbgBase) / 0x400000, (a - dbgBase) % 0x400000)

/-- Whether an address lies in the debug windows. -/
def inDbg (a : Nat) : Bool := decide (dbgBase ≤ a) && decide (a < dbgBase + 0x2000000)

/-- Whether the window accepts an access of a size at an address (R286). -/
def dbgShape (a n : Nat) : Bool :=
  if n = 1 ∨ n = 2 ∨ n = 4 ∨ n = 8 then a % n == 0
  else decide (8 < n) && decide (n ≤ 64) && a / 64 == (a + n - 1) / 64

/-- E_DBG_WINDOW of a core. -/
def State.dbgErr (s : State) (n : Nat) : State := s.raise .dbgWindow 0x03 n (some (s.ctx (4 * n)).domain) []

/-- A debug access turned away with an error response, reads returning all ones (R286, R292). -/
def State.dbgReject (s : State) (n len : Nat) (write : Bool) : State :=
  { s.dbgErr n with resp := { err := true, data := if write then [] else List.replicate len 0xFF } }

/-- SPM_n_DBG_LAST with a bit and an address. -/
def State.dbgLast (s : State) (n i a : Nat) : State := s.setReg (Addr.spmDbgLast n) (w32 (2 ^ i + a))

/-- Whether the window of a core can be served: its power domain is up and its scratchpad is not initialising (R292). -/
def State.dbgOn (s : State) (n : Nat) : Bool := s.rb Addr.pwrTcStatus n && !(s.core n).initBusy

/-- An access to the window of a core held in reset waits for its release (R878); one whose power is down does not. -/
def State.dbgWait (s : State) (n : Nat) : State := if s.rb Addr.pwrTcStatus n then s.waitUnit (0x12000000 + n * 0x100000) else s

/-- A debug read that the firewall grants (R286, R287, R290, R292). -/
def State.dbgRead (s : State) (n a len : Nat) : State :=
  if dbgShape a len = false ∨ s.dbgOn n = false then s.dbgReject n len false
  else
    let c := s.core n
    let bad := ((List.range len).map fun i => (a + i) / 4).eraseDups.filter fun w => tget (fun _ => false) c.spmBad w
    let s := bad.foldl (fun t w => (t.inc (Addr.spmParityCnt n) 1).dbgLast n 31 (4 * w)) s
    let secs := (List.range (cdiv (a + len) 32 - a / 32)).map fun i => a / 32 + i
    { s with resp := { data := (List.range len).map fun i => c.sbyte 0 (a + i),
                       poison := secs.map fun k => tget (fun _ => false) c.spmPoison k || bad.any fun w => w / 8 == k } }

/-- A debug write that the firewall grants (R286-R289, R291, R292). -/
def State.dbgWrite (s : State) (n a : Nat) (data : Bytes) : State :=
  if dbgShape a data.length = false ∨ s.dbgOn n = false then s.dbgReject n data.length true
  else if s.rb (Addr.spmCtrl n) 31 = false ∧ ([0, 1, 2, 3].any fun m => (s.ctx (4 * n + m)).state.live) = true then
    { (s.dbgErr n).dbgLast n 30 a with resp := {} }
  else
    let s := s.dissolveAt n [(a, a + data.length)] (fun _ => false)
    let c := s.core n
    let s := s.setCore n { c with slots := c.slots.map (staleBy [⟨0, a / 64, cdiv (a + data.length) 64, true⟩]) }
    let s := s.perf n 0 (byteWrites (data.zipIdx.map fun p => (a + p.2, p.1, false)))
    { s with resp := {} }

/-- `DEBUG_WINDOW_READ`: R286-R288, R290, R292, R735, R737, R878. -/
def execDebugWindowRead (who : Initiator) (a len : Nat) (s : State) : Host.Outcome State Fault Refusal :=
  .next (if inDbg a = false then s
    else if s.fwAllow who a false = false then s.denied who (s.fwGov a) a len false false
    else (s.dbgWait (dbgAt a).1).dbgRead (dbgAt a).1 (dbgAt a).2 len)

/-- `DEBUG_WINDOW_WRITE`: R286-R289, R291, R292, R735, R737, R878. -/
def execDebugWindowWrite (who : Initiator) (a : Nat) (data : Bytes) (s : State) : Host.Outcome State Fault Refusal :=
  .next (if inDbg a = false then s
    else if s.fwAllow who a true = false then s.denied who (s.fwGov a) a data.length true false
    else (s.dbgWait (dbgAt a).1).dbgWrite (dbgAt a).1 (dbgAt a).2 data)

end Sys2Proof.Machine
end

