-- ==== Sys2Proof/Machine/Register.lean ====
section
/-! DEFINITION. Register accesses (chapter 22): who reaches which block (R870-R872, R881, R882), sizes (R873), unnamed
addresses (R874), domains off and units in reset (R878), captured values (R877), and what a write of each register does
(R18-R20 and the owning chapters). -/

namespace Sys2Proof.Machine

open Sys2Proof

/-! ## What a write does -/

/-- A write of TC_n_CTRL (R189, R190). -/
def State.tcCtrlWrite (s : State) (n : Nat) (v : Word) : State :=
  let was := s.rb (Addr.tcCtrl n) 1
  let s := s.putReg (Addr.tcCtrl n) v
  if bit v 1 = true ∧ was = false then s.haltReq n
  else if bit v 1 = false ∧ was = true then s.haltReqClear n
  else s

/-- A write of TC_n_CX_m_CTRL (R183, R200): one of GO, STOP, RESUME and RESET. -/
def State.cxCtrlWrite (s : State) (n m : Nat) (v : Word) : State :=
  let s := s.noteRsvd (Addr.tcCxCtrl n m) v
  match fld v 31 28 with
  | 0 => s
  | 8 => s.goContext n m
  | 4 => s.stopCmd n m
  | 2 => s.resumeContext n m
  | 1 => s.resetContext n m
  | _ => s.cfgErr 0x04 (4 * n + m)

/-- A write of TC_n_WIN (R155): four shares of 1 to 13 units of 4 entries that total 16, while every context of the core is
OFF, DONE or HALTED. -/
def State.winWrite (s : State) (n : Nat) (v : Word) : State :=
  let quiet := [0, 1, 2, 3].all fun m => match (s.ctx (4 * n + m)).state with | .off => true | .done => true | .halted => true | _ => false
  let sh := [0, 1, 2, 3].map fun m => fld v (4 * m + 3) (4 * m)
  if quiet = true ∧ (sh.all fun x => decide (1 ≤ x)) = true ∧ sh.foldl (· + ·) 0 = 16 then s.putReg (Addr.tcWin n) v
  else s.refuse (Addr.tcWin n) v

/-- A write of a scalar register (R198): while its context is OFF or STOPPED. -/
def State.scalarWrite (s : State) (n m a : Nat) (v : Word) : State :=
  match (s.ctx (4 * n + m)).state with
  | .off => s.putReg a v
  | .stopped => s.putReg a v
  | _ => s.refuse a v

/-- A write of a region's SIZE or ORIGIN (R300): while the region is not valid. -/
def State.resWrite (s : State) (n k a : Nat) (v : Word) : State := if s.resValid n k then s.refuse a v else s.putReg a v

/-- A write of a staged word of a software set (R396). -/
def State.stageWrite (s : State) (k a : Nat) (v : Word) : State :=
  { s.putReg a v with pass := { s.pass with staged := tset (fun _ => false) s.pass.staged k true } }

/-- A write of PASS_SW_k_CMD (R395). -/
def State.swCmdWrite (s : State) (k : Nat) (v : Word) : State :=
  let s := s.noteRsvd (Addr.passSwCmd k) v
  match fld v 1 0 with
  | 0 => s.swPopCmd k
  | 1 => s.swAllocCmd k
  | 2 => s.swReleaseCmd k
  | _ => s.cfgErr 0x17 0

/-- A write of ILL_CTRL (R723): without EN no gate stays on. -/
def State.illCtrlWrite (s : State) (v : Word) : State :=
  let s := s.putReg Addr.illCtrl v
  if s.rb Addr.illCtrl 0 then s else forEach (List.range 8) (fun ch t => t.illRampDown ch) s

/-- A write of THM_RAMP_FLOOR (R843): steps of 50. -/
def State.floorWrite (s : State) (v : Word) : State :=
  if fld v 10 0 % 50 = 0 then s.putReg Addr.thmRampFloor v else s.refuse Addr.thmRampFloor v

/-- A write of a register that the supervisor alone writes (PWR_AVS_CFG, PWR_PMBUS_n, R793, R809), field by field (R20); a
write that would set SLEW to 0 is rejected whole (R21), and one by any other initiator is ignored. -/
def State.supOnly (s : State) (who : Initiator) (a : Nat) (v : Word) : State :=
  let s := s.noteRsvd a v
  if who ≠ .sup then s
  else if a = Addr.pwrAvsCfg ∧ fld v 4 0 = 0 then s.cfgAt a
  else match regAt a with
    | some r =>
      let f := applyFields .rw (s.reg a) v r.fields
      if f.2 then (s.setReg a f.1).cfgAt a else s.setReg a f.1
    | none => s

/-- A write of bit 0 of a register that is a command. -/
def State.onBit0 (s : State) (a : Nat) (v : Word) (f : State → State) : State :=
  let s := s.noteRsvd a v
  if bit v 0 then f s else s

/-- A write of a register of the map, `who` being allowed to make it: by its own rule where its chapter gives one, else by
its fields. `i` and `j` are its numbers, `k` is its word. -/
def State.writeAs (s : State) (who : Initiator) (id : RegId) (i j k a : Nat) (v : Word) : State :=
  match id with
  | .sfePhyCfg => s.phyCfgWrite i v
  | .sfePhyLanemap => s.laneMapWrite i v
  | .sfeCtxCtrl => s.scCtrlWrite i v
  | .sfeCtxSrc => s.scSrcWrite i v
  | .sfeCtxFmt => s.scFmtWrite i v
  | .sfePwl => s.scTabWrite a i v
  | .sfeLsctab => s.scTabWrite a i v
  | .sfeDfl => s.scTabWrite a i v
  | .lptCtrl => s.lptCtrlWrite v
  | .lptTodSrc => s.todSrcWrite v
  | .lptTodRate => s.todRateWrite v
  | .lptTodStepGo => s.onBit0 a v (·.todStep)
  | .lptPpsOutCtrl => s.ppsOutWrite v
  | .lptLdPeriod => s.ldPeriodWrite i v
  | .lptLdFlen => s.ldFlenWrite i v
  | .lptLdCtrl => s.ldCtrlWrite i v
  | .lptFsync => s.fsyncWrite i v
  | .lptSchedCtrl => s.schedCtrlWrite v
  | .lptSchedEnt => s.entWrite i k v
  | .tcCtrl => s.tcCtrlWrite i v
  | .tcWin => s.winWrite i v
  | .tcCxCtrl => s.cxCtrlWrite i j v
  | .tcCxS => s.scalarWrite i j a v
  | .spmCtrl => let s := s.putReg a v; if bit v 0 then s.spmInitCmd i else s
  | .spmResCtrl => s.resCtrl i j v
  | .spmResSize => s.resWrite i j a v
  | .spmResOrgLo => s.resWrite i j a v
  | .spmResOrgHi => s.resWrite i j a v
  | .tcActtab => s.actTab i j k v
  | .passCtrl => s.passCtrlSet v
  | .passAuditCtrl => s.onBit0 a v (·.passAuditCmd)
  | .passSwHandle => s.stageWrite i a v
  | .passSwMetaLo => s.stageWrite i a v
  | .passSwVreg => s.stageWrite i a v
  | .passSwMetaHi => s.swPushCmd i v
  | .passSwCmd => s.swCmdWrite i v
  | .passPqCfg => s.pqCfgWrite i v
  | .passPqFlush => s.onBit0 a v (·.pqFlushCmd i)
  | .passPlBaseLo => s.plWrite i a v
  | .passPlBaseHi => s.plWrite i a v
  | .passPlSize => s.plWrite i a v
  | .passPlCfg => s.plWrite i a v
  | .passPlRevokeLo => s.revoke i false v
  | .passPlRevokeHi => s.revoke i true v
  | .wchCtrl => s.wchCtrlWrite v
  | .wchAuditCtrl => s.onBit0 a v (·.wchAuditCmd)
  | .fmtSrcCfg => s.fmtSrcWrite i v
  | .fmtOsCtrl => s.fmtOsWrite i v
  | .fmtOsDest => s.fmtDestWrite i v
  | .fmtCoef => s.fmtCoefPut i k v
  | .dppCtrl => s.dppCtrlWrite v
  | .dppSubmitLo => s.dppSubmitWrite v
  | .dppSlotAbort => s.onBit0 a v (·.dppAbort i)
  | .dppBindCfg => s.bindWrite i a v
  | .dppBindMap => s.bindWrite i a v
  | .dppBindTmplLo => s.bindWrite i a v
  | .dppBindTmplHi => s.bindWrite i a v
  | .vencCtrl => s.vEngineWrite i v
  | .vencCmdTail => s.vTailWrite i v
  | .vencRefBaseLo => s.vRefWrite i a v
  | .vencRefBaseHi => s.vRefWrite i a v
  | .vencRefSize => s.vRefWrite i a v
  | .vencRefCfg => s.vRefWrite i a v
  | .vencSCtrl => s.vCtrlWrite i j v
  | .vencSSize => s.vSessWrite i j a v
  | .vencSFps => s.vSessWrite i j a v
  | .vencSIo => s.vSessWrite i j a v
  | .vdecCtrl => s.vdEngineWrite v
  | .vdecDpbBaseLo => s.vdDpbWrite a v
  | .vdecDpbBaseHi => s.vdDpbWrite a v
  | .vdecDpbSize => s.vdDpbWrite a v
  | .vdecDpbCfg => s.vdDpbWrite a v
  | .vdecSCtrl => s.vdCtrlWrite i v
  | .vdecSMaxsize => s.vdSessWrite i a v
  | .vdecSIo => s.vdSessWrite i a v
  | .vdecSDpb => s.vdSessWrite i a v
  | .vdecSStride => s.vdSessWrite i a v
  | .vdecSBudget => s.vdSessWrite i a v
  | .memCtrl => s.memCtrlWrite v
  | .memCfg => s.memCfgWrite v
  | .memAuditCtrl => s.onBit0 a v (·.memAuditCmd)
  | .cohSnoopTo => s.snoopToWrite a v
  | .cohScrubHi => s.scrubWrite v
  | .cohCpuCtrl => s.onBit0 a v (·.flushAllCmd i)
  | .pcieBar2Cfg => s.bar2CfgWrite v
  | .pcieBar2TgtLo => s.bar2TgtWrite a v
  | .pcieBar2TgtHi => s.bar2TgtWrite a v
  | .pcieEpIrq => s.epIrqWrite v
  | .ethMdio => s.mdioWrite i v
  | .ethQTail => s.ethTail i j v
  | .i3cCtrl => s.i3cCtrlWrite i v
  | .i3cCmdHi => s.i3cEnter i v
  | .i3cData => s.i3cDataWrite i v
  | .uartData => s.uartWrite i a v
  | .illCtrl => s.illCtrlWrite v
  | .illCfg => s.illCfgWrite i v
  | .illChStatus => s.illStatusWrite i v
  | .dsvDoorbell => s.onBit0 a v (·.doorbell (if i = 0 then .host else .driver))
  | .dsvChainBase => s.chainRegWrite a v
  | .dsvChainSize => s.chainRegWrite a v
  | .dsvChainTail => s.chainRegWrite a v
  | .dsvErrCtrl => s.errCtrlWrite v
  | .dsvErrDBase => s.ringCfgWrite a (s.rb Addr.dsvErrCtrl 31) v
  | .dsvErrDSize => s.ringCfgWrite a (s.rb Addr.dsvErrCtrl 31) v
  | .dsvErrDTail => s.ringTailWrite a Addr.dsvErrDBase v
  | .dsvErrHBase => s.ringCfgWrite a (s.rb Addr.dsvErrCtrl 30) v
  | .dsvErrHSize => s.ringCfgWrite a (s.rb Addr.dsvErrCtrl 30) v
  | .dsvErrHTail => s.ringTailWrite a Addr.dsvErrHBase v
  | .dsvTelCtrl => s.telCtrlWrite v
  | .dsvTelBase => s.ringCfgWrite a (s.rb Addr.dsvTelCtrl 31) v
  | .dsvTelSize => s.ringCfgWrite a (s.rb Addr.dsvTelCtrl 31) v
  | .dsvTelTail => s.telTailWrite v
  | .thmRampFloor => s.floorWrite v
  | .pwrTcGate => s.tcGateWrite v
  | .pwrCpuGate => s.cpuGateWrite v
  | .pwrRst => s.rstWrite v
  | .pwrAvsCfg => s.supOnly who a v
  | .pwrPmbus => s.supOnly who a v
  | .clkTclkReq => s.tclkReqWrite v
  | .clkCpuReq => s.cpuReqWrite v
  | _ => s.putReg a v

/-- Whether a register belongs to a software set of another initiator (R395). -/
def foreignSet (who : Initiator) (r : RegRef) : Bool :=
  [RegId.passSwSel, .passSwHandle, .passSwMetaLo, .passSwMetaHi, .passSwVreg, .passSwCmd, .passSwStatus, .passSwAddr].contains r.desc.id
    && !swOwner who (lget 0 r.idx 0)

/-- A write of the register at an address, where one lies: reserved bits are noted whatever else the write does (R19); else
RSVD_WRITE is set for the address `at_` that was written (R874). -/
def State.writeReg (s : State) (who : Initiator) (a at_ : Nat) (v : Word) : State :=
  match regAt a with
  | none => s.markRsvd at_
  | some r =>
    let s := s.noteRsvd a v
    if foreignSet who r then s.cfgErr 0x17 0 else s.writeAs who r.desc.id (lget 0 r.idx 0) (lget 0 r.idx 1) r.word a v

/-! ## What a read does (R877, R887) -/

/-- The words of the value that a register word belongs to (R877): its lowest word, then all that are captured with it. -/
def captured (r : RegRef) : Option (Nat × List Nat) :=
  let k := lget 0 r.idx 0
  match r.desc.id with
  | .lptTodSec => some (Addr.lptTodSec, [Addr.lptTodSec, Addr.lptTodSec + 4, Addr.lptTodTick])
  | .lptTodTick => some (Addr.lptTodSec, [])
  | .lptPpsTsSec => some (Addr.lptPpsTsSec, [Addr.lptPpsTsSec, Addr.lptPpsTsSec + 4, Addr.lptPpsTsTick])
  | .lptPpsTsTick => some (Addr.lptPpsTsSec, [])
  | .dsvChainSeq => some (Addr.dsvChainSeq, [Addr.dsvChainSeq, Addr.dsvChainSeq + 4])
  | .gpioCapSec => some (Addr.gpioCapSec k, [Addr.gpioCapSec k, Addr.gpioCapSec k + 4, Addr.gpioCapTick k])
  | .gpioCapTick => some (Addr.gpioCapSec k, [])
  | _ => none

/-- A read of a value of several words (R877): its lowest word captures them all, any other gives what was captured. -/
def State.captureRead (s : State) (a low : Nat) (all : List Nat) : State :=
  if a = low then
    let t := { s with capture := all.foldl (fun c x => tset (fun _ => 0) c x (s.view x)) s.capture }
    t.answer (s.view a)
  else s.answer (tget (fun _ => 0) s.capture a)

/-- A read of the register at an address: the pops and captures of R887 happen; a count of bank conflicts and the tach are
free, since no command gives them. -/
def State.readReg (s : State) (who : Initiator) (a : Nat) : State :=
  match regAt a with
  | none => s.answer 0
  | some r =>
    let i := lget 0 r.idx 0
    if foreignSet who r then (s.cfgErr 0x17 0).answer 0
    else match captured r with
    | some (low, all) => s.captureRead a low all
    | none =>
      match r.desc.id with
      | .i3cResp => s.i3cRespRead i
      | .i3cIbi => s.i3cIbiRead i
      | .i3cData => s.i3cDataRead i
      | .uartData => s.uartRead i
      | .gpioCapFrame => s.capFrameRead i
      | .spmConflict => let (w, t) := s.draw; t.answer w
      | .thmPumpTach => let (w, t) := s.draw; t.answer (w32 (fld w 15 0))
      | _ => s.answer (s.view a)

/-! ## Who reaches a register (R869-R872, R881) -/

/-- Whether an address lies in the span of a block (R871). -/
def inSpan (a : Nat) : Bool :=
  [0x100, 0x101, 0x110, 0x120, 0x121, 0x122, 0x123, 0x124, 0x125, 0x126, 0x127, 0x130, 0x131, 0x140, 0x150, 0x160, 0x161, 0x162,
   0x170, 0x180, 0x190, 0x191, 0x192, 0x193, 0x194, 0x195, 0x196, 0x1A0, 0x1B0, 0x1B1, 0x1B2, 0x1B3].contains (a / 0x100000)

/-- Whether an address lies in register space (R869). -/
def inRegs (a : Nat) : Bool := decide (0x10000000 ≤ a) && decide (a < 0x20000000)

/-- The part of the DSV block an address lies in (R880). -/
inductive DsvPart where
  | no | hostPage | driverPage | supRegs
  deriving DecidableEq, Repr

/-- The part of the DSV block of an address. -/
def dsvPart (a : Nat) : DsvPart :=
  if a / 0x100000 ≠ 0x1B0 then .no
  else if a % 0x100000 < 0x8000 then .hostPage
  else if a % 0x100000 < 0x10000 then .driverPage
  else .supRegs

/-- Whether an initiator reaches an address of register space at all (R690, R699, R736, R872, R881). -/
def State.reaches (s : State) (who : Initiator) (a : Nat) : Bool :=
  match dsvPart a with
  | .hostPage => who == .host && s.isEndpoint
  | .driverPage => match who with | .cpu _ => true | _ => false
  | .supRegs => who == .sup
  | .no =>
    match who with
    | .sup => true
    | .cpu _ => a / 0x100000 != 0x194
    | .jtag => a / 0x100000 != 0x194 && s.debugLevel == 2
    | _ => false

/-- Whether the power domain of an address is on (R871, R878). -/
def State.domainOn (s : State) (a : Nat) : Bool :=
  let b := a / 0x100000
  if 0x1B0 ≤ b ∨ b = 0x194 ∨ (b = 0x195 ∧ a % 0x100000 < 0x100) then true
  else if 0x120 ≤ b ∧ b < 0x128 then s.pwr.step == 10 && s.rb Addr.pwrTcStatus (b - 0x120)
  else s.pwr.step == 10

/-- A core that makes an access is not in WFI. -/
def State.awake (s : State) (who : Initiator) : State :=
  match who with
  | .cpu n => if tget (fun _ => false) s.coh.wfi n then
      { s.setRf Addr.pwrCpuStatus (4 + n) (4 + n) 0 with coh := { s.coh with wfi := tset (fun _ => false) s.coh.wfi n false } }
    else s
  | _ => s

/-- The supervisor register that a page offset presents (R880). -/
def viewOf (a : Nat) : Option Nat := if 0x4000 ≤ a % 0x8000 then some (0x1B010000 + (a % 0x8000 - 0x4000)) else none

/-- Whether the host view shows a register (R882). -/
def hostSees : RegId → Bool
  | .dsvBootStatus => true | .dsvProtSeq => true | .dsvDebug => true | .dsvChainSeq => true | .dsvKsInfo => true | .dsvErrCnt => true
  | .dsvErrHBase => true | .dsvErrHSize => true | .dsvErrHHead => true | .dsvErrHTail => true
  | _ => false

/-- A write in a page of the DSV block (R880-R882). -/
def State.pageWrite (s : State) (who : Initiator) (host : Bool) (a : Nat) (v : Word) : State :=
  match viewOf a with
  | none => s.writeReg who a a v
  | some x =>
    if host then
      match regAt x with
      | none => s.markRsvd a
      | some r => if r.desc.id = .dsvErrHTail then s.writeReg who x a v else (s.noteRsvd x v).cfgErr 0x17 0
    else s.writeReg who x a v

/-- A read in a page of the DSV block (R880-R882). -/
def State.pageRead (s : State) (who : Initiator) (host : Bool) (a : Nat) : State :=
  match viewOf a with
  | none => s.readReg who a
  | some x =>
    if host then
      match regAt x with
      | none => s.answer 0
      | some r => if hostSees r.desc.id then s.readReg who x else s.answer 0
    else s.readReg who x

/-- A 4-byte access that reaches its register (R872, R878): `f` for the pages, `g` for the blocks, `off` where the domain
is off. -/
def State.access4 (s : State) (who : Initiator) (a : Nat) (write : Bool) (f g off : State → State) : State :=
  if inRegs a = false then
    (if a < 0x10000000 then (if who = .sup then off s else s.denied who none a 4 write false)
     else if (0x20000000 ≤ a ∧ a < 0x22000000) ∨ inDram a = true ∨ (0x2000000000 ≤ a ∧ a < 0x10000000000) then off s
     else s.denied who none a 4 write true)
  else if inSpan a = false then s.denied who none a 4 write true
  else if s.reaches who a = false then s.denied who none a 4 write false
  else if s.fwAllow who a write = false then s.denied who (s.fwGov a) a 4 write false
  else
    let s := s.awake who
    if s.domainOn a = false then off s
    else
      let s := s.waitUnit a
      match dsvPart a with
      | .hostPage => f s
      | .driverPage => f s
      | _ => g s

/-- A 4-byte register write. -/
def State.write4 (s : State) (who : Initiator) (a : Nat) (v : Word) : State :=
  { s with resp := {} }.access4 who a true (fun t => t.pageWrite who (who == Initiator.host) a v) (fun t => t.writeReg who a a v) id

/-- A 4-byte register read. -/
def State.read4 (s : State) (who : Initiator) (a : Nat) : State :=
  { s with resp := {} }.access4 who a false (fun t => t.pageRead who (who == Initiator.host) a) (fun t => t.readReg who a) (·.answer 0)

/-- `REGISTER_WRITE`: R18-R20, R870-R878, R880-R887 and the owning chapters. An access of another size, or not aligned, takes
an error response and has no effect (R873). -/
def execRegisterWrite (who : Initiator) (a size : Nat) (v : BitVec 64) (s : State) : Host.Outcome State Fault Refusal :=
  .next (
    let lo := w32 (v.toNat % 2 ^ 32)
    if size = 4 ∧ a % 4 = 0 then s.write4 who a lo
    else if size = 8 ∧ a % 8 = 0 then
      let s := s.write4 who a lo
      let e := s.resp.err
      let s := s.write4 who (a + 4) (w32 (v.toNat / 2 ^ 32))
      if e then { s with resp := { err := true } } else s
    else { s with resp := { err := true } })

/-- `MULTIWORD_CAPTURE_READ`: a 4-byte read of a register (R18, R870-R874, R877, R878, R880-R882, R887). -/
def execMultiwordCaptureRead (who : Initiator) (a : Nat) (s : State) : Host.Outcome State Fault Refusal :=
  .next (if a % 4 = 0 then s.read4 who a else { s with resp := { err := true } })

end Sys2Proof.Machine
end

