-- ==== Sys2Proof/Machine/Inbound.lean ====
section
/-! DEFINITION. Inbound PCIe requests (R669-R673, R699): DRAM in the root-port modes, BAR0 and BAR2 of an endpoint. -/

namespace Sys2Proof.Machine

open Sys2Proof

/-- An inbound request completed with Unsupported Request (R669, R671). -/
def State.inboundUr (s : State) (port : Nat) : State := { s.pcieErr .pcieUr port with resp := { err := true } }

/-- The lines of a request that the firewall denies its initiator: the first of them (R671, R735). -/
def State.inboundDenied (s : State) (a n : Nat) (write : Bool) : Option Nat :=
  ((cutRead (n / 64 + 2) a n).map (·.1)).find? fun x => !inDram x || !s.fwAllow .pcie x write

/-- An inbound request to DRAM (R671, R673): a denied read is unsupported, a denied line of a posted write is discarded; each
denial raises E_PCIE_UR beside E_FW_DENY. -/
def State.inboundDram (s : State) (port a : Nat) (write : Bool) (data : Bytes) (ep : Bool) : State :=
  if write then
    let bad := (s.inboundDenied a data.length true).isSome
    let s := s.unitWrite .pcie .bulk a data ep
    let s := if bad then s.pcieErr .pcieUr port else s
    if ep then s.pcieErr .pciePoison port else s
  else
    match s.inboundDenied a data.length false with
    | some x => (s.fwDeny .pcie (if inDram x then s.fwGov x else none) x false).inboundUr port
    | none =>
      let got := s.unitRead .pcie .bulk a data.length
      let l := got.1
      let s := got.2
      let s := { s with resp := { data := plain l, poison := secPoisons l } }
      if anyPoison l then s.pcieErr .pciePoison port else s

/-- The bytes of the MSI-X table or of the pending-bit array from an offset of BAR0. -/
def State.msixBytes (s : State) (o n : Nat) : Bytes :=
  (List.range n).map fun i =>
    let x := o + i
    if x < 0x8400 then BitVec.ofNat 8 ((s.msixWord ((x - 0x8000) / 4)).toNat / 2 ^ (8 * (x % 4)))
    else if 0x9000 ≤ x ∧ x < 0x9008 then
      BitVec.ofNat 8 (((List.range 8).filter fun b => tget (fun _ => false) s.pcie.pba (8 * (x - 0x9000) + b)).foldl (fun a b => a + 2 ^ b) 0)
    else 0

/-- A write of the MSI-X table (R699, R703): a vector that it unmasks is delivered if pending. -/
def State.msixTableWrite (s : State) (o : Nat) (data : Bytes) : State :=
  if o < 0x8000 ∨ 0x8400 < o + data.length ∨ o % 4 ≠ 0 then s
  else
    let s := forEach (List.range (data.length / 4)) (fun i t =>
      t.setMsixWord ((o - 0x8000) / 4 + i) (w32 (leNat ((data.drop (4 * i)).take 4)))) s
    forEach (List.range 64) (fun v t => if bit (t.msixWord (4 * v + 3)) 0 then t else t.msixDeliver v) s

/-- A request to BAR0 (R699): the host page of the mailbox, the MSI-X table, the pending bits, which are read-only. -/
def State.inboundBar0 (s : State) (port o : Nat) (write : Bool) (data : Bytes) : State :=
  let n := data.length
  if o < 0x8000 then
    let bad := !s.fwAllow .host (0x1B000000 + o) write
    let s := if (n = 4 ∧ o % 4 = 0) ∨ (n = 8 ∧ o % 8 = 0) then
        (List.range (n / 4)).foldl (fun (p : Bytes × State) i =>
          let a := 0x1B000000 + o + 4 * i
          let t := if write then p.2.write4 .host a (w32 (leNat ((data.drop (4 * i)).take 4))) else p.2.read4 .host a
          (p.1 ++ t.resp.data, { t with resp := { t.resp with data := p.1 ++ t.resp.data } })) ([], s) |>.2
      else { s with resp := { err := true } }
    if bad then s.pcieErr .pcieUr port else s
  else if 0x10000 < o + n then s.inboundUr port
  else if write then s.msixTableWrite o data
  else { s with resp := { data := s.msixBytes o n, poison := [false] } }

/-- `PCIE_INBOUND_REQUEST`: R669-R673, R699, R735, R737. `data` holds the bytes written, or as many as are read. A write of
PCIE_MSI_TGT in a root-port mode is a message-signalled interrupt (R665). -/
def execPcieInboundRequest (port : Nat) (write : Bool) (bar a : Nat) (data : Bytes) (ep : Bool) (s : State) :
    Host.Outcome State Fault Refusal :=
  .next (
    let s := { s with resp := {} }
    if s.linkUp port = false then s
    else if s.isEndpoint then
      if bar = 0 then s.inboundBar0 port a write data
      else if bar = 2 ∧ a + data.length ≤ 2 ^ s.rf Addr.pcieBar2Cfg 5 0 then
        s.inboundDram port (s.rf Addr.pcieBar2TgtHi 7 0 * 2 ^ 32 + s.rf Addr.pcieBar2TgtLo 31 20 * 2 ^ 20 + a) write data ep
      else s.inboundUr port
    else
      let tgt := (s.reg Addr.pcieMsiTgt).toNat + 2 ^ 32 * (s.reg (Addr.pcieMsiTgt + 4)).toNat
      if write = true ∧ tgt ≠ 0 ∧ a = tgt then
        let v := leNat (data.take 4) % 64
        (s.setRf (Addr.pcieMsiStatus + v / 32 * 4) (v % 32) (v % 32) 1).irq (.pcie v)
      else if inDram a then s.inboundDram port a write data ep
      else s.inboundUr port)

end Sys2Proof.Machine
end

