-- ==== Sys2Proof/Machine/Dispatch.lean ====
section
/-! DEFINITION. The meaning of every command: one arm per constructor of `Instr`, each a direct call. -/

namespace Sys2Proof.Machine

open Sys2Proof

/-- What a command does. -/
def exec (i : Instr) (s : State) : Host.Outcome State Fault Refusal :=
  match i with
  -- Register
  | .registerWrite who addr size value => Sys2Proof.Machine.execRegisterWrite who addr size value s
  | .multiwordCaptureRead who addr => Sys2Proof.Machine.execMultiwordCaptureRead who addr s
  -- Lpt
  | .lineBoundary d => Sys2Proof.Machine.execLineBoundary d s
  | .domainStart d => Sys2Proof.Machine.execDomainStart d s
  | .domainEnable d value => Sys2Proof.Machine.execDomainEnable d value s
  | .domainDisable d value => Sys2Proof.Machine.execDomainDisable d value s
  | .lptEnable => Sys2Proof.Machine.execLptEnable s
  | .lptDisable => Sys2Proof.Machine.execLptDisable s
  | .predictedFrameStart d => Sys2Proof.Machine.execPredictedFrameStart d s
  | .fsWindowEnd d => Sys2Proof.Machine.execFsWindowEnd d s
  -- Sfe
  | .frameStart link vc fixed => Sys2Proof.Machine.execFrameStart link vc fixed s
  | .countedLine pkt => Sys2Proof.Machine.execCountedLine pkt s
  | .frameEndPacket link vc fixed => Sys2Proof.Machine.execFrameEndPacket link vc fixed s
  | .embeddedDataPacket link vc payload crcBad fixed => Sys2Proof.Machine.execEmbeddedDataPacket link vc payload crcBad fixed s
  | .genericShortPacket link vc dt fixed => Sys2Proof.Machine.execGenericShortPacket link vc dt fixed s
  | .deskewCalibration phy ok lanes => Sys2Proof.Machine.execDeskewCalibration phy ok lanes s
  | .ulpsEntryExit phy lane enter => Sys2Proof.Machine.execUlpsEntryExit phy lane enter s
  | .groupFsBoundExpiry sc => Sys2Proof.Machine.execGroupFsBoundExpiry sc s
  | .conditioningBurst => Sys2Proof.Machine.execConditioningBurst s
  | .stripePush sc => Sys2Proof.Machine.execStripePush sc s
  | .statsPush sc => Sys2Proof.Machine.execStatsPush sc s
  | .sfeCtxEnable sc value => Sys2Proof.Machine.execSfeCtxEnable sc value s
  | .uncorrectableHeader link => Sys2Proof.Machine.execUncorrectableHeader link s
  | .unmatchedPacket link vc dt fixed => Sys2Proof.Machine.execUnmatchedPacket link vc dt fixed s
  -- Sched
  | .schedNone n => Sys2Proof.Machine.execSchedNone n s
  | .fsyncSet n => Sys2Proof.Machine.execFsyncSet n s
  | .fsyncClr n => Sys2Proof.Machine.execFsyncClr n s
  | .fsyncTrimEdge pin => Sys2Proof.Machine.execFsyncTrimEdge pin s
  | .fsyncAutoPulseEnd pin => Sys2Proof.Machine.execFsyncAutoPulseEnd pin s
  | .fsyncDomainWrite pin value => Sys2Proof.Machine.execFsyncDomainWrite pin value s
  | .illOn n => Sys2Proof.Machine.execIllOn n s
  | .illOff n => Sys2Proof.Machine.execIllOff n s
  | .ctxWake n => Sys2Proof.Machine.execCtxWake n s
  | .fmtStart n => Sys2Proof.Machine.execFmtStart n s
  | .vencSlice n => Sys2Proof.Machine.execVencSlice n s
  | .irq n => Sys2Proof.Machine.execIrq n s
  | .maintOpen n => Sys2Proof.Machine.execMaintOpen n s
  | .maintClose n => Sys2Proof.Machine.execMaintClose n s
  | .schedEntryWrite n word value => Sys2Proof.Machine.execSchedEntryWrite n word value s
  | .schedCommit => Sys2Proof.Machine.execSchedCommit s
  | .maintJobGrant => Sys2Proof.Machine.execMaintJobGrant s
  | .retrainForce => Sys2Proof.Machine.execRetrainForce s
  -- Tod
  | .todStepGo => Sys2Proof.Machine.execTodStepGo s
  | .todSrcWrite value => Sys2Proof.Machine.execTodSrcWrite value s
  | .ppsInEdge => Sys2Proof.Machine.execPpsInEdge s
  | .ppsMiss => Sys2Proof.Machine.execPpsMiss s
  | .ppsOutRise => Sys2Proof.Machine.execPpsOutRise s
  | .ppsOutFall => Sys2Proof.Machine.execPpsOutFall s
  -- Context
  | .goCtx core cx => Sys2Proof.Machine.execGoCtx core cx s
  | .stopCtx core cx => Sys2Proof.Machine.execStopCtx core cx s
  | .contextStopped core cx => Sys2Proof.Machine.execContextStopped core cx s
  | .resumeCtx core cx => Sys2Proof.Machine.execResumeCtx core cx s
  | .resetCtx core cx => Sys2Proof.Machine.execResetCtx core cx s
  | .haltReq core => Sys2Proof.Machine.execHaltReq core s
  | .haltReqClear core => Sys2Proof.Machine.execHaltReqClear core s
  | .instructionFetch core cx => Sys2Proof.Machine.execInstructionFetch core cx s
  -- Control
  | .nopI core cx w => Sys2Proof.Machine.execNopI core cx w s
  | .haltI core cx w => Sys2Proof.Machine.execHaltI core cx w s
  | .yieldI core cx w => Sys2Proof.Machine.execYieldI core cx w s
  | .yieldTimeout core cx => Sys2Proof.Machine.execYieldTimeout core cx s
  | .fenceI core cx w => Sys2Proof.Machine.execFenceI core cx w s
  | .depmarkI core cx w => Sys2Proof.Machine.execDepmarkI core cx w s
  | .barrierI core cx w => Sys2Proof.Machine.execBarrierI core cx w s
  | .drainI core cx w => Sys2Proof.Machine.execDrainI core cx w s
  | .nestImpliedSync core cx => Sys2Proof.Machine.execNestImpliedSync core cx s
  | .waitlineI core cx w => Sys2Proof.Machine.execWaitlineI core cx w s
  | .waitlineSetpfx core cx w => Sys2Proof.Machine.execWaitlineSetpfx core cx w s
  | .waitlineRelease core cx => Sys2Proof.Machine.execWaitlineRelease core cx s
  | .deadlineI core cx w => Sys2Proof.Machine.execDeadlineI core cx w s
  | .deadlineMiss core cx => Sys2Proof.Machine.execDeadlineMiss core cx s
  | .signalI core cx w => Sys2Proof.Machine.execSignalI core cx w s
  -- Movement
  | .loadI core cx w => Sys2Proof.Machine.execLoadI core cx w s
  | .loadDataReturn core op line => Sys2Proof.Machine.execLoadDataReturn core op line s
  | .storeI core cx w => Sys2Proof.Machine.execStoreI core cx w s
  | .loadwI core cx w => Sys2Proof.Machine.execLoadwI core cx w s
  | .copyI core cx w => Sys2Proof.Machine.execCopyI core cx w s
  | .fillI core cx w => Sys2Proof.Machine.execFillI core cx w s
  -- Compute
  | .mmulI core cx w => Sys2Proof.Machine.execMmulI core cx w s
  | .convI core cx w => Sys2Proof.Machine.execConvI core cx w s
  | .dwconvI core cx w => Sys2Proof.Machine.execDwconvI core cx w s
  | .cx0PreemptStart core unit => Sys2Proof.Machine.execCx0PreemptStart core unit s
  | .vopI core cx w => Sys2Proof.Machine.execVopI core cx w s
  | .actI core cx w => Sys2Proof.Machine.execActI core cx w s
  | .reqI core cx w => Sys2Proof.Machine.execReqI core cx w s
  | .reduceI core cx w => Sys2Proof.Machine.execReduceI core cx w s
  | .shufI core cx w => Sys2Proof.Machine.execShufI core cx w s
  | .poolmaxI core cx w => Sys2Proof.Machine.execPoolmaxI core cx w s
  | .poolavgI core cx w => Sys2Proof.Machine.execPoolavgI core cx w s
  -- PassI
  | .pqpopI core cx w => Sys2Proof.Machine.execPqpopI core cx w s
  | .pqpushI core cx w => Sys2Proof.Machine.execPqpushI core cx w s
  | .hallocI core cx w => Sys2Proof.Machine.execHallocI core cx w s
  | .hrelI core cx w => Sys2Proof.Machine.execHrelI core cx w s
  | .detsubI core cx w => Sys2Proof.Machine.execDetsubI core cx w s
  | .detwaitI core cx w => Sys2Proof.Machine.execDetwaitI core cx w s
  | .contextWakePass core cx => Sys2Proof.Machine.execContextWakePass core cx s
  -- Flow
  | .loopI core cx w => Sys2Proof.Machine.execLoopI core cx w s
  | .endloopI core cx w => Sys2Proof.Machine.execEndloopI core cx w s
  | .jumpI core cx w => Sys2Proof.Machine.execJumpI core cx w s
  | .brzI core cx w => Sys2Proof.Machine.execBrzI core cx w s
  | .brnzI core cx w => Sys2Proof.Machine.execBrnzI core cx w s
  | .setsI core cx w => Sys2Proof.Machine.execSetsI core cx w s
  | .addsI core cx w => Sys2Proof.Machine.execAddsI core cx w s
  | .bucketI core cx w => Sys2Proof.Machine.execBucketI core cx w s
  -- TcEvent
  | .operationRetire core op => Sys2Proof.Machine.execOperationRetire core op s
  | .parityError core op addr => Sys2Proof.Machine.execParityError core op addr s
  | .parityReplayReissue core op => Sys2Proof.Machine.execParityReplayReissue core op s
  | .accParityError core op entry => Sys2Proof.Machine.execAccParityError core op entry s
  | .debugWindowRead who addr size => Sys2Proof.Machine.execDebugWindowRead who addr size s
  | .debugWindowWrite who addr data => Sys2Proof.Machine.execDebugWindowWrite who addr data s
  | .spmInit core => Sys2Proof.Machine.execSpmInit core s
  | .spmPowerupInitDone core => Sys2Proof.Machine.execSpmPowerupInitDone core s
  | .spmResValidWrite core k value => Sys2Proof.Machine.execSpmResValidWrite core k value s
  | .acttabWrite core t word value => Sys2Proof.Machine.execActtabWrite core t word value s
  -- Wch
  | .wchGroupFetch head grp => Sys2Proof.Machine.execWchGroupFetch head grp s
  | .wchMatchTimeout head grp => Sys2Proof.Machine.execWchMatchTimeout head grp s
  | .wchPacketHop hop upset => Sys2Proof.Machine.execWchPacketHop hop upset s
  | .wchBypassSwitch core => Sys2Proof.Machine.execWchBypassSwitch core s
  | .wchSplitWrite value => Sys2Proof.Machine.execWchSplitWrite value s
  -- Pass
  | .pqEnable n value => Sys2Proof.Machine.execPqEnable n value s
  | .pqDisable n value => Sys2Proof.Machine.execPqDisable n value s
  | .pqFlush n => Sys2Proof.Machine.execPqFlush n s
  | .pqFlushComplete n => Sys2Proof.Machine.execPqFlushComplete n s
  | .poolRevoke pl hi mask => Sys2Proof.Machine.execPoolRevoke pl hi mask s
  | .poolBumpComplete pl => Sys2Proof.Machine.execPoolBumpComplete pl s
  | .passCtrlWrite value => Sys2Proof.Machine.execPassCtrlWrite value s
  | .swPop who k => Sys2Proof.Machine.execSwPop who k s
  | .swAlloc who k => Sys2Proof.Machine.execSwAlloc who k s
  | .swRelease who k => Sys2Proof.Machine.execSwRelease who k s
  | .swPush who k value => Sys2Proof.Machine.execSwPush who k value s
  | .passAudit => Sys2Proof.Machine.execPassAudit s
  | .wchAudit => Sys2Proof.Machine.execWchAudit s
  | .memAudit => Sys2Proof.Machine.execMemAudit s
  | .auditComplete blk => Sys2Proof.Machine.execAuditComplete blk s
  -- Fmt
  | .fmtSourcePop src => Sys2Proof.Machine.execFmtSourcePop src s
  | .fmtStreamPush os => Sys2Proof.Machine.execFmtStreamPush os s
  | .fmtDeadline os => Sys2Proof.Machine.execFmtDeadline os s
  | .fmtSourceEnable src value => Sys2Proof.Machine.execFmtSourceEnable src value s
  | .fmtStreamEnable os value => Sys2Proof.Machine.execFmtStreamEnable os value s
  | .fmtStreamDisable os value => Sys2Proof.Machine.execFmtStreamDisable os value s
  | .fmtSourceDisable src value => Sys2Proof.Machine.execFmtSourceDisable src value s
  | .fmtCoefWrite b word value => Sys2Proof.Machine.execFmtCoefWrite b word value s
  -- Dpp
  | .dppSubmit value => Sys2Proof.Machine.execDppSubmit value s
  | .dppBindPop k => Sys2Proof.Machine.execDppBindPop k s
  | .dppJobStart => Sys2Proof.Machine.execDppJobStart s
  | .dppJobComplete => Sys2Proof.Machine.execDppJobComplete s
  | .dppItemPush slot => Sys2Proof.Machine.execDppItemPush slot s
  | .dppSlotAbort slot => Sys2Proof.Machine.execDppSlotAbort slot s
  | .dppDisable => Sys2Proof.Machine.execDppDisable s
  -- Venc
  | .vencPicturePop e ss => Sys2Proof.Machine.execVencPicturePop e ss s
  | .vencPictureStart e ss => Sys2Proof.Machine.execVencPictureStart e ss s
  | .vencRowBoundary e => Sys2Proof.Machine.execVencRowBoundary e s
  | .vencPictureComplete e ss => Sys2Proof.Machine.execVencPictureComplete e ss s
  | .vencDeadline e ss => Sys2Proof.Machine.execVencDeadline e ss s
  | .vencSessionEnable e ss value => Sys2Proof.Machine.execVencSessionEnable e ss value s
  | .vencSessionDisable e ss value => Sys2Proof.Machine.execVencSessionDisable e ss value s
  | .vencCmdTailWrite e value => Sys2Proof.Machine.execVencCmdTailWrite e value s
  | .forceIdr e => Sys2Proof.Machine.execForceIdr e s
  | .markLong e => Sys2Proof.Machine.execMarkLong e s
  | .unmark e => Sys2Proof.Machine.execUnmark e s
  | .holdCmd e => Sys2Proof.Machine.execHoldCmd e s
  | .releaseCmd e => Sys2Proof.Machine.execReleaseCmd e s
  | .setRate e => Sys2Proof.Machine.execSetRate e s
  | .setQp e => Sys2Proof.Machine.execSetQp e s
  | .endSession e => Sys2Proof.Machine.execEndSession e s
  -- Vdec
  | .vdecInputPop ss => Sys2Proof.Machine.execVdecInputPop ss s
  | .vdecPictureStart => Sys2Proof.Machine.execVdecPictureStart s
  | .vdecNalUnit ss nal => Sys2Proof.Machine.execVdecNalUnit ss nal s
  | .vdecBudgetExhausted ss nalBudget => Sys2Proof.Machine.execVdecBudgetExhausted ss nalBudget s
  | .vdecPictureComplete ss => Sys2Proof.Machine.execVdecPictureComplete ss s
  | .vdecOutput ss buf => Sys2Proof.Machine.execVdecOutput ss buf s
  | .vdecDrain ss => Sys2Proof.Machine.execVdecDrain ss s
  | .vdecSessionDisable ss value => Sys2Proof.Machine.execVdecSessionDisable ss value s
  -- Coh
  | .getS cpu line => Sys2Proof.Machine.execGetS cpu line s
  | .getM cpu line lr => Sys2Proof.Machine.execGetM cpu line lr s
  | .upgrade cpu line => Sys2Proof.Machine.execUpgrade cpu line s
  | .putDirty cpu line => Sys2Proof.Machine.execPutDirty cpu line s
  | .syncKeep cpu line => Sys2Proof.Machine.execSyncKeep cpu line s
  | .syncDrop cpu line => Sys2Proof.Machine.execSyncDrop cpu line s
  | .dropLine cpu line => Sys2Proof.Machine.execDropLine cpu line s
  | .cboClean cpu addr => Sys2Proof.Machine.execCboClean cpu addr s
  | .cboFlush cpu addr => Sys2Proof.Machine.execCboFlush cpu addr s
  | .cboInval cpu addr cbie => Sys2Proof.Machine.execCboInval cpu addr cbie s
  | .cpuPoisonAccess cpu addr kind => Sys2Proof.Machine.execCpuPoisonAccess cpu addr kind s
  | .snoopTimeout core line requester kind sent => Sys2Proof.Machine.execSnoopTimeout core line requester kind sent s
  | .cohScrub value => Sys2Proof.Machine.execCohScrub value s
  | .flushAll cpu => Sys2Proof.Machine.execFlushAll cpu s
  | .flushAllDone cpu => Sys2Proof.Machine.execFlushAllDone cpu s
  | .cpuStoreHit cpu addr data => Sys2Proof.Machine.execCpuStoreHit cpu addr data s
  | .cacheLineEviction cpu line => Sys2Proof.Machine.execCacheLineEviction cpu line s
  -- Mem
  | .memInit => Sys2Proof.Machine.execMemInit s
  | .memInitDone => Sys2Proof.Machine.execMemInitDone s
  | .memRead who cls addr ce ue => Sys2Proof.Machine.execMemRead who cls addr ce ue s
  | .memWrite who cls addr data mask poison errs more => Sys2Proof.Machine.execMemWrite who cls addr data mask poison errs more s
  | .memCeWriteback addr => Sys2Proof.Machine.execMemCeWriteback addr s
  | .memStarve slice => Sys2Proof.Machine.execMemStarve slice s
  | .memLineWindow slice => Sys2Proof.Machine.execMemLineWindow slice s
  | .mr4Poll ch rate temp => Sys2Proof.Machine.execMr4Poll ch rate temp s
  | .refreshDue ch bank lineWaiting => Sys2Proof.Machine.execRefreshDue ch bank lineWaiting s
  | .refreshForced ch bank => Sys2Proof.Machine.execRefreshForced ch bank s
  | .retrainDue ch => Sys2Proof.Machine.execRetrainDue ch s
  | .retrainComplete ch ok => Sys2Proof.Machine.execRetrainComplete ch ok s
  | .dramWriteComplete slice => Sys2Proof.Machine.execDramWriteComplete slice s
  -- Pcie
  | .pcieLinkTrain port => Sys2Proof.Machine.execPcieLinkTrain port s
  | .pcieInboundRequest port write bar addr data ep => Sys2Proof.Machine.execPcieInboundRequest port write bar addr data ep s
  | .pcieCompletionTimeout port tag => Sys2Proof.Machine.execPcieCompletionTimeout port tag s
  | .pcieLinkDown port cut => Sys2Proof.Machine.execPcieLinkDown port cut s
  | .pciePerst => Sys2Proof.Machine.execPciePerst s
  | .pcieEpIrq value => Sys2Proof.Machine.execPcieEpIrq value s
  | .msixUnmask v => Sys2Proof.Machine.execMsixUnmask v s
  | .pcieOutboundRequest who addr write => Sys2Proof.Machine.execPcieOutboundRequest who addr write s
  | .pcieCompletionReceived port tag poisoned => Sys2Proof.Machine.execPcieCompletionReceived port tag poisoned s
  | .pcieLinkUp port width speed => Sys2Proof.Machine.execPcieLinkUp port width speed s
  | .pcieInterruptReceived intx v => Sys2Proof.Machine.execPcieInterruptReceived intx v s
  -- Eth
  | .ethTailWrite n q value => Sys2Proof.Machine.execEthTailWrite n q value s
  | .ethTxFrame n => Sys2Proof.Machine.execEthTxFrame n s
  | .ethRxFrame n frame => Sys2Proof.Machine.execEthRxFrame n frame s
  | .mdioGo n value => Sys2Proof.Machine.execMdioGo n value s
  | .ethLinkChange n up speed an => Sys2Proof.Machine.execEthLinkChange n up speed an s
  -- Periph
  | .i3cCommand n value => Sys2Proof.Machine.execI3cCommand n value s
  | .i3cWaitRelease n => Sys2Proof.Machine.execI3cWaitRelease n s
  | .i3cTransferComplete n status count data => Sys2Proof.Machine.execI3cTransferComplete n status count data s
  | .i3cIbi n word => Sys2Proof.Machine.execI3cIbi n word s
  | .i3cAbort n => Sys2Proof.Machine.execI3cAbort n s
  | .i3cRespRead n => Sys2Proof.Machine.execI3cRespRead n s
  | .i3cIbiRead n => Sys2Proof.Machine.execI3cIbiRead n s
  | .uartRxByte n b => Sys2Proof.Machine.execUartRxByte n b s
  | .gpioEdge pin rising => Sys2Proof.Machine.execGpioEdge pin rising s
  | .gpioCapFrameRead k => Sys2Proof.Machine.execGpioCapFrameRead k s
  -- Ill
  | .illBlankEnd ch => Sys2Proof.Machine.execIllBlankEnd ch s
  | .illFastTrip ch => Sys2Proof.Machine.execIllFastTrip ch s
  | .illNormalTrip ch => Sys2Proof.Machine.execIllNormalTrip ch s
  | .illMaxonExpiry ch => Sys2Proof.Machine.execIllMaxonExpiry ch s
  | .illGateUv => Sys2Proof.Machine.execIllGateUv s
  | .illGateUvRecover => Sys2Proof.Machine.execIllGateUvRecover s
  | .illFaultClear ch value => Sys2Proof.Machine.execIllFaultClear ch value s
  | .illChannelDisable ch value => Sys2Proof.Machine.execIllChannelDisable ch value s
  -- Dsv
  | .bootRom a b => Sys2Proof.Machine.execBootRom a b s
  | .supervisorBoot loader sig tagOk => Sys2Proof.Machine.execSupervisorBoot loader sig tagOk s
  | .getInfo page => Sys2Proof.Machine.execGetInfo page s
  | .getDeviceCert page => Sys2Proof.Machine.execGetDeviceCert page s
  | .attest page => Sys2Proof.Machine.execAttest page s
  | .propose page => Sys2Proof.Machine.execPropose page s
  | .endorse page stored => Sys2Proof.Machine.execEndorse page stored s
  | .cancelProposal page => Sys2Proof.Machine.execCancelProposal page s
  | .getProtection page => Sys2Proof.Machine.execGetProtection page s
  | .chainFlush page => Sys2Proof.Machine.execChainFlush page s
  | .getDeviceTag page => Sys2Proof.Machine.execGetDeviceTag page s
  | .setDeviceTag page => Sys2Proof.Machine.execSetDeviceTag page s
  | .flashRead page => Sys2Proof.Machine.execFlashRead page s
  | .flashWrite page => Sys2Proof.Machine.execFlashWrite page s
  | .mailboxMalformed page => Sys2Proof.Machine.execMailboxMalformed page s
  | .endorseLockoutEnd => Sys2Proof.Machine.execEndorseLockoutEnd s
  | .debugLock => Sys2Proof.Machine.execDebugLock s
  | .evidItemPop e => Sys2Proof.Machine.execEvidItemPop e s
  | .segmentTimeout e ss => Sys2Proof.Machine.execSegmentTimeout e ss s
  | .doorbellWhileBusy page => Sys2Proof.Machine.execDoorbellWhileBusy page s
  -- Power
  | .getPower page => Sys2Proof.Machine.execGetPower page s
  | .setPower page => Sys2Proof.Machine.execSetPower page s
  | .getRails page => Sys2Proof.Machine.execGetRails page s
  | .wakeNFall => Sys2Proof.Machine.execWakeNFall s
  | .wakeAlarm => Sys2Proof.Machine.execWakeAlarm s
  | .powerGraceEnd => Sys2Proof.Machine.execPowerGraceEnd s
  | .powerUpStep => Sys2Proof.Machine.execPowerUpStep s
  | .powerDownStep => Sys2Proof.Machine.execPowerDownStep s
  | .pgTimeout rail => Sys2Proof.Machine.execPgTimeout rail s
  | .pgFall rail => Sys2Proof.Machine.execPgFall rail s
  | .hardwareTrip sensor => Sys2Proof.Machine.execHardwareTrip sensor s
  | .refclkLoss => Sys2Proof.Machine.execRefclkLoss s
  | .refclkResume ms => Sys2Proof.Machine.execRefclkResume ms s
  | .powerOnReset => Sys2Proof.Machine.execPowerOnReset s
  | .warmReset => Sys2Proof.Machine.execWarmReset s
  -- Reset
  | .unitResetTc n => Sys2Proof.Machine.execUnitResetTc n s
  | .unitResetCpu n => Sys2Proof.Machine.execUnitResetCpu n s
  | .unitResetSfe => Sys2Proof.Machine.execUnitResetSfe s
  | .unitResetFmt => Sys2Proof.Machine.execUnitResetFmt s
  | .unitResetDpp => Sys2Proof.Machine.execUnitResetDpp s
  | .unitResetVenc e => Sys2Proof.Machine.execUnitResetVenc e s
  | .unitResetVdec => Sys2Proof.Machine.execUnitResetVdec s
  | .unitResetPcie => Sys2Proof.Machine.execUnitResetPcie s
  | .unitResetEth n => Sys2Proof.Machine.execUnitResetEth n s
  | .unitResetI3c => Sys2Proof.Machine.execUnitResetI3c s
  | .unitResetRelease bit => Sys2Proof.Machine.execUnitResetRelease bit s
  -- Clock
  | .tcGate value => Sys2Proof.Machine.execTcGate value s
  | .tcPowerUp n => Sys2Proof.Machine.execTcPowerUp n s
  | .cpuGate value => Sys2Proof.Machine.execCpuGate value s
  | .cpuGateTimeout cpu => Sys2Proof.Machine.execCpuGateTimeout cpu s
  | .wfiEntry cpu => Sys2Proof.Machine.execWfiEntry cpu s
  | .tclkRequest value => Sys2Proof.Machine.execTclkRequest value s
  | .cpuClockRequest value => Sys2Proof.Machine.execCpuClockRequest value s
  | .clockStep cpu => Sys2Proof.Machine.execClockStep cpu s
  | .avsEvaluate cpu monitorMv => Sys2Proof.Machine.execAvsEvaluate cpu monitorMv s
  | .pmbusTransactionDone cpu ok => Sys2Proof.Machine.execPmbusTransactionDone cpu ok s
  | .railSettled cpu => Sys2Proof.Machine.execRailSettled cpu s
  -- Thermal
  | .governorSample g => Sys2Proof.Machine.execGovernorSample g s
  | .thmCalUnplaced => Sys2Proof.Machine.execThmCalUnplaced s
  | .flowWindow pulses => Sys2Proof.Machine.execFlowWindow pulses s
  | .ntcSample inlet outlet => Sys2Proof.Machine.execNtcSample inlet outlet s
  | .pumpStall => Sys2Proof.Machine.execPumpStall s
  | .thmCalDue => Sys2Proof.Machine.execThmCalDue s
  | .thmCalEnd => Sys2Proof.Machine.execThmCalEnd s
  | .getThermal page => Sys2Proof.Machine.execGetThermal page s
  | .getTripLog page => Sys2Proof.Machine.execGetTripLog page s
  -- Errors
  | .errorRecordPost => Sys2Proof.Machine.execErrorRecordPost s
  | .errorRingWrite => Sys2Proof.Machine.execErrorRingWrite s
  | .rateLimitIntervalEnd key => Sys2Proof.Machine.execRateLimitIntervalEnd key s
  | .telemetrySnapshot => Sys2Proof.Machine.execTelemetrySnapshot s
  | .telemetryUnplaced => Sys2Proof.Machine.execTelemetryUnplaced s

end Sys2Proof.Machine
end

