-- ==== Sys2Proof/Safety.lean ====
section
/-! DEFINITION. What counts as a sound state, and what "changes nothing else" means, in the terms that claims use. -/

namespace Sys2Proof.Machine

/-- A sound state: each of its tables is in canonical form (keys rise, and no entry equals what its key reads as unlisted), DRAM
with its poison and its uncorrectable words among them, and the tick of the second lies below one second (R55, R98). -/
def State.wf (s : State) : Prop :=
  twf resetOf s.regs = true ∧ twf (fun _ => 0) s.capture = true ∧ twf (fun _ => {}) s.doms = true ∧
  twf (fun _ => {}) s.pins = true ∧ twf (fun _ => {}) s.cores = true ∧ twf (fun _ => {}) s.ctxs = true ∧
  twf (fun _ => {}) s.ills = true ∧ twf (fun _ => 0) s.mem = true ∧ twf (fun _ => false) s.memPoison = true ∧
  twf (fun _ => false) s.memUe = true ∧ twf (fun _ => 0) s.stats = true ∧ twf (fun _ => 0) s.irqs = true ∧
  s.tod.tick < tickHz

/-- The parts of the state, one for each of its fields. -/
inductive Part where
  | now | regs | capture | tod | doms | pins | sched | coll | pass
  | cores | ctxs | wch | ills | mem | memPoison | memUe | sfe | fmt
  | dpp | venc | vdec | coh | eth | per | dsv | pcie | pwr
  | clk | thm | ms | stats | irqs | resp | fresh | pending
  deriving DecidableEq, Repr

/-- Two states agree in a part. -/
def Part.same : Part → State → State → Prop
  | .now, s, t => t.now = s.now
  | .regs, s, t => t.regs = s.regs
  | .capture, s, t => t.capture = s.capture
  | .tod, s, t => t.tod = s.tod
  | .doms, s, t => t.doms = s.doms
  | .pins, s, t => t.pins = s.pins
  | .sched, s, t => t.sched = s.sched
  | .coll, s, t => t.coll = s.coll
  | .pass, s, t => t.pass = s.pass
  | .cores, s, t => t.cores = s.cores
  | .ctxs, s, t => t.ctxs = s.ctxs
  | .wch, s, t => t.wch = s.wch
  | .ills, s, t => t.ills = s.ills
  | .mem, s, t => t.mem = s.mem
  | .memPoison, s, t => t.memPoison = s.memPoison
  | .memUe, s, t => t.memUe = s.memUe
  | .sfe, s, t => t.sfe = s.sfe
  | .fmt, s, t => t.fmt = s.fmt
  | .dpp, s, t => t.dpp = s.dpp
  | .venc, s, t => t.venc = s.venc
  | .vdec, s, t => t.vdec = s.vdec
  | .coh, s, t => t.coh = s.coh
  | .eth, s, t => t.eth = s.eth
  | .per, s, t => t.per = s.per
  | .dsv, s, t => t.dsv = s.dsv
  | .pcie, s, t => t.pcie = s.pcie
  | .pwr, s, t => t.pwr = s.pwr
  | .clk, s, t => t.clk = s.clk
  | .thm, s, t => t.thm = s.thm
  | .ms, s, t => t.ms = s.ms
  | .stats, s, t => t.stats = s.stats
  | .irqs, s, t => t.irqs = s.irqs
  | .resp, s, t => t.resp = s.resp
  | .fresh, s, t => t.fresh = s.fresh
  | .pending, s, t => t.pending = s.pending

/-- `t` differs from `s` in the listed parts at most. -/
def ChangesOnly (l : List Part) (s t : State) : Prop := ∀ p, p ∉ l → p.same s t

/-- The tick at which schedule entry `n` fires: the one on which its domain reaches its position (R28, R56, R65). -/
def State.entTick (s : State) (n : Nat) : Nat := (s.dom (s.ent n).dom).reachTick (s.ent n).pos

/-- Entry `n` is armed with action `code`, selects the present frame and has not fired in it, its domain runs and comes to its
position, and fewer entries of its kind went before it on its tick than one tick handles (R28, R56, R71, R73, R86). -/
def State.entDue (s : State) (n code : Nat) : Prop :=
  n < 512 ∧ s.entLive n = true ∧ (s.ent n).action = code ∧ (s.schedDelay (s.entTick n) (pinAction code)).1 = 0 ∧
  ((s.dom (s.ent n).dom).slaved = false → (s.ent n).line = (s.dom (s.ent n).dom).line) ∧
  ((s.dom (s.ent n).dom).slaved = true → (s.ent n).pos ≤ s.pub (s.ent n).dom ∨ (s.dom (s.ent n).dom).per ≠ 0)

/-- Address `a` is an aligned word of a block's span whose power domain is on and whose unit is not held in reset (R871-R873, R878). -/
def State.up (s : State) (a : Nat) : Prop :=
  a % 4 = 0 ∧ inRegs a = true ∧ inSpan a = true ∧ s.domainOn a = true ∧
  ∀ b, resetBitOf a = some b → tget (fun _ => none) s.pwr.held b = none

/-- A push of `who` to queue `q` with handle `h` succeeds (R390, R392, R400, R404): the handle is a placeholder's, or a fresh one of a
buffer that is held; the queue is enabled and not flushing; no bump stops it; a credit is there for `who`. -/
def State.pushReady (s : State) (who q : Nat) (h : Word) : Prop :=
  (hdPool h ≠ 63 → s.fresh? h = true ∧ (∃ w, (s.pool (hdPool h)).state (hdIdx h) = .held w) ∧ s.bumping (hdPool h) = false) ∧
  s.pqOn q = true ∧ (s.queue q).flushing = false ∧ turnOf (s.queue q).pushWait who (s.queue q).credits = true

/-- Every slot of core `n` numbered `id` has issued and retired. -/
def State.retiredIn (s : State) (n id : Nat) : Prop := ∀ e, e ∈ (s.core n).slots → e.id = id → e.issued = true ∧ e.retired = true

/-- Operation `id` of core `n` is in flight on its unit: issued, not retired, neither aborted nor waiting for its queue or its job (R157). -/
def State.inFlight (s : State) (n id : Nat) : Prop :=
  ∃ e, e ∈ (s.core n).slots ∧ e.id = id ∧ e.issued = true ∧ e.retired = false ∧ e.bad = none ∧ e.waits = false

/-- Operation `id` of core `n` is in flight with the scalar writes `l` to do at its retirement (R243). -/
def State.flightWrites (s : State) (n id : Nat) (l : List (Nat × Word)) : Prop :=
  ∃ e, e ∈ (s.core n).slots ∧ e.id = id ∧ e.issued = true ∧ e.retired = false ∧ e.bad = none ∧ e.waits = false ∧ e.writes = l

/-- An entry of the window as its dispatch, or STOP, left it (R156, R184): nothing of the instruction has begun. -/
def Slot.fresh (e : Slot) : Prop :=
  e.unit = opUnit e.op ∧ e.retired = false ∧ e.waits = false ∧ e.bad = none ∧ e.found = none ∧ e.aborts = 0 ∧ e.pend = [] ∧ e.sent = [] ∧
  e.outw = [] ∧ e.nOut = 0 ∧ e.writes = []

/-- The instruction that a row names issues from entry `sl` (R148-R151, R192), which is fresh; no earlier STORE of the core waits for
an entry of the store unit (R273), so that nothing but this instruction reaches memory with it. -/
def State.issues (s : State) (n m op : Nat) (w : Insn) (sl : Slot) : Prop :=
  s.issueAt n m op w = some sl ∧ sl.fresh ∧ ∀ e, e ∈ (s.core n).slots → e.outw = []

/-- Core `d` holds in its scratchpad, accumulator and trays the bytes, and their sectors the poison, that `c` holds. -/
def Core.sameData (c d : Core) : Prop := ∀ sp a, d.sbyte sp a = c.sbyte sp a ∧ d.spois sp a = c.spois sp a

/-- The checks an array, vector or pooling instruction makes of its own operands (R231, R232, R236-R242, R332, R334, R353, R356). -/
def vecChecks (op : Nat) (w : Insn) (a b d : Desc) : List (Option Nat) :=
  let space := fun (ok : Bool) => if ok then none else some 10
  match op with
  | 0x20 | 0x21 | 0x22 => arrayOwn op w a b d
  | 0x30 => vopErr w a b d
  | 0x31 => [space (spmTray a.space && spmTray d.space), actErr (mo w 83 80) a d]
  | 0x32 => reqErr w a b d
  | 0x33 => [space (onChip a.space && onChip d.space),
             if d.ext == lset a.ext (mo w 83 82) 1 && a.dtype != 2 && d.dtype != 2 then none else some 11]
  | 0x34 => [space (onChip a.space && onChip d.space), shufErr w a d]
  | _ => poolErr w a d

/-- The result of an array, vector or pooling instruction: its writes and the sectors it excluded. -/
def State.vecRun (op : Nat) (w : Insn) (n m : Nat) (s : State) : VRes :=
  match op with
  | 0x20 | 0x21 | 0x22 => State.arrayRes op w n m s
  | 0x30 => State.vopRun w n m s | 0x31 => State.actRun w n m s | 0x32 => State.reqRun w n m s | 0x33 => State.reduceRun w n m s
  | 0x34 => State.shufRun w n m s | 0x38 => State.poolRun false w n m s
  | _ => State.poolRun true w n m s

/-- Context `m` of core `n` has halted with code `c` (R185). -/
def State.haltedWith (s : State) (n m : Nat) (c : Code) : Prop :=
  (s.ctx (4 * n + m)).state = .halted ∧ s.reg (Addr.tcCxErr n m) = w32 c.num

/-- Context `m` of core `n`, a context that exists. -/
def isCx (n m : Nat) : Prop := n < 8 ∧ m < 4

/-- Command `c` answers a next state at `s`, and `P` holds of it. -/
def Gives (c : Instr) (s : State) (P : State → Prop) : Prop := ∃ t, exec c s = .next t ∧ P t

/-- STATUS of the response in a page's buffer (R759). -/
def State.mailStatus (s : State) (p : Page) : Word := s.reg (Addr.dsvRespbuf (pageNum p) + 8)

/-- Word `i` of the payload of the response in a page's buffer (R759). -/
def State.mailWord (s : State) (p : Page) (i : Nat) : Word := s.reg (Addr.dsvRespbuf (pageNum p) + 16 + 4 * i)

/-- The command served next stands in page `p`, has CMD `cmd`, the payload length `n` and zero in bytes 8-15 (R759-R761). -/
def State.mailIs (s : State) (p : Page) (cmd n : Nat) : Prop :=
  s.serving p cmd = true ∧ s.cmdWord p 2 = 0 ∧ s.cmdWord p 3 = 0 ∧ fld (s.cmdWord p 0) 31 16 = n

/-- At `t` the command that stood in page `p` at `s` is answered: CMD, length and TAG echoed, STATUS `st`, RESP_READY alone set, the page no
longer waiting (R759, R760). -/
def State.answers (s t : State) (p : Page) (st : Nat) : Prop :=
  t.reg (Addr.dsvRespbuf (pageNum p)) = s.cmdWord p 0 ∧ t.reg (Addr.dsvRespbuf (pageNum p) + 4) = s.cmdWord p 1 ∧ t.mailStatus p = w32 st ∧
  t.rf (Addr.dsvMbstatus (pageNum p)) 31 29 = 1 ∧ t.dsv.order = s.dsv.order.filter (· != p)

/-- The parts of the state that a command may change. -/
def touches : Instr → List Part
  | .registerWrite _ _ _ _
    => [.now, .regs, .tod, .doms, .pins, .sched, .coll, .pass, .cores, .ctxs, .wch, .ills, .mem, .memPoison, .memUe, .sfe, .fmt, .dpp, .venc,
        .vdec, .coh, .eth, .per, .dsv, .pcie, .pwr, .ms, .stats, .irqs, .resp, .fresh]
  | .multiwordCaptureRead _ _ => [.now, .regs, .capture, .tod, .coll, .coh, .per, .pwr, .resp, .fresh]
  | .lineBoundary _ => [.now, .regs, .tod, .doms, .pins, .sched, .coll, .cores, .ctxs, .ills]
  | .domainStart _ | .predictedFrameStart _ => [.now, .regs, .tod, .doms, .pins, .sched, .coll]
  | .domainEnable _ _ | .domainDisable _ _ | .lptEnable | .lptDisable => [.regs, .doms, .pins, .coll, .cores, .ctxs, .ills]
  | .fsWindowEnd _ => [.now, .regs, .tod, .doms, .pins, .coll, .cores, .ctxs, .ills, .stats]
  | .frameStart _ _ _ | .countedLine _ => [.now, .regs, .tod, .doms, .pins, .sched, .coll, .pass, .cores, .ctxs, .ills, .sfe, .fmt, .stats, .irqs]
  | .frameEndPacket _ _ _ | .uncorrectableHeader _ => [.regs, .coll, .pass, .sfe, .stats]
  | .embeddedDataPacket _ _ _ _ _ | .unmatchedPacket _ _ _ _ => [.regs, .coll, .sfe]
  | .genericShortPacket _ _ _ _ => [.regs, .coll, .sfe, .stats]
  | .deskewCalibration _ _ _ | .ethLinkChange _ _ _ _ | .illGateUvRecover | .clockStep _ => [.regs]
  | .ulpsEntryExit _ _ _ => [.regs, .sfe]
  | .groupFsBoundExpiry _ => [.now, .regs, .tod, .coll, .pass, .sfe, .stats]
  | .conditioningBurst => [.regs, .coll, .pass, .mem, .memPoison, .memUe, .sfe, .ms, .stats]
  | .stripePush _ => [.coll, .pass, .sfe, .irqs]
  | .statsPush _ => [.regs, .coll, .pass, .mem, .memPoison, .memUe, .sfe, .ms, .stats, .irqs]
  | .sfeCtxEnable _ _ => [.regs, .coll, .pass, .sfe]
  | .schedNone _ | .fsyncSet _ | .fsyncClr _ | .illOn _ | .illOff _ | .ctxWake _ | .fmtStart _ | .vencSlice _ | .irq _ | .maintOpen _ | .maintClose _
    => [.now, .regs, .tod, .doms, .pins, .sched, .coll, .cores, .ctxs, .ills, .fmt, .irqs]
  | .fsyncTrimEdge _ | .fsyncAutoPulseEnd _ => [.now, .tod, .pins]
  | .fsyncDomainWrite _ _ => [.regs, .pins, .coll]
  | .schedEntryWrite _ _ _ | .schedCommit => [.regs, .sched, .coll]
  | .maintJobGrant => [.regs, .sched, .coll, .mem, .memPoison, .memUe, .thm, .ms, .stats]
  | .retrainForce | .memAudit => [.regs, .coll, .ms]
  | .todStepGo | .todSrcWrite _ | .ppsInEdge => [.regs, .tod, .coll, .mem, .memPoison, .memUe, .dsv, .ms, .stats, .fresh]
  | .ppsMiss => [.regs, .tod]
  | .ppsOutRise | .ppsOutFall => [.now, .tod]
  | .goCtx _ _ => [.regs, .coll, .ctxs, .ms, .stats, .fresh]
  | .stopCtx _ _ => [.coll, .pass, .cores, .ctxs, .wch]
  | .contextStopped _ _ | .nopI _ _ _ | .yieldI _ _ _ | .fenceI _ _ _ | .depmarkI _ _ _ | .waitlineI _ _ _ | .waitlineSetpfx _ _ _
  | .waitlineRelease _ _ => [.cores, .ctxs]
  | .resumeCtx _ _ => [.regs, .coll, .pass, .cores, .ctxs, .mem, .memPoison, .memUe, .ms, .stats, .irqs, .fresh]
  | .resetCtx _ _ | .haltI _ _ _ | .barrierI _ _ _ | .drainI _ _ _ | .nestImpliedSync _ _ | .deadlineI _ _ _ | .signalI _ _ _ | .loopI _ _ _
  | .endloopI _ _ _ | .jumpI _ _ _ | .brzI _ _ _ | .brnzI _ _ _ | .bucketI _ _ _ => [.regs, .coll, .pass, .cores, .ctxs]
  | .haltReq _ => [.regs, .pass, .cores, .ctxs, .wch]
  | .haltReqClear _ | .spmPowerupInitDone _ => [.regs, .cores]
  | .instructionFetch _ _ => [.regs, .coll, .pass, .cores, .ctxs, .ms, .stats, .fresh]
  | .yieldTimeout _ _ => [.ctxs]
  | .deadlineMiss _ _ => [.regs, .coll, .ctxs]
  | .loadI _ _ _ | .storeI _ _ _ | .copyI _ _ _ | .fillI _ _ _ | .mmulI _ _ _ | .convI _ _ _ | .dwconvI _ _ _ | .vopI _ _ _ | .actI _ _ _
  | .reqI _ _ _ | .reduceI _ _ _ | .shufI _ _ _ | .poolmaxI _ _ _ | .poolavgI _ _ _ | .hallocI _ _ _ | .hrelI _ _ _
    => [.regs, .coll, .pass, .cores, .ctxs, .mem, .memPoison, .memUe, .ms, .stats]
  | .loadDataReturn _ _ _ => [.regs, .coll, .cores, .ms, .stats, .fresh]
  | .loadwI _ _ _ | .operationRetire _ _ => [.regs, .coll, .pass, .cores, .ctxs, .wch, .mem, .memPoison, .memUe, .ms, .stats]
  | .cx0PreemptStart _ _ => [.cores]
  | .pqpopI _ _ _ => [.regs, .coll, .pass, .cores, .ctxs, .mem, .memPoison, .memUe, .ms, .stats, .fresh]
  | .pqpushI _ _ _ => [.regs, .coll, .pass, .cores, .ctxs, .mem, .memPoison, .memUe, .ms, .stats, .irqs]
  | .detsubI _ _ _ => [.regs, .coll, .cores, .ctxs, .mem, .memPoison, .memUe, .dpp, .ms, .stats]
  | .detwaitI _ _ _ => [.regs, .coll, .cores, .ctxs, .mem, .memPoison, .memUe, .ms, .stats]
  | .contextWakePass _ _ => [.regs, .coll, .pass, .cores, .ctxs, .irqs, .fresh]
  | .setsI _ _ _ | .addsI _ _ _ => [.regs, .cores, .ctxs]
  | .parityError _ _ _ | .wchPacketHop _ _ => [.regs, .coll, .cores, .ctxs, .wch, .mem, .memPoison, .memUe, .ms, .stats]
  | .parityReplayReissue _ _ => [.regs, .coll, .cores, .ctxs, .mem, .memPoison, .memUe, .ms, .stats, .fresh]
  | .accParityError _ _ _ | .spmInit _ => [.regs, .coll, .cores]
  | .debugWindowRead _ _ _ => [.now, .regs, .tod, .coll, .pwr, .resp, .fresh]
  | .debugWindowWrite _ _ _ => [.now, .regs, .tod, .coll, .cores, .pwr, .resp, .fresh]
  | .spmResValidWrite _ _ _ | .acttabWrite _ _ _ _ | .passCtrlWrite _ | .fmtCoefWrite _ _ _ | .ethTailWrite _ _ _ | .tclkRequest _
  | .cpuClockRequest _ | .pumpStall | .errorRecordPost => [.regs, .coll]
  | .wchGroupFetch _ _ | .wchBypassSwitch _ => [.regs, .coll, .cores, .ctxs, .wch, .mem, .memPoison, .memUe, .ms, .stats, .fresh]
  | .wchMatchTimeout _ _ => [.coll, .wch]
  | .wchSplitWrite _ | .wchAudit => [.regs, .coll, .wch]
  | .pqEnable _ _ | .pqDisable _ _ | .pqFlushComplete _ | .poolRevoke _ _ _ | .swAlloc _ _ | .swRelease _ _ | .passAudit => [.regs, .coll, .pass]
  | .pqFlush _ => [.coll, .pass]
  | .poolBumpComplete _ => [.pass]
  | .swPop _ _ => [.regs, .coll, .pass, .fresh]
  | .swPush _ _ _ => [.regs, .coll, .pass, .irqs]
  | .auditComplete _ => [.regs, .coll, .pass, .wch, .ms]
  | .fmtSourcePop _ => [.regs, .coll, .pass, .mem, .memPoison, .memUe, .fmt, .ms, .stats, .fresh]
  | .fmtStreamPush _ => [.regs, .pass, .fmt, .stats, .irqs]
  | .fmtDeadline _ => [.coll, .fmt, .stats]
  | .fmtSourceEnable _ _ | .fmtSourceDisable _ _ => [.regs, .coll, .pass, .fmt]
  | .fmtStreamEnable _ _ | .fmtStreamDisable _ _ => [.regs, .coll, .pass, .fmt, .stats, .irqs]
  | .dppSubmit _ => [.regs, .dpp]
  | .dppBindPop _ => [.regs, .coll, .pass, .dpp]
  | .dppJobStart => [.regs, .coll, .pass, .mem, .memPoison, .memUe, .dpp, .ms, .stats, .fresh]
  | .dppJobComplete => [.regs, .cores, .ctxs, .dpp]
  | .dppItemPush _ => [.coll, .pass, .dpp, .irqs]
  | .dppSlotAbort _ | .dppDisable => [.regs, .coll, .pass, .cores, .ctxs, .dpp]
  | .vencPicturePop _ _ => [.coll, .pass, .venc]
  | .vencPictureStart _ _ => [.regs, .coll, .pass, .mem, .memPoison, .memUe, .venc, .ms, .stats]
  | .vencRowBoundary _ | .forceIdr _ | .markLong _ | .unmark _ | .holdCmd _ | .releaseCmd _
    => [.regs, .coll, .mem, .memPoison, .memUe, .venc, .ms, .stats, .fresh]
  | .vencPictureComplete _ _ | .endSession _ => [.regs, .coll, .pass, .mem, .memPoison, .memUe, .venc, .ms, .stats, .irqs, .fresh]
  | .vencDeadline _ _ => [.coll, .venc]
  | .vencSessionEnable _ _ _ | .vencSessionDisable _ _ _ => [.regs, .coll, .pass, .venc]
  | .vencCmdTailWrite _ _ | .setRate _ | .setQp _ => [.regs, .coll, .mem, .memPoison, .memUe, .ms, .stats, .fresh]
  | .vdecInputPop _ => [.regs, .coll, .pass, .vdec, .ms, .stats, .fresh]
  | .vdecPictureStart => [.vdec]
  | .vdecNalUnit _ _ | .vdecPictureComplete _ | .vdecOutput _ _ | .vdecDrain _ | .vdecSessionDisable _ _
    => [.regs, .coll, .pass, .mem, .memPoison, .memUe, .vdec, .ms, .stats, .irqs, .fresh]
  | .vdecBudgetExhausted _ _ => [.regs, .coll, .pass, .vdec, .irqs]
  | .getS _ _ | .getM _ _ _ | .upgrade _ _ => [.regs, .coll, .coh, .ms, .stats, .resp, .fresh]
  | .putDirty _ _ | .cohScrub _ | .flushAllDone _ => [.regs, .coll, .mem, .memPoison, .memUe, .coh, .ms, .stats]
  | .syncKeep _ _ | .syncDrop _ _ | .cboClean _ _ | .cboFlush _ _ | .cboInval _ _ _
    => [.regs, .coll, .mem, .memPoison, .memUe, .coh, .ms, .stats, .resp, .fresh]
  | .dropLine _ _ => [.regs, .coll, .coh, .resp, .fresh]
  | .cpuPoisonAccess _ _ _ => [.regs, .coll, .coh, .resp]
  | .snoopTimeout _ _ _ _ _ => [.regs, .coll, .mem, .memPoison, .memUe, .coh, .ms, .stats, .fresh]
  | .flushAll _ | .cpuGateTimeout _ => [.regs, .coll, .coh]
  | .cpuStoreHit _ _ _ => [.coll, .coh, .resp, .fresh]
  | .cacheLineEviction _ _ => [.coh]
  | .memInit => [.coll, .ms]
  | .memInitDone => [.regs, .mem, .memPoison, .memUe, .ms]
  | .memRead _ _ _ _ _ => [.regs, .coll, .memUe, .ms, .stats, .resp, .fresh]
  | .memWrite _ _ _ _ _ _ _ _ => [.regs, .coll, .mem, .memPoison, .memUe, .ms, .stats, .resp, .fresh]
  | .memCeWriteback _ | .memStarve _ => [.ms]
  | .memLineWindow _ | .dramWriteComplete _ => [.regs, .ms, .stats]
  | .mr4Poll _ _ _ | .refreshDue _ _ _ | .refreshForced _ _ | .retrainDue _ => [.regs, .ms]
  | .retrainComplete _ _ => [.regs, .coll, .memUe, .ms, .stats, .resp]
  | .pcieLinkTrain _ => [.pcie]
  | .pcieInboundRequest _ _ _ _ _ _
    => [.now, .regs, .capture, .tod, .doms, .pins, .sched, .coll, .pass, .cores, .ctxs, .wch, .ills, .mem, .memPoison, .memUe, .sfe, .fmt, .dpp,
        .venc, .vdec, .coh, .eth, .per, .dsv, .pcie, .pwr, .ms, .stats, .irqs, .resp, .fresh]
  | .pcieCompletionTimeout _ _ => [.coll, .pcie, .resp]
  | .pcieLinkDown _ _ | .pciePerst => [.regs, .coll, .memPoison, .memUe, .pcie, .ms, .stats, .resp]
  | .pcieEpIrq _ => [.regs, .coll, .pcie, .irqs]
  | .msixUnmask _ => [.pcie, .irqs]
  | .pcieOutboundRequest _ _ _ => [.regs, .coll, .pcie, .resp, .fresh]
  | .pcieCompletionReceived _ _ _ => [.pcie, .resp, .fresh]
  | .pcieLinkUp _ _ _ => [.regs, .pcie]
  | .pcieInterruptReceived _ _ => [.regs, .irqs]
  | .ethTxFrame _ | .ethRxFrame _ _ => [.regs, .coll, .mem, .memPoison, .memUe, .eth, .ms, .stats, .fresh]
  | .mdioGo _ _ => [.regs, .coll, .fresh]
  | .i3cCommand _ _ | .i3cTransferComplete _ _ _ _ | .uartRxByte _ _ => [.regs, .coll, .per]
  | .i3cWaitRelease _ | .i3cIbi _ _ => [.regs, .per]
  | .i3cAbort _ => [.regs, .per, .fresh]
  | .i3cRespRead _ | .i3cIbiRead _ => [.regs, .per, .resp]
  | .gpioEdge _ _ => [.regs, .coll, .irqs]
  | .gpioCapFrameRead _ => [.regs, .resp]
  | .illBlankEnd _ => [.now, .tod, .ills]
  | .illFastTrip _ | .illNormalTrip _ | .illGateUv | .illFaultClear _ _ | .illChannelDisable _ _ => [.regs, .coll, .ills]
  | .illMaxonExpiry _ => [.now, .tod, .coll, .ills]
  | .bootRom _ _ => [.regs, .coll, .per, .dsv, .pwr, .irqs]
  | .supervisorBoot _ _ _ | .debugLock | .segmentTimeout _ _ => [.regs, .coll, .mem, .memPoison, .memUe, .dsv, .ms, .stats, .fresh]
  | .getInfo _ | .getDeviceCert _ | .cancelProposal _ | .getProtection _ | .getDeviceTag _ | .setDeviceTag _ | .flashRead _ | .flashWrite _
  | .mailboxMalformed _ | .doorbellWhileBusy _ | .getPower _ | .getThermal _ | .getTripLog _ => [.regs, .dsv, .pcie, .irqs]
  | .attest _ | .propose _ | .getRails _ => [.regs, .dsv, .pcie, .irqs, .fresh]
  | .endorse _ _ | .chainFlush _ => [.regs, .coll, .mem, .memPoison, .memUe, .dsv, .pcie, .ms, .stats, .irqs, .fresh]
  | .endorseLockoutEnd => [.dsv]
  | .evidItemPop _ => [.regs, .coll, .pass, .mem, .memPoison, .memUe, .dsv, .ms, .stats, .irqs, .fresh]
  | .setPower _ => [.regs, .dsv, .pcie, .pwr, .irqs]
  | .wakeNFall | .wakeAlarm => [.regs, .pwr, .irqs]
  | .powerGraceEnd => [.regs, .coll, .mem, .memPoison, .memUe, .dsv, .pwr, .ms, .stats, .fresh]
  | .powerUpStep
    => [.regs, .tod, .doms, .pins, .sched, .pass, .cores, .ctxs, .wch, .ills, .sfe, .fmt, .dpp, .venc, .vdec, .coh, .eth, .per, .dsv, .pcie,
        .pwr, .clk, .thm, .ms, .stats]
  | .powerDownStep
    => [.regs, .tod, .doms, .pins, .sched, .pass, .cores, .ctxs, .wch, .ills, .mem, .memPoison, .memUe, .sfe, .fmt, .dpp, .venc, .vdec, .coh,
        .eth, .per, .dsv, .pcie, .pwr, .clk, .ms, .stats]
  | .pgTimeout _ => [.regs, .coll, .pwr]
  | .pgFall _ | .refclkLoss
    => [.regs, .tod, .doms, .pins, .sched, .coll, .pass, .cores, .ctxs, .wch, .ills, .mem, .memPoison, .memUe, .sfe, .fmt, .dpp, .venc, .vdec,
        .coh, .eth, .per, .dsv, .pcie, .pwr, .clk, .ms, .stats]
  | .hardwareTrip _
    => [.regs, .tod, .doms, .pins, .sched, .coll, .pass, .cores, .ctxs, .wch, .ills, .mem, .memPoison, .memUe, .sfe, .fmt, .dpp, .venc, .vdec,
        .coh, .eth, .per, .dsv, .pcie, .pwr, .clk, .thm, .ms, .stats]
  | .refclkResume _ => [.regs, .tod, .coll, .mem, .memPoison, .memUe, .dsv, .pwr, .ms, .stats, .fresh]
  | .powerOnReset
    => [.now, .regs, .capture, .tod, .doms, .pins, .sched, .coll, .pass, .cores, .ctxs, .wch, .ills, .mem, .memPoison, .memUe, .sfe, .fmt, .dpp,
        .venc, .vdec, .coh, .eth, .per, .dsv, .pcie, .pwr, .clk, .thm, .ms, .stats, .irqs, .resp]
  | .warmReset
    => [.regs, .tod, .doms, .pins, .sched, .pass, .cores, .ctxs, .wch, .ills, .sfe, .fmt, .dpp, .venc, .vdec, .coh, .eth, .per, .dsv, .pcie,
        .pwr, .ms, .stats]
  | .unitResetTc _ => [.regs, .coll, .pass, .cores, .ctxs, .wch, .memPoison, .memUe, .pwr, .ms, .stats, .resp]
  | .unitResetCpu _ | .cpuGate _ => [.regs, .coll, .memPoison, .memUe, .coh, .pwr, .ms, .stats, .resp]
  | .unitResetSfe => [.regs, .coll, .pass, .memPoison, .memUe, .sfe, .pwr, .ms, .stats, .resp]
  | .unitResetFmt => [.regs, .coll, .pass, .memPoison, .memUe, .fmt, .pwr, .ms, .stats, .resp]
  | .unitResetDpp => [.regs, .coll, .pass, .cores, .ctxs, .memPoison, .memUe, .dpp, .pwr, .ms, .stats, .resp]
  | .unitResetVenc _ => [.regs, .coll, .pass, .memPoison, .memUe, .venc, .pwr, .ms, .stats, .resp]
  | .unitResetVdec => [.regs, .coll, .pass, .memPoison, .memUe, .vdec, .pwr, .ms, .stats, .resp]
  | .unitResetPcie => [.regs, .coll, .memPoison, .memUe, .pcie, .pwr, .ms, .stats, .resp]
  | .unitResetEth _ => [.regs, .coll, .memPoison, .memUe, .eth, .pwr, .ms, .stats, .resp]
  | .unitResetI3c => [.regs, .coll, .per, .pwr, .fresh]
  | .unitResetRelease _ => [.regs, .pwr]
  | .tcGate _ | .tcPowerUp _ => [.regs, .coll, .pass, .cores, .ctxs, .wch]
  | .wfiEntry _ => [.regs, .coll, .memPoison, .memUe, .coh, .ms, .stats, .resp]
  | .avsEvaluate _ _ => [.regs, .clk]
  | .pmbusTransactionDone _ _ => [.coll, .clk]
  | .railSettled _ => [.clk]
  | .governorSample _ => [.regs, .coll, .pwr, .thm, .irqs]
  | .thmCalUnplaced | .thmCalDue | .thmCalEnd => [.thm]
  | .flowWindow _ | .ntcSample _ _ => [.regs, .coll, .thm]
  | .errorRingWrite => [.regs, .coll, .mem, .memPoison, .memUe, .pcie, .ms, .stats, .irqs]
  | .rateLimitIntervalEnd _ => [.coll]
  | .telemetrySnapshot => [.regs, .coll, .pass, .mem, .memPoison, .memUe, .ms, .stats, .fresh]
  | .telemetryUnplaced => [.regs, .coll, .mem, .memPoison, .memUe, .ms, .stats]

end Sys2Proof.Machine
end

