-- ==== Sys2Proof/Certificates/Slice0/Obligations.lean ====
section
/-! DEFINITION. What is claimed of the device: one proposition for each claim, with the rules it rests on. -/

open Sys2Proof Sys2Proof.Machine

/-! ## Line timebase -/

/-- R58. A running master domain counts on to the next line, on the first tick at or after its exact start; after line N - 1, N
its frame length in force, it begins line 0 of the next frame number. No other domain changes when the line advances. -/
def Obligations.MasterDomainCountsLines : Prop :=
  ∀ (d : Nat) (s : State), d < 8 → (s.dom d).running = true → (s.dom d).slaved = false →
    ((s.dom d).line < (s.dom d).flenM1 →
      Gives (.lineBoundary d) s fun t =>
        (t.dom d).running = true ∧ (t.dom d).line = (s.dom d).line + 1 ∧ (t.dom d).frame = (s.dom d).frame ∧
        t.now = max s.now ((s.dom d).posTick (((s.dom d).line + 1) * 256)) ∧ (t.dom d).lineAt = (s.dom d).lineStart ((s.dom d).line + 1) ∧
        (∀ e, e ≠ d → t.dom e = s.dom e) ∧ ChangesOnly [.now, .tod, .doms] s t) ∧
    ((s.dom d).flenM1 ≤ (s.dom d).line → s.reg (Addr.lptLdPeriod d) ≠ 0 →
      Gives (.lineBoundary d) s fun t =>
        (t.dom d).running = true ∧ (t.dom d).line = 0 ∧ (t.dom d).frame = ((s.dom d).frame + 1) % 2 ^ 32 ∧
        t.now = max s.now ((s.dom d).posTick (((s.dom d).flenM1 + 1) * 256)) ∧
        (∀ e, e ≠ d → t.dom e = s.dom e) ∧ ChangesOnly [.now, .tod, .regs, .doms, .pins, .sched, .coll] s t)

/-- R60. Writing zero to the period of a running master domain changes nothing of the frame in progress; when that frame completes
the domain stops with its frame number held at line N - 1, sub-position 255; a restart begins line 0 of the next frame number. -/
def Obligations.PeriodZeroStopsAtFrameEnd : Prop :=
  ∀ (d : Nat) (s : State), d < 8 →
    ((s.dom d).running = true → (s.ldPeriodWrite d 0).reg (Addr.lptLdPeriod d) = 0 ∧ (s.ldPeriodWrite d 0).dom d = s.dom d) ∧
    ((s.dom d).running = true → (s.dom d).slaved = false → (s.dom d).flenM1 ≤ (s.dom d).line → s.reg (Addr.lptLdPeriod d) = 0 →
      Gives (.lineBoundary d) s fun t =>
        (t.dom d).running = false ∧ (t.dom d).frame = (s.dom d).frame ∧ (t.dom d).issued = (s.dom d).issued ∧
        t.pub d = (s.dom d).flenM1 * 256 + 255) ∧
    (∀ at_, (s.dom d).running = false → (s.dom d).issued = true → (s.dom d).arming = some at_ →
      Gives (.domainStart d) s fun t =>
        (t.dom d).running = true ∧ (t.dom d).line = 0 ∧ (t.dom d).frame = ((s.dom d).frame + 1) % 2 ^ 32)

/-- Starting and stopping domains (R61, R95, R96, R99). A write of EN 1 that completes the four conditions of a master domain arms it
for the next tick, of a slaved one makes it wait; a domain armed starts at line 0, of frame 0 when it has issued none; clearing EN
stops a running domain at its present position with its frame number held; setting LPT_CTRL.EN arms every stopped domain whose own
conditions hold; clearing it stops every domain and leaves every pin inactive with no edge pending. -/
def Obligations.DomainsStartAndStop : Prop :=
  (∀ (d : Nat) (v : Word) (s : State), d < 8 → (s.dom d).running = false → bit v 31 = true → s.rb (Addr.lptLdCtrl d) 31 = false →
    fld v 30 29 = 0 → fld v 30 29 = s.rf (Addr.lptLdCtrl d) 30 29 → s.rb Addr.lptCtrl 0 = true →
    s.reg (Addr.lptLdPeriod d) ≠ 0 → s.ldFlen d ≠ 0 → (s.dom d).arming = none →
    Gives (.domainEnable d v) s fun t =>
      (t.dom d).running = false ∧ (t.dom d).arming = some (s.now + 1) ∧
      ChangesOnly [.regs, .doms, .pins, .coll, .cores, .ctxs, .ills] s t) ∧
  (∀ (d : Nat) (v : Word) (s : State), d < 8 → (s.dom d).running = false → bit v 31 = true → s.rb (Addr.lptLdCtrl d) 31 = false →
    fld v 30 29 = 1 → fld v 30 29 = s.rf (Addr.lptLdCtrl d) 30 29 → s.rb Addr.lptCtrl 0 = true → s.ldFlen d ≠ 0 →
    Gives (.domainEnable d v) s fun t => (t.dom d).running = false ∧ (t.dom d).waiting = true ∧ (t.dom d).arming = none) ∧
  (∀ (d at_ : Nat) (s : State), d < 8 → (s.dom d).running = false → (s.dom d).arming = some at_ →
    Gives (.domainStart d) s fun t =>
      t.now = max s.now at_ ∧ (t.dom d).running = true ∧ (t.dom d).line = 0 ∧ (t.dom d).issued = true ∧
      (t.dom d).frame = (if (s.dom d).issued then (s.dom d).frame + 1 else 0) % 2 ^ 32 ∧
      (∀ e, e ≠ d → t.dom e = s.dom e)) ∧
  (∀ (d : Nat) (v : Word) (s : State), d < 8 → (s.dom d).running = true → bit v 31 = false → s.rb (Addr.lptLdCtrl d) 31 = true →
    Gives (.domainDisable d v) s fun t =>
      (t.dom d).running = false ∧ (t.dom d).frame = (s.dom d).frame ∧ (t.dom d).line = (s.dom d).line ∧ t.pub d = s.pub d ∧
      (t.dom d).ivs = [] ∧ (∀ e, e ≠ d → t.dom e = s.dom e) ∧
      ∀ i, i < 16 → s.rf (Addr.lptFsync i) 29 27 = d → t.pin i = {}) ∧
  (∀ (d : Nat) (s : State), d < 8 → s.rb Addr.lptCtrl 0 = false → (s.dom d).running = false → (s.dom d).arming = none →
    s.rb (Addr.lptLdCtrl d) 31 = true → s.ldSlaved d = false → s.reg (Addr.lptLdPeriod d) ≠ 0 → s.ldFlen d ≠ 0 →
    Gives .lptEnable s fun t => (t.dom d).arming = some (s.now + 1) ∧ t.rb Addr.lptCtrl 0 = true) ∧
  (∀ s : State, s.rb Addr.lptCtrl 0 = true →
    Gives .lptDisable s fun t =>
      t.rb Addr.lptCtrl 0 = false ∧ (∀ d, d < 8 → (t.dom d).running = false ∧ (t.dom d).frame = (s.dom d).frame) ∧
      (∀ i, i < 16 → t.pin i = {}) ∧ t.tod = s.tod ∧ t.now = s.now)

/-- The slaved role's predictions (R66, R97-R99). A running slaved domain with a period begins its next frame at the centre of the
window, provisionally; when the first of its open windows ends with no Frame Start accepted the frame is counted late and coasted, and
after the window that follows four coasted frames the domain stops, clears EN and keeps its frame number. -/
def Obligations.SlavedDomainPredictsAndCoasts : Prop :=
  (∀ (d : Nat) (s : State), d < 8 → (s.dom d).predicts = true →
    Gives (.predictedFrameStart d) s fun t =>
      (t.dom d).running = true ∧ (t.dom d).provisional = true ∧ (t.dom d).line = 0 ∧
      (t.dom d).frame = ((s.dom d).frame + 1) % 2 ^ 32 ∧ t.now = max s.now (tickOf16 (s.dom d).predicted) ∧
      (∀ e, e ≠ d → t.dom e = s.dom e)) ∧
  (∀ (d w : Nat) (s : State), d < 8 → (s.dom d).running = true → (s.dom d).slaved = true → (s.dom d).nextEnd = some w →
    ((s.dom d).coasted < 4 →
      Gives (.fsWindowEnd d) s fun t =>
        ((s.dom d).open_ = [] → t.dom d =
          { s.dom d with provisional := false, accepted := false, late := (s.dom d).late + 1, coasted := (s.dom d).coasted + 1 }) ∧
        (∀ r, (s.dom d).open_ = w :: r → t.dom d =
          { s.dom d with open_ := r, accepted := false, late := (s.dom d).late + 1, coasted := (s.dom d).coasted + 1 }) ∧
        t.now = max s.now (tickOf16 w) ∧ (∀ e, e ≠ d → t.dom e = s.dom e) ∧ ChangesOnly [.now, .tod, .doms, .stats] s t) ∧
    (4 ≤ (s.dom d).coasted →
      Gives (.fsWindowEnd d) s fun t =>
        (t.dom d).running = false ∧ (t.dom d).frame = (s.dom d).frame ∧ (t.dom d).issued = (s.dom d).issued ∧
        t.rb (Addr.lptLdCtrl d) 31 = false))
/-! ## The schedule table and its pins -/

/-- Every entry that comes due fires (R28, R56, R72, R73, R91): whatever its action, it takes effect at the tick of its position,
its repeat count is counted, it does not fire again in this frame, and no other entry changes. (The entry of an ILL_ON
that names a channel holding FAULT keeps its count: `IllOnSkipsFaultedChannels`.) -/
def Obligations.DueEntryFires : Prop :=
  ∀ (n code : Nat) (s : State), s.entDue n code → s.namesFaulted (s.ent n) = false →
    ∀ c, (c, code) ∈ [(Instr.schedNone n, 0), (.fsyncSet n, 1), (.fsyncClr n, 2), (.illOn n, 3), (.illOff n, 4), (.ctxWake n, 5),
      (.fmtStart n, 6), (.vencSlice n, 7), (.irq n, 8), (.maintOpen n, 9), (.maintClose n, 10)] →
    Gives c s fun t =>
      t.now = max s.now (s.entTick n) ∧ t.ent n = (s.ent n).fired ∧ t.firedIn n = some (s.dom (s.ent n).dom).frame ∧
      (∀ k, k < 512 → k ≠ n → t.ent k = s.ent k) ∧ ChangesOnly [.now, .tod, .regs, .doms, .pins, .sched, .coll, .cores, .ctxs, .ills, .fmt, .irqs] s t

/-- What the pin actions drive (R62, R72, R73, R87, R95). FSYNC_SET and FSYNC_CLR act on the pins of the entry's mask alone, and of
these on the ones whose own domain runs: with the pin's TRIM elapsed the edge takes effect, else it joins the pin's delayed edges; a
delayed edge takes effect on its tick; the AUTO pulse that ends first ends on its tick; a change of a pin's domain makes it inactive with nothing pending. NONE drives nothing. -/
def Obligations.PinActionsDriveTheirPins : Prop :=
  (∀ (n : Nat) (s : State), s.entDue n 0 → Gives (.schedNone n) s fun t => ChangesOnly [.now, .tod, .regs, .sched] s t ∧ t.ent n = (s.ent n).fired) ∧
  (∀ (n : Nat) (s : State), s.entDue n 1 → Gives (.fsyncSet n) s fun t =>
      (∀ i, i < 16 → bit (s.ent n).w2 i = true → s.pinRuns i = true →
        t.pin i = (let e := s.entTick n + s.rf (Addr.lptFsync i) 23 12
          if e ≤ max s.now (s.entTick n) then (s.pin i).edge e true else { s.pin i with edges := addEdge (s.pin i).edges e true })) ∧
      (∀ i, bit (s.ent n).w2 i = false ∨ s.pinRuns i = false ∨ 16 ≤ i → t.pin i = s.pin i)) ∧
  (∀ (n : Nat) (s : State), s.entDue n 2 → Gives (.fsyncClr n) s fun t =>
      (∀ i, i < 16 → bit (s.ent n).w2 i = true → s.pinRuns i = true →
        t.pin i = (let e := s.entTick n + s.rf (Addr.lptFsync i) 23 12
          if e ≤ max s.now (s.entTick n) then (s.pin i).edge e false else { s.pin i with edges := addEdge (s.pin i).edges e false })) ∧
      (∀ i, bit (s.ent n).w2 i = false ∨ s.pinRuns i = false ∨ 16 ≤ i → t.pin i = s.pin i)) ∧
  (∀ (i at_ : Nat) (level : Bool) (rest : List (Nat × Bool)) (s : State), i < 16 → (s.pin i).edges = (at_, level) :: rest →
    Gives (.fsyncTrimEdge i) s fun t =>
      t.now = max s.now at_ ∧ (t.pin i).edges = rest ∧ ((s.pin i).clrAt ≠ some at_ → (t.pin i).active = level) ∧
      (∀ j, j ≠ i → t.pin j = s.pin j) ∧ ChangesOnly [.now, .tod, .pins] s t) ∧
  (∀ (i at_ : Nat) (rest : List Nat) (s : State), i < 16 → (s.pin i).ends = at_ :: rest →
    Gives (.fsyncAutoPulseEnd i) s fun t =>
      t.now = max s.now at_ ∧ (t.pin i).active = false ∧ (t.pin i).ends = rest ∧ (t.pin i).edges = (s.pin i).edges ∧
      (∀ j, j ≠ i → t.pin j = s.pin j) ∧ ChangesOnly [.now, .tod, .pins] s t) ∧
  (∀ (i : Nat) (v : Word) (s : State), i < 16 → fld v 29 27 ≠ s.rf (Addr.lptFsync i) 29 27 →
    Gives (.fsyncDomainWrite i v) s fun t =>
      t.rf (Addr.lptFsync i) 29 27 = fld v 29 27 ∧ t.pin i = {} ∧ (∀ j, j ≠ i → t.pin j = s.pin j) ∧
      ChangesOnly [.regs, .pins, .coll] s t)

/-- R93. A CTX_WAKE to a context that does not wait on the entry's domain leaves every context and every core as they were; one to a
live context that waits for a position of that domain, with no sync implied by a nest before it (R317), makes it ready. -/
def Obligations.CtxWakeOnlyWakesItsDomain : Prop :=
  ∀ (n k : Nat) (s : State), s.entDue n 5 → fld (s.ent n).w2 4 0 = k →
    ((∀ p, (s.ctx k).wait ≠ .line (s.ent n).dom p) → Gives (.ctxWake n) s fun t => t.ctxs = s.ctxs ∧ t.cores = s.cores) ∧
    (∀ p, (s.ctx k).wait = .line (s.ent n).dom p → (s.ctx k).state.live = true → (s.ctx k).sync = none →
      Gives (.ctxWake n) s fun t => (t.ctx k).state = .ready ∧ (t.ctx k).wait = .none ∧ ∀ j, j ≠ k → t.ctx j = s.ctx j)

/-- What the other actions do to their targets (R39, R72, R434, R527, R549, R694): FMT_START releases the stream's next item,
VENC_SLICE adds its rows to the engine's credit, saturating, IRQ sets its event line and interrupts where the mask says so,
MAINT_OPEN and MAINT_CLOSE open and close the window of the entry's domain. -/
def Obligations.InternalActionsReachTheirTargets : Prop :=
  (∀ (n : Nat) (s : State), s.entDue n 6 → fld (s.ent n).w2 5 0 < 48 →
    Gives (.fmtStart n) s fun t =>
      (tget (fun _ => {}) t.fmt.outs (fld (s.ent n).w2 5 0)).release = true ∧
      ∀ j, j ≠ fld (s.ent n).w2 5 0 → tget (fun _ => {}) t.fmt.outs j = tget (fun _ => {}) s.fmt.outs j) ∧
  (∀ (n : Nat) (s : State), s.entDue n 7 →
    Gives (.vencSlice n) s fun t =>
      t.reg (Addr.vencSliceCredit (fld (s.ent n).w2 0 0)) =
        w32 (min ((s.reg (Addr.vencSliceCredit (fld (s.ent n).w2 0 0))).toNat + fld (s.ent n).w3 15 0) 65535)) ∧
  (∀ (n : Nat) (s : State), s.entDue n 8 →
    Gives (.irq n) s fun t =>
      t.rb Addr.lptEvtStatus (fld (s.ent n).w2 4 0) = true ∧
      (s.rb Addr.lptEvtMask (fld (s.ent n).w2 4 0) = false → t.irqs = s.irqs) ∧
      (s.rb Addr.lptEvtMask (fld (s.ent n).w2 4 0) = true →
        tget (fun _ => 0) t.irqs Irq.lptEvent.key = tget (fun _ => 0) s.irqs Irq.lptEvent.key + 1)) ∧
  (∀ (n : Nat) (s : State), s.entDue n 9 →
    Gives (.maintOpen n) s fun t => t.dom (s.ent n).dom = { s.dom (s.ent n).dom with maintOpen := true }) ∧
  (∀ (n : Nat) (s : State), s.entDue n 10 →
    Gives (.maintClose n) s fun t => t.dom (s.ent n).dom = { s.dom (s.ent n).dom with maintOpen := false })
/-! ## Illuminators -/

/-- R92. An ILL_ON skips each channel of its mask that holds FAULT: the channel stays as it is, the skip is counted in
LPT_SCHED_SKIP and an E_SCHED_SKIP record is posted, and the entry keeps its repeat count (R91, R718); every other enabled channel of
the mask that is off, with the gate supply good, starts its turn-on ramp. (A channel without FAULT that has an ILL_OFF on this very tick
is left to that: R87.) -/
def Obligations.IllOnSkipsFaultedChannels : Prop :=
  ∀ (n : Nat) (s : State), s.entDue n 3 →
    Gives (.illOn n) s fun t =>
      (t.reg Addr.lptSchedSkip).toNat = min ((s.reg Addr.lptSchedSkip).toNat +
        ((setBits (s.ent n).w2 8).filter fun ch => (s.ill ch).faulted).length) 0xFFFFFFFF ∧
      (s.namesFaulted (s.ent n) = true → t.ent n = s.ent n) ∧
      ∀ ch, ch < 8 → bit (s.ent n).w2 ch = true →
        ((s.ill ch).faulted = true →
          t.ill ch = s.ill ch ∧ ∃ r, r ∈ t.coll.posted ∧ r.code = .schedSkip) ∧
        (s.illEn ch = true → (s.ill ch).faulted = false → (s.ill ch).isOn = false → s.illUv = false → (s.ill ch).offAt ≠ some (s.entTick n) →
          (t.ill ch).gate = .rampUp ∧ (t.ill ch).onAt = s.entTick n ∧ (t.ill ch).blank = true ∧
          (t.ill ch).domain = (s.ent n).dom ∧ t.reg (Addr.illStrobes ch) = s.reg (Addr.illStrobes ch) + 1)

/-- Turning off and protecting a channel (R87, R710, R711, R713-R717, R719, R722-R724). ILL_OFF ramps the channels of its mask down and
touches no other; blanking ends on its tick; a fast crossing takes the soft sink and latches FAULT with CAUSE 1, a normal crossing
after blanking the hard sink and CAUSE 2, each counted and with its record; the on-time guard ramps down and sets its flag alone; the
gate supply's fall latches CAUSE 3 in every enabled channel with one record and its rise clears the condition; a write of 1 clears
FAULT but for CAUSE 3 while the supply is low; clearing EN ramps a channel that is on down. -/
def Obligations.IlluminatorChannelsAreProtected : Prop :=
  (∀ (n : Nat) (s : State), s.entDue n 4 →
    Gives (.illOff n) s fun t =>
      (∀ ch, ch < 8 → bit (s.ent n).w2 ch = true →
        (t.ill ch).offAt = some (s.entTick n) ∧ (t.ill ch).isOn = false ∧
        ((s.ill ch).isOn = true → (s.ill ch).onAt ≠ s.entTick n → (t.ill ch).gate = .rampDown ∧ (t.ill ch).since = s.entTick n) ∧
        ((s.ill ch).isOn = false → (t.ill ch).gate = (s.ill ch).gate)) ∧
      ∀ ch, bit (s.ent n).w2 ch = false ∨ 8 ≤ ch → t.ill ch = s.ill ch) ∧
  (∀ (ch : Nat) (s : State), ch < 8 → (s.ill ch).blank = true →
    Gives (.illBlankEnd ch) s fun t =>
      t.now = max s.now ((s.ill ch).onAt + nsTicks ((fld (s.ill ch).cfg 19 16 + 1) * 50)) ∧
      t.ill ch = { s.ill ch with blank := false } ∧ ChangesOnly [.now, .tod, .ills] s t) ∧
  (∀ (ch : Nat) (s : State), ch < 8 → (s.ill ch).isOn = true →
    Gives (.illFastTrip ch) s fun t =>
      (t.ill ch).gate = .softSink ∧ (t.ill ch).faulted = true ∧ (t.ill ch).cause = 1 ∧
      ((s.ill ch).faulted = false → t.reg (Addr.illTrips ch) = satInc (s.reg (Addr.illTrips ch)) 1) ∧
      (∃ r, t.coll.posted = s.coll.posted ++ [r] ∧ r.code = .illShort ∧ r.cls = .dropped) ∧
      (∀ c, c ≠ ch → t.ill c = s.ill c) ∧ ChangesOnly [.regs, .coll, .ills] s t) ∧
  (∀ (ch : Nat) (s : State), ch < 8 → (s.ill ch).isOn = true → (s.ill ch).blank = false → (s.ill ch).faulted = false →
    Gives (.illNormalTrip ch) s fun t =>
      (t.ill ch).gate = .hardSink ∧ (t.ill ch).faulted = true ∧ (t.ill ch).cause = 2 ∧
      t.reg (Addr.illTrips ch) = satInc (s.reg (Addr.illTrips ch)) 1 ∧
      (∃ r, t.coll.posted = s.coll.posted ++ [r] ∧ r.code = .illOvercurrent ∧ r.cls = .dropped) ∧
      (∀ c, c ≠ ch → t.ill c = s.ill c) ∧ ChangesOnly [.regs, .coll, .ills] s t) ∧
  (∀ (ch : Nat) (s : State), ch < 8 → (s.ill ch).isOn = true →
    Gives (.illMaxonExpiry ch) s fun t =>
      t.now = max s.now ((s.ill ch).onAt + usTicks (s.ill ch).maxon) ∧ (t.ill ch).gate = .rampDown ∧ (t.ill ch).maxonHit = true ∧
      (t.ill ch).faulted = (s.ill ch).faulted ∧ (∃ r, t.coll.posted = s.coll.posted ++ [r] ∧ r.code = .illMaxon ∧ r.cls = .corrected) ∧
      (∀ c, c ≠ ch → t.ill c = s.ill c)) ∧
  (∀ s : State, s.illUv = false →
    Gives .illGateUv s fun t =>
      t.illUv = true ∧ (∃ r, t.coll.posted = s.coll.posted ++ [r] ∧ r.code = .illUv) ∧
      ∀ ch, ch < 8 → ((s.ill ch).isOn = true → (t.ill ch).gate = .softSink) ∧
        (s.illEn ch = true → (t.ill ch).faulted = true ∧ (t.ill ch).cause = 3)) ∧
  (∀ s : State, Gives .illGateUvRecover s fun t => t.illUv = false ∧ ChangesOnly [.regs] s t) ∧
  (∀ (ch : Nat) (v : Word) (s : State), ch < 8 → bit v 0 = true → (s.ill ch).faulted = true →
    (((s.ill ch).cause ≠ 3 ∨ s.illUv = false) →
      Gives (.illFaultClear ch v) s fun t => (t.ill ch).faulted = false ∧ (t.ill ch).cause = 0 ∧ (t.ill ch).gate = (s.ill ch).gate) ∧
    ((s.ill ch).cause = 3 → s.illUv = true →
      Gives (.illFaultClear ch v) s fun t =>
        (t.ill ch).faulted = true ∧ (t.ill ch).cause = 3 ∧ ∃ r, t.coll.posted = s.coll.posted ++ [r] ∧ r.code = .cfg)) ∧
  (∀ (ch : Nat) (v : Word) (s : State), ch < 8 → bit v 31 = false → (s.ill ch).isOn = true →
    Gives (.illChannelDisable ch v) s fun t =>
      t.rb (Addr.illCfg ch) 31 = false ∧ (t.ill ch).gate = .rampDown ∧ (t.ill ch).since = s.now ∧ ∀ c, c ≠ ch → t.ill c = s.ill c)
/-! ## Time of day, schedule contents, background work -/

/-- The time of day (R79-R83, R913, R914). A step adds its signed seconds and ticks, modulo 2^48 seconds, and leaves the raw counter;
choosing no source enters holdover; an edge on PPS_IN captures the TOD as it stands; the second missed edge in a row enters holdover and
the first does not; PPS_OUT rises at the next second boundary, and falls when its width has passed. -/
def Obligations.TimeOfDayIsKept : Prop :=
  (∀ s : State, Gives .todStepGo s fun t =>
    (((t.tod.sec * tickHz + t.tod.tick : Nat) : Int) =
      (((s.tod.sec * tickHz + s.tod.tick : Nat) : Int) + sx 32 (s.reg Addr.lptTodStepSec).toNat * (tickHz : Nat)
        + sx 32 (s.reg Addr.lptTodStepTick).toNat) % ((2 ^ 48 * tickHz : Nat) : Int)) ∧
    t.tod.tick < tickHz ∧ t.tod.frac = s.tod.frac ∧ t.tod.holdover = s.tod.holdover ∧ t.now = s.now) ∧
  (∀ (v : Word) (s : State), fld v 1 0 = 0 → s.tod.holdover = false →
    Gives (.todSrcWrite v) s fun t =>
      t.tod.holdover = true ∧ t.tod.holdFrom = s.now ∧ t.rb Addr.lptTodSrc 30 = true ∧ t.rf Addr.lptTodSrc 1 0 = 0 ∧
      t.tod.sec = s.tod.sec ∧ t.tod.tick = s.tod.tick ∧ ChangesOnly [.regs, .tod] s t) ∧
  (∀ s : State, s.rf Addr.lptTodSrc 1 0 ≠ 3 →
    Gives .ppsInEdge s fun t =>
      t.reg Addr.lptPpsTsTick = w32 s.tod.tick ∧ t.reg Addr.lptPpsTsSec = w32 (s.tod.sec % 2 ^ 32) ∧
      t.reg (Addr.lptPpsTsSec + 4) = w32 (s.tod.sec / 2 ^ 32) ∧
      (∀ a, a ≠ Addr.lptPpsTsTick → a ≠ Addr.lptPpsTsSec → a ≠ Addr.lptPpsTsSec + 4 → t.reg a = s.reg a) ∧ ChangesOnly [.regs] s t) ∧
  (∀ s : State, s.rf Addr.lptTodSrc 1 0 = 3 → s.ppsMissAt < s.now →
    Gives .ppsMiss s fun t =>
      t.tod.ppsMisses = s.tod.ppsMisses + 1 ∧ (s.tod.ppsMisses = 0 → t.tod.holdover = s.tod.holdover) ∧
      (s.tod.ppsMisses ≠ 0 → t.tod.holdover = true) ∧ (∀ e, s.tod.ppsExpect = some e → t.tod.ppsExpect = some (e + tickHz)) ∧
      ChangesOnly [.regs, .tod] s t) ∧
  (∀ s : State, s.rb Addr.lptPpsOutCtrl 31 = true → s.pwr.refLost = none →
    Gives .ppsOutRise s fun t =>
      t.tod.ppsOut = true ∧ t.now = s.now + s.toSecond ∧ t.tod.ppsOutEnd = t.now + msTicks (s.rf Addr.lptPpsOutCtrl 9 0) ∧
      (s.reg Addr.lptTodRate = 0 → s.tod.frac = 0 → s.tod.tick < tickHz → t.tod.tick = 0) ∧ ChangesOnly [.now, .tod] s t) ∧
  (∀ s : State, s.tod.ppsOut = true →
    Gives .ppsOutFall s fun t => t.tod.ppsOut = false ∧ t.now = max s.now s.tod.ppsOutEnd ∧ ChangesOnly [.now, .tod] s t)

/-- Contents of the schedule table (R88, R89). With SHADOW clear a word written takes effect at once, in its own entry alone; with
SHADOW set it enters the shadow copy and no entry in force changes; COMMIT hands the shadow copy of an entry over to the next line 0 of
its running domain, or puts it in force at once where the domain does not run. -/
def Obligations.EntriesTakeEffectAsCommitted : Prop :=
  (∀ (n word : Nat) (v : Word) (s : State), n < 512 → word < 4 → s.rb Addr.lptSchedCtrl 0 = false →
    Gives (.schedEntryWrite n word v) s fun t =>
      t.ent n = ((s.ent n).put word v).1 ∧ t.shadow n = none ∧ t.committed n = none ∧
      (∀ k, k < 512 → k ≠ n → t.ent k = s.ent k ∧ t.shadow k = s.shadow k) ∧ ChangesOnly [.regs, .sched, .coll] s t) ∧
  (∀ (n word : Nat) (v : Word) (s : State), n < 512 → word < 4 → s.rb Addr.lptSchedCtrl 0 = true →
    Gives (.schedEntryWrite n word v) s fun t =>
      t.shadow n = some (((s.shadow n).getD ((s.committed n).getD (s.ent n))).put word v).1 ∧
      (∀ k, t.ent k = s.ent k) ∧ (∀ k, k ≠ n → t.shadow k = s.shadow k) ∧ ChangesOnly [.sched, .coll] s t) ∧
  (∀ (n : Nat) (e : Ent) (s : State), n < 512 → s.shadow n = some e →
    Gives .schedCommit s fun t =>
      t.shadow n = none ∧
      ((s.dom (s.ent n).dom).running = true → t.committed n = some e ∧ t.ent n = s.ent n) ∧
      ((s.dom (s.ent n).dom).running = false → t.committed n = none ∧ t.ent n = e) ∧ ChangesOnly [.regs, .sched, .coll] s t)

/-- Background work (R39-R41, R75-R77, R643, R644). A grant runs the first job, in the order of R77, that is due and fits the common
maintenance window, for its declared duration; none is granted while one runs; a channel two seconds overdue for retraining is
retrained at once, with a record. -/
def Obligations.MaintenanceIsGrantedInOrder : Prop :=
  (∀ (e : Nat) (s : State), s.unplaced = false → s.sched.jobEnd = some e → s.now < e → exec .maintJobGrant s = .next s) ∧
  (∀ (j : Job) (s : State), (∀ e, s.sched.jobEnd = some e → e ≤ s.now) →
    ([Job.retrain, .refresh, .calibrate, .telemetry].find? fun j => s.jobDue j && s.jobFits j) = some j →
    Gives .maintJobGrant s fun t =>
      t.sched.jobEnd = some (s.now + nsTicks (s.jobNs j)) ∧
      (j = .retrain → t.ms.train = s.dueChans ∧ t.ms.forced = false) ∧
      (j = .calibrate → t.thm.calDue = none ∧ t.thm.calEnd = some (s.now + usTicks 50)) ∧
      (j = .refresh → ∀ c b, c < 16 → t.owed c b = 0)) ∧
  (∀ (c : Nat) (s : State), s.ms.train = [] → s.dueChans.head? = some c →
    (∃ k u, k < 16 ∧ (s.chan k).due = some u ∧ u + 2 * tickHz ≤ s.now) →
    Gives .retrainForce s fun t =>
      t.ms.train = s.dueChans ∧ t.ms.forced = true ∧ t.rb (Addr.memChStatus c) 31 = true ∧
      (∃ r, t.coll.posted = s.coll.posted ++ [r] ∧ r.code = .memForced) ∧ ChangesOnly [.regs, .coll, .ms] s t)
/-! ## Register accesses -/

/-- R18-R20 over every register that takes writes by its fields, save the two that record reserved bits: a writable field holds the value
written where it accepts it, and keeps its own, with E_CFG posted, where it does not; a read-only field keeps its value; a bit of no
field keeps its value, and a 1 written to it sets the block's RSVD_WRITE flag and records the address; no other register changes. -/
def Obligations.WritesGoByField : Prop :=
  ∀ (a : Nat) (v : Word) (s : State) (r : RegRef), regAt a = some r → a ≠ Addr.dsvRsvdStatus → a ≠ Addr.dsvRsvdLast →
    (∀ f, f ∈ r.fields → f.acc.getD r.desc.acc = .rw → f.ok (fld v f.hi f.lo) = true → (s.putReg a v).rf a f.hi f.lo = fld v f.hi f.lo) ∧
    (∀ f, f ∈ r.fields → f.acc.getD r.desc.acc = .rw → f.ok (fld v f.hi f.lo) = false → fld v f.hi f.lo ≠ s.rf a f.hi f.lo →
      (s.putReg a v).rf a f.hi f.lo = s.rf a f.hi f.lo ∧ ∃ e, (s.putReg a v).coll.posted = s.coll.posted ++ [e] ∧ e.code = .cfg) ∧
    (∀ f, f ∈ r.fields → f.acc.getD r.desc.acc = .ro → (s.putReg a v).rf a f.hi f.lo = s.rf a f.hi f.lo) ∧
    (∀ i, i < 32 → (∀ f, f ∈ r.fields → i < f.lo ∨ f.hi < i) →
      (s.putReg a v).rb a i = s.rb a i ∧
      (bit v i = true → (s.putReg a v).rb Addr.dsvRsvdStatus (rsvdBit a) = true ∧ (s.putReg a v).reg Addr.dsvRsvdLast = w32 a)) ∧
    (∀ b, b ≠ a → b ≠ Addr.dsvRsvdStatus → b ≠ Addr.dsvRsvdLast → (s.putReg a v).reg b = s.reg b) ∧
    ChangesOnly [.regs, .coll] s (s.putReg a v)

/-- Which accesses take effect (R870, R872-R874, R877). An access of another size than 4 or 8 bytes, or not aligned, takes an error
response and changes nothing else; a 4-byte write of the supervisor to a register that its fields alone govern applies it by its fields;
at an address where no register lies a write sets the block's RSVD_WRITE flag and a read gives 0; an access that its initiator may not make
changes no register and no memory; a read of the lowest word of the time of day captures all three words, and reads of the others
give what was captured. -/
def Obligations.AccessesAreChecked : Prop :=
  (∀ (who : Initiator) (a size : Nat) (v : BitVec 64) (s : State), ¬ (size = 4 ∧ a % 4 = 0) → ¬ (size = 8 ∧ a % 8 = 0) →
    exec (.registerWrite who a size v) s = .next { s with resp := { err := true } }) ∧
  (∀ (who : Initiator) (a : Nat) (s : State), a % 4 ≠ 0 → exec (.multiwordCaptureRead who a) s = .next { s with resp := { err := true } }) ∧
  (∀ (a : Nat) (v : BitVec 64) (s : State) (r : RegRef), s.wf → s.up a → dsvPart a = .no → regAt a = some r →
    r.desc.id ∈ [.sfeLnkCfg, .sfeCtxBl, .sfeCtxSatThr, .lptTodStepTick, .lptTodStepSec, .lptEvtMask, .lptLdAnchor, .lptLdTag, .tcArb, .tcCxEntry,
      .tcCxTag, .passPqWmark, .wchMatchTo, .fmtOsCropXy, .fmtOsFscale, .dppTag, .vencSGop, .vencSRc, .vencSQp, .vdecSPicbud, .memStarve,
      .memRetrain, .pcieCto, .ethTsLat, .i3cCmdLo, .uartBaud, .illMaxon, .thmPump, .pwrGrace] →
    Gives (.registerWrite .sup a 4 v) s fun t => t = { s with resp := {} }.putReg a (w32 (v.toNat % 2 ^ 32))) ∧
  (∀ (a : Nat) (v : BitVec 64) (s : State), s.up a → dsvPart a = .no → regAt a = none →
    Gives (.registerWrite .sup a 4 v) s fun t =>
      t.rb Addr.dsvRsvdStatus (rsvdBit a) = true ∧ t.reg Addr.dsvRsvdLast = w32 a ∧ t.resp = {} ∧
      ∀ b, b ≠ Addr.dsvRsvdStatus → b ≠ Addr.dsvRsvdLast → t.reg b = s.reg b) ∧
  (∀ (a : Nat) (s : State), s.up a → dsvPart a = .no → regAt a = none →
    Gives (.multiwordCaptureRead .sup a) s fun t => t.resp.err = false ∧ t.resp.data = [0, 0, 0, 0] ∧ t.regs = s.regs) ∧
  (∀ (who : Initiator) (a : Nat) (v : BitVec 64) (s : State), a % 4 = 0 → inRegs a = true → (inSpan a = false ∨ s.reaches who a = false) →
    Gives (.registerWrite who a 4 v) s fun t => ChangesOnly [.coll, .resp] s t) ∧
  (∀ s : State, s.up Addr.lptTodSec → s.tod.sec < 2 ^ 48 → s.tod.tick < tickHz →
    Gives (.multiwordCaptureRead .sup Addr.lptTodSec) s fun t =>
      t.resp.data = leBytes 4 (s.tod.sec % 2 ^ 32) ∧
      tget (fun _ => 0) t.capture (Addr.lptTodSec + 4) = w32 (s.tod.sec / 2 ^ 32) ∧
      tget (fun _ => 0) t.capture Addr.lptTodTick = w32 s.tod.tick ∧ t.now = s.now) ∧
  (∀ s : State, s.up Addr.lptTodTick →
    Gives (.multiwordCaptureRead .sup Addr.lptTodTick) s fun t =>
      t.resp.data = leBytes 4 (tget (fun _ => 0) s.capture Addr.lptTodTick).toNat ∧ t.tod = s.tod)
/-! ## Sensor front end -/

/-- Reception (R104, R106-R110, R114, R122, R132, R135, R136, R139, R141, R142). A Frame Start opens a frame of its context with the
domain's frame number and the TOD, latching the settings, and a corrected header is counted; a row that fits joins the frame whole,
unpacked; a Frame End after the last row closes the frame with none of its rows lost and reports each fault of the frame; embedded data
join the frame up to its bound, and a wrong checksum is a fault of the frame; short packets 8 to 15 are discarded; a packet that no context
takes is counted; loss of sync ends the frame at once, truncated, its rows in the FIFO lost, and is a fault of the frame, or is
reported at once outside a frame (DESIGN CHOICE, log entry 78); deskew and ULPS change the quad's status. -/
def Obligations.SensorPacketsAreReceived : Prop :=
  (∀ (link vc i : Nat) (fixed : Bool) (s : State), s.lnkOn link = true → (s.hear link).scMatch link vc = [i] → (s.sc i).recv = false →
    (∀ d, d < 8 → s.ldSlaved d = false) → s.memberOf i = none → s.rb (Addr.sfeCtxCtrl i) 27 = false →
    Gives (.frameStart link vc fixed) s fun t =>
      (∃ f, (t.sc i).frames = (s.sc i).frames ++ [f] ∧ f.frame = (s.dom (s.rf (Addr.sfeCtxCtrl i) 2 0)).frame ∧
        f.domain = s.rf (Addr.sfeCtxCtrl i) 2 0 ∧ f.todSec = s.tod.sec ∧ f.todTick = s.tod.tick ∧ f.cfg = (s.hear link).scCfg i ∧
        f.rows = 0 ∧ f.fifo = []) ∧
      (t.sc i).recv = true ∧ (t.sc i).lines = 0 ∧ t.rb Addr.sfeStatus i = true ∧ (∀ j, j ≠ i → t.sc j = s.sc j) ∧
      t.reg (Addr.sfeLnkEcc link) = (if fixed then satInc (s.reg (Addr.sfeLnkEcc link)) 1 else s.reg (Addr.sfeLnkEcc link))) ∧
  (∀ (p : Packet) (i : Nat) (rest : List Nat) (f : SfeFrame) (s : State), s.lnkOn p.link = true → p.fixed = false → (dtBits p.dt).isSome = true →
    (((s.hear p.link).scMatch p.link p.vc).filter fun i => (s.hear p.link).rf (Addr.sfeCtxSrc i) 5 0 == p.dt) = i :: rest →
    (∀ d, d < 8 → s.ldSlaved d = false) → (s.sc i).rx = some f → f.null = false → f.drop = false → f.closed = false →
    (s.sc i).lines < f.height → (s.sc i).fifoBytes + lineBytes f.width f.bits ≤ 32768 → (s.sc i).lineB = p.payload.length →
    p.crcBad = false →
    Gives (.countedLine p) s fun t =>
      t.sc i = ({ s.sc i with lines := (s.sc i).lines + 1, first := false } : SfeCtx).setFrame
        { f with fifo := f.fifo ++ [{ idx := (s.sc i).lines, px := fitTo f.width (unpack f.bits p.payload), poison := false }],
                 rows := (s.sc i).lines + 1,
                 due := if (s.dom f.domain).per = 0 then none else some (s.now16 + 2 * (s.dom f.domain).per) } ∧
      (∀ j, j ≠ i → t.sc j = s.sc j)) ∧
  (∀ (link vc i : Nat) (f : SfeFrame) (s : State), s.lnkOn link = true → (s.hear link).scMatch link vc = [i] → (s.sc i).recv = true →
    (s.sc i).frames = [f] → f.null = false → f.closed = false → f.fifo ≠ [] → f.height ≤ f.rows →
    Gives (.frameEndPacket link vc false) s fun t =>
      t.sc i = { s.sc i with frames := [{ f with closed := true, trunc := false }], recv := false, faults := [],
                             told := (s.sc i).faults.map (·.code) ++ (s.sc i).told } ∧
      (∀ x, x ∈ (s.sc i).faults → x.report ∈ t.coll.posted) ∧ t.rb Addr.sfeStatus i = false ∧ (∀ j, j ≠ i → t.sc j = s.sc j)) ∧
  (∀ (link vc i : Nat) (payload : Bytes) (crc fixed : Bool) (f : SfeFrame) (s : State), s.lnkOn link = true → (s.hear link).scMatch link vc = [i] →
    (s.sc i).rx = some f → f.closed = false → f.drop = false →
    Gives (.embeddedDataPacket link vc payload crc fixed) s fun t =>
      t.sc i = { (s.sc i).setFrame { f with emb := (f.emb ++ payload).take (fld (f.word 7) 13 0) } with faults := (t.sc i).faults } ∧
      (crc = false → fixed = false → (t.sc i).faults = (s.sc i).faults) ∧ (crc = true → ∃ x, x ∈ (t.sc i).faults ∧ x.code = .csiCrc) ∧
      ∀ j, j ≠ i → t.sc j = s.sc j) ∧
  (∀ (link vc dt : Nat) (fixed : Bool) (s : State), s.lnkOn link = true → 8 ≤ dt → dt ≤ 15 →
    Gives (.genericShortPacket link vc dt fixed) s fun t =>
      t.stat 255 link 0 = s.stat 255 link 0 + 1 ∧ (fixed = false → ChangesOnly [.regs, .stats] s t) ∧
      (fixed = true → t.reg (Addr.sfeLnkEcc link) = satInc (s.reg (Addr.sfeLnkEcc link)) 1)) ∧
  (∀ (link vc dt : Nat) (fixed : Bool) (s : State), s.lnkOn link = true → dtBits dt = none → dt ≠ 0x12 →
    Gives (.unmatchedPacket link vc dt fixed) s fun t =>
      t.reg (Addr.sfeLnkUnmatched link) = satInc (s.reg (Addr.sfeLnkUnmatched link)) 1 ∧
      t.reg (Addr.sfeLnkEcc link) = (if fixed then satInc (s.reg (Addr.sfeLnkEcc link)) 1 else s.reg (Addr.sfeLnkEcc link)) ∧
      ChangesOnly [.regs] s t) ∧
  (∀ (link i : Nat) (s : State), s.lnkOn link = true →
    ((List.range 16).filter fun i => s.scOn i && s.rf (Addr.sfeCtxSrc i) 19 16 == link) = [i] →
    (∀ f, (s.sc i).recv = true → (s.sc i).frames = [f] → f.null = false → f.closed = false → f.drop = false → s.memberOf i = none →
      Gives (.uncorrectableHeader link) s fun t =>
        (t.sc i).frames = [] ∧ (t.sc i).recv = true ∧ (∃ x, x ∈ (t.sc i).faults ∧ x.code = .csiSync) ∧
        (∀ st, f.stripe = some st → st.count ≠ 0 → f.full = none → (t.sc i).held = (s.sc i).held ++
          [({ f with closed := true, trunc := true, fifo := [] } : SfeFrame).item i st true]) ∧ ∀ j, j ≠ i → t.sc j = s.sc j) ∧
    ((s.sc i).recv = false → (s.sc i).told.contains .csiSync = false →
      Gives (.uncorrectableHeader link) s fun t =>
        (∃ r, t.coll.posted = s.coll.posted ++ [r] ∧ r.code = .csiSync) ∧ (t.sc i).frames = (s.sc i).frames ∧
        ∀ j, j ≠ i → t.sc j = s.sc j)) ∧
  (∀ (phy lanes : Nat) (ok : Bool) (s : State), phy < 8 → s.rf (Addr.sfePhyCfg phy) 1 0 < 2 →
    Gives (.deskewCalibration phy ok lanes) s fun t =>
      t.rb (Addr.sfePhyStatus phy) 1 = !ok ∧ (∀ a, a ≠ Addr.sfePhyStatus phy → t.reg a = s.reg a) ∧ ChangesOnly [.regs] s t) ∧
  (∀ (phy lane : Nat) (enter : Bool) (s : State), phy < 8 → lane < 4 →
    Gives (.ulpsEntryExit phy lane enter) s fun t =>
      tget (fun _ => false) t.sfe.ulps (4 * phy + lane) = enter ∧ (enter = true → t.rb (Addr.sfePhyStatus phy) 0 = false) ∧
      (∀ a, a ≠ Addr.sfePhyStatus phy → t.reg a = s.reg a) ∧ ∀ j, t.sc j = s.sc j)

/-- Conditioning and delivery (R36, R51, R111, R124-R128, R131, R134, R137, R138, R390). A burst that does not complete its row writes 192
pixels of it to the row's place in the stripe and nowhere else; the first waiting stripe, and the first waiting statistics, are pushed
to their queue when the push succeeds, the stripe marked LATE where it is past due; a member of a LOCKED group that misses its bound drops the group frame, with a record; EN is
taken as the registers allow, and clearing it discards what the context holds. -/
def Obligations.SensorFramesAreDelivered : Prop :=
  (∀ (i : Nat) (f : SfeFrame) (fs : List SfeFrame) (r : SfeRow) (rest : List SfeRow) (st : SfeStripe) (s : State),
    s.burstCtx = some i → (s.sc i).frames = f :: fs → f.fifo = r :: rest → f.stripe = some st → r.col + 192 < r.px.length →
    Gives .conditioningBurst s fun t =>
      (∀ j, j ≠ i → t.sc j = s.sc j) ∧
      (∃ g h, (t.sc i).frames.head? = some g ∧ g.fifo = h :: rest ∧ h.col = r.col + 192 ∧ g.fid = f.fid) ∧
      (∀ b, (b < s.bufAddr st.pool st.buf + (r.idx - st.first) * stripeStride f.width f.bpp + r.col * f.bpp ∨
          s.bufAddr st.pool st.buf + (r.idx - st.first) * stripeStride f.width f.bpp + (r.col + 192) * f.bpp ≤ b) → t.byte b = s.byte b)) ∧
  (∀ (i : Nat) (it : SfeItem) (r : List SfeItem) (p b : Nat) (s : State), i < 16 → (s.sc i).held = it :: r →
    s.gateHolds it.domain it.gated = false → it.buf = some (p, b) →
    s.pushReady (hSc i) it.q (s.handle p b) →
    Gives (.stripePush i) s fun t =>
      (t.queue it.q).items = (s.queue it.q).items ++ [⟨s.handle p b, s.lateMd it, 0xFFFFFFFF⟩] ∧ (t.sc i).held = r ∧
      (t.queue it.q).credits = (s.queue it.q).credits - 1 ∧ ∀ j, j ≠ i → t.sc j = s.sc j) ∧
  (∀ (i : Nat) (it : SfeStat) (r : List SfeStat) (b : Nat) (s : State), i < 16 → (s.sc i).stats = it :: r →
    s.gateHolds it.domain it.gated = false → it.buf = some b →
    s.pushReady (hSc i) it.q (s.handle it.pool b) →
    Gives (.statsPush i) s fun t =>
      (t.queue it.q).items = (s.queue it.q).items ++ [⟨s.handle it.pool b, it.md, 0xFFFFFFFF⟩] ∧ (t.sc i).stats = r ∧
      ∀ j, j ≠ i → t.sc j = s.sc j) ∧
  (∀ (i d at_ b : Nat) (g : SfeGroup) (s : State), i < 16 → s.memberOf i = some d → ((s.dom d).slaved = false ∨ i ≠ s.lead d) →
    s.grp d = some g → g.frame = (s.dom d).frame →
    (s.dom d).running = true → s.groupMode d = 1 → s.scOn i = true → s.rf (Addr.sfeCtxCtrl i) 2 0 = d → g.late = false →
    g.missed.contains i = false → (g.arrived.any (·.cx == i)) = false → g.origin = some at_ → s.groupBound d = some b →
    Gives (.groupFsBoundExpiry i) s fun t =>
      t.now = max s.now (tickOf16 (at_ + b)) ∧ t.grp d = some { g with late := true } ∧ ∃ r, r ∈ t.coll.posted ∧ r.code = .groupDrop) ∧
  (∀ (i : Nat) (v : Word) (s : State), i < 16 → s.rb (Addr.sfeCtxCtrl i) 31 = true → bit v 31 = false →
    Gives (.sfeCtxEnable i v) s fun t =>
      t.rb (Addr.sfeCtxCtrl i) 31 = false ∧ (t.sc i).frames = [] ∧ (t.sc i).held = [] ∧ (t.sc i).stats = [] ∧ (t.sc i).recv = false ∧
      ((∀ d, s.memberOf i = some d → s.grp d = none) → ∀ j, j ≠ i → t.sc j = s.sc j)) ∧
  (∀ (i : Nat) (v : Word) (s : State), i < 16 → s.rb (Addr.sfeCtxCtrl i) 31 = false → bit v 31 = true →
    ((s.noteRsvd (Addr.sfeCtxCtrl i) v).setReg (Addr.sfeCtxCtrl i) (setFld v 24 3 0)).scCanEnable i = true →
    Gives (.sfeCtxEnable i v) s fun t => t.reg (Addr.sfeCtxCtrl i) = setFld v 24 3 0 ∧ ∀ j, j ≠ i → t.sc j = s.sc j)
/-! ## Contexts of a tensor core and their control instructions -/

/-- The context commands (R183-R190, R221, R254, R255). GO reads the image at ENTRY and makes an OFF context READY at the image's entry,
or reports the first check it fails and leaves the context; STOP cancels the wait and holds dispatch, and CONTEXT_STOPPED makes the
context STOPPED when no operation of it is in flight; RESUME restores the state in force, a wait among it; RESET makes a context that has stopped OFF with
its descriptors kept, its nests gone and its scalars 0; HALT_REQ stops every live context, and halts the core when none is live; clearing it
ends the halt; a fetch puts the next instruction into the window, or holds a T-flagged one until its position is reached. -/
def Obligations.ContextsObeyCommands : Prop :=
  (∀ (n m a : Nat) (h l : Bytes) (s : State), isCx n m → (s.ctx (4 * n + m)).state = .off → (s.core n).initBusy = false →
    a = s.rf (Addr.tcCxEntry n m + 4) 7 0 * 2 ^ 32 + s.rf (Addr.tcCxEntry n m) 31 6 * 64 → h = plain (s.unitRead (.tc n) (cxQos m) a 64).1 →
    l = h ++ plain ((s.unitRead (.tc n) (cxQos m) a 64).2.unitRead (.tc n) (cxQos m) (a + 64) (at_ h 8 4 - 64)).1 →
    Gives (.goCtx n m) s fun t =>
      (imageErr l = 0 → (t.ctx (4 * n + m)).state = .ready ∧ (t.ctx (4 * n + m)).fetchIdx = at_ l 44 4 ∧ (t.ctx (4 * n + m)).image = a ∧
        (t.ctx (4 * n + m)).nInstr = at_ l 12 4 ∧ (t.ctx (4 * n + m)).wait = .none) ∧
      (imageErr l ≠ 0 → t.ctxs = s.ctxs ∧ ∃ r, r ∈ t.coll.posted ∧ r.code = .cfg) ∧
      (∀ j, j ≠ 4 * n + m → t.ctx j = s.ctx j) ∧ t.mem = s.mem) ∧
  (∀ (n m : Nat) (s : State), isCx n m → (s.ctx (4 * n + m)).state.live = true → (s.ctx (4 * n + m)).stopping = false →
    Gives (.stopCtx n m) s fun t =>
      t.ctx (4 * n + m) = { s.ctx (4 * n + m) with stopping := true, saved := (s.ctx (4 * n + m)).wait, wait := .none } ∧
      ∀ j, j ≠ 4 * n + m → t.ctx j = s.ctx j) ∧
  (∀ (n m : Nat) (s : State), isCx n m → (s.ctx (4 * n + m)).stopping = true →
    ((s.core n).slots.all fun e => e.cx != m || !e.issued || e.retired || e.unit == .seq) = true →
    Gives (.contextStopped n m) s fun t =>
      t.ctx (4 * n + m) = { s.ctx (4 * n + m) with stopping := false, state := .stopped, resume := (s.ctx (4 * n + m)).state } ∧
      ∀ j, j ≠ 4 * n + m → t.ctx j = s.ctx j) ∧
  (∀ (n m : Nat) (s : State), isCx n m → (s.ctx (4 * n + m)).state = .stopped →
    ((s.ctx (4 * n + m)).saved = .none ∨ (∃ d f p, (s.ctx (4 * n + m)).saved = .line d (some (f, p)) ∧ s.posReached d f p = false)) →
    Gives (.resumeCtx n m) s fun t =>
      t.ctx (4 * n + m) = { s.ctx (4 * n + m) with state := (s.ctx (4 * n + m)).resume, wait := (s.ctx (4 * n + m)).saved, saved := .none } ∧
      (∀ j, j ≠ 4 * n + m → t.ctx j = s.ctx j) ∧ t.cores = s.cores) ∧
  (∀ (n m : Nat) (s : State), isCx n m → s.pass.barriers = [] →
    ((s.ctx (4 * n + m)).state = .stopped ∨ (s.ctx (4 * n + m)).state = .done ∨ (s.ctx (4 * n + m)).state = .halted) →
    Gives (.resetCtx n m) s fun t =>
      (t.ctx (4 * n + m)).state = .off ∧ (t.ctx (4 * n + m)).descs = (s.ctx (4 * n + m)).descs ∧ (t.ctx (4 * n + m)).nests = [] ∧
      (t.ctx (4 * n + m)).late = false ∧ (t.ctx (4 * n + m)).excluded = false ∧ (t.ctx (4 * n + m)).prefixPos = none ∧
      (∀ i, i < 16 → t.sreg n m i = 0) ∧ ∀ j, j ≠ 4 * n + m → t.ctx j = s.ctx j) ∧
  (∀ (n : Nat) (s : State), n < 8 →
    Gives (.haltReq n) s fun t =>
      t.rb (Addr.tcCtrl n) 1 = true ∧
      (∀ m, m < 4 → (s.ctx (4 * n + m)).state.live = true → (t.ctx (4 * n + m)).stopping = true ∧ (t.ctx (4 * n + m)).state = (s.ctx (4 * n + m)).state) ∧
      ((∀ m, m < 4 → (s.ctx (4 * n + m)).state.live = false) → (t.core n).halted = true ∧ t.ctxs = s.ctxs)) ∧
  (∀ (n : Nat) (s : State), n < 8 →
    Gives (.haltReqClear n) s fun t =>
      t.rb (Addr.tcCtrl n) 1 = false ∧ t.core n = { s.core n with halted := false } ∧ t.ctxs = s.ctxs ∧
      ∀ a, a ≠ Addr.tcCtrl n → t.reg a = s.reg a) ∧
  (∀ (n m op : Nat) (w : Insn) (slots : List Slot) (l : List (Byte × Bool)) (s : State), isCx n m → s.mayFetch n m = true →
    makeRoom (s.core n).slots m (s.winShare n m) = some slots → (s.ctx (4 * n + m)).fetchIdx < (s.ctx (4 * n + m)).nInstr →
    l = (s.unitRead (.tc n) (cxQos m) ((s.ctx (4 * n + m)).image + (s.ctx (4 * n + m)).instrAt + 16 * (s.ctx (4 * n + m)).fetchIdx) 16).1 →
    anyPoison l = false → (op, w) = decodeInsn (leNat (plain l)) → insnErr op (4 * n + m) w = none →
    (nbit w.flags 0 = 0 → Gives (.instructionFetch n m) s fun t =>
      (t.core n).slots = slots ++ [{ id := (s.core n).nextId, cx := m, idx := (s.ctx (4 * n + m)).fetchIdx, op := op, w := w, unit := opUnit op }] ∧
      (t.ctx (4 * n + m)).fetchIdx = (s.ctx (4 * n + m)).fetchIdx + 1 ∧ (t.ctx (4 * n + m)).hold = holdsFetch op ∧
      ∀ j, j ≠ 4 * n + m → t.ctx j = s.ctx j) ∧
    (∀ d f p, nbit w.flags 0 = 1 → ((s.core n).waiting m).all (fun e => !(e.op == 0x07 && mo e.w 120 120 == 1)) = true →
      (s.ctx (4 * n + m)).prefixPos = some (d, f, p) → s.posReached d f p = false → (s.ctx (4 * n + m)).released = false →
      (s.ctx (4 * n + m)).state = .ready → Gives (.instructionFetch n m) s fun t =>
        t.ctx (4 * n + m) = { s.ctx (4 * n + m) with state := .waitLine, wait := .timed d f p } ∧ t.cores = s.cores))

/-- The control and time instructions at their issue (R151-R153, R165-R167, R207-R213, R222-R225, R315, R406, R407). NOP and FENCE
retire; YIELD names the contexts that can issue, and its timeout ends it; DEPMARK records its members; HALT, DRAIN, DEADLINE and SIGNAL,
alone in the window, take effect at once; BARRIER waits until every participant arrives; WAITLINE waits for its position, or retires
where that is reached, or takes a SIGNAL sent before, or waits for a wake while its domain runs; SETPFX sets the prefix; the sync that a
nest implies ends as a DRAIN, or is entered as a BARRIER, when every instruction up to the nested one has retired; a release makes the
context READY; a deadline missed sets LATE, counts and is reported. -/
def Obligations.ControlInstructionsTakeEffect : Prop :=
  (∀ (n m op : Nat) (w : Insn) (sl : Slot) (s : State), s.issueAt n m op w = some sl → (s.ctx (4 * n + m)).sync = none →
    (op = 0x00 → Gives (.nopI n m w) s fun t => t.retiredIn n sl.id ∧ t.ctx (4 * n + m) = s.ctx (4 * n + m)) ∧
    (op = 0x03 → Gives (.fenceI n m w) s fun t => t.retiredIn n sl.id ∧ t.ctx (4 * n + m) = s.ctx (4 * n + m)) ∧
    (op = 0x02 → Gives (.yieldI n m w) s fun t =>
      t.retiredIn n sl.id ∧ t.ctx (4 * n + m) = { s.ctx (4 * n + m) with yieldFor := s.issuableOthers n m }) ∧
    (op = 0x04 → Gives (.depmarkI n m w) s fun t =>
      t.retiredIn n sl.id ∧ (t.ctx (4 * n + m)).marks = (s.ctx (4 * n + m)).marks ++
        [(sl.id, if mo w 80 80 = 1 then ((s.core n).slots.filter fun e => e.cx == m && decide (e.id < sl.id)).map (·.id)
          else (s.ctx (4 * n + m)).depOpen.filter fun i => decide (i < sl.id))]) ∧
    (op = 0x05 → (∀ j, j < 32 → tget (fun _ => none) s.pass.barriers (mo w 83 80) = none → nbit (mo w 115 84) j = 1 → j ≠ 4 * n + m → s.absent j = false →
      Gives (.barrierI n m w) s fun t =>
        (t.ctx (4 * n + m)).state = .waitSync ∧ (t.ctx (4 * n + m)).wait = .barrier (mo w 83 80) ∧
        tget (fun _ => none) t.pass.barriers (mo w 83 80) = some ⟨mo w 115 84, [4 * n + m]⟩)) ∧
    (op = 0x05 → (∀ b, tget (fun _ => none) s.pass.barriers (mo w 83 80) = some b → b.mask = mo w 115 84 →
      (∀ j, j < 32 → nbit b.mask j = 1 → j ∈ b.arrived ∨ j = 4 * n + m) →
      (∀ j, j ∈ b.arrived → (s.ctx j).state.live = true ∧ (s.ctx j).sync = none) →
      Gives (.barrierI n m w) s fun t =>
        (∀ j, j ∈ b.arrived ∨ j = 4 * n + m → (t.ctx j).state = .ready ∧ (t.ctx j).wait = .none) ∧
        tget (fun _ => none) t.pass.barriers (mo w 83 80) = none)) ∧
    (op = 0x07 → mo w 120 120 = 0 → noPos w = false →
      (s.posReached (s.resolvePos n m w).1 (s.resolvePos n m w).2.1 (s.resolvePos n m w).2.2 = true →
        Gives (.waitlineI n m w) s fun t => t.retiredIn n sl.id ∧ t.ctx (4 * n + m) = s.ctx (4 * n + m)) ∧
      (s.posReached (s.resolvePos n m w).1 (s.resolvePos n m w).2.1 (s.resolvePos n m w).2.2 = false →
        Gives (.waitlineI n m w) s fun t =>
          (t.ctx (4 * n + m)).state = .waitLine ∧ (t.ctx (4 * n + m)).wait = .line (s.resolvePos n m w).1 (some (s.resolvePos n m w).2))) ∧
    (op = 0x07 → mo w 120 120 = 0 → noPos w = true → (s.ctx (4 * n + m)).signal = true →
      Gives (.waitlineI n m w) s fun t => t.retiredIn n sl.id ∧ t.ctx (4 * n + m) = { s.ctx (4 * n + m) with signal := false }) ∧
    (op = 0x07 → mo w 120 120 = 0 → noPos w = true → (s.ctx (4 * n + m)).signal = false →
      ((s.dom (mo w 82 80)).running = false → Gives (.waitlineI n m w) s fun t => t.retiredIn n sl.id ∧ t.ctx (4 * n + m) = s.ctx (4 * n + m)) ∧
      ((s.dom (mo w 82 80)).running = true → Gives (.waitlineI n m w) s fun t =>
        (t.ctx (4 * n + m)).state = .waitLine ∧ (t.ctx (4 * n + m)).wait = .line (mo w 82 80) none)) ∧
    (op = 0x07 → mo w 120 120 = 1 →
      Gives (.waitlineSetpfx n m w) s fun t =>
        t.retiredIn n sl.id ∧ t.ctx (4 * n + m) = { s.ctx (4 * n + m) with prefixPos := some (s.resolvePos n m w) }) ∧
    ((s.core n).slots = [sl] → sl.retired = false → s.pass.barriers = [] → (s.ctx (4 * n + m)).fault = none →
      (op = 0x01 → Gives (.haltI n m w) s fun t => (t.ctx (4 * n + m)).state = .done ∧ t.retiredIn n sl.id) ∧
      (op = 0x06 → Gives (.drainI n m w) s fun t => (t.ctx (4 * n + m)).state = .ready ∧ t.retiredIn n sl.id) ∧
      (op = 0x08 → Gives (.deadlineI n m w) s fun t =>
        t.retiredIn n sl.id ∧ (t.ctx (4 * n + m)).late = false ∧
        (t.ctx (4 * n + m)).deadline = (if noPos w ∨ (s.dom (s.resolvePos n m w).1).running = false then none else some (s.resolvePos n m w))) ∧
      (op = 0x09 → (∀ k, k = 4 * mo w 82 80 + mo w 84 83 → s.absent k = false → (∀ d, (s.ctx k).wait ≠ .line d none) →
        Gives (.signalI n m w) s fun t => (t.ctx k).signal = true ∧ t.retiredIn n sl.id)))) ∧
  (∀ (n m : Nat) (s : State), isCx n m →
    Gives (.yieldTimeout n m) s fun t => t.ctx (4 * n + m) = { s.ctx (4 * n + m) with yieldFor := [] } ∧ ∀ j, j ≠ 4 * n + m → t.ctx j = s.ctx j) ∧
  (∀ (n m kind id cores sid : Nat) (s : State), isCx n m → (s.ctx (4 * n + m)).sync = some (kind, id, cores, sid) →
    (s.ctx (4 * n + m)).state = .waitSync → (s.ctx (4 * n + m)).wait = .nest → (s.ctx (4 * n + m)).fault = none →
    ((s.core n).slots.all fun e => e.cx != m || decide (sid < e.id) || e.retired) = true →
    (∀ e, e ∈ (s.core n).slots → e.id = sid → e.retired = true) →
    (kind = 1 → Gives (.nestImpliedSync n m) s fun t =>
      t.ctx (4 * n + m) = { s.ctx (4 * n + m) with state := .ready, wait := .none, sync := none, synced := false } ∧
      ∀ j, j ≠ 4 * n + m → t.ctx j = s.ctx j) ∧
    (∀ j, kind ≠ 1 → tget (fun _ => none) s.pass.barriers id = none → j < 32 → nbit (nestMask cores m) j = 1 → j ≠ 4 * n + m → s.absent j = false →
      Gives (.nestImpliedSync n m) s fun t =>
        t.ctx (4 * n + m) = { s.ctx (4 * n + m) with wait := .barrier id, synced := true } ∧
        tget (fun _ => none) t.pass.barriers id = some ⟨nestMask cores m, [4 * n + m]⟩)) ∧
  (∀ (n m d f p : Nat) (s : State), isCx n m → (s.ctx (4 * n + m)).state.live = true → (s.ctx (4 * n + m)).sync = none → s.posReached d f p = true →
    ((s.ctx (4 * n + m)).wait = .line d (some (f, p)) → Gives (.waitlineRelease n m) s fun t =>
      (t.ctx (4 * n + m)).state = .ready ∧ (t.ctx (4 * n + m)).wait = .none ∧ ∀ j, j ≠ 4 * n + m → t.ctx j = s.ctx j) ∧
    ((s.ctx (4 * n + m)).wait = .timed d f p → Gives (.waitlineRelease n m) s fun t =>
      (t.ctx (4 * n + m)).state = .ready ∧ (t.ctx (4 * n + m)).wait = .none ∧ (t.ctx (4 * n + m)).released = true ∧
      ∀ j, j ≠ 4 * n + m → t.ctx j = s.ctx j)) ∧
  (∀ (n m d f p : Nat) (s : State), isCx n m → (s.ctx (4 * n + m)).deadline = some (d, f, p) → (s.dom d).running = true → s.posReached d f p = true →
    s.absent (4 * n + m) = false →
    Gives (.deadlineMiss n m) s fun t =>
      (t.ctx (4 * n + m)).late = true ∧ (t.ctx (4 * n + m)).deadline = none ∧
      (∃ r, t.ctx (4 * n + m) = { s.ctx (4 * n + m) with late := true, deadline := none, miss := some (s.now, r) }) ∧
      t.reg (Addr.tcCxMiss n m) = satInc (s.reg (Addr.tcCxMiss n m)) 1 ∧
      (∃ r, t.coll.posted = s.coll.posted ++ [r] ∧ r.code = .deadline) ∧ ∀ j, j ≠ 4 * n + m → t.ctx j = s.ctx j)

/-- The flow and scalar instructions (R218, R220, R221, R248-R250, R322), issued and retired in one cycle: what each writes to the scalar
registers, and the instruction that dispatch goes on with. -/
def Obligations.FlowInstructionsTakeEffect : Prop :=
  ∀ (n m op : Nat) (w : Insn) (sl : Slot) (s : State), s.issueAt n m op w = some sl →
    (op = 0x55 → Gives (.setsI n m w) s fun t =>
      t.retiredIn n sl.id ∧ t.sreg n m (mo w 83 80) = w32 (mo w 115 84) ∧ ∀ a, a ≠ Addr.tcCxS n m (mo w 83 80) → t.reg a = s.reg a) ∧
    (op = 0x56 → Gives (.addsI n m w) s fun t =>
      t.retiredIn n sl.id ∧ t.sreg n m (mo w 83 80) = addsOp (mo w 90 88) (s.sreg n m (mo w 87 84))
        (if mo w 91 91 = 1 then w32 (mo w 127 96) else s.sreg n m (mo w 95 92)) ∧ ∀ a, a ≠ Addr.tcCxS n m (mo w 83 80) → t.reg a = s.reg a) ∧
    (op = 0x52 → 0 ≤ (sl.idx : Int) + sx 32 (mo w 111 80) → Gives (.jumpI n m w) s fun t =>
      t.retiredIn n sl.id ∧ (((t.ctx (4 * n + m)).fetchIdx : Nat) : Int) = (sl.idx : Int) + sx 32 (mo w 111 80) ∧ (t.ctx (4 * n + m)).hold = false ∧
      t.regs = s.regs) ∧
    (op = 0x52 → (sl.idx : Int) + sx 32 (mo w 111 80) < 0 → s.pass.barriers = [] → Gives (.jumpI n m w) s fun t =>
      (t.ctx (4 * n + m)).state = .halted ∧ t.reg (Addr.tcCxErr n m) = w32 Code.desc.num) ∧
    (op = 0x53 → (s.sreg n m (mo w 83 80) = 0 → 0 ≤ (sl.idx : Int) + sx 32 (mo w 115 84) → Gives (.brzI n m w) s fun t =>
        (((t.ctx (4 * n + m)).fetchIdx : Nat) : Int) = (sl.idx : Int) + sx 32 (mo w 115 84) ∧ t.regs = s.regs) ∧
      (s.sreg n m (mo w 83 80) ≠ 0 → Gives (.brzI n m w) s fun t =>
        (t.ctx (4 * n + m)).fetchIdx = (s.ctx (4 * n + m)).fetchIdx ∧ (t.ctx (4 * n + m)).hold = false ∧ t.regs = s.regs)) ∧
    (op = 0x54 → (s.sreg n m (mo w 83 80) ≠ 0 → 0 ≤ (sl.idx : Int) + sx 32 (mo w 115 84) → Gives (.brnzI n m w) s fun t =>
        (((t.ctx (4 * n + m)).fetchIdx : Nat) : Int) = (sl.idx : Int) + sx 32 (mo w 115 84) ∧ t.regs = s.regs) ∧
      (s.sreg n m (mo w 83 80) = 0 → Gives (.brnzI n m w) s fun t =>
        (t.ctx (4 * n + m)).fetchIdx = (s.ctx (4 * n + m)).fetchIdx ∧ (t.ctx (4 * n + m)).hold = false ∧ t.regs = s.regs)) ∧
    (∀ c : Int, op = 0x50 → c = (if mo w 84 84 = 0 then ((mo w 104 89 : Nat) : Int) else sx 32 (s.sreg n m (mo w 88 85)).toNat) →
      (c ≤ 0 → Gives (.loopI n m w) s fun t => (t.ctx (4 * n + m)).fetchIdx = sl.idx + mo w 127 112 + 1 ∧ t.regs = s.regs) ∧
      (0 < c → Gives (.loopI n m w) s fun t =>
        t.sreg n m (mo w 83 80) = BitVec.ofInt 32 c ∧ (t.ctx (4 * n + m)).fetchIdx = (s.ctx (4 * n + m)).fetchIdx ∧
        ∀ a, a ≠ Addr.tcCxS n m (mo w 83 80) → t.reg a = s.reg a)) ∧
    (op = 0x51 → mo w 127 112 ≤ sl.idx → Gives (.endloopI n m w) s fun t =>
      t.sreg n m (mo w 83 80) = s.sreg n m (mo w 83 80) - 1 ∧
      (t.ctx (4 * n + m)).fetchIdx = (if 0 < sx 32 (s.sreg n m (mo w 83 80) - 1).toNat then sl.idx - mo w 127 112 else (s.ctx (4 * n + m)).fetchIdx) ∧
      ∀ a, a ≠ Addr.tcCxS n m (mo w 83 80) → t.reg a = s.reg a) ∧
    (op = 0x57 → ∀ h v, h = (s.sreg n m (mo w 87 84)).toNat → v = (s.sreg n m (mo w 91 88)).toNat →
      (∀ b idx, coverOf (s.ctx (4 * n + m)).buckets 0 h v = some (b, idx) → Gives (.bucketI n m w) s fun t =>
        t.sreg n m (mo w 83 80) = w32 b ∧ (t.ctx (4 * n + m)).bucketId = b ∧ (t.ctx (4 * n + m)).valid = some (h, v) ∧
        (mo w 92 92 = 1 → (t.ctx (4 * n + m)).fetchIdx = idx)) ∧
      (coverOf (s.ctx (4 * n + m)).buckets 0 h v = none → Gives (.bucketI n m w) s fun t =>
        t.sreg n m (mo w 83 80) = 0xFFFFFFFF ∧ (t.ctx (4 * n + m)).valid = (s.ctx (4 * n + m)).valid))
/-! ## Movement, array, vector and pooling instructions -/

/-- Element writes performed on a core (R228, R268): every element of whole bytes reads back as its pattern where no other write of the
operation overlaps it, an INT4 element keeps the other nibble of its byte, and every other byte keeps its value; a sector takes poison
from any poisoned write to it, loses it where unpoisoned writes cover it, and else keeps it. -/
def Obligations.ElementWritesReadBack : Prop :=
  (∀ (c : Core) (sp : Nat) (l : List EWrite), sp ≤ 2 →
    (∀ w, w ∈ l → w.na % 2 = 0 ∧ w.nib % 2 = 0 ∧ 2 ≤ w.nib) →
    l.Pairwise (fun v w => v.na + v.nib ≤ w.na ∨ w.na + w.nib ≤ v.na) →
    (∀ w, w ∈ l → (c.perform sp l).elemBits sp w.na w.nib = w.bits % 16 ^ w.nib) ∧
    (∀ sp' a, sp' ≤ 2 → (sp' ≠ sp ∨ ∀ w, w ∈ l → 2 * a < w.na ∨ w.na + w.nib ≤ 2 * a) → (c.perform sp l).sbyte sp' a = c.sbyte sp' a)) ∧
  (∀ (c : Core) (sp : Nat) (w : EWrite), sp ≤ 2 → w.nib = 1 →
    (c.perform sp [w]).elemBits sp w.na 1 = w.bits % 16 ∧
    ∀ k, k ≠ w.na → (c.perform sp [w]).elemBits sp k 1 = c.elemBits sp k 1) ∧
  (∀ (c : Core) (sp : Nat) (l : List EWrite) (a : Nat), sp ≤ 2 → c.taint = none → (sp = 0 → c.spmBad = []) → (∀ w, w ∈ l → 1 ≤ w.nib ∧ w.na % 64 + w.nib ≤ 64) →
    (c.perform sp l).spois sp a =
      if ∃ w, w ∈ l ∧ w.poison = true ∧ w.na / 64 = a / 32 then true
      else if covers l (a / 32) = true then false else c.spois sp a)

/-- The movement instructions where the checks of R325 pass, and the return of a line to a LOAD (R226-R229, R272-R275, R367-R370, R379):
LOAD asks for the lines of its source and changes no byte; a line that returns, whichever it is, is written to the bytes that came from
it; STORE sends the bytes it reads as the store unit has entries and changes no other byte of memory; COPY copies byte for byte; FILL writes its pattern to every element; LOADW waits in a
group, or is poisoned where the chain is off. An operand in a space the instruction does not take halts the context with E_TILE. -/
def Obligations.MovementInstructionsMoveBytes : Prop :=
  (∀ (n m op : Nat) (w : Insn) (sl : Slot) (s : State) (a d : Desc) (l : List (Nat × Nat)), s.issues n m op w sl →
    a = (s.ctx (4 * n + m)).desc w.opa → d = (s.ctx (4 * n + m)).desc w.dst → l = s.movePairs n m op w →
    (s.checks n m sl [] = none → sameShape a d = true →
      (op = 0x10 → a.space = 3 → d.space = 0 ∨ d.space = 2 → Gives (.loadI n m w) s fun t =>
        t.inFlight n sl.id ∧ (∃ e, e ∈ (t.core n).slots ∧ e.id = sl.id ∧ e.sent ++ e.pend = pendOf l ∧ e.space = d.space) ∧
        (s.core n).sameData (t.core n) ∧ t.mem = s.mem) ∧
      (op = 0x11 → a.space = 0 → d.space = 3 → Gives (.storeI n m w) s fun t =>
        t.inFlight n sl.id ∧ (s.core n).sameData (t.core n) ∧ (∀ x, (∀ p, p ∈ l → p.1 ≠ x) → t.byte x = s.byte x) ∧
        (∀ x y k, l = (List.range (k + 1)).map (fun i => (x + i, y + i)) → x / 64 = (x + k) / 64 → 0 < (s.core n).mayAsk true sl →
          inDram (x / 64 * 64) = true → s.fwAllow (.tc n) (x / 64 * 64) true = true → s.memOk (x / 64 * 64) = true →
          ∀ i, i ≤ k → t.byte (x + i) = (s.core n).sbyte 0 (y + i))) ∧
      (op = 0x13 → onChip a.space = true → onChip d.space = true → Gives (.copyI n m w) s fun t =>
        t.inFlight n sl.id ∧ t.mem = s.mem ∧
        ((l.map (·.1)).Nodup → (a.space = d.space → ∀ p q, p ∈ l → q ∈ l → p.1 ≠ q.2) →
          ∀ p, p ∈ l → (t.core n).sbyte d.space p.1 = (s.core n).sbyte a.space p.2) ∧
        ∀ sp x, sp ≤ 2 → (sp ≠ d.space ∨ ∀ p, p ∈ l → p.1 ≠ x) → (t.core n).sbyte sp x = (s.core n).sbyte sp x)) ∧
    (op = 0x14 → s.checks n m sl [] = none → onChip d.space = true → Gives (.fillI n m w) s fun t =>
      t.inFlight n sl.id ∧ t.mem = s.mem ∧
      ((s.core n).perform d.space (((s.ctx (4 * n + m)).runsOf n 0x14 w).flatMap fun c =>
        d.elems.map fun e => d.wrBits (s.iterBase n m d ((s.ctx (4 * n + m)).nest w.nest) (·.sd) c) e.1 e.2.1 e.2.2.1 e.2.2.2 (mo w 111 80) false)).sameData
        (t.core n)) ∧
    (op = 0x12 → s.checks n m sl [] = none → sameShape a d = true → a.space = 3 → d.space = 0 → nbit (mo w 87 80) n = 1 → s.rb Addr.wchCtrl 0 = false →
      a.dense = true → l ≠ [] → (s.fillSrc n m w).1 % 64 = 0 → (s.fillSrc n m w).2 % 64 = 0 →
      (s.rb Addr.wchCtrl 31 = true → s.wch.bypass = 0 → s.wch.groupsA = [] → Gives (.loadwI n m w) s fun t =>
        t.inFlight n sl.id ∧ (s.core n).sameData (t.core n) ∧ t.mem = s.mem ∧
        t.group 0 0 = some { gid := s.wch.nextGid, src := (s.fillSrc n m w).1, len := (s.fillSrc n m w).2, mask := mo w 87 80,
                             reqs := [⟨n, m, sl.id⟩], since := s.now }) ∧
      (s.rb Addr.wchCtrl 31 = false → Gives (.loadwI n m w) s fun t =>
        t.inFlight n sl.id ∧ t.mem = s.mem ∧ t.wch = s.wch ∧ (∃ r, t.coll.posted = s.coll.posted ++ [r] ∧ r.code = .wchOff))) ∧
    (s.pass.barriers = [] →
      (op = 0x10 → a.space ≠ 3 → Gives (.loadI n m w) s fun t => t.haltedWith n m .tile) ∧
      (op = 0x11 → d.space ≠ 3 → Gives (.storeI n m w) s fun t => t.haltedWith n m .tile ∧ t.mem = s.mem) ∧
      (op = 0x12 → a.space ≠ 3 → Gives (.loadwI n m w) s fun t => t.haltedWith n m .tile) ∧
      (op = 0x13 → onChip d.space = false → Gives (.copyI n m w) s fun t => t.haltedWith n m .tile) ∧
      (op = 0x14 → onChip d.space = false → Gives (.fillI n m w) s fun t => t.haltedWith n m .tile))) ∧
  (∀ (n id : Nat) (sl : Slot) (p : Pend) (s : State), n < 8 → (s.core n).slot? id = some sl → sl.op = 0x10 → sl.retired = false →
    sl.space ≤ 2 → sl.sent.find? (·.line == p.line) = some p → inDram p.line = true → s.fwAllow (.tc n) p.line false = true → s.memOk p.line = true →
    (p.bytes.map (·.1)).Nodup → (∀ b, b ∈ p.bytes → p.line ≤ b.2 ∧ b.2 < p.line + 64) →
    Gives (.loadDataReturn n id p.line) s fun t =>
      (∀ b, b ∈ p.bytes → (t.core n).sbyte sl.space b.1 = s.byte b.2) ∧
      (∀ sp x, sp ≤ 2 → (sp ≠ sl.space ∨ ∀ b, b ∈ p.bytes → b.1 ≠ x) → (t.core n).sbyte sp x = (s.core n).sbyte sp x) ∧
      (∃ e, e ∈ (t.core n).slots ∧ e.id = id ∧ e.sent ++ e.pend = sl.sent.erase p ++ sl.pend) ∧ t.mem = s.mem)

/-- The array, vector and pooling instructions where the checks of R325 pass (R230-R242, R332-R363): each is in flight, the core holds what
its writes leave (an array instruction writes the accumulator, the others the space of DST), DRAM and the other cores keep their contents; operands
that fail a check of the instruction halt the context with E_TILE; a preemption (R158, R344) makes CX0's operation the one that its unit
executes and leaves the data as they are. -/
def Obligations.ComputeInstructionsComplete : Prop :=
  (∀ (n m op : Nat) (w : Insn) (sl : Slot) (c : Instr) (x : Ctx) (a b d : Desc) (own : List (Option Nat)) (s : State), s.issues n m op w sl →
    (c, op) ∈ [(Instr.mmulI n m w, 0x20), (.convI n m w, 0x21), (.dwconvI n m w, 0x22), (.vopI n m w, 0x30), (.actI n m w, 0x31),
      (.reqI n m w, 0x32), (.reduceI n m w, 0x33), (.shufI n m w, 0x34), (.poolmaxI n m w, 0x38), (.poolavgI n m w, 0x39)] →
    x = s.ctx (4 * n + m) → a = x.desc w.opa → b = x.desc w.opb → d = x.desc w.dst → own = vecChecks op w a b d →
    (s.checks n m sl own = none → Gives c s fun t =>
      t.inFlight n sl.id ∧ ((s.core n).perform d.space (State.vecRun op w n m s).writes).sameData (t.core n) ∧
      (op = 0x20 ∨ op = 0x21 ∨ op = 0x22 → d.space = 1) ∧ t.mem = s.mem ∧
      ((State.vecRun op w n m s).excl = [] → (t.ctx (4 * n + m)).excluded = x.excluded) ∧
      ((State.vecRun op w n m s).excl ≠ [] → (t.ctx (4 * n + m)).excluded = true) ∧ ∀ j, j ≠ n → t.core j = s.core j) ∧
    (∀ k, s.checks n m sl own = some k → s.pass.barriers = [] → Gives c s fun t => t.haltedWith n m .tile ∧ (s.core n).sameData (t.core n))) ∧
  (∀ (n : Nat) (u : TcUnit) (o : Slot) (s : State), n < 8 → serialUnit u = true → (s.core n).preempts u = some o →
    Gives (.cx0PreemptStart n u) s fun t =>
      (s.core n).sameData (t.core n) ∧ t.mem = s.mem ∧
      ∀ e, e ∈ (t.core n).slots → (e.id = o.id → e.running = true ∧ e.cx = 0) ∧ (e.unit = u → e.id ≠ o.id → e.running = false))

/-! ## The pass unit -/

/-- The pass and detection instructions (R243-R247, R258, R388-R392, R400, R421, R474): PQPOP takes the first item of its queue, writes
0xFFFFFFFF as the handle of none, or waits; PQPUSH appends its item, whose EXCLUDED and POISONED are then clear, or halts on a handle it may
not use; HALLOC takes the oldest free index or reports none; HREL frees a held index and does nothing with a placeholder's handle; DETSUB
queues a job and holds its ticket; DETWAIT holds the status of an ended job or waits; and a pop or push that waits is served. -/
def Obligations.PassInstructionsUseTheQueues : Prop :=
  (∀ (n m op : Nat) (w : Insn) (sl : Slot) (s : State), s.issues n m op w sl →
    (op = 0x40 → ∀ q d, q = mo w 85 80 → d = mo w 89 86 →
      (∀ it r, (s.queue q).items = it :: r → s.canPop (hCtx n m) q = true → s.whyStale it.handle HState.isQueued = none → hdPool it.handle ≠ 63 →
        Gives (.pqpopI n m w) s fun t => (t.queue q).items = r ∧
          t.flightWrites n sl.id [(d, w32 (s.bufAddr (hdPool it.handle) (hdIdx it.handle) / 64)), (d + 1, it.handle),
            (d + 2, w32 (mfld it.md 31 0)), (d + 3, w32 (mfld it.md 63 32))]) ∧
      ((s.queue q).items = [] → nbit w.flags 3 = 0 → Gives (.pqpopI n m w) s fun t =>
        t.flightWrites n sl.id [(d, 0), (d + 1, 0xFFFFFFFF), (d + 2, 0), (d + 3, 0)] ∧ t.pass = s.pass) ∧
      ((s.queue q).items = [] → nbit w.flags 3 = 1 → Gives (.pqpopI n m w) s fun t =>
        (t.ctx (4 * n + m)).state = .waitPass ∧ (t.ctx (4 * n + m)).wait = .pass q false ∧ hCtx n m ∈ (t.queue q).popWait)) ∧
    (op = 0x41 → ∀ it q, it = s.pushItem n m w → q = mo w 85 80 →
      (s.pushReady (hCtx n m) q it.handle → s.whyStale it.handle HState.isHeld = none → Gives (.pqpushI n m w) s fun t =>
        (t.queue q).items = (s.queue q).items ++ [it] ∧ (∀ k, k ≠ q → t.queue k = s.queue k) ∧ t.flightWrites n sl.id [(mo w 97 94, 0)] ∧
        (t.ctx (4 * n + m)).excluded = false ∧ (t.ctx (4 * n + m)).poisoned = false) ∧
      (∀ det, s.whyStale it.handle HState.isHeld = some det → s.pass.barriers = [] → Gives (.pqpushI n m w) s fun t => t.haltedWith n m .staleHandle)) ∧
    (op = 0x42 → ∀ p d, p = mo w 84 80 → d = mo w 89 86 → s.bumping p = false →
      (∀ i r, s.plOn p = true → (s.pool p).free = i :: r → Gives (.hallocI n m w) s fun t =>
        t.pool p = { s.pool p with free := r, held := (i, hCtx n m) :: (s.pool p).held } ∧
        t.flightWrites n sl.id [(d, w32 (s.bufAddr p i / 64)), (d + 1, s.handle p i)]) ∧
      (s.plOn p = false ∨ (s.pool p).free = [] → Gives (.hallocI n m w) s fun t =>
        t.pool p = s.pool p ∧ t.flightWrites n sl.id [(d, 0), (d + 1, 0xFFFFFFFF)])) ∧
    (op = 0x43 → ∀ h, h = s.sreg n m (mo w 89 86) →
      (hdPool h = 63 → Gives (.hrelI n m w) s fun t => t.inFlight n sl.id ∧ t.pass = s.pass) ∧
      (hdPool h ≠ 63 → s.whyStale h HState.isHeld = none → s.bumping (hdPool h) = false → hdIdx h ∉ (s.pool (hdPool h)).queued →
        Gives (.hrelI n m w) s fun t =>
        (t.pool (hdPool h)).state (hdIdx h) = .free ∧ (t.pool (hdPool h)).free = (s.pool (hdPool h)).free ++ [hdIdx h] ∧ t.inFlight n sl.id)) ∧
    (op = 0x48 → Gives (.detsubI n m w) s fun t =>
      t.flightWrites n sl.id [(mo w 87 84, (s.dppSubmitJob 0 ((s.sreg n m (mo w 83 80)).toNat * 64)).1)] ∧
      t.dpp = (s.dppSubmitJob 0 ((s.sreg n m (mo w 83 80)).toNat * 64)).2.dpp) ∧
    (op = 0x49 → ∀ k, k = s.sreg n m (mo w 83 80) →
      (∀ v, s.ticketStatus k = some v → Gives (.detwaitI n m w) s fun t => t.flightWrites n sl.id [(mo w 87 84, v)] ∧ t.dpp = s.dpp) ∧
      (s.ticketStatus k = none → Gives (.detwaitI n m w) s fun t => (t.ctx (4 * n + m)).state = .waitSync ∧ (t.ctx (4 * n + m)).wait = .det k))) ∧
  (∀ (n m q : Nat) (sl : Slot) (s : State), isCx n m → (s.core n).passSlot m = some sl → q = mo sl.w 85 80 → (s.ctx (4 * n + m)).sync = none →
    (∀ it r, sl.op = 0x40 → (s.queue q).items = it :: r → s.canPop (hCtx n m) q = true → s.whyStale it.handle HState.isQueued = none →
      Gives (.contextWakePass n m) s fun t =>
        (t.queue q).items = r ∧ (∃ e, e ∈ (t.core n).slots ∧ e.id = sl.id ∧ e.waits = false ∧ e.item = some it) ∧
        ((s.ctx (4 * n + m)).state.live = true → (t.ctx (4 * n + m)).state = .ready ∧ (t.ctx (4 * n + m)).wait = .none)) ∧
    (∀ it, sl.op = 0x41 → sl.item = some it → s.pushReady (hCtx n m) q it.handle → s.whyStale it.handle HState.isHeld = none →
      Gives (.contextWakePass n m) s fun t =>
        (t.queue q).items = (s.queue q).items ++ [it] ∧ (∃ e, e ∈ (t.core n).slots ∧ e.id = sl.id ∧ e.waits = false ∧ e.writes = [(mo sl.w 97 94, 0)]) ∧
        ((s.ctx (4 * n + m)).state.live = true → (t.ctx (4 * n + m)).state = .ready ∧ (t.ctx (4 * n + m)).wait = .none)))

/-- The pass unit's commands and its audits (R387-R389, R395-R404, R411-R413, R421): setting EN gives a queue DEPTH credits less its items and
clearing it flushes; a flush empties the queue and returns the credits; a bump raises GEN, frees what the named holders held and ends; a
REVOKE starts one, unless it names a live context; PASS_CTRL.EN does not clear while a queue is enabled; the software sets pop, allocate,
release and push for their own core only; an audit shows busy, then its result. -/
def Obligations.PassUnitObeysItsCommands : Prop :=
  (∀ (q : Nat) (v : Word) (s : State), q < 64 → s.pqLocked q = false → s.rb (Addr.passPqCfg q) 31 = false → bit v 31 = true →
    (1 ≤ fld v 4 0 → fld v 4 0 ≤ 16 → Gives (.pqEnable q v) s fun t =>
      t.rb (Addr.passPqCfg q) 31 = true ∧ t.pqDepth q = fld v 4 0 ∧
      t.queue q = { s.queue q with credits := fld v 4 0 - (s.queue q).items.length } ∧ ∀ k, k ≠ q → t.queue k = s.queue k) ∧
    (fld v 4 0 = 0 → s.pqDepth q = 0 → Gives (.pqEnable q v) s fun t =>
      t.rb (Addr.passPqCfg q) 31 = false ∧ t.pass = s.pass ∧ ∃ r, r ∈ t.coll.posted ∧ r.code = .cfg)) ∧
  (∀ (q : Nat) (v : Word) (s : State), q < 64 → s.pqLocked q = false → s.rb (Addr.passPqCfg q) 31 = true → bit v 31 = false → fld v 4 0 = s.pqDepth q →
    Gives (.pqDisable q v) s fun t => t.rb (Addr.passPqCfg q) 31 = false ∧ t.queue q = { s.queue q with flushing := true } ∧
      ∀ k, k ≠ q → t.queue k = s.queue k) ∧
  (∀ (q : Nat) (s : State), q < 64 →
    (s.pqLocked q = false → Gives (.pqFlush q) s fun t => t.queue q = { s.queue q with flushing := true } ∧ ∀ k, k ≠ q → t.queue k = s.queue k) ∧
    (s.pqLocked q = true → Gives (.pqFlush q) s fun t => t.pass = s.pass ∧ ∃ r, r ∈ t.coll.posted ∧ r.code = .cfg) ∧
    ((s.queue q).flushing = true → Gives (.pqFlushComplete q) s fun t =>
      t.queue q = { s.queue q with items := [], credits := (s.queue q).credits + (s.queue q).items.length, flushing := false } ∧
      (∀ k, k ≠ q → t.queue k = s.queue k) ∧
      ((s.queue q).items ≠ [] → ∃ r, t.coll.posted = s.coll.posted ++ [r] ∧ r.code = .flushed))) ∧
  (∀ (p : Nat) (mask : Word) (s : State), p < 32 → (s.pool p).bump = none →
    ((∀ k, k ∈ maskBits mask.toNat 32 → (s.ctx k).state.live = false) → Gives (.poolRevoke p false mask) s fun t =>
      t.pool p = { s.pool p with bump := some (maskBits mask.toNat 32) } ∧ ∀ k, k ≠ p → t.pool k = s.pool k) ∧
    ((∃ k, k ∈ maskBits mask.toNat 32 ∧ (s.ctx k).state.live = true) → Gives (.poolRevoke p false mask) s fun t =>
      t.pass = s.pass ∧ ∃ r, r ∈ t.coll.posted ∧ r.code = .cfg)) ∧
  (∀ (p : Nat) (names : List Nat) (s : State), p < 32 → (s.pool p).bump = some names → s.flushHolds p = false →
    Gives (.poolBumpComplete p) s fun t =>
      (t.pool p).gen = ((s.pool p).gen + 1) % 256 ∧ (t.pool p).bump = none ∧ (t.pool p).queued = (s.pool p).queued ∧
      (t.pool p).held = (s.pool p).held.filter (fun y => !names.contains y.2) ∧
      (∀ i h, (i, h) ∈ (s.pool p).held → h ∈ names → i ∈ (t.pool p).free) ∧ ∀ k, k ≠ p → t.pool k = s.pool k) ∧
  (∀ (v : Word) (s : State),
    ((∀ q, q < 64 → s.rb (Addr.passPqCfg q) 31 = false) → (∀ p, p < 32 → (s.pool p).held = [] ∧ (s.pool p).queued = []) →
      Gives (.passCtrlWrite v) s fun t => t.rb Addr.passCtrl 0 = bit v 0 ∧ t.pass = s.pass) ∧
    (s.rb Addr.passCtrl 0 = true → bit v 0 = false → (∃ q, q < 64 ∧ s.rb (Addr.passPqCfg q) 31 = true) →
      Gives (.passCtrlWrite v) s fun t => t.rb Addr.passCtrl 0 = true ∧ t.pass = s.pass)) ∧
  (∀ (k : Nat) (s : State), k < 4 →
    (∀ it r, (s.queue (s.swPq k)).items = it :: r → (s.pool (hdPool it.handle)).bump = none → s.canPop (hCpu k) (s.swPq k) = true →
      s.whyStale it.handle HState.isQueued = none → Gives (.swPop (.cpu k) k) s fun t =>
        t.reg (Addr.passSwStatus k) = 0 ∧ t.reg (Addr.passSwHandle k) = it.handle ∧ (t.queue (s.swPq k)).items = r) ∧
    ((s.queue (s.swPq k)).items = [] → Gives (.swPop (.cpu k) k) s fun t => t.reg (Addr.passSwStatus k) = 1 ∧ t.pass = s.pass) ∧
    (∀ i r, s.plOn (s.swPl k) = true → (s.pool (s.swPl k)).bump = none → (s.pool (s.swPl k)).free = i :: r →
      Gives (.swAlloc (.cpu k) k) s fun t =>
        t.reg (Addr.passSwStatus k) = 0 ∧ t.reg (Addr.passSwHandle k) = s.handle (s.swPl k) i ∧
        t.pool (s.swPl k) = { s.pool (s.swPl k) with free := r, held := (i, hCpu k) :: (s.pool (s.swPl k)).held }) ∧
    (∀ h w, h = s.reg (Addr.passSwHandle k) → hdPool h ≠ 63 → (s.pool (hdPool h)).bump = none → s.fresh? h = true →
      (s.pool (hdPool h)).state (hdIdx h) = .held w → Gives (.swRelease (.cpu k) k) s fun t =>
        t.reg (Addr.passSwStatus k) = 0 ∧ (t.pool (hdPool h)).free = (s.pool (hdPool h)).free ++ [hdIdx h] ∧
        (t.pool (hdPool h)).held = dropHeld (s.pool (hdPool h)).held (hdIdx h)) ∧
    (∀ h v, h = s.reg (Addr.passSwHandle k) → hdPool h ≠ 63 → (s.pool (hdPool h)).bump = none → s.pushReady (hCpu k) (s.swPq k) h →
      Gives (.swPush (.cpu k) k v) s fun t =>
        t.reg (Addr.passSwStatus k) = 0 ∧ (t.queue (s.swPq k)).items = (s.queue (s.swPq k)).items ++
          [⟨h, BitVec.ofNat 64 (v.toNat * 2 ^ 32 + (s.reg (Addr.passSwMetaLo k)).toNat), s.reg (Addr.passSwVreg k)⟩]) ∧
    (∀ who v c, who ≠ .cpu k → c = Instr.swPop who k ∨ c = .swAlloc who k ∨ c = .swRelease who k ∨ c = .swPush who k v →
      Gives c s fun t => t.pass = s.pass ∧ t.reg (Addr.passSwStatus k) = s.reg (Addr.passSwStatus k) ∧ ∃ r, r ∈ t.coll.posted ∧ r.code = .cfg)) ∧
  (∀ (s : State),
    (s.pass.audit = none → Gives .passAudit s fun t => t.reg Addr.passAuditStatus = auditBusy ∧ t.pass.audit = some s.passAuditOf) ∧
    (s.wch.audit = none → Gives .wchAudit s fun t => t.reg Addr.wchAuditStatus = auditBusy ∧ t.wch.audit = some s.wchAuditOf) ∧
    (s.ms.audit = none → Gives .memAudit s fun t => t.reg Addr.memAuditStatus = auditBusy ∧ t.ms.audit = some s.memAuditOf) ∧
    (∀ x, s.pass.audit = some x → Gives (.auditComplete .pass) s fun t =>
      t.pass.audit = none ∧ t.reg Addr.passAuditStatus = x.result ∧ (x.raise ≠ [] → ∃ r, t.coll.posted = s.coll.posted ++ [r] ∧ r.code = .audit)))
/-! ## Events of a tensor core, its scratchpad and the weight chain -/

/-- Retirement, parity and initialisation of a tensor core (R163, R175-R181, R267-R270, R286-R292, R298, R300, R360): an operation that
retires writes its scalars, and is reported where it was a replay; a parity error in an operation that writes in place, has aborted
twice or reads a word without provenance poisons its destination, else the operation is aborted and runs again, and its reissue clears
the failure; an accumulator error poisons what was computed from it; the debug window reads
and writes the scratchpad where the firewall and the state of the core allow; SPM_INIT clears it only while no context is live; a region
becomes valid only where it may lie; and an activation table is written only while no context is live. -/
def Obligations.CoreEventsTakeEffect : Prop :=
  (∀ (n id : Nat) (sl : Slot) (s : State), n < 8 → (s.core n).slot? id = some sl → sl.issued = true → sl.retired = false → sl.running = true →
    sl.pend = [] → sl.sent = [] → sl.canDrain = true → sl.found = none → sl.unit ≠ .seq → (sl.writes.map (·.1)).Nodup →
    (s.ctx (4 * n + sl.cx)).fault = none →
    Gives (.operationRetire n id) s fun t =>
      t.retiredIn n id ∧ (∀ p, p ∈ sl.writes → t.sreg n sl.cx p.1 = p.2) ∧
      ((∀ e, e ∈ (s.core n).slots → e.outw = []) → t.mem = s.mem) ∧
      (sl.aborts = 0 → ∀ a, (∀ p, p ∈ sl.writes → a ≠ Addr.tcCxS n sl.cx p.1) → t.reg a = s.reg a) ∧
      (sl.aborts ≠ 0 → t.reg (Addr.tcReplayCnt n) = satInc (s.reg (Addr.tcReplayCnt n)) 1 ∧
        ∃ r, r ∈ t.coll.posted ∧ r.code = .parityReplayed)) ∧
  (∀ (n id a : Nat) (sl : Slot) (s : State), n < 8 → (s.core n).slot? id = some sl → sl.issued = true → sl.retired = false → sl.running = true →
    s.readsAt n sl 0 (a / 4 * 4) 4 = true →
    ((s.core n).spois 0 a = true → Gives (.parityError n id a) s fun t => t = s) ∧
    ((s.core n).spois 0 a = false → Gives (.parityError n id a) s fun t =>
      t.reg (Addr.spmParityCnt n) = satInc (s.reg (Addr.spmParityCnt n)) 1 ∧
      t.reg (Addr.tcParityLast n) = w32 (a / 64 % 32 * 65536 + a / 2048) ∧
      ((sl.gaveUp = true ∨ sl.inPlace = true ∨ 2 ≤ sl.aborts ∨ (s.badWord n a).provenance n sl a = .none) →
        (∃ e, e ∈ (t.core n).slots ∧ e.id = id ∧ e.bad = none ∧ e.gaveUp = true) ∧ ∃ r, r ∈ t.coll.posted ∧ r.code = .parityPoisoned) ∧
      (sl.gaveUp = false → sl.inPlace = false → sl.aborts < 2 → (s.badWord n a).provenance n sl a ≠ .none →
        ∃ e, e ∈ (t.core n).slots ∧ e.id = id ∧ e.running = false ∧ e.bad = some a ∧ e.aborts = sl.aborts + 1))) ∧
  (∀ (n id a : Nat) (sl : Slot) (s : State), n < 8 → (s.core n).slot? id = some sl → sl.bad = some a → sl.refill = false →
    (sl.producer = none → Gives (.parityReplayReissue n id) s fun t =>
      (∃ e, e ∈ (t.core n).slots ∧ e.id = id ∧ e.bad = none) ∧
      ((s.core n).perform (s.redo n sl.cx sl).1 (s.redo n sl.cx sl).2).sameData (t.core n)) ∧
    (∀ p e, sl.producer = some p → (s.core n).slot? p = some e → (e.op = 0x10 ∨ e.stale = false) →
      (s.asIssued n e.cx e).badRead n e.cx e.op e.w = none → Gives (.parityReplayReissue n id) s fun t =>
        ∃ e, e ∈ (t.core n).slots ∧ e.id = id ∧ e.bad = none ∧ e.producer = none)) ∧
  (∀ (n id e : Nat) (sl : Slot) (s : State), n < 8 → (s.core n).slot? id = some sl → sl.issued = true → sl.retired = false → sl.running = true →
    s.readsAt n sl 1 (4 * e) 4 = true → (s.core n).spois 1 (4 * e) = false →
    Gives (.accParityError n id e) s fun t =>
      t.reg (Addr.tcParityLast n) = w32 (2 ^ 31 + e / 16 % 32 * 65536 + e / 512) ∧ (∃ r, t.coll.posted = s.coll.posted ++ [r] ∧ r.code = .accParity) ∧
      (∀ sp x, (t.core n).sbyte sp x = (s.core n).sbyte sp x) ∧
      ∀ x, (s.accTaint n sl e).1 ≤ 2 → x / 32 ∈ wSectors (s.accTaint n sl e).2 → (t.core n).spois (s.accTaint n sl e).1 x = true) ∧
  (∀ (who : Initiator) (a n x len : Nat) (s : State), inDbg a = true → (n, x) = dbgAt a →
    (s.fwAllow who a false = true → dbgShape x len = true → s.dbgOn n = true → (s.core n).spmBad = [] →
      Gives (.debugWindowRead who a len) s fun t =>
        t.resp.err = false ∧ t.resp.data = (List.range len).map (fun i => (s.core n).sbyte 0 (x + i)) ∧ t.cores = s.cores) ∧
    (s.fwAllow who a false = true → dbgShape x len = false ∨ s.dbgOn n = false → Gives (.debugWindowRead who a len) s fun t =>
      t.resp.err = true ∧ t.resp.data = List.replicate len 0xFF ∧ t.cores = s.cores ∧ ∃ r, t.coll.posted = s.coll.posted ++ [r] ∧ r.code = .dbgWindow) ∧
    (s.fwAllow who a false = false → Gives (.debugWindowRead who a len) s fun t => t.cores = s.cores ∧ t.mem = s.mem)) ∧
  (∀ (who : Initiator) (a n x : Nat) (data : Bytes) (s : State), inDbg a = true → (n, x) = dbgAt a →
    (s.fwAllow who a true = true → dbgShape x data.length = true → s.dbgOn n = true →
      (s.rb (Addr.spmCtrl n) 31 = true ∨ ∀ m, m < 4 → (s.ctx (4 * n + m)).state.live = false) →
      Gives (.debugWindowWrite who a data) s fun t =>
        (∀ i, i < data.length → (t.core n).sbyte 0 (x + i) = lget 0 data i) ∧
        ∀ sp y, sp ≤ 2 → (sp ≠ 0 ∨ y < x ∨ x + data.length ≤ y) → (t.core n).sbyte sp y = (s.core n).sbyte sp y) ∧
    (s.fwAllow who a true = true → dbgShape x data.length = true → s.dbgOn n = true → s.rb (Addr.spmCtrl n) 31 = false →
      (∃ m, m < 4 ∧ (s.ctx (4 * n + m)).state.live = true) →
      Gives (.debugWindowWrite who a data) s fun t => t.cores = s.cores ∧ ∃ r, t.coll.posted = s.coll.posted ++ [r] ∧ r.code = .dbgWindow) ∧
    (s.fwAllow who a true = false → Gives (.debugWindowWrite who a data) s fun t => t.cores = s.cores ∧ t.mem = s.mem)) ∧
  (∀ (n : Nat) (s : State), n < 8 →
    (s.tcOn n = true → (∀ m, m < 4 → (s.ctx (4 * n + m)).state = .off ∨ (s.ctx (4 * n + m)).state = .done ∨ (s.ctx (4 * n + m)).state = .halted) →
      Gives (.spmInit n) s fun t => (∀ x, (t.core n).sbyte 0 x = 0 ∧ (t.core n).spois 0 x = false) ∧ (t.core n).acc = (s.core n).acc ∧
        ∀ k, k < 16 → 0 < s.resSize n k → t.resValid n k = false) ∧
    (s.tcOn n = true → (∃ m, m < 4 ∧ (s.ctx (4 * n + m)).state.live = true) →
      Gives (.spmInit n) s fun t => t.cores = s.cores ∧ ∃ r, r ∈ t.coll.posted ∧ r.code = .cfg) ∧
    Gives (.spmPowerupInitDone n) s fun t => t.core n = { s.core n with initBusy := false } ∧ t.rb Addr.pwrTcStatus (n + 8) = false) ∧
  (∀ (n k : Nat) (v : Word) (s : State), n < 8 → k < 16 → s.tcOn n = true →
    (s.resValid n k = false → (bit v 31 = true → s.resOk n k (fld v 21 0) = true) →
      Gives (.spmResValidWrite n k v) s fun t => t = s.putReg (Addr.spmResCtrl n k) v) ∧
    (s.resValid n k = false → bit v 31 = true → s.resOk n k (fld v 21 0) = false →
      Gives (.spmResValidWrite n k v) s fun t => t = s.refuse (Addr.spmResCtrl n k) v) ∧
    (s.resValid n k = true → fld v 21 0 = s.resBase n k →
      Gives (.spmResValidWrite n k v) s fun t => t.resValid n k = bit v 31 ∧ t.resBase n k = s.resBase n k)) ∧
  (∀ (n j i : Nat) (v : Word) (s : State), n < 8 → j < 8 → i < 128 → s.tcOn n = true →
    ((∀ m, m < 4 → (s.ctx (4 * n + m)).state.live = false) → Gives (.acttabWrite n j i v) s fun t => t = s.putReg (Addr.tcActtab n j + 4 * i) v) ∧
    ((∃ m, m < 4 ∧ (s.ctx (4 * n + m)).state.live = true) → Gives (.acttabWrite n j i v) s fun t =>
      t.regs = s.regs ∧ ∃ r, r ∈ t.coll.posted ∧ r.code = .cfg))

/-- The weight chain (R367-R377, R380, R417): a group waits until every core of its mask has requested, then sends its bytes as packets of at
most 4,096; a match that takes too long is reported and the fetch starts for those that asked; a packet gives its bytes to the core of the
hop and goes on where later cores want it and a buffer is free; a bypass starts and ends as its causes stand; SPLIT changes only while the
chain is idle. -/
def Obligations.WeightChainMovesPackets : Prop :=
  (∀ (hd : Bool) (h i : Nat) (g : FillGrp) (s : State), h = b2n hd → i < 16 → s.wch.refills = [] → s.rb Addr.wchCtrl 31 = true → s.group h i = some g →
    (g.fetching = false → s.grpFull g = false → Gives (.wchGroupFetch hd i) s fun t => t = s) ∧
    (g.fetching = true → s.grpTurn h g = true → s.hopFree (headHop h) ≠ 0 → g.targets ≠ 0 → g.sent < g.len →
      Gives (.wchGroupFetch hd i) s fun t =>
        t.hop (headHop h) = s.hop (headHop h) ++ [⟨g.targets, g.gid, g.src + g.sent, none, plain (s.unitRead .wch g.qos (g.src + g.sent) (min 4096 (g.len - g.sent))).1,
          secPoisons (s.unitRead .wch g.qos (g.src + g.sent) (min 4096 (g.len - g.sent))).1⟩] ∧
        (g.sent + 4096 < g.len → t.group h i = some { g with sent := g.sent + 4096 }) ∧ t.mem = s.mem)) ∧
  (∀ (hd : Bool) (h i : Nat) (g : FillGrp) (s : State), h = b2n hd → i < 16 → s.group h i = some g → g.fetching = false → s.grpFull g = false →
    g.since + usTicks (s.rf Addr.wchMatchTo 15 0) < s.now → (s.fetching h).length < 4 →
    Gives (.wchMatchTimeout hd i) s fun t =>
      (∃ g', t.group h i = some g' ∧ g'.fetching = true ∧ g'.reqs = g.reqs) ∧ ∃ r, t.coll.posted = s.coll.posted ++ [r] ∧ r.code = .wchMatch) ∧
  (∀ (i later : Nat) (p : ChainPkt) (r : List ChainPkt) (s : State), i < 8 → s.hop i = p :: r → later = p.mask / 2 ^ (i + 1) * 2 ^ (i + 1) →
    (later = 0 → Gives (.wchPacketHop i 0) s fun t => t.hop i = r ∧ t.hopFree i = s.hopFree i + 1 ∧ ∀ j, j ≠ i → t.hop j = s.hop j) ∧
    (∀ j, later ≠ 0 → s.nextHop i = some j → s.hopFree j ≠ 0 → Gives (.wchPacketHop i 0) s fun t =>
      t.hop i = r ∧ t.hop j = s.hop j ++ [{ p with mask := later }]) ∧
    (∀ j u, later ≠ 0 → s.nextHop i = some j → s.hopFree j = 0 → Gives (.wchPacketHop i u) s fun t => t = s) ∧
    (∀ u, later = 0 → u ≠ 0 → Gives (.wchPacketHop i u) s fun t =>
      t.hop i = r ∧ t.reg Addr.wchParityCnt = satInc (s.reg Addr.wchParityCnt) 1 ∧ ∃ e, e ∈ t.coll.posted ∧ e.code = .wchParity) ∧
    (∀ sl line bytes, later = 0 → nbit p.mask i = 1 → s.bypassed i = false → p.refill = none → (s.core i).slots = [sl] → sl.op = 0x12 →
      sl.group = some p.gid → sl.pend = [⟨line, bytes⟩] → p.src ≤ line → line < p.src + p.data.length → (bytes.map (·.1)).Nodup →
      Gives (.wchPacketHop i 0) s fun t =>
        (∀ b, b ∈ bytes → (t.core i).sbyte 0 b.1 = lget 0 p.data (b.2 - p.src)) ∧ ∃ e, (t.core i).slots = [e] ∧ e.pend = [])) ∧
  (∀ (n : Nat) (s : State), n < 8 →
    (s.bypassWanted n = s.bypassed n → Gives (.wchBypassSwitch n) s fun t => t = s) ∧
    (s.bypassWanted n ≠ s.bypassed n → Gives (.wchBypassSwitch n) s fun t => t.bypassed n = s.bypassWanted n)) ∧
  (∀ (v : Word) (s : State),
    (s.chainIdle = true → Gives (.wchSplitWrite v) s fun t => t.regs = (s.putReg Addr.wchCtrl v).regs ∧ (bit v 31 = true → t.wch.freeBuf = [])) ∧
    (s.chainIdle = false → bit v 0 ≠ s.rb Addr.wchCtrl 0 → Gives (.wchSplitWrite v) s fun t =>
      t.rb Addr.wchCtrl 0 = s.rb Addr.wchCtrl 0 ∧ t.rb Addr.wchCtrl 31 = bit v 31 ∧ t.wch = s.wch))
/-! ## The output formatter -/

/-- A formatter source takes items (R388, R394, R427-R431): a pop moves the item's buffer to the source and, once its rows are read, frees
it; an item that starts a frame opens it under the item's frame number and one with FRAME_END closes it; an item that goes on with a frame
from its next row brings the row count, which the status register shows, to the end of the item; an empty queue makes the source wait;
a disabled source does nothing. -/
def Obligations.FormatterSourcesTakeItems : Prop :=
  ∀ (i q : Nat) (s : State), i < 16 → q = s.rf (Addr.fmtSrcCfg i) 21 16 →
    (s.rb (Addr.fmtSrcCfg i) 31 = false → Gives (.fmtSourcePop i) s fun t => t = s) ∧
    (s.rb (Addr.fmtSrcCfg i) 31 = true → s.rb Addr.fmtCtrl 0 = true → (s.queue q).items = [] →
      Gives (.fmtSourcePop i) s fun t => hSrc i ∈ (t.queue q).popWait ∧ t.fmt = s.fmt ∧ t.mem = s.mem) ∧
    (∀ it r, s.rb (Addr.fmtSrcCfg i) 31 = true → s.rb Addr.fmtCtrl 0 = true → (s.queue q).items = it :: r → s.canPop (hSrc i) q = true →
      Gives (.fmtSourcePop i) s fun t =>
        (t.queue q).items = r ∧
        (hdPool it.handle ≠ 63 → (t.pool (hdPool it.handle)).state (hdIdx it.handle) = .free) ∧
        (mfld it.md 35 35 = 1 → (t.fsrc i).inFrame = false ∧ t.rb Addr.fmtStatus i = false) ∧
        (mfld it.md 35 35 = 0 → (t.fsrc i).inFrame = true ∧ (t.fsrc i).frame = mfld it.md 52 42) ∧
        (∀ z, mfld it.md 35 35 = 0 → (s.fsrc i).inFrame = true → (s.fsrc i).missing = false → (s.fsrc i).frame = mfld it.md 52 42 →
          mfld it.md 34 34 = 0 → hdPool it.handle ≠ 63 → s.fresh? it.handle = true → mfld it.md 15 0 = (s.fsrc i).next →
          z = min (min (mfld it.md 31 16 + 1) ((s.fsrc i).next + 64)) (s.rf (Addr.fmtSrcSize i) 15 0) → (s.fsrc i).next < z →
          (t.fsrc i).next = z ∧ t.rf (Addr.fmtSrcStatus i) 31 16 = z))

/-- Output streams deliver and are configured (R390, R394, R428, R432, R441, R459, R463, R464, R468, R469): a completed item goes to its
destination queue or waits for a credit; one not yet pushed at its deadline gets LATE, with E_FMT_LATE; an enable takes effect only when the
line store, or the stream's geometry, allows it; a disable drops what was in progress; a coefficient word is written only in a bank other
than 0 that no enabled stream uses. -/
def Obligations.FormatterStreamsDeliver : Prop :=
  (∀ (n q : Nat) (o : FmtOut) (d : FmtDone) (h : Word) (s : State), n < 48 → o = s.fout n → q = s.rf (Addr.fmtOsDest n) 29 24 →
    h = s.doneHandle d →
    (o.done = none → Gives (.fmtStreamPush n) s fun t => t = s) ∧
    (o.done = some d → s.pushReady (hOs n) q h → Gives (.fmtStreamPush n) s fun t =>
      (t.queue q).items = (s.queue q).items ++ [⟨h, d.md, d.vreg⟩] ∧ t.fout n = { o with done := none, deadline := none } ∧
      t.reg (Addr.fmtOsFrames n) = s.reg (Addr.fmtOsFrames n) + 1 ∧ ∀ k, k ≠ n → t.fout k = s.fout k) ∧
    (o.done = some d → d.buf = none → s.pqOn q = true → (s.queue q).flushing = false → (s.queue q).credits = 0 →
      Gives (.fmtStreamPush n) s fun t => hOs n ∈ (t.queue q).pushWait ∧ t.fmt = s.fmt) ∧
    (∀ dm f p, o.done = some d → o.deadline = some (dm, f, p) → (s.dom dm).running = true → s.posReached dm f p = true →
      Gives (.fmtDeadline n) s fun t =>
        t.fout n = { o with done := some { d with md := msetFld d.md 33 33 1 }, deadline := none } ∧
        ∃ r, t.coll.posted = s.coll.posted ++ [r] ∧ r.code = .fmtLate)) ∧
  (∀ (i : Nat) (v : Word) (s : State), i < 16 → s.rb (Addr.fmtSrcCfg i) 31 = false → bit v 31 = true →
    ((s.putReg (Addr.fmtSrcCfg i) v).lsUsed ≤ 983040 → Gives (.fmtSourceEnable i v) s fun t =>
      t.rb (Addr.fmtSrcCfg i) 31 = true ∧ t.reg Addr.fmtLsUsed = w32 (s.putReg (Addr.fmtSrcCfg i) v).lsUsed) ∧
    (983040 < (s.putReg (Addr.fmtSrcCfg i) v).lsUsed → Gives (.fmtSourceEnable i v) s fun t =>
      t.rb (Addr.fmtSrcCfg i) 31 = false ∧ ∃ r, r ∈ t.coll.posted ∧ r.code = .cfg)) ∧
  (∀ (i : Nat) (v : Word) (s : State), i < 16 → s.rb (Addr.fmtSrcCfg i) 31 = true → bit v 31 = false →
    Gives (.fmtSourceDisable i v) s fun t =>
      t.rb (Addr.fmtSrcCfg i) 31 = false ∧ t.fsrc i = {} ∧ (∀ k, k ≠ i → t.fsrc k = s.fsrc k) ∧
      ∀ n, n < 48 → s.rf (Addr.fmtOsCtrl n) 11 8 = i → (t.fout n).active = false) ∧
  (∀ (n : Nat) (v : Word) (u s : State), n < 48 → s.rb (Addr.fmtOsCtrl n) 31 = false → bit v 31 = true →
    fld v 23 20 ≤ fld v 27 24 → fld v 19 16 ≤ 7 →
    u = (s.noteRsvd (Addr.fmtOsCtrl n) v).setReg (Addr.fmtOsCtrl n) (setFld (setFld v 29 28 0) 15 12 0) →
    (u.fmtCanEnable n = true → Gives (.fmtStreamEnable n v) s fun t => t = u) ∧
    (u.fmtCanEnable n = false → Gives (.fmtStreamEnable n v) s fun t =>
      t.rb (Addr.fmtOsCtrl n) 31 = false ∧ t.fmt = s.fmt ∧ ∃ r, r ∈ t.coll.posted ∧ r.code = .cfg)) ∧
  (∀ (n : Nat) (v : Word) (s : State), n < 48 → s.rb (Addr.fmtOsCtrl n) 31 = true → bit v 31 = false → (s.fout n).done = none →
    Gives (.fmtStreamDisable n v) s fun t =>
      t.rb (Addr.fmtOsCtrl n) 31 = false ∧ t.fout n = { s.fout n with active := false, buf := none, prev := [] } ∧
      (∀ p b, (s.fout n).buf = some (p, b) → t.pool p = (s.release p b).pool p) ∧ ∀ k, k ≠ n → t.fout k = s.fout k) ∧
  (∀ (b word : Nat) (v : Word) (s : State), b < 8 → word < 448 →
    (b ≠ 0 → (∀ n, n < 48 → s.rb (Addr.fmtOsCtrl n) 31 = true → s.rf (Addr.fmtOsCtrl n) 18 16 ≠ b) →
      Gives (.fmtCoefWrite b word v) s fun t => t = s.setReg (Addr.fmtCoef b + 4 * word) v) ∧
    (b = 0 ∨ (∃ n, n < 48 ∧ s.rb (Addr.fmtOsCtrl n) 31 = true ∧ s.rf (Addr.fmtOsCtrl n) 18 16 = b) →
      Gives (.fmtCoefWrite b word v) s fun t => t.regs = s.regs ∧ ∃ r, t.coll.posted = s.coll.posted ++ [r] ∧ r.code = .cfg))

/-- Scaling one to one with the fixed bank 0 reproduces the source (R438-R441): every component of a pixel inside the crop and the valid
region is that of the source pixel, for whatever coefficients the other phases of the bank hold. -/
def Obligations.OneToOneScalingReproducesTheSource : Prop :=
  ∀ (s : State) (g : Scale) (rows : List FmtRow) (x y : Nat) (r : FmtRow) (p : Px),
    g.ow = g.cw → g.oh = g.ch → g.bank = 0 → x < g.cw → y < g.ch → g.cx + x < g.hiX → g.cy + y < g.hiY →
    rowOf rows (g.cy + y) = r → lget ([], true) r.px (g.cx + x) = p → p.1.length = g.nc → (∀ c, c ∈ p.1 → c < 65536) →
    (lget ([], true) (s.scaleRow g rows y) x).1 = p.1
/-! ## The detection postprocessor -/

/-- Jobs of the detection postprocessor run their course (R247, R470-R474, R487, R489, R494, R496, R499): a submission takes the lowest free
slot, whose next sequence number and index make the ticket, or returns 0xFFFFFFFF; a binding that holds its output buffer turns the next item
into a queued job; one job runs at a time; a completed job counts, shows its status and frees its slot, or first pushes its items when a
binding made it; an abort frees the slot with status 2 and a record; clearing EN aborts every job. -/
def Obligations.DetectionJobsRunTheirCourse : Prop :=
  (∀ (v : Word) (s : State),
    (∀ i, s.freeDslot = some i → s.rb Addr.dppCtrl 0 = true → Gives (.dppSubmit v) s fun t =>
      (t.dslot i).phase = .queued ∧ (t.dslot i).src = 1 ∧ (t.dslot i).addr = s.rf Addr.dppSubmitHi 1 0 * 2 ^ 38 + v.toNat * 64 ∧
      (t.dslot i).seq = ((s.dslot i).seq + 1) % 2 ^ 24 ∧ t.reg Addr.dppSubmitTicket = w32 ((t.dslot i).seq * 256 + i) ∧
      ∀ k, k ≠ i → t.dslot k = s.dslot k) ∧
    (s.freeDslot = none ∨ s.rb Addr.dppCtrl 0 = false → Gives (.dppSubmit v) s fun t =>
      t.reg Addr.dppSubmitTicket = 0xFFFFFFFF ∧ t.dpp = s.dpp)) ∧
  (∀ (k q i : Nat) (b : Nat × Nat) (s : State), k < 4 → q = s.rf (Addr.dppBindCfg k) 29 24 → s.freeDslot = some i → (s.dbind k).out = some b →
    s.jobCtrlBit { src := 4 + k } 5 = false → s.rb (Addr.dppBindCfg k) 31 = true → s.rb Addr.dppCtrl 0 = true →
    (∀ it r, (s.queue q).items = it :: r → s.canPop hDpp q = true → hdPool it.handle ≠ 63 → s.fresh? it.handle = true →
      Gives (.dppBindPop k) s fun t =>
        (t.queue q).items = r ∧ (t.dslot i).phase = .queued ∧ (t.dslot i).src = 4 + k ∧ (t.dslot i).item = it ∧ (t.dslot i).out = some b ∧
        t.dbind k = {} ∧ ∀ j, j ≠ i → t.dslot j = s.dslot j) ∧
    ((s.queue q).items = [] → Gives (.dppBindPop k) s fun t => hDpp ∈ (t.queue q).popWait ∧ ∀ j, t.dslot j = s.dslot j)) ∧
  (∀ (s : State),
    (s.rb Addr.dppCtrl 0 = false → Gives .dppJobStart s fun t => t = s) ∧
    (∀ i, i < 8 → (s.dslot i).phase = .running → Gives .dppJobStart s fun t => t = s) ∧
    (∀ i, (∀ k, k < 8 → (s.dslot k).phase ≠ .running) → s.rb Addr.dppCtrl 0 = true → s.nextJob = some i → Gives .dppJobStart s fun t =>
      (t.dslot i).phase = .running ∧ (t.dslot i).seq = (s.dslot i).seq ∧ t.rb (Addr.dppSlotStatus i) 31 = true ∧
      ∀ k, k ≠ i → t.dslot k = s.dslot k) ∧
    (∀ i x, i < 8 → x = s.dslot i → x.phase = .running → (∀ k, k < i → (s.dslot k).phase ≠ .running) → Gives .dppJobComplete s fun t =>
      t.reg Addr.dppJobs = s.reg Addr.dppJobs + 1 ∧ t.reg (Addr.dppSlotStatus i) = w32 (x.status * 2 ^ 28 + x.src * 2 ^ 24 + x.recs) ∧
      t.dslot i = { x with phase := if 4 ≤ x.src then .pushOut else .free } ∧ ∀ k, k ≠ i → t.dslot k = s.dslot k)) ∧
  (∀ (i q p j : Nat) (x : DppSlot) (s : State), i < 8 → x = s.dslot i → x.phase = .pushOut → x.out = some (p, j) →
    q = s.rf (Addr.dppBindCfg (x.src - 4)) 21 16 → s.pushReady hDpp q (s.handle p j) →
    Gives (.dppItemPush i) s fun t =>
      (t.queue q).items = (s.queue q).items ++ [{ x.outItem with handle := s.handle p j }] ∧ (t.dslot i).out = none ∧
      (t.dslot i).phase = (if x.map = none then .free else .pushMap)) ∧
  (∀ (i : Nat) (s : State), i < 8 →
    ((s.dslot i).phase = .free → Gives (.dppSlotAbort i) s fun t => t = s) ∧
    ((s.dslot i).phase ≠ .free → Gives (.dppSlotAbort i) s fun t =>
      t.dslot i = { s.dslot i with phase := .free, status := 2, recs := 0, out := none, map := none } ∧
      (∀ k, k ≠ i → t.dslot k = s.dslot k) ∧ ∃ r, t.coll.posted = s.coll.posted ++ [r] ∧ r.code = .dppAbort)) ∧
  (∀ s : State, s.rb Addr.dppCtrl 0 = true → Gives .dppDisable s fun t =>
    t.rb Addr.dppCtrl 0 = false ∧ (∀ i, i < 8 → (t.dslot i).phase = .free) ∧ ∀ k, k < 4 → t.dbind k = {})
/-! ## The video encoders -/

/-- Pictures of an encoder session run their course (R505, R507, R508, R527, R528, R532, R543-R545, R550): the session pops an item, stamped with
the time of day; the engine starts the picture in a fresh output buffer, or counts a skip when its pool has none; a row boundary codes one
row; after the last row the picture is no longer in progress, and a finished item goes to its queue and counts; a picture past its deadline
is marked late, once; a session is enabled only with settings that fit, and disabling it drops what it holds, unless it is evidentiary. -/
def Obligations.EncoderPicturesRunTheirCourse : Prop :=
  (∀ (e ss k : Nat) (x : VSess) (s : State), e < 2 → ss < 16 → k = 16 * e + ss → x = s.vsess k →
    (∀ q it r, s.rb (Addr.vencCtrl e) 0 = true → s.vOn e ss = true → x.pic = none → x.run = none → x.done = none →
      q = s.rf (Addr.vencSIo e ss) 29 24 → (s.queue q).items = it :: r → s.canPop (hVenc e) q = true → hdPool it.handle ≠ 63 →
      s.fresh? it.handle = true → tiledSize (s.vDim e ss).1 (s.vDim e ss).2 (s.vB e ss) ≤ s.plSize (hdPool it.handle) →
      Gives (.vencPicturePop e ss) s fun t => (t.queue q).items = r ∧
        ∃ p, t.vsess k = { x with pic := some p } ∧ p.item = it ∧ p.todSec = s.tod.sec ∧ p.todTick = s.tod.tick ∧ p.late = false) ∧
    (∀ p pool, s.rb (Addr.vencCtrl e) 0 = true → s.vcur e = none → s.vNext e = some ss → x.pic = some p → s.vEvid e ss = false →
      pool = s.rf (Addr.vencSIo e ss) 4 0 →
      ((s.alloc (hVenc e) pool).1 = none → Gives (.vencPictureStart e ss) s fun t =>
        (t.vsess k).pic = none ∧ t.reg (Addr.vencSSkips e ss) = satInc (s.reg (Addr.vencSSkips e ss)) 1 ∧
        ∃ r, t.coll.posted = s.coll.posted ++ [r] ∧ r.code = .vencSkip) ∧
      (∀ b, (s.alloc (hVenc e) pool).1 = some b → x.done = none → mfld p.item.md 34 34 = 0 → bit (s.reg (Addr.vencSMap e ss)) 31 = false →
        Gives (.vencPictureStart e ss) s fun t => t.vcur e = some ss ∧ (t.vsess k).pic = none ∧ (t.vsess k).cfg = s.vCfgNow e ss ∧
          ∃ r, (t.vsess k).run = some r ∧ r.pic = p ∧ r.row = 0 ∧ r.pool = pool ∧ r.buf = b)) ∧
    (∀ r, s.rb (Addr.vencCtrl e) 0 = true → s.vcur e = some ss → x.run = some r →
      (r.row < s.vRows e ss → Gives (.vencRowBoundary e) s fun t =>
        ∃ r', (t.vsess k).run = some r' ∧ r'.row = r.row + 1 ∧ r'.pic = r.pic ∧ r'.buf = r.buf) ∧
      (s.vRows e ss ≤ r.row → s.vOn e ss = true → Gives (.vencPictureComplete e ss) s fun t => (t.vsess k).run = none ∧ (t.vsess k).pic = none)) ∧
    (∀ d, s.rb (Addr.vencCtrl e) 0 = true → s.vOn e ss = true → x.run = none → x.ending = false → x.done = some d → d.last = false →
      s.pushReady (hVenc e) d.q (s.handle d.pool d.buf) → Gives (.vencPictureComplete e ss) s fun t =>
        (t.queue d.q).items = (s.queue d.q).items ++ [⟨s.handle d.pool d.buf, d.md, 0xFFFFFFFF⟩] ∧ t.vsess k = { x with done := none } ∧
        t.reg (Addr.vencSPics e ss) = s.reg (Addr.vencSPics e ss) + 1) ∧
    (∀ p, x.run = none → x.pic = some p →
      (s.vLate e ss p = true → Gives (.vencDeadline e ss) s fun t => t.vsess k = { x with pic := some { p with late := true } } ∧
        ∃ r, t.coll.posted = s.coll.posted ++ [r] ∧ r.code = .vencLate) ∧
      (s.vLate e ss p = false → Gives (.vencDeadline e ss) s fun t => t = s)) ∧
    (∀ v u, s.vOn e ss = false → bit v 31 = true → u = s.putReg (Addr.vencSCtrl e ss) (setFld v 31 31 0) →
      (u.vOk e ss = true → Gives (.vencSessionEnable e ss v) s fun t => t.vOn e ss = true ∧ t.vsess k = { cfg := u.vCfgNow e ss }) ∧
      (u.vOk e ss = false → Gives (.vencSessionEnable e ss v) s fun t =>
        t.regs = u.regs ∧ t.venc = s.venc ∧ ∃ r, r ∈ t.coll.posted ∧ r.code = .cfg)) ∧
    (∀ v, s.vOn e ss = true → bit v 31 = false → setFld v 31 31 1 = s.vctrl e ss →
      (s.vEvid e ss = false → Gives (.vencSessionDisable e ss v) s fun t => t.vOn e ss = false ∧ t.vsess k = {}) ∧
      (s.vEvid e ss = true → Gives (.vencSessionDisable e ss v) s fun t => t.vOn e ss = true ∧ t.venc = s.venc ∧ ∃ r, r ∈ t.coll.posted ∧ r.code = .cfg)))

/-- The commands of an encoder's ring take effect (R509, R514, R538-R541, R545): CMD_TAIL takes a value inside the ring; with the entry at the
head read, well formed, and no picture in progress for the session or for the owner of the buffer, each command does what it says, or changes
nothing of the encoders and is rejected with E_VENC_CMD where the table of R539 says so; while such a picture is in progress it waits. -/
def Obligations.EncoderCommandsTakeEffect : Prop :=
  (∀ (e : Nat) (v : Word) (s : State), e < 2 →
    (fld v 11 0 < 2 ^ s.rf (Addr.vencCmdSize e) 3 0 → Gives (.vencCmdTailWrite e v) s fun t => t.rf (Addr.vencCmdTail e) 11 0 = fld v 11 0) ∧
    (2 ^ s.rf (Addr.vencCmdSize e) 3 0 ≤ fld v 11 0 → Gives (.vencCmdTailWrite e v) s fun t =>
      t.rf (Addr.vencCmdTail e) 11 0 = s.rf (Addr.vencCmdTail e) 11 0 ∧ t.venc = s.venc)) ∧
  (∀ (e op ss b : Nat) (l : Bytes) (u s : State), e < 2 → s.vRing e = true → s.vEntry e = (l, u) → at_ l 0 1 = op → ss = at_ l 1 1 → b = at_ l 2 1 →
    (∀ c, (op = 1 ∧ c = Instr.forceIdr e) ∨ (op = 2 ∧ c = .markLong e) ∨ (op = 3 ∧ c = .unmark e) ∨ (op = 4 ∧ c = .holdCmd e) ∨
        (op = 5 ∧ c = .releaseCmd e) ∨ (op = 6 ∧ c = .setRate e) ∨ (op = 7 ∧ c = .setQp e) ∨ (op = 8 ∧ c = .endSession e) →
      (u.vWellFormed e op l = false → Gives c s fun t => t.venc = s.venc ∧ ∃ r, r ∈ t.coll.posted ∧ r.code = .vencCmd) ∧
      (u.vWellFormed e op l = true → (op = 1 ∨ 6 ≤ op) → (u.vsess (16 * e + ss)).run ≠ none → Gives c s fun t => t = s)) ∧
    (u.vWellFormed e op l = true →
      ((u.vsess (16 * e + ss)).run = none → u.vOn e ss = true →
        (op = 1 → Gives (.forceIdr e) s fun t => t.vsess (16 * e + ss) = { u.vsess (16 * e + ss) with force := true }) ∧
        (op = 6 → at_ l 4 3 ≠ 0 → Gives (.setRate e) s fun t => t.rf (Addr.vencSBitrate e ss) 23 0 = at_ l 4 3 % 2 ^ 24) ∧
        (op = 7 → at_ l 4 1 % 64 ≤ 51 → at_ l 5 1 % 64 ≤ 51 → Gives (.setQp e) s fun t =>
          t.rf (Addr.vencSQp e ss) 7 0 = at_ l 4 1 % 64 ∧ t.rf (Addr.vencSQp e ss) 15 8 = at_ l 5 1 % 64) ∧
        (op = 8 → (u.vsess (16 * e + ss)).pic ≠ none → (u.vsess (16 * e + ss)).done = none → Gives (.endSession e) s fun t =>
          t.vsess (16 * e + ss) = { u.vsess (16 * e + ss) with ending := true })) ∧
      (∀ x, x = u.vref e b → (u.vsess (16 * e + x.owner)).run = none →
        (op = 2 → x.mark = .short → at_ l 3 1 ≤ 3 → (∀ i, i ∈ u.vMarked e x.owner (· == .long) → (u.vref e i).long ≠ at_ l 3 1) →
          (u.vMarked e x.owner (· == .long)).length + 1 ≤ u.rf (Addr.vencSGop e x.owner) 27 24 →
          Gives (.markLong e) s fun t => t.vref e b = { x with mark := .long, long := at_ l 3 1 }) ∧
        (op = 3 → x.mark.isRef = true → Gives (.unmark e) s fun t => t.vref e b = {}) ∧
        (op = 4 → x.mark ≠ .free → Gives (.holdCmd e) s fun t => t.vref e b = { x with mark := .held }) ∧
        (op = 5 → x.mark = .held → Gives (.releaseCmd e) s fun t => t.vref e b = {})) ∧
      (∀ c, (op = 1 ∧ c = Instr.forceIdr e ∧ u.vOn e ss = false) ∨ (op = 6 ∧ c = .setRate e ∧ (u.vOn e ss = false ∨ at_ l 4 3 = 0)) ∨
          (op = 7 ∧ c = .setQp e ∧ (51 < at_ l 4 1 % 64 ∨ 51 < at_ l 5 1 % 64)) ∨ (op = 8 ∧ c = .endSession e ∧ u.vOn e ss = false) →
        (u.vsess (16 * e + ss)).run = none → Gives c s fun t => t.venc = s.venc ∧ ∃ r, r ∈ t.coll.posted ∧ r.code = .vencCmd) ∧
      (∀ x c, x = u.vref e b →
        (op = 2 ∧ c = Instr.markLong e ∧ (x.mark ≠ .short ∨ 3 < at_ l 3 1 ∨
          (∃ i, i ∈ u.vMarked e x.owner (· == .long) ∧ (u.vref e i).long = at_ l 3 1) ∨
          u.rf (Addr.vencSGop e x.owner) 27 24 < (u.vMarked e x.owner (· == .long)).length + 1)) ∨
          (op = 3 ∧ c = .unmark e ∧ x.mark.isRef = false) ∨ (op = 4 ∧ c = .holdCmd e ∧ x.mark = .free) ∨
          (op = 5 ∧ c = .releaseCmd e ∧ x.mark ≠ .held) →
        (x.mark = .free ∨ (u.vsess (16 * e + x.owner)).run = none) →
        Gives c s fun t => t.venc = s.venc ∧ ∃ r, r ∈ t.coll.posted ∧ r.code = .vencCmd) ∧
      (∀ x c, x = u.vref e b → (op = 2 ∧ c = Instr.markLong e) ∨ (op = 3 ∧ c = .unmark e) ∨ (op = 4 ∧ c = .holdCmd e) ∨ (op = 5 ∧ c = .releaseCmd e) →
        x.mark ≠ .free → (u.vsess (16 * e + x.owner)).run ≠ none → Gives c s fun t => t = s)))

/-! ## The video decoder -/

/-- Decoder sessions run their course (R552, R555-R557, R560, R564, R565, R568-R570, R575, R578, R580, R581): an idle engine takes the
session that has waited longest among those with stream and a free buffer; a session pops its items, a placeholder being a discontinuity; a
parameter set is kept and an intra slice decodes its areas; what the budget cuts off is an error, and no second one is counted before a NAL
unit is parsed again; a complete picture leaves the engine; a picture to be output takes an output buffer or is skipped with E_VDEC_SKIP; a
drained session forgets its parameter sets; a disabled one holds nothing. -/
def Obligations.DecoderSessionsRunTheirCourse : Prop :=
  (∀ s : State,
    (s.vdec.cur ≠ none → Gives .vdecPictureStart s fun t => t = s) ∧
    (s.vdec.cur = none → Gives .vdecPictureStart s fun t =>
      (∀ j, t.vdec.cur = some j → j < 8 ∧ s.vdReady j = true ∧ ∀ i, i < 8 → s.vdReady i = true → (s.vd j).since ≤ (s.vd i).since) ∧
      (t.vdec.cur = none → ∀ i, i < 8 → s.vdReady i = false))) ∧
  (∀ (k : Nat) (x : VdSess) (s : State), s.vdOn k = true → x = s.vd k →
    (∀ q it r, x.inp.length < 2 → q = s.rf (Addr.vdecSIo k) 29 24 → (s.queue q).items = it :: r → s.canPop hVdec q = true →
      Gives (.vdecInputPop k) s fun t => (t.queue q).items = r ∧ (t.vd k).drained = false ∧
        (hdPool it.handle = 63 → t.vd k = { x with cut := true, drained := false })) ∧
    (∀ n, (s.vdTakes k n = false → Gives (.vdecNalUnit k n) s fun t => t = s) ∧
      (∀ y, s.vdTakes k n = true → nalErr n (s.vdRead n.bytes x.inp).1 0 = none →
        y = { x with inp := (vdEat n.bytes x.inp).1, off := x.off + n.bytes } →
        (n.body = .other → Gives (.vdecNalUnit k n) s fun t => t.vd k = y) ∧
        (∀ i, n.body = .sps i → Gives (.vdecNalUnit k n) s fun t =>
          t.vd k = { y with spss := tset (fun _ => none) x.spss i.id (some i), told := x.told.filter (· != i.id) }) ∧
        (∀ i p, n.body = .slice i → i.first = false → x.pic = some p →
          (p.stopped = true → Gives (.vdecNalUnit k n) s fun t => t.vd k = y) ∧
          (p.stopped = false → i.reads = [] → (∀ a, a ∈ i.areas → a < spsAreas p.sps) → Gives (.vdecNalUnit k n) s fun t =>
            ∃ p', (t.vd k).pic = some p' ∧ p'.buf = p.buf ∧ p'.errs = p.errs ∧ p'.bad = false ∧
              ∀ a, a ∈ i.areas → tget (fun _ => false) p'.areas a = true)))) ∧
    (∀ p b, s.vdec.cur = some k → x.pic = some p →
      (p.bad = true → Gives (.vdecBudgetExhausted k b) s fun t => t = s) ∧
      (p.bad = false → s.vdStrict k = false → Gives (.vdecBudgetExhausted k b) s fun t =>
        ∃ p', (t.vd k).pic = some p' ∧ p'.bad = true ∧ p'.stopped = (p.stopped || !b) ∧ ∃ e, e ∈ p'.errs ∧ e.code = .vdecBudget) ∧
      (p.bad = false → s.vdStrict k = true → Gives (.vdecBudgetExhausted k b) s fun t => (t.vd k).pic = none ∧ t.vdec.cur = none) ∧
      (x.drain = false → Gives (.vdecPictureComplete k) s fun t => (t.vd k).pic = none ∧ t.vdec.cur = none)) ∧
    (∀ i, x.out = none → x.holes = [] → x.drain = false → s.vdFirst k = some i →
      ((s.alloc hVdec (s.vdPl k)).1 = none → Gives (.vdecOutput k i) s fun t =>
        (t.vb i).out = false ∧ ∃ r, r ∈ t.coll.posted ∧ r.code = .vdecSkip) ∧
      (∀ h, (s.alloc hVdec (s.vdPl k)).1 = some h → Gives (.vdecOutput k i) s fun t =>
        (∃ o, (t.vd k).out = some o ∧ o.buf = i) ∨ ((t.vd k).out = none ∧ (t.vb i).out = false))) ∧
    (x.holes = [] → x.out = none →
      (x.inp ≠ [] → Gives (.vdecDrain k) s fun t => t.vd k = { x with drain := true }) ∧
      (x.inp = [] → (s.queue (s.rf (Addr.vdecSIo k) 29 24)).items = [] → x.pic = none → s.vdFirst k = none → Gives (.vdecDrain k) s fun t =>
        (t.vd k).drained = true ∧ (t.vd k).drain = false ∧ (t.vd k).spss = [] ∧ (t.vd k).skip = .start)) ∧
    (∀ v, bit v 31 = false → Gives (.vdecSessionDisable k v) s fun t => t.vd k = {} ∧ bit (t.vdCtrl k) 31 = false))

/-! ## The coherent caches -/

/-- Transactions follow the table (R592, R593, R600, R604-R606): GET_S leaves the owner O or S and fills the requester with the
owner's bytes and poison, or memory's where no core owns the line; GET_M and UPGRADE leave the requester alone with the line in M, by GET_M with
the owner's bytes; SYNC_KEEP cleans every copy and SYNC_DROP leaves none, each with dirty data written to memory and memory else unchanged; DROP
leaves none and writes nothing back; a denied access changes no copy. -/
def Obligations.TransactionsFollowTheTable : Prop :=
  ∀ (cpu line : Nat) (s : State), s.cohMay cpu line = true →
    (s.cl cpu line = none → s.fwAllow (.cpu cpu) line false = true →
      (Gives (.getS cpu line) s fun t =>
        (∃ c, t.cl cpu line = some c ∧ c.st = (match s.snoopData line (s.others cpu) with
          | some x => if x.2.2.2 then .o else .s
          | none => if (s.others cpu).any (fun i => (s.cl i line).isSome) then .s else .e) ∧
          (c.data, c.bad) = (match s.snoopData line (s.others cpu) with
            | some x => (x.1, x.2.1)
            | none => (((s.tracked line).lineIn cpu line).1, ((s.tracked line).lineIn cpu line).2.1))) ∧
        ∀ i, i < 4 → i ≠ cpu → s.joined i = true → t.cl i line = (s.cl i line).map fun c =>
          { c with st := match c.st with | .m => .o | .o => .o | .e => .s | .s => .s }) ∧
      (Gives (.getM cpu line true) s fun t => tget (fun _ => none) t.coh.resv cpu = some (line / 64) ∧
        (∃ c, t.cl cpu line = some c ∧ c.st = .m ∧ ∀ x, s.snoopData line (s.others cpu) = some x → c.data = x.1 ∧ c.bad = x.2.1) ∧
        ∀ i, i < 4 → i ≠ cpu → s.joined i = true → t.cl i line = none)) ∧
    (s.fwAllow (.cpu cpu) line true = true →
      (s.cl cpu line = none → Gives (.getM cpu line false) s fun t =>
        (∃ c, t.cl cpu line = some c ∧ c.st = .m ∧ ∀ x, s.snoopData line (s.others cpu) = some x → c.data = x.1 ∧ c.bad = x.2.1) ∧
        ∀ i, i < 4 → i ≠ cpu → s.joined i = true → t.cl i line = none) ∧
      (∀ c, s.cl cpu line = some c → c.st = .s ∨ c.st = .o → Gives (.upgrade cpu line) s fun t =>
        t.cl cpu line = some { c with st := .m } ∧ ∀ i, i < 4 → i ≠ cpu → s.joined i = true → t.cl i line = none)) ∧
    (s.fwAllow (.cpu cpu) line false = true ∨ s.fwAllow (.cpu cpu) line true = true →
      (∀ c, c = Instr.syncKeep cpu line ∨ c = .cboClean cpu line → Gives c s fun t =>
        t.mem = (match s.snoopData line (cpu :: s.others cpu) with
          | some x => if x.2.2.1 then ((s.tracked line).lineOut cpu line x.1 x.2.1).mem else s.mem
          | none => s.mem) ∧
        ∀ i, i < 4 → s.joined i = true → t.cl i line = (s.cl i line).map fun c =>
          { c with st := match c.st with | .m => .e | .o => .s | .e => .e | .s => .s }) ∧
      (∀ c, c = Instr.syncDrop cpu line ∨ c = .cboFlush cpu line ∨ c = .cboInval cpu line 1 → Gives c s fun t =>
        t.mem = (match s.snoopData line (cpu :: s.others cpu) with
          | some x => if x.2.2.1 then ((s.tracked line).lineOut cpu line x.1 x.2.1).mem else s.mem
          | none => s.mem) ∧
        ∀ i, i < 4 → s.joined i = true → t.cl i line = none) ∧
      (∀ c, c = Instr.dropLine cpu line ∨ c = .cboInval cpu line 3 → Gives c s fun t =>
        t.mem = s.mem ∧ ∀ i, i < 4 → s.joined i = true → t.cl i line = none)) ∧
    (∀ b, b ≠ 1 → b ≠ 3 → Gives (.cboInval cpu line b) s fun t => t = { s with resp := { err := true } }) ∧
    (s.fwAllow (.cpu cpu) line false = false → s.fwAllow (.cpu cpu) line true = false →
      ∀ c, c = Instr.getS cpu line ∨ c = .getM cpu line false ∨ c = .upgrade cpu line ∨ c = .syncKeep cpu line ∨ c = .syncDrop cpu line ∨
        c = .dropLine cpu line → Gives c s fun t => t.coh = s.coh)

/-- The caches' other events (R586, R591, R599, R602, R612-R616): evictions and writebacks, store hits, poison, timeouts, scrubs, flushes. -/
def Obligations.CacheEventsTakeEffect : Prop :=
  (∀ (cpu line : Nat) (c : CLine) (s : State), s.cl cpu line = some c →
    (Gives (.cacheLineEviction cpu line) s fun t => t.cl cpu line = none ∧
      t.coh.wbuf = if c.st.dirty then s.coh.wbuf ++ [⟨cpu, line / 64 * 64, c.data, c.bad, false⟩] else s.coh.wbuf) ∧
    (∀ l, s.joined cpu = true → line % 64 + l.length ≤ 64 → l ≠ [] → c.st = .m ∨ c.st = .e → touchesBad c.bad (line % 64) l.length = false →
      s.fwAllow (.cpu cpu) line true = true → Gives (.cpuStoreHit cpu line l) s fun t =>
        t.cl cpu line = some { c with st := .m, data := c.data.take (line % 64) ++ l ++ c.data.drop (line % 64 + l.length) }) ∧
    (∀ k, (touchesBad c.bad (line % 64) 1 = true → Gives (.cpuPoisonAccess cpu line k) s fun t =>
        t.reg (Addr.cohCpuPoison cpu) = satInc (s.reg (Addr.cohCpuPoison cpu)) 1 ∧ tget (fun _ => 0) t.coh.tval cpu = line ∧ t.resp.err = true ∧
        ∃ r, t.coll.posted = s.coll.posted ++ [r] ∧ r.code = .cpuPoison) ∧
      (touchesBad c.bad (line % 64) 1 = false → Gives (.cpuPoisonAccess cpu line k) s fun t => t = s))) ∧
  (∀ (cpu line : Nat) (w : WLine) (s : State), s.coh.wbuf.find? (fun w => w.cpu == cpu && decide (w.line / 64 = line / 64)) = some w →
    (s.joined cpu = true → Gives (.putDirty cpu line) s fun t =>
      t.coh.wbuf = s.coh.wbuf.filter (fun v => !(v.cpu == cpu && decide (v.line / 64 = line / 64))) ∧ (w.taken = true → t.mem = s.mem)) ∧
    (s.joined cpu = false → Gives (.putDirty cpu line) s fun t => t = s)) ∧
  (∀ (core line r sent : Nat) (k : CohKind) (s : State), s.joined core = true → inDram line = true →
    (s.snoopLate sent = true → k = .scrub ∨ (core ≠ r ∧ s.joined r = true) → Gives (.snoopTimeout core line r k sent) s fun t => t.joined core = false ∧ t.isolated core = true ∧
      t.reg Addr.cohToCnt = satInc (s.reg Addr.cohToCnt) 1 ∧ (∀ w, w ∈ t.coh.wbuf → w.cpu ≠ core) ∧
      ∃ e, e ∈ t.coll.posted ∧ e.code = .snoopTimeout) ∧
    (s.snoopLate sent = false ∨ (k ≠ .scrub ∧ (core = r ∨ s.joined r = false)) → Gives (.snoopTimeout core line r k sent) s fun t => t = s)) ∧
  (∀ (v : Word) (line : Nat) (s : State), line = fld v 7 0 * 2 ^ 32 + s.rf Addr.cohScrubLo 31 6 * 64 → s.rb Addr.cohScrubStatus 31 = false →
    (inDram line = true → Gives (.cohScrub v) s fun t => t.rf Addr.cohScrubStatus 15 0 = (s.rf Addr.cohScrubStatus 15 0 + 1) % 2 ^ 16 ∧
      ∀ i, i < 4 → s.joined i = true → t.cl i line = none) ∧
    (inDram line = false → Gives (.cohScrub v) s fun t => t.coh = s.coh ∧ t.mem = s.mem)) ∧
  (∀ (cpu : Nat) (s : State), cpu < 4 →
    (s.isolated cpu = true → Gives (.flushAll cpu) s fun t => t.coh = s.coh ∧ ∃ r, t.coll.posted = s.coll.posted ++ [r] ∧ r.code = .cfg) ∧
    (s.isolated cpu = false → s.rb (Addr.cohCpuStatus cpu) 2 = false → Gives (.flushAll cpu) s fun t =>
      t.rb (Addr.cohCpuStatus cpu) 2 = true ∧ tget (fun _ => []) t.coh.flush cpu = s.linesOf cpu) ∧
    (s.rb (Addr.cohCpuStatus cpu) 2 = true → Gives (.flushAllDone cpu) s fun t =>
      t.rb (Addr.cohCpuStatus cpu) 2 = false ∧ tget (fun _ => []) t.coh.flush cpu = [] ∧ ∀ w, w ∈ t.coh.wbuf → w.cpu ≠ cpu))

/-! ## The memory slices -/

/-- The slices serve requests (R626, R628, R631-R638, R643, R646, R649): training by INIT, once at a time; reads that find a credit are
answered, or wait while their channel retrains or a write to their line is open; a masked write stores exactly the bytes of its mask and takes
an entry of its class; without a credit or an entry a request changes nothing; starved reads are guarded; the LINE share of a window is kept. -/
def Obligations.MemorySlicesServeRequests : Prop :=
  (∀ s : State,
    (s.ms.training = false → s.rb Addr.memStatus 31 = false → Gives .memInit s fun t => t = { s with ms := { s.ms with training := true } }) ∧
    (s.ms.training = true ∨ s.rb Addr.memStatus 31 = true → Gives .memInit s fun t =>
      t.ms = s.ms ∧ ∃ r, t.coll.posted = s.coll.posted ++ [r] ∧ r.code = .cfg) ∧
    (s.ms.training = true → Gives .memInitDone s fun t => t.ms.training = false ∧ t.rb Addr.memStatus 31 = true ∧ (s.ms.kept = none → t.mem = [])) ∧
    (s.ms.training = false → Gives .memInitDone s fun t => t = s)) ∧
  (∀ (who : Initiator) (want cls : Qos) (x i : Nat) (s : State), i = sliceOf x → cls = qosFor who want → inDram x = true →
    (s.fwAllow who x false = true →
      (s.memOk x = true → credOk (fun c => (qosReserve c).1) 240 (s.slice i).reads cls = true →
        (s.chBusy (physChan x) = false → s.lineOpen x = false → Gives (.memRead who want x 0 0) s fun t =>
          t.mem = s.mem ∧ t.resp.err = false ∧ t.resp.data = plain (s.peek (x / 64 * 64) 64)) ∧
        (s.chBusy (physChan x) = true ∨ s.lineOpen x = true → ∀ ce ue, Gives (.memRead who want x ce ue) s fun t =>
          t.mem = s.mem ∧ ∃ r, (t.slice i).waiting = (s.slice i).waiting ++ [r] ∧ r.who = who ∧ r.cls = cls ∧ r.line = x / 64 ∧ r.bank = s.bankAt x ∧ r.since = s.now)) ∧
      (s.memOk x = true → credOk (fun c => (qosReserve c).1) 240 (s.slice i).reads cls = false → ∀ ce ue,
        Gives (.memRead who want x ce ue) s fun t => t = s) ∧
      (s.memOk x = false → ∀ ce ue, Gives (.memRead who want x ce ue) s fun t => t.resp.err = true ∧ t.resp.data = List.replicate 64 0xFF)) ∧
    (∀ (l : Bytes) (m p e : Nat), l ≠ [] → x % 64 + l.length ≤ 64 → s.fwAllow who x true = true → s.memOk x = true →
      (s.ms.opens.find? fun o => decide (o.who = who) && decide (o.addr + o.done = x)) = none →
      (s.chBusy (physChan x) = false → s.lineOpen x = false → credOk (fun c => (qosReserve c).2) 168 (s.slice i).entries cls = true →
        Gives (.memWrite who want x l m p e false) s fun t =>
        (t.slice i).entries = (s.slice i).entries ++ [cls] ∧
        ∀ y, t.byte y = if x ≤ y ∧ y < x + l.length ∧ nbit m (y - x) = 1 then lget 0 l (y - x) else s.byte y) ∧
      (s.chBusy (physChan x) = true ∨ s.lineOpen x = true ∨ credOk (fun c => (qosReserve c).2) 168 (s.slice i).entries cls = false →
        Gives (.memWrite who want x l m p e false) s fun t => t = s))) ∧
  (∀ (i : Nat) (x : MemSlice) (s : State), i < 8 → x = s.slice i →
    (Gives (.dramWriteComplete i) s fun t => t.slice i = { x with entries := x.entries.drop 1 }) ∧
    (Gives (.memStarve i) s fun t => t.slice i = { x with
      waiting := x.waiting.map fun r => if r.cls ≠ .line ∧ nsTicks r.starve < s.now - r.since then { r with guarded := true } else r }) ∧
    (Gives (.memLineWindow i) s fun t => t.slice i = { x with lineBytes := 0 } ∧
      t.rf (Addr.memMsLine i) 6 0 = max (s.rf (Addr.memMsLine i) 6 0) (min (x.lineBytes * 100 / s.windowBytes) 127))) ∧
  (∀ (x : Nat) (s : State), Gives (.memCeWriteback x) s fun t =>
    t = { s with ms := { s.ms with ceBack := s.ms.ceBack.filter fun l => decide (l / 64 ≠ x / 64) } })

/-- Refresh and retraining (R639-R645, R658): a due refresh is postponed while a LINE request waits or the channel retrains, up to eight, and
then forced, and what is owed is made up for at once with no LOCKED domain (R40); a channel falls due when its interval has passed or
its temperature has moved; a finished retraining leaves the channel not due, a failed one raises E_MEM_TRAIN and is tried again. -/
def Obligations.ChannelsRefreshAndRetrain : Prop :=
  ∀ (c : Nat) (x : Chan) (s : State), c < 16 → x = s.chan c →
    (∀ b, (b < s.banks → s.rb Addr.memStatus 31 = true → s.owed c b < 8 →
        (∀ w, w = true ∨ s.lineWaits c b = true ∨ s.chBusy c = true → Gives (.refreshDue c b w) s fun t => t.owed c b = s.owed c b + 1) ∧
        (s.lineWaits c b = false → s.chBusy c = false → Gives (.refreshDue c b false) s fun t =>
          (s.unplaced = false → t = s) ∧ (s.unplaced = true → ∀ k, t.owed c k = 0))) ∧
      (s.owed c b = 8 → s.chBusy c = false → Gives (.refreshForced c b) s fun t => t.owed c b = 7) ∧
      (s.owed c b < 8 → Gives (.refreshForced c b) s fun t => t = s)) ∧
    (s.rb Addr.memStatus 31 = true →
      (∀ r v, Gives (.mr4Poll c r v) s fun t => (t.chan c).temp = v % 256 ∧
        (s.rf Addr.memRetrain 23 16 ≤ (sx 8 v - sx 8 (s.rf (Addr.memChStatus c) 7 0)).natAbs → (t.chan c).due ≠ none)) ∧
      (∀ e, e = (match x.retry with | some r => r | none => x.last + msTicks (s.rf Addr.memRetrain 15 0)) →
        (e ≤ s.now → Gives (.retrainDue c) s fun t => (t.chan c).due ≠ none) ∧
        (s.now < e → Gives (.retrainDue c) s fun t => t = s))) ∧
    (s.chBusy c = true →
      (Gives (.retrainComplete c true) s fun t => t.chan c = { x with due := none, retry := none, last := s.now }) ∧
      (Gives (.retrainComplete c false) s fun t => t.chan c = { x with due := none, retry := some (s.now + msTicks 10) } ∧
        ∃ r, r ∈ t.coll.posted ∧ r.code = .memTrain)) ∧
    (s.chBusy c = false → ∀ b, Gives (.retrainComplete c b) s fun t => t = s)

/-! ## The PCIe port -/

/-- Ports carry requests (R653, R664-R669, R671, R673-R676): a link trains and comes up with its width and speed; while it is up a request that
needs a completion takes a tag and waits for it, while it is down it is answered with an error; a completion or a timeout ends the wait; a
link that falls ends its port's requests and raises E_PCIE_LINK; PERST# resets an endpoint's block but for PCIE_BAR2_CFG; inbound requests
need the link, the firewall and a place to go. -/
def Obligations.PortsCarryRequests : Prop :=
  (∀ (p : Nat) (s : State), p < 2 →
    (s.hasPort p = true → s.rb Addr.pcieCtrl 31 = true → s.rb Addr.pcieCtrl p = true → s.linkUp p = false →
      Gives (.pcieLinkTrain p) s fun t => t.linkTrains p = true) ∧
    (s.linkUp p = true → Gives (.pcieLinkTrain p) s fun t => t = s) ∧
    (∀ w v, (s.linkTrains p = true → Gives (.pcieLinkUp p w v) s fun t =>
        t.linkTrains p = false ∧ t.rf Addr.pcieStatus (8 * p + 7) (8 * p) = 128 + w % 8 * 16 + v % 16) ∧
      (s.linkTrains p = false → Gives (.pcieLinkUp p w v) s fun t => t = s)) ∧
    (∀ n, (s.linkUp p = true → Gives (.pcieLinkDown p n) s fun t => t.linkUp p = false ∧
        (∀ o, o ∈ t.pcie.out → o.port ≠ p) ∧ (t.rate (rateKey .pcieLink (0x11 * 256 + p))).opened ≠ none) ∧
      (s.linkUp p = false → Gives (.pcieLinkDown p n) s fun t => t = s)) ∧
    (∀ g b, (s.pcie.out.find? (fun o => o.port == p && o.tag == g) = none →
        (Gives (.pcieCompletionReceived p g b) s fun t => t = s) ∧ Gives (.pcieCompletionTimeout p g) s fun t => t = s) ∧
      (∀ o, s.pcie.out.find? (fun o => o.port == p && o.tag == g) = some o →
        (Gives (.pcieCompletionReceived p g b) s fun t => t.pcie.out = s.pcie.out.filter (· != o) ∧
          (o.write = false → t.resp.poison = [b])) ∧
        (s.now < o.since + msTicks (s.rf Addr.pcieCto 9 0) → Gives (.pcieCompletionTimeout p g) s fun t => t = s) ∧
        (o.since + msTicks (s.rf Addr.pcieCto 9 0) ≤ s.now → Gives (.pcieCompletionTimeout p g) s fun t =>
          t.pcie.out = s.pcie.out.filter (· != o) ∧ t.resp.err = true)))) ∧
  (∀ s : State,
    (s.isEndpoint = true → Gives .pciePerst s fun t => t.pcie = {} ∧ t.reg Addr.pcieBar2Cfg = s.reg Addr.pcieBar2Cfg) ∧
    (s.isEndpoint = false → Gives .pciePerst s fun t => t = s)) ∧
  (∀ (n a p base : Nat) (w : Bool) (s : State), 0x2000000000 ≤ a → a < 0x10000000000 → s.obWindow a = some (p, base) → 0x10000000 ≤ a - base →
    s.fwAllow (.cpu n) a w = true →
      (s.linkUp p = false → Gives (.pcieOutboundRequest (.cpu n) a w) s fun t => t.pcie = s.pcie ∧ t.resp.err = !w) ∧
      (s.linkUp p = true → w = true → Gives (.pcieOutboundRequest (.cpu n) a w) s fun t => t.pcie = s.pcie ∧ t.resp.err = false) ∧
      (s.linkUp p = true → w = false → ∀ g, s.freeTag p = some g → Gives (.pcieOutboundRequest (.cpu n) a w) s fun t =>
        ∃ o, t.pcie.out = s.pcie.out ++ [o] ∧ o.port = p ∧ o.tag = g ∧ o.who = .cpu n ∧ o.since = s.now ∧
          o.addr = (a - base + s.obOffset p) % 2 ^ 64)) ∧
  (∀ (p b x : Nat) (w e : Bool) (l : Bytes) (s : State),
    (s.linkUp p = false → Gives (.pcieInboundRequest p w b x l e) s fun t => t = { s with resp := {} }) ∧
    (s.linkUp p = true → s.isEndpoint = false → inDram x = false →
      (w = true → x ≠ (s.reg Addr.pcieMsiTgt).toNat + 2 ^ 32 * (s.reg (Addr.pcieMsiTgt + 4)).toNat) →
      Gives (.pcieInboundRequest p w b x l e) s fun t => t.resp.err = true ∧ t.mem = s.mem) ∧
    (s.linkUp p = true → s.isEndpoint = false → inDram x = true → s.fwAllow .pcie x true = true → s.memOk x = true → l ≠ [] → x % 64 + l.length ≤ 64 →
      w = true → x ≠ (s.reg Addr.pcieMsiTgt).toNat + 2 ^ 32 * (s.reg (Addr.pcieMsiTgt + 4)).toNat → Gives (.pcieInboundRequest p w b x l e) s fun t =>
        ∀ y, t.byte y = if x ≤ y ∧ y < x + l.length then lget 0 l (y - x) else s.byte y))

/-- Interrupts cross the port (R665, R700, R703): an endpoint's vector is delivered, or pends while its entry is masked and is delivered when
unmasked; a root port's received messages and wires set their status bits and interrupt. -/
def Obligations.PortInterruptsArrive : Prop :=
  (∀ (v : Word) (n : Nat) (s : State), n = fld v 5 0 → 2 ≤ n → s.isEndpoint = true →
    (bit (s.msixWord (4 * n + 3)) 0 = true → Gives (.pcieEpIrq v) s fun t => tget (fun _ => false) t.pcie.pba n = true ∧ t.irqs = s.irqs) ∧
    (bit (s.msixWord (4 * n + 3)) 0 = false → Gives (.pcieEpIrq v) s fun t =>
      t.pcie = s.pcie ∧ tget (fun _ => 0) t.irqs (Irq.msix n).key = tget (fun _ => 0) s.irqs (Irq.msix n).key + 1)) ∧
  (∀ (v : Word) (s : State), fld v 5 0 < 2 → Gives (.pcieEpIrq v) s fun t => t.pcie = s.pcie ∧ t.irqs = s.irqs ∧ ∃ r, r ∈ t.coll.posted ∧ r.code = .cfg) ∧
  (∀ (n : Nat) (s : State), n < 64 →
    (s.isEndpoint = true → Gives (.msixUnmask n) s fun t => bit (t.msixWord (4 * n + 3)) 0 = false ∧ tget (fun _ => false) t.pcie.pba n = false ∧
      tget (fun _ => 0) t.irqs (Irq.msix n).key = tget (fun _ => 0) s.irqs (Irq.msix n).key +
        if tget (fun _ => false) s.pcie.pba n = true then 1 else 0) ∧
    (s.pcieMode = 1 ∨ s.pcieMode = 2 →
      (Gives (.pcieInterruptReceived false n) s fun t => t.rb (Addr.pcieMsiStatus + n / 32 * 4) (n % 32) = true ∧
        tget (fun _ => 0) t.irqs (Irq.pcie n).key = tget (fun _ => 0) s.irqs (Irq.pcie n).key + 1) ∧
      (n < 4 → Gives (.pcieInterruptReceived true n) s fun t => t.rb Addr.pcieStatus (24 + n) = true ∧
        tget (fun _ => 0) t.irqs (Irq.pcie (64 + n)).key = tget (fun _ => 0) s.irqs (Irq.pcie (64 + n)).key + 1)) ∧
    (s.pcieMode = 0 → ∀ b, Gives (.pcieInterruptReceived b n) s fun t => t = s))

/-! ## Ethernet, I3C, UART and GPIO -/

/-- The MACs carry frames (R677-R682, R685, R687): a tail past the ring's size is refused; a frame whose descriptors are whole is sent and the
head moves past them; a received frame is dropped where its CRC is bad, held off where it is a PAUSE, ignored where the filter does not take
it, counted and told where no descriptor is free, and else put into the descriptor at the head. -/
def Obligations.MacsCarryFrames : Prop :=
  ∀ (n : Nat) (s : State), n < 2 →
    (∀ q v, q < 4 →
      (fld v 11 0 < 2 ^ s.rf (Addr.ethQSize n q) 3 0 → Gives (.ethTailWrite n q v) s fun t => t.rf (Addr.ethQTail n q) 11 0 = fld v 11 0) ∧
      (2 ^ s.rf (Addr.ethQSize n q) 3 0 ≤ fld v 11 0 → Gives (.ethTailWrite n q v) s fun t =>
        t.rf (Addr.ethQTail n q) 11 0 = s.rf (Addr.ethQTail n q) 11 0)) ∧
    (∀ u sp an, Gives (.ethLinkChange n u sp an) s fun t => t.rb (Addr.ethStatus n) 31 = u ∧ t.rf (Addr.ethStatus n) 9 8 = sp % 4) ∧
    (∀ v, bit v 31 = true → Gives (.mdioGo n v) s fun t => t.rb (Addr.ethMdio n) 31 = false) ∧
    (s.rb (Addr.ethCtrl n) 31 = false ∨ s.rb (Addr.ethStatus n) 31 = false ∨ s.now < tget (fun _ => 0) s.eth.pause n → Gives (.ethTxFrame n) s fun t => t = s) ∧
    (s.rb (Addr.ethCtrl n) 31 = true → s.rb (Addr.ethStatus n) 31 = true → tget (fun _ => 0) s.eth.pause n ≤ s.now → ∀ ds u g,
      s.ethFrame n 0 (s.rf (Addr.ethQHead n 0) 11 0) 4096 = (some ds, u) → g = u.ethGather n ds →
      (∀ d, d ∈ ds → dflag d.2 3 = false ∧ dflag d.2 4 = false) → Gives (.ethTxFrame n) s fun t =>
        t.rf (Addr.ethQHead n 0) 11 0 = (s.rf (Addr.ethQHead n 0) 11 0 + ds.length) % 2 ^ s.rf (Addr.ethQSize n 0) 3 0 % 2 ^ 12 ∧
        (60 ≤ g.1.length → g.1.length ≤ 9212 → tget (fun _ => ([], false)) t.eth.sent n = (g.1, g.2.1.any id))) ∧
    (∀ f : EthFrame, (s.rb (Addr.ethCtrl n) 31 = false → Gives (.ethRxFrame n f) s fun t => t = s) ∧
      (s.rb (Addr.ethCtrl n) 31 = true →
        (f.crcBad = true → s.rb (Addr.ethCtrl n) 5 = false → Gives (.ethRxFrame n f) s fun t =>
          t.reg (Addr.ethRxDrop n) = satInc (s.reg (Addr.ethRxDrop n)) 1 ∧ t.mem = s.mem) ∧
        (f.crcBad = false → be16 f.data 12 = 0x8808 → be16 f.data 14 = 1 → s.rb (Addr.ethCtrl n) 1 = true → Gives (.ethRxFrame n f) s fun t =>
          tget (fun _ => 0) t.eth.pause n = s.now + pauseTicks (s.rf (Addr.ethCtrl n) 9 8) (be16 f.data 16) ∧ t.mem = s.mem) ∧
        (f.crcBad = false → be16 f.data 12 ≠ 0x8808 →
          (s.ethTakes n f.data = false → Gives (.ethRxFrame n f) s fun t => t = s) ∧
          (∀ q h, s.ethTakes n f.data = true → s.rb (Addr.ethCtrl n) 0 = false → q = 3 → h = s.rf (Addr.ethQHead n q) 11 0 →
            (h = s.rf (Addr.ethQTail n q) 11 0 → Gives (.ethRxFrame n f) s fun t =>
              t.reg (Addr.ethRxDrop n) = satInc (s.reg (Addr.ethRxDrop n)) 1 ∧ t.mem = s.mem ∧
              (t.rate (rateKey .ethOverrun (0x12 * 256 + n))).opened ≠ none) ∧
            (∀ d, h ≠ s.rf (Addr.ethQTail n q) 11 0 → d = plain (s.unitRead (.eth n) .bulk (s.ethAt n q h) 32).1 → dflag d 15 = true →
              f.data.length ≤ dget d 8 2 → Gives (.ethRxFrame n f) s fun t =>
                t.rf (Addr.ethQHead n q) 11 0 = (h + 1) % 2 ^ s.rf (Addr.ethQSize n q) 3 0 % 2 ^ 12 ∧
                t.reg (Addr.ethRxDrop n) = s.reg (Addr.ethRxDrop n))))))

/-- The slow ports take effect (R691-R698, R702): I3C commands queue up to 16, wait for their event lines, complete with a response each and
are aborted together; responses and in-band interrupts are popped by reads; a UART holds 64 received bytes,
and takes 64 to send (R696, log entry 83); an edge shows in GPIO_IN, sets its
interrupt where enabled, and is captured with the time of day by a channel that is free, counted as an overrun by one that is not. -/
def Obligations.SlowPortsTakeEffect : Prop :=
  (∀ (n : Nat) (x : I3c) (s : State), n < 8 → x = s.i3c n →
    (∀ v, (s.rb (Addr.i3cCtrl n) 31 = true → x.cmds.length < 16 → Gives (.i3cCommand n v) s fun t => (t.i3c n).cmds.length = x.cmds.length + 1 ∧
        ∃ c, (t.i3c n).cmds.getLast? = some c ∧ c.lo = s.reg (Addr.i3cCmdLo n) ∧ c.hi = v) ∧
      (s.rb (Addr.i3cCtrl n) 31 = false ∨ 16 ≤ x.cmds.length → Gives (.i3cCommand n v) s fun t => t.per = s.per ∧
        ∃ r, r ∈ t.coll.posted ∧ r.code = .cfg)) ∧
    (∀ c r, x.cmds = c :: r →
      (∀ k, c.run = false → c.evt = some k →
        (k < s.evtCount (fld c.lo 28 24) → Gives (.i3cWaitRelease n) s fun t => (t.i3c n).cmds = { c with run := true } :: r) ∧
        (s.evtCount (fld c.lo 28 24) ≤ k → Gives (.i3cWaitRelease n) s fun t => t = s)) ∧
      (∀ st k l, (c.run = true → Gives (.i3cTransferComplete n st k l) s fun t => (t.i3c n).cmds = s.i3cHead r ∧
          ∃ w, (t.i3c n).resps = x.resps ++ [w] ∧ fld w 31 16 = fld c.hi 31 16 ∧
            (st ≤ 1 → fld c.lo 11 0 ≠ 0 → fld w 15 12 = st ∧ fld w 11 0 = min k (fld c.lo 11 0))) ∧
        (c.run = false → Gives (.i3cTransferComplete n st k l) s fun t => t = s)) ∧
      (Gives (.i3cAbort n) s fun t => (t.i3c n).cmds = [] ∧ (t.i3c n).resps.length = x.resps.length + x.cmds.length)) ∧
    (∀ w, s.rb (Addr.i3cCtrl n) 31 = true →
      (x.ibis.length < 16 → Gives (.i3cIbi n w) s fun t => t.i3c n = { x with ibis := x.ibis ++ [w] }) ∧
      (16 ≤ x.ibis.length → Gives (.i3cIbi n w) s fun t => t.per = s.per ∧
        t.rf (Addr.i3cCnt n) 31 16 = min (s.rf (Addr.i3cCnt n) 31 16 + 1) 65535)) ∧
    (∀ w r, (x.resps = w :: r → Gives (.i3cRespRead n) s fun t => t.i3c n = { x with resps := r } ∧ t.resp.data = leBytes 4 w.toNat) ∧
      (x.ibis = w :: r → Gives (.i3cIbiRead n) s fun t => t.i3c n = { x with ibis := r } ∧ t.resp.data = leBytes 4 w.toNat))) ∧
  (∀ (n : Nat) (b : Byte) (s : State), n < 2 → s.rb (Addr.uartCtrl n) 31 = true →
    ((s.uart n).length < 64 → Gives (.uartRxByte n b) s fun t => t.uart n = s.uart n ++ [b]) ∧
    (64 ≤ (s.uart n).length → Gives (.uartRxByte n b) s fun t => t.uart n = s.uart n ∧
      (t.rate (rateKey .uartOverrun (0x14 * 256 + n))).opened ≠ none)) ∧
  (∀ (n : Nat) (v : BitVec 64) (s : State), n < 2 → s.up (Addr.uartData n) → s.rb (Addr.uartCtrl n) 31 = true → (s.uartOut n).length < 64 →
    Gives (.registerWrite .sup (Addr.uartData n) 4 v) s fun t => ∃ u, tget (fun _ => []) t.per.uartTx n = s.uartOut n ++ [(BitVec.ofNat 8 (v.toNat % 256), u)]) ∧
  (∀ (p : Nat) (e : Bool) (s : State), p < 40 → Gives (.gpioEdge p e) s fun t =>
    t.rb (Addr.gpioIn + p / 32 * 4) (p % 32) = e ∧
    (s.rb ((if e then Addr.gpioIrqRise else Addr.gpioIrqFall) + p / 32 * 4) (p % 32) = true → t.rb (Addr.gpioIrqStatus + p / 32 * 4) (p % 32) = true) ∧
    ∀ k, k < 8 → s.rb (Addr.gpioCapCfg k) 31 = true → s.rf (Addr.gpioCapCfg k) 5 0 = p → s.rb (Addr.gpioCapCfg k) (if e then 28 else 29) = true →
      t.rb (Addr.gpioCapSec k + 4) 31 = true ∧
      (s.rb (Addr.gpioCapSec k + 4) 31 = false → t.reg (Addr.gpioCapTick k) = w32 s.tod.tick) ∧
      (s.rb (Addr.gpioCapSec k + 4) 31 = true → t.rb (Addr.gpioCapSec k + 4) 30 = true ∧ t.reg (Addr.gpioCapTick k) = s.reg (Addr.gpioCapTick k))) ∧
  (∀ (k : Nat) (s : State), k < 8 → Gives (.gpioCapFrameRead k) s fun t => t.rb (Addr.gpioCapSec k + 4) 31 = false ∧
    t.rb (Addr.gpioCapSec k + 4) 30 = false ∧ t.resp.data = leBytes 4 (s.reg (Addr.gpioCapFrame k)).toNat)

/-! ## Unit resets -/

/-- Unit resets take effect (R803-R806, R543, R676, R702): in ACTIVE a unit that is neither gated nor in reset already is held in reset for 64 cycles
of its clock, with what it did lost; an encoder that encodes evidence is not reset; outside ACTIVE nothing is reset; a unit leaves reset when
its cycles have passed, and a powered core then joins the ring. -/
def Obligations.UnitResetsTakeEffect : Prop :=
  (∀ (c : Instr) (b tc cpu venc eth : Nat) (s : State), tc < 8 → cpu < 4 → venc < 2 → eth < 2 →
    (c, b) ∈ [(Instr.unitResetTc tc, tc), (.unitResetCpu cpu, 8 + cpu), (.unitResetSfe, 12), (.unitResetFmt, 13), (.unitResetDpp, 14),
      (.unitResetVenc venc, 15 + venc), (.unitResetVdec, 17), (.unitResetPcie, 18), (.unitResetEth eth, 19 + eth), (.unitResetI3c, 21)] →
    (s.pwrSt = 2 → (∀ e, b = 15 + e → e < 2 → s.reg (Addr.vencEvidSess e) = 0) →
      (s.gatedUnit b = true ∨ s.rb Addr.pwrRstStatus b = true → Gives c s fun t => t = s) ∧
      (s.gatedUnit b = false → s.rb Addr.pwrRstStatus b = false → Gives c s fun t => t.rb Addr.pwrRstStatus b = true ∧
        tget (fun _ => none) t.pwr.held b = some (s.now + resetTicks (t.unitMhz b)) ∧
        (c = .unitResetSfe → t.sfe = {}) ∧ (c = .unitResetFmt → t.fmt = {}) ∧ (c = .unitResetPcie → t.pcie = {}) ∧
        (∀ n m, c = .unitResetTc n → m < 4 → (t.ctx (4 * n + m)).state = .off) ∧ (∀ n, c = .unitResetTc n → (t.core n).slots = []) ∧
        (∀ e i, c = .unitResetVenc e → i < 64 → t.vref e i = {}) ∧
        (∀ n, c = .unitResetEth n → tget (fun _ => 0) t.eth.pause n = 0 ∧ t.rf (Addr.ethQHead n 0) 11 0 = 0) ∧
        (∀ n, c = .unitResetCpu n → t.rb Addr.cohStatus n = false) ∧
        (∀ n, c = .unitResetI3c → n < 8 → (t.i3c n).cmds = []))) ∧
    (s.pwrSt ≠ 2 → Gives c s fun t => t.regs = s.regs ∧ t.pwr = s.pwr)) ∧
  (∀ (e : Nat) (s : State), e < 2 → s.pwrSt = 2 → s.reg (Addr.vencEvidSess e) ≠ 0 → Gives (.unitResetVenc e) s fun t =>
    t.regs = s.regs ∧ t.venc = s.venc ∧ ∃ r, r ∈ t.coll.posted ∧ r.code = .cfg) ∧
  (∀ (b : Nat) (s : State), b < 22 →
    (tget (fun _ => none) s.pwr.held b = none → Gives (.unitResetRelease b) s fun t => t = s) ∧
    (∀ t0, tget (fun _ => none) s.pwr.held b = some t0 →
      (s.now < t0 → Gives (.unitResetRelease b) s fun t => t = s) ∧
      (t0 ≤ s.now → Gives (.unitResetRelease b) s fun t => t.rb Addr.pwrRstStatus b = false ∧ tget (fun _ => none) t.pwr.held b = none ∧
        ∀ n, b = 8 + n → n < 4 → s.rb Addr.pwrCpuStatus n = true → t.rb Addr.cohStatus n = true)))

/-! ## Power gating, clocks and voltage -/

/-- Cores are powered as PWR_TC_GATE and PWR_CPU_GATE ask (R783-R785, R807), for a write that changes one core's bit: a quiet tensor core goes
off and a busy one raises E_CFG; the lowest core that waits comes up, its scratchpad to be initialised; a CPU goes off in WFI, waits 1 ms for it
otherwise, and the last joined core stays. -/
def Obligations.CoresArePoweredAsGated : Prop :=
  (∀ (n : Nat) (v : Word) (s : State), n < 8 → (∀ k, k < 8 → k ≠ n → bit v k = s.rb Addr.pwrTcGate k) →
    (s.pwrSt ≠ 2 → Gives (.tcGate v) s fun t =>
      (∀ a, a ≠ Addr.dsvRsvdStatus → a ≠ Addr.dsvRsvdLast → t.reg a = s.reg a) ∧ t.cores = s.cores) ∧
    (s.pwrSt = 2 → bit v n = false → Gives (.tcGate v) s fun t => t.rb Addr.pwrTcGate n = false ∧ t.cores = s.cores) ∧
    (s.pwrSt = 2 → bit v n = true → s.rb Addr.pwrTcGate n = false → s.rb Addr.pwrTcStatus n = true →
      (s.tcQuiet n = true → Gives (.tcGate v) s fun t => t.rb Addr.pwrTcGate n = true ∧ t.rb Addr.pwrTcStatus n = false ∧ t.core n = {}) ∧
      (s.tcQuiet n = false → Gives (.tcGate v) s fun t => t.rb Addr.pwrTcGate n = false ∧ t.rb Addr.pwrTcStatus n = true ∧ t.cores = s.cores ∧
        ∃ r, r ∈ t.coll.posted ∧ r.code = .cfg))) ∧
  (∀ (n : Nat) (s : State),
    (s.pwrSt = 2 → n < 8 → s.tcWants n = true → (∀ k, k < n → s.tcWants k = false) → Gives (.tcPowerUp n) s fun t =>
      t.rb Addr.pwrTcStatus n = true ∧ t.rb Addr.pwrTcStatus (n + 8) = true ∧ t.core n = { initBusy := true }) ∧
    (s.pwrSt ≠ 2 ∨ 8 ≤ n ∨ s.tcWants n = false ∨ (∃ k, k < n ∧ s.tcWants k = true) → Gives (.tcPowerUp n) s fun t => t = s)) ∧
  (∀ (n : Nat) (v : Word) (s : State), n < 4 → (∀ k, k < 4 → k ≠ n → bit v k = s.rb Addr.pwrCpuGate k) → s.pwrSt = 2 →
    (bit v n = true → s.rb Addr.pwrCpuGate n = false →
      (∀ j, j < 4 → j ≠ n → s.rb Addr.cohStatus j = true → s.rb Addr.pwrCpuGate j = false →
        (s.inWfi n = true → Gives (.cpuGate v) s fun t => t.rb Addr.pwrCpuGate n = true ∧ t.rb Addr.pwrCpuStatus n = false ∧ t.rb Addr.cohStatus n = false) ∧
        (s.inWfi n = false → Gives (.cpuGate v) s fun t => t.rb Addr.pwrCpuGate n = true ∧ tget (fun _ => none) t.coh.gate n = some (s.now + msTicks 1))) ∧
      ((∀ j, j < 4 → j ≠ n → s.rb Addr.cohStatus j = true → s.rb Addr.pwrCpuGate j = true) → Gives (.cpuGate v) s fun t =>
        t.rb Addr.pwrCpuGate n = false ∧ t.coh = s.coh ∧ ∃ r, r ∈ t.coll.posted ∧ r.code = .cfg)) ∧
    (bit v n = false → s.rb Addr.pwrCpuGate n = true → Gives (.cpuGate v) s fun t => t.rb Addr.pwrCpuGate n = false ∧
      tget (fun _ => none) t.coh.gate n = none ∧ t.rb Addr.pwrCpuStatus n = true)) ∧
  (∀ (n : Nat) (s : State), n < 4 →
    (∀ t0, tget (fun _ => none) s.coh.gate n = some t0 →
      (s.now < t0 → Gives (.cpuGateTimeout n) s fun t => t = s) ∧
      (t0 ≤ s.now → Gives (.cpuGateTimeout n) s fun t => t.rb Addr.pwrCpuGate n = false ∧ tget (fun _ => none) t.coh.gate n = none ∧
        ∃ r, r ∈ t.coll.posted ∧ r.code = .cfg)) ∧
    (s.rb Addr.pwrCpuStatus n = true → s.rb Addr.pwrRstStatus (8 + n) = false →
      (tget (fun _ => none) s.coh.gate n = none → Gives (.wfiEntry n) s fun t => t.inWfi n = true ∧ t.rb Addr.pwrCpuStatus (4 + n) = true) ∧
      (∀ t0, tget (fun _ => none) s.coh.gate n = some t0 → s.now ≤ t0 → Gives (.wfiEntry n) s fun t => t.rb Addr.pwrCpuStatus n = false ∧
        t.rb Addr.cohStatus n = false)) ∧
    (s.rb Addr.pwrCpuStatus n = false ∨ s.rb Addr.pwrRstStatus (8 + n) = true → Gives (.wfiEntry n) s fun t => t = s))

/-- Clocks and rails follow their requests (R786, R790-R798, R806): a request on the steps of its clock is taken over, another one refused; a
clock moves one step toward the lower of request and cap, upward only once its rail has settled for it; a new voltage target goes to the free
bus, its ramp begins when the regulator has it, and a transaction that fails a fourth time is told. -/
def Obligations.ClocksAndRailsFollow : Prop :=
  ∀ s : State,
    (∀ v, s.pwrSt = 2 →
      (fld v 10 0 % 50 = 0 → 300 ≤ fld v 10 0 → fld v 10 0 ≤ 1200 → Config.partE = false ∨ fld v 10 0 ≤ 1000 →
        Gives (.tclkRequest v) s fun t => t.rf Addr.clkTclkReq 10 0 = fld v 10 0) ∧
      (fld v 10 0 % 50 ≠ 0 → Gives (.tclkRequest v) s fun t => t.rf Addr.clkTclkReq 10 0 = s.rf Addr.clkTclkReq 10 0 ∧ ∃ r, r ∈ t.coll.posted ∧ r.code = .cfg) ∧
      (fld v 10 0 % 100 = 0 → 400 ≤ fld v 10 0 → fld v 10 0 ≤ 1600 → Gives (.cpuClockRequest v) s fun t => t.rf Addr.clkCpuReq 10 0 = fld v 10 0) ∧
      (fld v 10 0 % 100 ≠ 0 → Gives (.cpuClockRequest v) s fun t => t.rf Addr.clkCpuReq 10 0 = s.rf Addr.clkCpuReq 10 0 ∧ ∃ r, r ∈ t.coll.posted ∧ r.code = .cfg)) ∧
    (∀ v c, s.pwrSt ≠ 2 → c = Instr.tclkRequest v ∨ c = .cpuClockRequest v → Gives c s fun t =>
      ∀ a, a ≠ Addr.dsvRsvdStatus → a ≠ Addr.dsvRsvdLast → t.reg a = s.reg a) ∧
    (∀ c f g, f = s.rf (clkAddr c) 10 0 → g = s.clkWanted c →
      (s.pwrSt ≠ 2 ∨ f = g → Gives (.clockStep c) s fun t => t = s) ∧
      (s.pwrSt = 2 → g < f → Gives (.clockStep c) s fun t => t.rf (clkAddr c) 10 0 = max g (f - clkGrain c)) ∧
      (s.pwrSt = 2 → f < g → (s.avs (b2n c)).settled < 4 * clkMv c (min g (f + clkGrain c)) → Gives (.clockStep c) s fun t => t = s) ∧
      (s.pwrSt = 2 → f < g → 4 * clkMv c (min g (f + clkGrain c)) ≤ (s.avs (b2n c)).settled → Gives (.clockStep c) s fun t =>
        t.rf (clkAddr c) 10 0 = min g (f + clkGrain c))) ∧
    (∀ c m x, x = s.avsTarget c m → s.pwrSt = 2 →
      (s.avsLast (b2n c) = x → Gives (.avsEvaluate c m) s fun t => (t.avs (b2n c)).want = none) ∧
      (s.avsLast (b2n c) ≠ x → s.clk.bus ≠ none → Gives (.avsEvaluate c m) s fun t => (t.avs (b2n c)).want = some x ∧ t.clk.bus = s.clk.bus) ∧
      (s.avsLast (b2n c) ≠ x → s.clk.bus = none → (s.avs (1 - b2n c)).want = none → Gives (.avsEvaluate c m) s fun t =>
        (t.avs (b2n c)).want = none ∧ t.clk.bus = some (b2n c, x))) ∧
    (∀ c x, s.pwrSt = 2 → s.clk.bus = some (b2n c, x) → (s.avs 0).want = none → (s.avs 1).want = none →
      (Gives (.pmbusTransactionDone c true) s fun t => t.clk.bus = none ∧ (t.avs (b2n c)).ramps.head? = some (s.now, (s.avs (b2n c)).at (s.rf Addr.pwrAvsCfg 4 0) s.now, 4 * x)) ∧
      ((s.avs (b2n c)).tries < 3 → Gives (.pmbusTransactionDone c false) s fun t => t.clk.bus = s.clk.bus ∧ (t.avs (b2n c)).tries = (s.avs (b2n c)).tries + 1) ∧
      (3 ≤ (s.avs (b2n c)).tries → Gives (.pmbusTransactionDone c false) s fun t => t.clk.bus = none ∧ (t.avs (b2n c)).ramps = (s.avs (b2n c)).ramps ∧
        ∃ r, r ∈ t.coll.posted ∧ r.code = .pmbus)) ∧
    (∀ c, s.pwrSt = 2 → Gives (.railSettled c) s fun t => (t.avs (b2n c)).settled ≤ (s.avs (b2n c)).rampEnd ∧
      (t.avs (b2n c)).settled ≤ (s.avs (b2n c)).at (s.rf Addr.pwrAvsCfg 4 0) s.now ∧
      (t.avs (b2n c)).settled ≤ (s.avs (b2n c)).at (s.rf Addr.pwrAvsCfg 4 0) (s.now - usTicks (s.rf Addr.pwrAvsCfg 15 8)))

/-! ## Thermal -/

/-- The governor samples (R815-R817, R819, R824, R825): the load and, but during calibration, every sensor are taken over with Tj the hottest
valid one; in ACTIVE, B is the load while the governor is off, moves toward it by the slew of RAMP and RTH while it is on and no higher loop
is active, and Tj at the soft limit brings the soft caps into force. -/
def Obligations.GovernorSamples : Prop :=
  ∀ (g : GovernorInput) (s : State),
    (Gives (.governorSample g) s fun t => t.thm.load = g.power) ∧
    (s.calibrating = false → Gives (.governorSample g) s fun t => ∀ i, i < 24 →
      t.rb (Addr.thmTs i) 31 = sampleOk g.temps i ∧ t.rf (Addr.thmTs i) 15 0 = ux 16 (lget 0 g.temps i)) ∧
    (∀ h, s.calibrating = false → hottest g.temps ((List.range 24).filter (sampleOk g.temps)) = some h → Gives (.governorSample g) s fun t =>
      t.rf Addr.thmTj 15 0 = ux 16 (lget 0 g.temps h) ∧
      (s.pwrSt = 2 → softLimit ≤ sx 16 (ux 16 (lget 0 g.temps h)) → t.thm.soft = true ∧ t.rf Addr.clkTclk 26 16 ≤ t.thm.softT)) ∧
    (s.calibrating = true → Gives (.governorSample g) s fun t => ∀ i, i < 24 → t.reg (Addr.thmTs i) = s.reg (Addr.thmTs i)) ∧
    (s.pwrSt = 2 → bit (s.thmEff 0) 0 = false → Gives (.governorSample g) s fun t => t.thm.b = g.power * 2 ^ 24) ∧
    (s.pwrSt = 2 → bit (s.thmEff 0) 0 = true → s.thm.higher = false → Gives (.governorSample g) s fun t => t.thm.higher = false →
      t.thm.b = nextB true s.thm.b (g.power * 2 ^ 24) (fld (s.thmEff 1) 3 0 * 8 * 2 ^ 24 / (600 * fld (s.thmEff 2) 6 0)))

/-- Coolant and calibration are watched (R818, R827, R828, R830-R833): the flow of a window is shown; eight windows below 200 mL/min declare
coolant loss, forty of at least 300 end it; MODE 1 moves the duty by 4 toward FLOW_SET; the NTC channels show their readings, an inlet hot for
10 s is told once; a stalled pump is told; calibration falls due, runs at once with no LOCKED domain
(R40) or unplaced after 2 s, and ends. -/
def Obligations.CoolantIsWatched : Prop :=
  ∀ s : State,
    (∀ n f l, f = n * 240000 / fld (s.thmEff 6) 15 0 → l = (f :: s.thm.flows).take 40 →
      (s.pwrSt ≠ 2 → Gives (.flowWindow n) s fun t => t = s) ∧
      (s.pwrSt = 2 →
        (Gives (.flowWindow n) s fun t => t.rf Addr.thmFlow 15 0 = min 65535 f ∧ t.thm.flows = l) ∧
        (s.thm.loss = false → 8 ≤ l.length → (∀ x, x ∈ l.take 8 → x < 200) → Gives (.flowWindow n) s fun t => t.thm.loss = true ∧
          t.duty = 255 ∧ ∃ r, r ∈ t.coll.posted ∧ r.code = .coolantLoss) ∧
        (s.thm.loss = true → l.length = 40 → (∀ x, x ∈ l → 300 ≤ x) → Gives (.flowWindow n) s fun t => t.thm.loss = false ∧ t.thm.released = true) ∧
        (s.thm.loss = false → 200 ≤ f → bit (s.thmEff 7) 31 = true → ∀ d, d = s.rf Addr.thmPump 23 16 →
          (f + 10 < fld (s.thmEff 7) 15 0 → Gives (.flowWindow n) s fun t => t.rf Addr.thmPump 23 16 = max 64 (min 255 (d + 4))) ∧
          (fld (s.thmEff 7) 15 0 + 10 < f → Gives (.flowWindow n) s fun t => t.rf Addr.thmPump 23 16 = max 64 (d - 4))))) ∧
    (∀ i o, Gives (.ntcSample i o) s fun t => t.rf Addr.thmNtcIn 15 0 = ux 16 i ∧ t.rf Addr.thmNtcOut 15 0 = ux 16 o ∧
      t.rb Addr.thmNtcIn 31 = (decide (i < -320) || decide (1000 < i)) ∧
      (i ≤ 400 → t.thm.hotFrom = none) ∧ (400 < i → i ≤ 1000 → s.thm.hotFrom = none → t.thm.hotFrom = some s.now) ∧
      ∀ t0, 400 < i → i ≤ 1000 → s.thm.hotFrom = some t0 → t0 + 10 * tickHz ≤ s.now → s.thm.hotTold = false →
        t.thm.hotTold = true ∧ ∃ r, r ∈ t.coll.posted ∧ r.code = .coolantHot) ∧
    (s.pwrSt = 2 → 64 ≤ s.duty → Gives .pumpStall s fun t => t.reg Addr.thmPumpTach = 0 ∧ ∃ r, r ∈ t.coll.posted ∧ r.code = .pumpStall) ∧
    (s.pwrSt ≠ 2 ∨ s.duty < 64 → Gives .pumpStall s fun t => t = s) ∧
    (∀ p, p = fld (s.thmEff 5) 9 0 * tickHz →
      (s.thm.calBase + p ≤ s.now → Gives .thmCalDue s fun t => t.thm.calBase = s.now ∧ (s.unplaced = false → t.thm.calDue ≠ none) ∧
        (s.unplaced = true → t.thm.calDue = none ∧ t.thm.calEnd = some (s.now + usTicks 50))) ∧
      (s.now < s.thm.calBase + p → Gives .thmCalDue s fun t => t = s)) ∧
    (∀ t0, s.thm.calDue = some t0 →
      (t0 + 2 * tickHz ≤ s.now → Gives .thmCalUnplaced s fun t => t.thm.calDue = none ∧ t.thm.calEnd = some (s.now + usTicks 50)) ∧
      (s.now < t0 + 2 * tickHz → Gives .thmCalUnplaced s fun t => t = s)) ∧
    (∀ t0, s.thm.calEnd = some t0 →
      (t0 ≤ s.now → Gives .thmCalEnd s fun t => t.thm.calEnd = none) ∧ (s.now < t0 → Gives .thmCalEnd s fun t => t = s))

/-! ## Error records and telemetry -/

/-- Records are collected (R849, R852-R855, R910): outside ACTIVE they wait; in ACTIVE the first one posted is taken while fewer than 240 are
held (256 for a FATAL one), else counted as lost; the driver ring receives the first one due when it has room; an interval of a rate-limited
code that ends with repetitions posts one record with their count, and one without them closes. -/
def Obligations.RecordsAreCollected : Prop :=
  ∀ s : State,
    (s.rf Addr.pwrState 2 0 ≠ 2 ∨ s.coll.posted = [] → Gives .errorRecordPost s fun t => t = s) ∧
    (s.rf Addr.pwrState 2 0 = 2 → ∀ r l, s.coll.posted = r :: l →
      (s.coll.fifo.length < (if r.cls = .fatal then 256 else 240) → Gives .errorRecordPost s fun t => t.coll.posted = l ∧
        (∃ x, t.coll.fifo = s.coll.fifo ++ [x] ∧ x.record = r ∧ x.driver = true) ∧
        t.reg (Addr.dsvErrCnt r.cls.num) = satInc (s.reg (Addr.dsvErrCnt r.cls.num)) 1) ∧
      ((if r.cls = .fatal then 256 else 240) ≤ s.coll.fifo.length → Gives .errorRecordPost s fun t => t.coll.posted = l ∧
        t.coll.fifo = s.coll.fifo ∧ t.coll.owed = true ∧ t.reg Addr.dsvErrLost = satInc (s.reg Addr.dsvErrLost) 1)) ∧
    (s.rb Addr.dsvErrCtrl 31 = false ∨ s.rf Addr.pwrState 2 0 ≠ 2 → Gives .errorRingWrite s fun t => t = s) ∧
    (∀ x l a, s.rb Addr.dsvErrCtrl 31 = true → s.rf Addr.pwrState 2 0 = 2 → s.coll.owed = false → s.coll.fifo = x :: l → x.driver = true →
      (∀ y, y ∈ x :: l → y.host = false) → (∀ y, y ∈ l → y.driver = true) →
      a = s.ringBase Addr.dsvErrDBase + 32 * s.ringHead Addr.dsvErrDBase → s.memOk a = true →
      (s.ringRoom Addr.dsvErrDBase = true → Gives .errorRingWrite s fun t => t.coll.fifo = l ∧
        t.ringHead Addr.dsvErrDBase = (s.ringHead Addr.dsvErrDBase + 1) % s.ringSize Addr.dsvErrDBase % 2 ^ 12 ∧
        (∀ i, i < 32 → t.byte (a + i) = lget 0 x.record.bytes i) ∧ ∀ y, y < a ∨ a + 32 ≤ y → t.byte y = s.byte y) ∧
      (s.ringRoom Addr.dsvErrDBase = false → Gives .errorRingWrite s fun t => t.coll.fifo = s.coll.fifo ∧ ∀ y, t.byte y = s.byte y)) ∧
    (∀ k, ((s.rate k).opened = none → Gives (.rateLimitIntervalEnd k) s fun t => t = s) ∧
      (∀ t0, (s.rate k).opened = some t0 →
        (s.now < t0 + tickHz → Gives (.rateLimitIntervalEnd k) s fun t => t = s) ∧
        (t0 + tickHz ≤ s.now → (s.rate k).first = none → Gives (.rateLimitIntervalEnd k) s fun t => (t.rate k).opened = none ∧
          t.coll.posted = s.coll.posted) ∧
        (∀ f, t0 + tickHz ≤ s.now → (s.rate k).first = some f → Gives (.rateLimitIntervalEnd k) s fun t => (t.rate k).opened = some s.now ∧
          ∃ r, t.coll.posted = s.coll.posted ++ [r] ∧ r.code = f.code ∧ r.detail.head? = some (4, (s.rate k).count))))

/-- Telemetry is sampled (R40, R858, R861, R866): a snapshot is taken when it falls due, the next one the period then in force later, and
is lost and told by GAP where two wait; one that has waited 2 s is written as the ring has room. -/
def Obligations.TelemetryIsSampled : Prop :=
  ∀ s : State,
    (s.rb Addr.dsvTelCtrl 31 = false ∨ s.now < s.coll.telDue → Gives .telemetrySnapshot s fun t => t = s) ∧
    (s.rb Addr.dsvTelCtrl 31 = true → s.coll.telDue ≤ s.now → Gives .telemetrySnapshot s fun t =>
      t.coll.telDue = s.now + msTicks (s.rf Addr.dsvTelPeriod 13 0) ∧
      (s.coll.snaps.length < 2 → t.coll.gap = false ∧ t.coll.seq = s.coll.seq + 1 ∧
        (s.unplaced = false → ∃ x, t.coll.snaps = s.coll.snaps ++ [x] ∧ x.at_ = s.now) ∧
        (s.unplaced = true → s.coll.snaps = [] → s.ringRoom Addr.dsvTelBase = false → ∃ x, t.coll.snaps.all (· == x) = true ∧ x.at_ = s.now)) ∧
      (2 ≤ s.coll.snaps.length → t.coll.gap = true ∧ t.reg Addr.dsvTelLost = satInc (s.reg Addr.dsvTelLost) 1 ∧
        (s.unplaced = false → t.coll.snaps = s.coll.snaps))) ∧
    (s.coll.snaps = [] → Gives .telemetryUnplaced s fun t => t = s) ∧
    (∀ x l, s.coll.snaps = x :: l →
      (s.now < x.at_ + 2 * tickHz → Gives .telemetryUnplaced s fun t => t = s) ∧
      (x.at_ + 2 * tickHz ≤ s.now →
        (s.ringRoom Addr.dsvTelBase = false → Gives .telemetryUnplaced s fun t => t.coll.snaps.length = s.coll.snaps.length - b2n (decide (x.records = [])) ∧
          t.mem = s.mem) ∧
        (∀ b, s.ringRoom Addr.dsvTelBase = true → x.records = [b] → Gives .telemetryUnplaced s fun t => t.coll.snaps = l ∧
          t.ringHead Addr.dsvTelBase = (s.ringHead Addr.dsvTelBase + 1) % s.ringSize Addr.dsvTelBase % 2 ^ 12)))

/-! ## Power states and resets -/

/-- Power moves by requests and steps (R771-R779, R782, R801): WAKE_N and the alarm ask for ACTIVE; the grace period ends in a power-down with
every segment closed; the steps of R777 follow one another no earlier than their times, the last one into ACTIVE with the main domains at their
reset values; a power-down runs them in reverse and keeps the DRAM rails for RETAIN; a power-good that does not come turns the sequence round. -/
def Obligations.PowerMovesInSteps : Prop :=
  ∀ s : State,
    (∀ c, c = .wakeNFall ∨ (c = .wakeAlarm ∧ s.pwr.alarm ≠ 0 ∧ s.pwr.alarm ≤ s.tod.sec) →
      (s.pwr.refLost = none → s.pwrSt ≠ 2 → Gives c s fun t => t.pwrReq = 2 ∧ t.pwrSt = s.pwrSt) ∧
      (s.pwr.refLost = none → s.pwrSt = 2 → Gives c s fun t => t.pwrReq = 7 ∧ t.pwrSt = 2 ∧ t.pwr.grace = none) ∧
      (s.pwr.refLost ≠ none → Gives c s fun t => t.regs = s.regs)) ∧
    (s.pwr.alarm ≠ 0 ∧ s.pwr.alarm ≤ s.tod.sec → Gives .wakeAlarm s fun t => t.pwr.alarm = 0) ∧
    (s.pwr.alarm = 0 ∨ s.tod.sec < s.pwr.alarm → Gives .wakeAlarm s fun t => t = s) ∧
    (∀ t0, s.pwr.grace = some t0 →
      (s.now < t0 → Gives .powerGraceEnd s fun t => t = s) ∧
      (t0 ≤ s.now → s.pwrSt = 2 → 2 ≤ s.pwrReq → Gives .powerGraceEnd s fun t => t.pwrSt = 2 ∧ t.pwr.grace = none) ∧
      (t0 ≤ s.now → s.pwrSt = 2 → s.pwrReq < 2 → Gives .powerGraceEnd s fun t => t.pwrSt = 5 ∧ t.pwr.target = s.pwrReq ∧ t.pwr.grace = none)) ∧
    (∀ k, k = (if s.pwr.step = 4 ∧ s.rb Addr.pwrRailStatus 9 = true then 8 else s.pwr.step + 1) →
      (s.now < s.pwr.ready → Gives .powerUpStep s fun t => t = s) ∧
      (s.pwr.ready ≤ s.now → s.pwrSt = 4 → s.pwrReq = 2 ∨ s.pwrReq = 7 →
        (k < 10 → Gives .powerUpStep s fun t => t.pwrSt = 4 ∧ t.pwr.step = k ∧ (∀ r ∈ stepRails k, t.rb Addr.pwrRailStatus r = true) ∧
          t.pwr.ready = s.now + usTicks (if k = 9 then 1 else 100)) ∧
        (k = 10 → Gives .powerUpStep s fun t => t.pwrSt = 2 ∧ t.pwrReq = 7 ∧ t.rb Addr.pwrState 8 = false ∧ t.cores = [] ∧ t.doms = [] ∧
          ∀ a, alwaysOn a = false → a ≠ Addr.lptTodSrc → a ≠ Addr.pcieStatus → t.reg a = resetOf a)) ∧
      (s.pwr.ready ≤ s.now → s.mayRise = true → s.pwrSt ≠ 4 → Gives .powerUpStep s fun t => t.pwrSt = 4 ∧ t.pwr.step = 1 ∧ t.rb Addr.pwrRailStatus 2 = true) ∧
      (∀ r, s.pwrSt = 4 ∧ r ∈ stepRails k ∧ s.pwr.ready + msTicks 10 ≤ s.now → Gives (.pgTimeout r) s fun t => t.pwrSt = 5 ∧ t.pwrReq = 7 ∧
        t.pwr.target = 0 ∧ ∃ e, e ∈ t.coll.posted ∧ e.code = .pwrSeq) ∧
      (∀ r, s.pwrSt ≠ 4 ∨ r ∉ stepRails k ∨ s.now < s.pwr.ready + msTicks 10 → Gives (.pgTimeout r) s fun t => t = s)) ∧
    (∀ k g, s.pwrSt = 5 → k = s.pwr.step → g = s.pwr.target → g < 2 →
      (1 < k → k ≤ 10 → Gives .powerDownStep s fun t => t.pwrSt = 5 ∧ t.pwr.step = k - 1 ∧
        (k < 5 ∨ k = 8 → ∀ r ∈ stepRails k, t.rb Addr.pwrRailStatus r = false) ∧
        (5 ≤ k → k ≤ 7 → g = 0 → (∀ r ∈ stepRails k, t.rb Addr.pwrRailStatus r = false) ∧ t.mem = []) ∧
        (5 ≤ k → k ≤ 7 → g = 1 → t.regs = s.regs ∧ t.mem = s.mem) ∧
        (k = 10 → t.mem = s.mem ∧ t.cores = [] ∧ (∀ a, alwaysOn a = false → a ≠ Addr.lptTodSrc → t.reg a = resetOf a) ∧
          (s.rb Addr.memStatus 31 = true → t.ms.kept = some (w32 (fld (s.reg Addr.memCtrl) 1 1), s.reg Addr.memCfg)))) ∧
      (k ≤ 1 → Gives .powerDownStep s fun t => t.pwrSt = g ∧ t.pwr.ready = s.now + msTicks 5 ∧ t.pwrReq = if s.pwrReq = g then 7 else s.pwrReq)) ∧
    (s.pwrSt = 4 → s.pwrReq < 2 → 2 ≤ s.pwr.step → s.pwr.step ≤ 10 → Gives .powerDownStep s fun t => t.pwrSt = 5 ∧ t.pwr.target = s.pwrReq) ∧
    (s.pwrSt = 2 ∨ s.pwrSt = 3 ∨ s.pwrSt = 0 → Gives .powerDownStep s fun t => t = s)

/-- What takes the rails away, and what resets (R780, R781, R788, R789, R800-R802, R810): a lost power-good, the trip and the loss of REFCLK drop
every main rail at once and consume the request; the TOD resumes by the measured absence; a warm reset keeps the rails and the DRAM; a power-on
reset leaves only what is not volatile. -/
def Obligations.LossesAndResetsTakeEffect : Prop :=
  ∀ s : State,
    (∀ r, 2 ≤ r ∧ r ≤ 12 ∧ s.rb Addr.pwrRailStatus r = true ∧ (s.pwrSt = 2 ∨ s.pwrSt = 4 ∨ s.pwrSt = 5) → Gives (.pgFall r) s fun t =>
      t.pwrSt = 0 ∧ t.pwrReq = 7 ∧ t.reg Addr.pwrRailStatus = 3 ∧ t.mem = [] ∧ ∃ e, e ∈ t.coll.posted ∧ e.code = .pwrPg) ∧
    (∀ r, r < 2 ∨ 12 < r ∨ s.rb Addr.pwrRailStatus r = false ∨ (s.pwrSt ≠ 2 ∧ s.pwrSt ≠ 4 ∧ s.pwrSt ≠ 5) → Gives (.pgFall r) s fun t => t = s) ∧
    (∀ n, n < 24 → s.pwrSt ≠ 3 → Gives (.hardwareTrip n) s fun t => t.pwrSt = 3 ∧ t.pwrReq = 7 ∧ t.rb Addr.pwrState 8 = true ∧
      t.reg Addr.pwrRailStatus = 3 ∧ t.mem = [] ∧ t.thm.tripAt = some s.now ∧ ∃ e, e ∈ t.coll.posted ∧ e.code = .thmTrip) ∧
    (∀ n, 24 ≤ n ∨ s.pwrSt = 3 → Gives (.hardwareTrip n) s fun t => t = s) ∧
    (s.pwr.refLost = none → Gives .refclkLoss s fun t => t.pwr.refLost = some (s.tod.sec, s.tod.tick) ∧ t.pwrSt = (if s.pwrSt = 3 then 3 else 0) ∧
      t.pwrReq = 7 ∧ t.reg Addr.pwrRailStatus = 3 ∧ ∃ e, e ∈ t.coll.posted ∧ e.code = .refclk) ∧
    (s.pwr.refLost ≠ none → Gives .refclkLoss s fun t => t = s) ∧
    (∀ ms, s.pwr.refLost = none → Gives (.refclkResume ms) s fun t => t = s) ∧
    (∀ ms b, s.pwr.refLost = some b → Gives (.refclkResume ms) s fun t => t.pwr.refLost = none ∧ t.tod.holdover = true ∧
      t.tod.sec = (b.1 * tickHz + b.2 + msTicks ms) / tickHz % 2 ^ 48 ∧ t.tod.tick = (b.1 * tickHz + b.2 + msTicks ms) % tickHz) ∧
    (Gives .warmReset s fun t => t.reg Addr.pwrRailStatus = s.reg Addr.pwrRailStatus ∧ t.pwrSt = s.pwrSt ∧ t.mem = s.mem ∧ t.dsv.fw = none ∧ t.cores = [] ∧
      (∀ a, alwaysOn a = false → a ≠ Addr.lptTodSrc → a ≠ Addr.pcieStatus → t.reg a = resetOf a) ∧
      (s.rb Addr.memStatus 31 = true → t.ms.kept = some (w32 (fld (s.reg Addr.memCtrl) 1 1), s.reg Addr.memCfg))) ∧
    Gives .powerOnReset s fun t => t.regs = State.reset.regs ∧ t.tod = State.reset.tod ∧ t.pwr = State.reset.pwr ∧ t.mem = [] ∧ t.cores = [] ∧
      t.dsv.otp = s.dsv.otp ∧ t.dsv.flash = s.dsv.flash ∧ t.dsv.boots = s.dsv.boots ∧ t.dsv.proposal = none

/-! ## The supervisor -/

/-- Boot (R727-R730, R754): the ROM starts the first slot it accepts, with a record where that is slot B, and with none leaves a failure code
and no image; the supervisor's boot, once, in ACTIVE, puts the valid protection record of the highest PROT_SEQ in force and joins CPU0 where
the loader verifies, else raises E_BOOT_IMAGE as FATAL; a tag that fails its HMAC reads as zero. -/
def Obligations.FirmwareBootsTheDevice : Prop :=
  (∀ (a b : BootImage) (s : State),
    (s.dsv.fw ≠ none → Gives (.bootRom a b) s fun t => t = s) ∧
    (s.dsv.fw = none → s.rf Addr.dsvBootStatus 7 0 = 0 →
      (s.imageOk a = true → Gives (.bootRom a b) s fun t => t.dsv.fw = some ⟨false, a.sv, a.digest⟩ ∧ t.rb Addr.dsvBootStatus 31 = false ∧
        t.dsv.boots = s.dsv.boots + 1 ∧ t.coll = s.coll) ∧
      (s.imageOk a = false → s.imageOk b = true → Gives (.bootRom a b) s fun t => t.dsv.fw = some ⟨true, b.sv, b.digest⟩ ∧
        t.rb Addr.dsvBootStatus 31 = true ∧ t.dsv.boots = s.dsv.boots + 1 ∧
        ∃ r, t.coll.posted = s.coll.posted ++ [r] ∧ r.code = .bootImage ∧ r.cls = .corrected) ∧
      (s.imageOk a = false → s.imageOk b = false → Gives (.bootRom a b) s fun t => t.dsv = s.dsv ∧ t.rf Addr.dsvBootStatus 7 0 ≠ 0 ∧
        t.pwrSt = s.pwrSt ∧ ∀ x, x ≠ Addr.dsvBootStatus → t.reg x = s.reg x))) ∧
  (∀ (loader sig : Bytes) (tagOk : Bool) (s : State),
    (s.dsv.fw = none ∨ s.dsv.booted = true ∨ s.pwrSt ≠ 2 → Gives (.supervisorBoot loader sig tagOk) s fun t => t = s) ∧
    (s.dsv.fw ≠ none → s.dsv.booted = false → s.pwrSt = 2 → Gives (.supervisorBoot loader sig tagOk) s fun t =>
      t.dsv.booted = true ∧ t.dsv.keys = s.dsv.bestCopy.keys ∧ t.reg Addr.dsvProtSeq = w32 s.dsv.bestCopy.seq ∧
      (∀ a, a ∈ rwdRegs → t.reg a = tget resetOf s.dsv.bestCopy.regs a) ∧
      (tagOk = false → t.dsv.tag = [] ∧ ∃ r, r ∈ t.coll.posted ∧ r.code = .tagIntegrity) ∧ (tagOk = true → t.dsv.tag = s.dsv.tag) ∧
      ∀ ok, ok = ({ s with dsv := { s.dsv with keys := s.dsv.bestCopy.keys } } : State).loaderOk loader sig →
        (ok = true → t.rb Addr.cohStatus 0 = true) ∧ (ok = false → ∃ r, r ∈ t.coll.posted ∧ r.code = .bootImage ∧ r.cls = .fatal)))

/-- The mailbox (R758-R762, R773, R799, R838): a command that stands first is answered with CMD, length and TAG echoed: OK; MALFORMED where its
length or bytes 8-15 are wrong or no command has its CMD; DENIED from a page that may not issue it. The commands that only inform change nothing
else of the supervisor or of its registers; the tag, the flash and a power request are written and read as asked; a doorbell rung while the
page is busy is answered BUSY and the command in progress stays. -/
def Obligations.MailboxCommandsAreAnswered : Prop :=
  (∀ (p : Page) (s : State) (c : Instr) (cmd n : Nat) (both informs : Bool),
    (c, cmd, n, both, informs) ∈ [(Instr.getInfo p, 0x0001, 0, true, true), (.getDeviceCert p, 0x0002, 0, true, true), (.attest p, 0x0003, 32, true, true),
      (.getProtection p, 0x0013, 0, true, true), (.getDeviceTag p, 0x0030, 0, true, true), (.getPower p, 0x0060, 0, true, true),
      (.getRails p, 0x0062, 0, true, true), (.getThermal p, 0x0070, 0, true, true), (.getTripLog p, 0x0071, 0, true, true),
      (.cancelProposal p, 0x0012, 0, false, false), (.chainFlush p, 0x0020, 0, false, false), (.setDeviceTag p, 0x0031, 512, false, false)] →
    (s.serving p cmd = false → Gives c s fun t => t = s) ∧
    (s.mailIs p cmd n → both = true ∨ p = .driver → Gives c s fun t => s.answers t p 0 ∧
      (informs = true → t.dsv = { s.dsv with order := s.dsv.order.filter (· != p) } ∧ t.mem = s.mem ∧
        ∀ a, a ≠ Addr.dsvMbstatus (pageNum p) → (a < Addr.dsvRespbuf (pageNum p) ∨ Addr.dsvRespbuf (pageNum p) + 4096 ≤ a) → t.reg a = s.reg a)) ∧
    (s.serving p cmd = true → both = false → p = .host → Gives c s fun t => s.answers t p 2 ∧ t.dsv.proposal = s.dsv.proposal ∧
      t.dsv.tag = s.dsv.tag ∧ t.dsv.segs = s.dsv.segs) ∧
    (s.serving p cmd = true → both = true ∨ p = .driver → s.cmdWord p 2 ≠ 0 ∨ s.cmdWord p 3 ≠ 0 ∨ fld (s.cmdWord p 0) 31 16 ≠ n →
      Gives c s fun t => s.answers t p 1 ∧ t.dsv = { s.dsv with order := s.dsv.order.filter (· != p) })) ∧
  (∀ (p : Page) (s : State),
    (s.mailIs p 0x0030 0 → Gives (.getDeviceTag p) s fun t => ∀ i, i < 128 → t.mailWord p i = lget 0 (toWords (pad 512 s.dsv.tag)) i) ∧
    (s.mailIs p 0x0031 512 → p = .driver → Gives (.setDeviceTag p) s fun t => t.dsv.tag = s.cmdPayload p) ∧
    (s.mailIs p 0x0012 0 → p = .driver → Gives (.cancelProposal p) s fun t => t.dsv.proposal = none) ∧
    (s.mailIs p 0x0020 0 → p = .driver → Gives (.chainFlush p) s fun t => (∀ k, k < 32 → t.seg k = none) ∧
      t.mailWord p 0 = w32 (s.chainNext - 1) ∧ t.mailWord p 1 = w32 ((s.chainNext - 1) / 2 ^ 32)) ∧
    (∀ o n ok, s.mailIs p 0x0040 8 → p = .driver → o = fieldAt (s.cmdPayload p) 0 4 → n = fieldAt (s.cmdPayload p) 4 4 → n ≤ 4080 →
      ok = flashIn o n [1, 2] → Gives (.flashRead p) s fun t => s.answers t p (if ok then 0 else 2) ∧
        t.dsv = { s.dsv with order := s.dsv.order.filter (· != p) } ∧
        (ok = true → ∀ i, 4 * i + 4 ≤ n → t.mailWord p i = w32 (leNat ((List.range 4).map fun j => s.flashByte (o + 4 * i + j))))) ∧
    (∀ n o d ok, 4 ≤ n → s.mailIs p 0x0041 n → p = .driver → o = fieldAt (s.cmdPayload p) 0 4 → d = (s.cmdPayload p).drop 4 →
      ok = flashIn o d.length [1, match s.dsv.fw with | some f => if f.slotB then 3 else 4 | none => 0] →
      Gives (.flashWrite p) s fun t => s.answers t p (if ok then 0 else 2) ∧
        ∀ a, t.flashByte a = if ok = true ∧ o ≤ a ∧ a < o + d.length then lget 0 d (a - o) else s.flashByte a) ∧
    (∀ n v, 14 ≤ n → s.mailIs p 0x0061 n → v = fieldAt (s.cmdPayload p) 0 1 →
      (2 < v → Gives (.setPower p) s fun t => s.answers t p 1 ∧ t.pwr = s.pwr) ∧
      (v ≤ 2 → Gives (.setPower p) s fun t => s.answers t p 0 ∧ t.pwr.alarm = fieldAt (s.cmdPayload p) 8 6 ∧ t.pwrSt = s.pwrSt ∧
        (v = s.pwrSt → s.pwr.refLost = none → t.pwrReq = 7) ∧ (v = 2 → s.pwrSt ≠ 2 → s.pwr.refLost = none → t.pwrReq = 2) ∧
        (v < 2 → s.pwrSt = 2 → t.pwrReq = v ∧ t.pwr.grace ≠ none))) ∧
    (∀ c, c = fld (s.cmdWord p 0) 15 0 →
      (s.serving p c = true → isCommand c = false → Gives (.mailboxMalformed p) s fun t => s.answers t p 1 ∧
        t.dsv = { s.dsv with order := s.dsv.order.filter (· != p) }) ∧
      (s.serving p c = false ∨ isCommand c = true → Gives (.mailboxMalformed p) s fun t => t = s)) ∧
    (s.rb (Addr.dsvMbstatus (pageNum p)) 31 = true → Gives (.doorbellWhileBusy p) s fun t =>
      t.mailStatus p = 3 ∧ t.rb (Addr.dsvMbstatus (pageNum p)) 31 = true ∧ t.dsv = s.dsv) ∧
    (s.rb (Addr.dsvMbstatus (pageNum p)) 31 = false → Gives (.doorbellWhileBusy p) s fun t => t = s))

/-- Proposals and their endorsement (R739, R742-R747, R761): a well-formed PROPOSE becomes the one pending, with the next identity and a window
from now, and the one before it is superseded; an endorsement that fails a check is answered with the code of the first it fails and counted,
and changes no key, register under dual control or PROT_SEQ; one that passes raises PROT_SEQ by 1, stores the record, applies the operations
and appends a record to the chain; the eighth bad signature in a row locks endorsements out for 600 s; a debug unlock ends when its time has
passed. -/
def Obligations.ProposalsNeedEndorsement : Prop :=
  (∀ (s : State) (n : Nat) (m : Bytes), 80 ≤ n → s.mailIs .driver 0x0010 n → m = s.cmdPayload .driver →
    (s.recordOk m = false → Gives (.propose .driver) s fun t => s.answers t .driver 1 ∧ t.dsv.proposal = s.dsv.proposal) ∧
    (s.recordOk m = true → Gives (.propose .driver) s fun t => s.answers t .driver 0 ∧
      (∃ p, t.dsv.proposal = some p ∧ p.id = s.dsv.nextId ∧ p.ends = s.now + s.rf Addr.dsvDcWindow 16 0 * tickHz ∧
        p.data.take 8 = m.take 8 ∧ p.data.drop 64 = m.drop 64 ∧ fieldAt p.data 20 4 = (s.reg Addr.dsvProtSeq).toNat) ∧
      t.dsv.nextId = s.dsv.nextId + 1 ∧ (∀ q, s.dsv.proposal = some q → q.id ∈ t.dsv.superseded))) ∧
  (∀ (s : State), s.serving .host 0x0010 = true → Gives (.propose .host) s fun t => s.answers t .host 2 ∧ t.dsv.proposal = s.dsv.proposal) ∧
  (∀ (s : State) (pg : Page) (stored : Bool) (n id : Nat) (m sig : Bytes), 4 ≤ n → s.mailIs pg 0x0011 n → m = s.cmdPayload pg → id = fieldAt m 0 4 →
    sig = m.drop 4 →
    (∀ code, (code = 1 ∧ sig.length ≠ 64 ∧ sig.length ≠ 96) ∨
        ((sig.length = 64 ∨ sig.length = 96) ∧ ((code = 3 ∧ id ∈ s.dsv.superseded) ∨
          (id ∉ s.dsv.superseded ∧ ((code = 2 ∧ (s.dsv.proposal = none ∨ ∃ p, s.dsv.proposal = some p ∧ p.id ≠ id)) ∨
            ∃ p, s.dsv.proposal = some p ∧ p.id = id ∧ s.recordOk p.data = true ∧
              ((code = 4 ∧ p.ends < s.now) ∨ (s.now ≤ p.ends ∧
                ((code = 5 ∧ fieldAt p.data 20 4 ≠ (s.reg Addr.dsvProtSeq).toNat) ∨ (fieldAt p.data 20 4 = (s.reg Addr.dsvProtSeq).toNat ∧
                  ((code = 6 ∧ s.endorsing p.data = none) ∨ ∃ k, s.endorsing p.data = some k ∧
                    ((code = 7 ∧ s.dsv.lockEnd ≠ none) ∨ (s.dsv.lockEnd = none ∧ code = 8 ∧ sig.length ≠ if k.1 = 1 then 64 else 96))))))))))) →
      Gives (.endorse pg stored) s fun t => s.answers t pg (0x100 + code) ∧ t.reg Addr.dsvDcFails = satInc (s.reg Addr.dsvDcFails) 1 ∧
        (∃ r, t.coll.posted = s.coll.posted ++ [r] ∧ r.code = .dcReject ∧ r.detail = [(1, code), (4, id)]) ∧ t.dsv.keys = s.dsv.keys ∧
        t.reg Addr.dsvProtSeq = s.reg Addr.dsvProtSeq ∧ (∀ a, a ∈ rwdRegs → t.reg a = s.reg a) ∧ (∀ p, t.dsv.proposal = some p → p.id ≠ id) ∧
        (code = 8 → s.dsv.badSigs = 7 → t.dsv.lockEnd = some (s.now + 600 * tickHz) ∧ t.dsv.proposal = none) ∧
        (code = 8 → s.dsv.badSigs < 7 → t.dsv.badSigs = s.dsv.badSigs + 1 ∧ t.dsv.lockEnd = none)) ∧
    (∀ p k, (sig.length = 64 ∨ sig.length = 96) → id ∉ s.dsv.superseded → s.dsv.proposal = some p → p.id = id → s.recordOk p.data = true →
      s.now ≤ p.ends → fieldAt p.data 20 4 = (s.reg Addr.dsvProtSeq).toNat → s.endorsing p.data = some k → s.dsv.lockEnd = none →
      sig.length = (if k.1 = 1 then 64 else 96) → Gives (.endorse pg stored) s fun t =>
        (∀ ok, ok = Config.verify k.2 (slotDigest k.1 p.data) sig →
          s.answers t pg (if ok = false then 0x108 else if stored = false then 0x109 else 0) ∧ t.dsv.proposal = none ∧
          (ok = false ∨ stored = false → t.dsv.keys = s.dsv.keys ∧ t.reg Addr.dsvProtSeq = s.reg Addr.dsvProtSeq) ∧
          (ok = true → stored = true → t.reg Addr.dsvProtSeq = s.reg Addr.dsvProtSeq + 1 ∧ t.chainNext = (s.chainNext + 1) % 2 ^ 64 ∧
            (∃ r, (t.dsv.copyA = some r ∨ t.dsv.copyB = some r) ∧ r.seq = (s.reg Addr.dsvProtSeq).toNat + 1 ∧ r.keys = t.dsv.keys) ∧
            (∀ o, propOps p.data = [o] → (opCode o = 3 → t.keySlot (opValue o) = (0, [])) ∧
              (opCode o = 1 → t.reg (opAddr o) = (s.putRwd (opAddr o)
                ((s.reg (opAddr o) &&& ~~~ w32 (opMask o)) ||| (w32 (opValue o) &&& w32 (opMask o)))).reg (opAddr o))))))) ∧
  (∀ s : State,
    (s.dsv.lockEnd = none → Gives .endorseLockoutEnd s fun t => t = s) ∧
    (∀ e, s.dsv.lockEnd = some e → (s.now < e → Gives .endorseLockoutEnd s fun t => t = s) ∧
      (e ≤ s.now → Gives .endorseLockoutEnd s fun t => t = { s with dsv := { s.dsv with lockEnd := none } })) ∧
    (s.dsv.unlock = none → Gives .debugLock s fun t => t = s) ∧
    (∀ l e id, s.dsv.unlock = some (l, e, id) → (s.now < e → Gives .debugLock s fun t => t = s) ∧
      (e ≤ s.now → Gives .debugLock s fun t => t.dsv.unlock = none ∧ t.reg Addr.dsvProtSeq = s.reg Addr.dsvProtSeq ∧
        t.chainNext = (s.chainNext + 1) % 2 ^ 64 ∧ ∀ k, k < 32 → t.seg k = none)))

/-- Evidence is sealed (R748-R751, R755): an item whose buffer does not lie in a window that grants nothing but the encoders' writes is released
unhashed and told; one in a safe buffer joins the open segment of its session by the digest of its header, bytes 52-63 taken as zero, and its
stream, its buffer is released, and the copy carries the segment's SEQ and its index; a segment whose time has passed closes, with a record of
256 bytes; while the chain ring is full no item is popped. -/
def Obligations.EvidenceIsSealed : Prop :=
  (∀ (e q : Nat) (s : State), s.dsv.forward = none → q = s.rf (Addr.vencEvidCfg e) 13 8 →
    (2 ≤ e ∨ s.dsv.booted = false ∨ 2 ^ s.rf Addr.dsvChainSize 3 0 ≤ s.chainHeld + 1 → Gives (.evidItemPop e) s fun t => t = s) ∧
    (e < 2 → s.dsv.booted = true → s.chainHeld + 1 < 2 ^ s.rf Addr.dsvChainSize 3 0 →
      (s.canPop hSup q = false → Gives (.evidItemPop e) s fun t => t.mem = s.mem ∧ t.dsv = s.dsv ∧ t.coll = s.coll) ∧
      (∀ it r b p, (s.queue q).items = it :: r → s.canPop hSup q = true → p = hdPool it.handle → p ≠ 63 → s.fresh? it.handle = true →
        (s.alloc hSup (s.rf Addr.dsvEvidFwd 20 16)).1 = some b → s.rf Addr.dsvEvidFwd 20 16 ≠ p →
        (s.evidSafe (s.bufAddr p (hdIdx it.handle)) (s.plSize p) = false → Gives (.evidItemPop e) s fun t =>
          (t.queue q).items = r ∧ (t.pool p).state (hdIdx it.handle) = .free ∧ t.mem = s.mem ∧ t.dsv = s.dsv ∧
          ∃ x, x ∈ t.coll.posted ∧ x.code = .evidExposed) ∧
        (∀ a h l k g fl, s.evidSafe (s.bufAddr p (hdIdx it.handle)) (s.plSize p) = true → a = s.bufAddr p (hdIdx it.handle) →
          (∀ x, a ≤ x → x < a + s.plSize p → s.memOk x = true) → h = (s.supRead .bulk a 64).1 →
          l = (s.supRead .bulk (a + 64) (min (fieldAt h 0 4) (s.plSize p - 64))).1 → fl = fieldAt h 4 4 → k = 16 * e + fieldAt h 38 1 % 16 →
          s.seg k = some g → nbit fl 0 = 0 → nbit fl 8 = 0 → g.n + 1 < s.rf Addr.dsvSegCfg 23 16 → Gives (.evidItemPop e) s fun t =>
            t.seg k = some { g with digests := g.digests ++ Config.sha384 (h.take 52 ++ List.replicate 12 0 ++ l), n := g.n + 1,
                                    last := fieldAt h 8 4, flags := g.flags.lor (fl % 65536), hold := g.hold || s.tod.holdover } ∧
            (∀ j, j ≠ k → t.seg j = s.seg j) ∧ (t.pool p).state (hdIdx it.handle) = .free)))) ∧
  (∀ (e ss : Nat) (s : State), e < 2 → ss < 16 →
    (s.seg (16 * e + ss) = none → Gives (.segmentTimeout e ss) s fun t => t = s) ∧
    (∀ g, s.seg (16 * e + ss) = some g →
      (s.now < g.since + msTicks (s.rf Addr.dsvSegCfg 15 0) → Gives (.segmentTimeout e ss) s fun t => t = s) ∧
      (g.since + msTicks (s.rf Addr.dsvSegCfg 15 0) ≤ s.now → Gives (.segmentTimeout e ss) s fun t =>
        t.seg (16 * e + ss) = none ∧ (∀ j, j ≠ 16 * e + ss → t.seg j = s.seg j) ∧ t.chainNext = s.chainNext ∧
        (s.chainBase = 0 → ∃ r, t.dsv.waiting = s.dsv.waiting ++ [r] ∧ r.length = 256 ∧ fieldAt r 0 4 = 0x4E484353 ∧ fieldAt r 6 1 = 1 ∧
          fieldAt r 8 8 = g.seqNo % 2 ^ 64))))

/-! ## The machine as a whole -/

/-- A step takes the command at the front of the queue: it is the command's meaning at the state with the rest of the queue. -/
def Obligations.StepRunsTheFrontCommand : Prop :=
  ∀ (c : Instr) (rest : List Instr) (s : State), s.pending = c :: rest → step s = exec c { s with pending := rest }

/-- A step on an empty queue is one tick of the timebase (the model's choice, log entry 1): the raw counter goes on by one, the time of day goes on
with it save while REFCLK is lost, and nothing else changes. -/
def Obligations.IdleStepIsOneTick : Prop :=
  ∀ s : State, s.pending = [] → ∃ t, step s = .next t ∧ t.now = s.now + 1 ∧ (s.pwr.refLost ≠ none → t.tod = s.tod) ∧
    (s.pwr.refLost = none → t.tod = s.tod.advance (sx 32 (s.reg Addr.lptTodRate).toNat) 1) ∧ ChangesOnly [.now, .tod] s t

/-- The device right after reset (R770, R779, R879, R888, R913): its state is sound; the registers named hold their reset values; every line
domain and pin, tensor context and illuminator channel is idle, no command waits, and the time of day is in holdover. -/
def Obligations.ResetHoldsItsValues : Prop :=
  State.reset.wf ∧ State.reset.pending = [] ∧ State.reset.reg Addr.lptTodSrc = 0x40000000 ∧ State.reset.reg Addr.pwrState = 0x70 ∧
  State.reset.reg Addr.wchStatus = 0x80000000 ∧ State.reset.reg Addr.clkTclkReq = 0x320 ∧ State.reset.reg Addr.dsvSegCfg = 0x3C07D0 ∧
  (∀ n, n < 8 → State.reset.reg (Addr.tcArb n) = 0x1110 ∧ State.reset.reg (Addr.tcWin n) = 0x4444) ∧
  (∀ k, k < 4 → State.reset.reg (Addr.passSwVreg k) = 0xFFFFFFFF) ∧ (∀ d, (State.reset.dom d).running = false) ∧
  (∀ i, (State.reset.pin i).active = false) ∧ (∀ k, (State.reset.ctx k).state = .off) ∧ (∀ c, (State.reset.ill c).gate = .off) ∧
  State.reset.tod.holdover = true

/-- Every step from a sound state leaves a sound state: each table of registers, domains, cores, contexts and memory stays in its one
canonical form and the tick of the second below one second. A step always answers a next state; the queue loses what it took, and nothing
else. -/
def Obligations.StepKeepsTheStateSound : Prop :=
  ∀ s : State, ∃ t, step s = .next t ∧ t.pending = s.pending.tail ∧ (s.wf → t.wf)

/-- Every command completes within its frame: it changes the parts of the state listed for it and no other, draws free values only
forward, and, save a power-on reset, never turns the raw timebase back. -/
def Obligations.CommandsChangeOnlyTheirParts : Prop :=
  ∀ (c : Instr) (s : State), Gives c s fun t => ChangesOnly (touches c) s t ∧ s.fresh ≤ t.fresh ∧ (c ≠ .powerOnReset → s.now ≤ t.now)
end

