-- ==== Sys2Proof/Laws/Table.lean ====
section
/-! SUPPORT. The laws of a sparse table: reading after writing, and the canonical form that every operation keeps. -/

namespace Sys2Proof.Machine

variable {α : Type}

/-! ## Reading -/

@[simp] theorem tget_nil (d : Nat → α) (k : Nat) : tget d [] k = d k := rfl

theorem tget_tdel_same (d : Nat → α) (t : Table α) (k : Nat) : tget d (tdel t k) k = d k := by
  induction t with
  | nil => rfl
  | cons p r ih => by_cases h : p.1 = k <;> simp [tdel, tget, h, ih]

theorem tget_tdel_other (d : Nat → α) (t : Table α) {j k : Nat} (h : j ≠ k) : tget d (tdel t k) j = tget d t j := by
  induction t with
  | nil => rfl
  | cons p r ih =>
    by_cases hp : p.1 = k
    · have : p.1 ≠ j := fun e => h (e ▸ hp)
      simp [tdel, tget, hp, ih, Ne.symm h]
    · simp [tdel, tget, hp, ih]

theorem tget_tins_same (d : Nat → α) (t : Table α) (k : Nat) (v : α) (h : ∀ p ∈ t, p.1 ≠ k) :
    tget d (tins t k v) k = v := by
  induction t with
  | nil => simp [tins, tget]
  | cons p r ih =>
    have hp : p.1 ≠ k := h p (by simp)
    by_cases hk : k < p.1
    · simp [tins, hk, tget]
    · simp [tins, hk, tget, hp, ih fun q hq => h q (by simp [hq])]

theorem tget_tins_other (d : Nat → α) (t : Table α) {j k : Nat} (v : α) (h : j ≠ k) :
    tget d (tins t k v) j = tget d t j := by
  induction t with
  | nil => simp [tins, tget, Ne.symm h]
  | cons p r ih => by_cases hk : k < p.1 <;> simp [tins, hk, tget, Ne.symm h, ih]

theorem tdel_keys (t : Table α) (k : Nat) : ∀ p ∈ tdel t k, p.1 ≠ k := by
  induction t with
  | nil => simp [tdel]
  | cons p r ih =>
    by_cases hp : p.1 = k
    · simpa [tdel, hp] using ih
    · simpa [tdel, hp] using ih

/-- Reading what was written. -/
@[simp] theorem tget_tset_same [DecidableEq α] (d : Nat → α) (t : Table α) (k : Nat) (v : α) :
    tget d (tset d t k v) k = v := by
  by_cases h : v = d k
  · simp [tset, h, tget_tdel_same]
  · simp [tset, h, tget_tins_same d _ k v (tdel_keys t k)]

/-- A write leaves every other key alone. -/
theorem tget_tset_other [DecidableEq α] (d : Nat → α) (t : Table α) {j k : Nat} (v : α) (h : j ≠ k) :
    tget d (tset d t k v) j = tget d t j := by
  by_cases hv : v = d k
  · simp [tset, hv, tget_tdel_other d t h]
  · simp [tset, hv, tget_tins_other d _ v h, tget_tdel_other d t h]

/-- What any key reads as after a write. -/
theorem tget_tset [DecidableEq α] (d : Nat → α) (t : Table α) (j k : Nat) (v : α) :
    tget d (tset d t k v) j = if j = k then v else tget d t j := by
  by_cases h : j = k
  · simp [h]
  · simp [h, tget_tset_other]

/-! ## The canonical form -/

theorem tdel_eq_filter (t : Table α) (k : Nat) : tdel t k = t.filter fun p => p.1 != k := by
  induction t with
  | nil => rfl
  | cons p r ih => by_cases h : p.1 = k <;> simp [tdel, h, ih]

variable [DecidableEq α]

theorem twfFrom_weaken (d : Nat → α) (t : Table α) {b c : Option Nat}
    (hbc : ∀ x, b = some x → ∃ y, c = some y ∧ x ≤ y) (h : twfFrom d c t = true) : twfFrom d b t = true := by
  cases t with
  | nil => rfl
  | cons p r =>
    obtain ⟨i, v⟩ := p
    simp only [twfFrom, Bool.and_eq_true] at h ⊢
    refine ⟨⟨?_, h.1.2⟩, h.2⟩
    cases b with
    | none => rfl
    | some x =>
      obtain ⟨y, rfl, hy⟩ := hbc x rfl
      have := h.1.1
      simp only [decide_eq_true_eq] at this ⊢
      omega

theorem twfFrom_none (d : Nat → α) (t : Table α) {b : Option Nat} (h : twfFrom d b t = true) : twf d t = true :=
  twfFrom_weaken d t (fun _ e => by cases e) h

theorem twfFrom_filter (d : Nat → α) (f : Nat × α → Bool) (t : Table α) (b : Option Nat) (h : twfFrom d b t = true) :
    twfFrom d b (t.filter f) = true := by
  induction t generalizing b with
  | nil => rfl
  | cons p r ih =>
    obtain ⟨i, v⟩ := p
    simp only [twfFrom, Bool.and_eq_true] at h
    by_cases hf : f (i, v) = true
    · simp only [List.filter, hf, twfFrom, Bool.and_eq_true]
      exact ⟨h.1, ih _ h.2⟩
    · simp only [List.filter, hf]
      refine ih b (twfFrom_weaken d r (c := some i) ?_ h.2)
      intro x hx
      subst hx
      have := h.1.1
      simp only [decide_eq_true_eq] at this
      exact ⟨i, rfl, by omega⟩

theorem twfFrom_tins (d : Nat → α) (t : Table α) (k : Nat) (v : α) (b : Option Nat) (hv : v ≠ d k)
    (hb : ∀ x, b = some x → x < k) (hk : ∀ p ∈ t, p.1 ≠ k) (h : twfFrom d b t = true) :
    twfFrom d b (tins t k v) = true := by
  induction t generalizing b with
  | nil =>
    simp only [tins, twfFrom, Bool.and_true, Bool.and_eq_true, decide_eq_true_eq]
    refine ⟨?_, hv⟩
    cases b with
    | none => rfl
    | some x => simpa using hb x rfl
  | cons p r ih =>
    obtain ⟨i, w⟩ := p
    have hi : i ≠ k := hk (i, w) (by simp)
    simp only [twfFrom, Bool.and_eq_true] at h
    by_cases hlt : k < i
    · simp only [tins, hlt, if_true, twfFrom, Bool.and_eq_true, decide_eq_true_eq]
      refine ⟨⟨?_, hv⟩, ⟨trivial, by simpa using h.1.2⟩, h.2⟩
      cases b with
      | none => rfl
      | some x => simpa using hb x rfl
    · simp only [tins, hlt, if_false, twfFrom, Bool.and_eq_true]
      refine ⟨h.1, ih _ ?_ (fun q hq => hk q (by simp [hq])) h.2⟩
      intro x hx
      cases hx
      omega

/-- An erased table stays canonical. -/
theorem twf_tdel (d : Nat → α) (t : Table α) (k : Nat) (h : twf d t = true) : twf d (tdel t k) = true := by
  rw [tdel_eq_filter]
  exact twfFrom_filter d _ t none h

/-- A filtered table stays canonical. -/
theorem twf_filter (d : Nat → α) (f : Nat × α → Bool) (t : Table α) (h : twf d t = true) : twf d (t.filter f) = true :=
  twfFrom_filter d f t none h

/-- A written table stays canonical. -/
theorem twf_tset (d : Nat → α) (t : Table α) (k : Nat) (v : α) (h : twf d t = true) : twf d (tset d t k v) = true := by
  by_cases hv : v = d k
  · simp [tset, hv, twf_tdel d t k h]
  · simp only [tset, hv, if_false]
    exact twfFrom_tins d _ k v none hv (fun _ e => by cases e) (tdel_keys t k) (twf_tdel d t k h)

/-- A run of writes keeps a table canonical. -/
theorem twf_foldl_tset {β : Type} (d : Nat → α) (l : List β) {k : β → Nat} {v : β → α} (t : Table α) (h : twf d t = true) :
    twf d (l.foldl (fun c x => tset d c (k x) (v x)) t) = true := by
  induction l generalizing t with
  | nil => exact h
  | cons x r ih => exact ih _ (twf_tset d t _ _ h)

end Sys2Proof.Machine
end

