-- ==== Sys2Proof/Laws/Only.lean ====
section
/-! SUPPORT. The footprint of an operation: `Only m s t` says that `t` differs from `s` in the parts of the mask `m` at most, that
a sound `s` leaves a sound `t`, that free values are only ever drawn further, and that time does not run backward (unless
the mask says that the operation restarts time). Every operation of the model has its footprint as one lemma; footprints
compose. -/

namespace Sys2Proof.Machine

/-- The bit of a part in a mask: its place among the fields of the state. -/
def Part.idx (p : Part) : Nat := p.ctorIdx

/-- The bit of a mask that allows time to restart. -/
def restart : Nat := 40

/-- What soundness asks of a part: a table is canonical, the tick of the second is below one second. -/
def Part.sound : Part → State → Prop
  | .regs, s => twf resetOf s.regs = true
  | .capture, s => twf (fun _ => 0) s.capture = true
  | .tod, s => s.tod.tick < tickHz
  | .doms, s => twf (fun _ => {}) s.doms = true
  | .pins, s => twf (fun _ => {}) s.pins = true
  | .cores, s => twf (fun _ => {}) s.cores = true
  | .ctxs, s => twf (fun _ => {}) s.ctxs = true
  | .ills, s => twf (fun _ => {}) s.ills = true
  | .mem, s => twf (fun _ => 0) s.mem = true
  | .memPoison, s => twf (fun _ => false) s.memPoison = true
  | .memUe, s => twf (fun _ => false) s.memUe = true
  | .stats, s => twf (fun _ => 0) s.stats = true
  | .irqs, s => twf (fun _ => 0) s.irqs = true
  | .now, _ | .sched, _ | .coll, _ | .pass, _ | .wch, _ | .sfe, _ | .fmt, _ | .dpp, _ | .venc, _ | .vdec, _ | .coh, _ | .eth, _ | .per, _ | .dsv, _ | .pcie, _ | .pwr, _ | .clk, _ | .thm, _ | .ms, _ | .resp, _ | .fresh, _ | .pending, _ => True

/-- A state is sound just where each of its parts is. -/
theorem State.wf_iff (s : State) : s.wf ↔ ∀ p : Part, p.sound s := by
  constructor
  · intro h p
    unfold State.wf at h
    cases p <;> simp only [Part.sound, h]
  · intro h
    refine ⟨h .regs, h .capture, h .doms, h .pins, h .cores, h .ctxs, h .ills, h .mem, h .memPoison, h .memUe, h .stats, h .irqs, h .tod⟩

/-- Soundness of a part is a matter of that part. -/
theorem Part.sound_same {p : Part} {s t : State} (e : p.same s t) (h : p.sound s) : p.sound t := by
  cases p <;> first | trivial | (simp only [Part.same] at e; simpa only [Part.sound, e] using h)

/-- The footprint relation. -/
structure Only (m : Nat) (s t : State) : Prop where
  same  : ∀ p : Part, m.testBit p.idx = false → p.same s t
  sound : ∀ p : Part, p.sound s → p.sound t
  fresh : s.fresh ≤ t.fresh
  time  : m.testBit restart = false → s.now ≤ t.now

theorem Part.same_refl (p : Part) (s : State) : p.same s s := by cases p <;> rfl

theorem Part.same_trans (p : Part) {s t u : State} (h : p.same s t) (k : p.same t u) : p.same s u := by
  cases p <;> exact Eq.trans k h

namespace Only

variable {m g : Nat} {s t u : State}

/-- A footprint keeps a sound state sound. -/
theorem wf (h : Only m s t) (w : s.wf) : t.wf := (State.wf_iff t).2 fun p => h.sound p ((State.wf_iff s).1 w p)

theorem refl : Only m s s := ⟨fun p _ => p.same_refl s, fun _ => id, Nat.le_refl _, fun _ => Nat.le_refl _⟩

theorem trans (h : Only m s t) (k : Only m t u) : Only m s u :=
  ⟨fun p e => p.same_trans (h.same p e) (k.same p e), fun p w => k.sound p (h.sound p w), Nat.le_trans h.fresh k.fresh,
   fun e => Nat.le_trans (h.time e) (k.time e)⟩

/-- The bits of `g` are among those of `m`. -/
def sub (g m : Nat) : Bool := g &&& m == g

theorem sub_and (h : sub g m = true) : g &&& m = g := by simpa [sub] using h

theorem testBit_sub (h : sub g m = true) {i : Nat} (hi : m.testBit i = false) : g.testBit i = false := by
  rw [← sub_and h, Nat.testBit_and, hi, Bool.and_false]

theorem sub_trans {a b c : Nat} (h : sub a b = true) (k : sub b c = true) : sub a c = true := by
  have : a &&& c = a := by rw [← sub_and h, Nat.and_assoc, sub_and k]
  simpa [sub] using this

theorem mono (h : Only g s t) (hm : sub g m = true) : Only m s t :=
  ⟨fun p e => h.same p (testBit_sub hm e), h.sound, h.fresh, fun e => h.time (testBit_sub hm e)⟩

/-- An operation after others. -/
theorem after (k : Only g t u) (hm : sub g m = true) (h : Only m s t) : Only m s u := h.trans (k.mono hm)

/-- Two footprints in a row. -/
theorem join {a b : Nat} (h : Only a s t) (k : Only b t u) : Only (a ||| b) s u := by
  have l : sub a (a ||| b) = true := by
    simp only [sub, beq_iff_eq]
    exact Nat.eq_of_testBit_eq fun i => by rw [Nat.testBit_and, Nat.testBit_or]; cases a.testBit i <;> rfl
  have r : sub b (a ||| b) = true := by
    simp only [sub, beq_iff_eq]
    exact Nat.eq_of_testBit_eq fun i => by rw [Nat.testBit_and, Nat.testBit_or]; cases a.testBit i <;> cases b.testBit i <;> rfl
  exact (h.mono l).trans (k.mono r)

theorem ite {c : Prop} [Decidable c] {a b : State} (ha : Only m s a) (hb : Only m s b) : Only m s (if c then a else b) := by
  by_cases h : c
  · rwa [if_pos h]
  · rwa [if_neg h]

/-- Several parts replaced at once, soundly. -/
theorem multi (h : Only m s t) (hp : ∀ p : Part, p.same t u ∨ m.testBit p.idx = true ∧ (p.sound t → p.sound u))
    (hf : t.fresh ≤ u.fresh) (ht : m.testBit restart = true ∨ t.now ≤ u.now) : Only m s u where
  same p e := by
    rcases hp p with k | ⟨k, _⟩
    · exact p.same_trans (h.same p e) k
    · rw [e] at k
      cases k
  sound p w := by
    rcases hp p with k | ⟨_, k⟩
    · exact Part.sound_same k (h.sound p w)
    · exact k (h.sound p w)
  fresh := Nat.le_trans h.fresh hf
  time e := by
    rcases ht with k | k
    · rw [e] at k
      cases k
    · exact Nat.le_trans (h.time e) k

/-- One part replaced, soundly. -/
theorem put (h : Only m s t) (p : Part) (hp : ∀ q : Part, q ≠ p → q.same t u) (hm : m.testBit p.idx = true)
    (hw : p.sound t → p.sound u) (hf : t.fresh ≤ u.fresh) (ht : m.testBit restart = true ∨ t.now ≤ u.now) : Only m s u :=
  h.multi (fun q => if e : q = p then .inr (e ▸ ⟨hm, hw⟩) else .inl (hp q e)) hf ht

variable {α β γ : Type}

theorem foldl {f : State → α → State} {l : List α} (hf : ∀ t x, Only m s t → Only m s (f t x)) {i : State}
    (h : Only m s i) : Only m s (l.foldl f i) :=
  List.foldlRecOn l f h fun t ht x _ => hf t x ht

theorem foldl2 {f : β × State → α → β × State} {l : List α} (hf : ∀ p x, Only m s p.2 → Only m s (f p x).2) {i : β × State}
    (h : Only m s i.2) : Only m s (l.foldl f i).2 :=
  List.foldlRecOn (motive := fun p : β × State => Only m s p.2) l f h fun p hp x _ => hf p x hp

theorem foldl1 {f : State × β → α → State × β} {l : List α} (hf : ∀ p x, Only m s p.1 → Only m s (f p x).1) {i : State × β}
    (h : Only m s i.1) : Only m s (l.foldl f i).1 :=
  List.foldlRecOn (motive := fun p : State × β => Only m s p.1) l f h fun p hp x _ => hf p x hp

theorem foldl22 {f : γ × β × State → α → γ × β × State} {l : List α}
    (hf : ∀ p x, Only m s p.2.2 → Only m s (f p x).2.2) {i : γ × β × State} (h : Only m s i.2.2) : Only m s (l.foldl f i).2.2 :=
  List.foldlRecOn (motive := fun p : γ × β × State => Only m s p.2.2) l f h fun p hp x _ => hf p x hp

theorem forEach {f : Nat → State → State} {l : List Nat} (hf : ∀ i t, Only m s t → Only m s (f i t)) {i : State}
    (h : Only m s i) : Only m s (forEach l f i) := foldl (fun t x => hf x t) h

theorem eq2 {p : α × State} {a : α} (e : p = (a, t)) (h : Only m s p.2) : Only m s t := by rw [e] at h; exact h
theorem eq1 {p : State × α} {a : α} (e : p = (t, a)) (h : Only m s p.1) : Only m s t := by rw [e] at h; exact h
theorem eq22 {p : β × α × State} {b : β} {a : α} (e : p = (b, a, t)) (h : Only m s p.2.2) : Only m s t := by rw [e] at h; exact h
theorem eq21 {p : α × State × β} {a : α} {b : β} (e : p = (a, t, b)) (h : Only m s p.2.1) : Only m s t := by rw [e] at h; exact h

theorem snd {a : α} (h : Only m s t) : Only m s (a, t).2 := h
theorem fst {a : α} (h : Only m s t) : Only m s (t, a).1 := h
theorem snd2 {a : α} {q : β × State} (h : Only m s q.2) : Only m s (a, q).2.2 := h
theorem snd1 {a : α} {q : State × β} (h : Only m s q.1) : Only m s (a, q).2.1 := h

/-! ### Replacing one part -/

theorem upd_now (h : Only m s t) (hm : m.testBit 0 = true) {v} (hv : m.testBit restart = true ∨ t.now ≤ v) :
    Only m s { t with now := v } :=
  h.put .now (fun q hq => by cases q <;> first | rfl | exact absurd rfl hq) hm id (Nat.le_refl _) hv
theorem upd_regs (h : Only m s t) (hm : m.testBit 1 = true) {v} (hv : twf resetOf t.regs = true → twf resetOf v = true) :
    Only m s { t with regs := v } :=
  h.put .regs (fun q hq => by cases q <;> first | rfl | exact absurd rfl hq) hm hv (Nat.le_refl _) (.inr (Nat.le_refl _))
theorem upd_capture (h : Only m s t) (hm : m.testBit 2 = true) {v} (hv : twf (fun _ => 0) t.capture = true → twf (fun _ => 0) v = true) :
    Only m s { t with capture := v } :=
  h.put .capture (fun q hq => by cases q <;> first | rfl | exact absurd rfl hq) hm hv (Nat.le_refl _) (.inr (Nat.le_refl _))
theorem upd_tod (h : Only m s t) (hm : m.testBit 3 = true) {v} (hv : t.tod.tick < tickHz → v.tick < tickHz) :
    Only m s { t with tod := v } :=
  h.put .tod (fun q hq => by cases q <;> first | rfl | exact absurd rfl hq) hm hv (Nat.le_refl _) (.inr (Nat.le_refl _))
theorem upd_doms (h : Only m s t) (hm : m.testBit 4 = true) {v} (hv : twf (fun _ => {}) t.doms = true → twf (fun _ => {}) v = true) :
    Only m s { t with doms := v } :=
  h.put .doms (fun q hq => by cases q <;> first | rfl | exact absurd rfl hq) hm hv (Nat.le_refl _) (.inr (Nat.le_refl _))
theorem upd_pins (h : Only m s t) (hm : m.testBit 5 = true) {v} (hv : twf (fun _ => {}) t.pins = true → twf (fun _ => {}) v = true) :
    Only m s { t with pins := v } :=
  h.put .pins (fun q hq => by cases q <;> first | rfl | exact absurd rfl hq) hm hv (Nat.le_refl _) (.inr (Nat.le_refl _))
theorem upd_sched (h : Only m s t) (hm : m.testBit 6 = true) {v} : Only m s { t with sched := v } :=
  h.put .sched (fun q hq => by cases q <;> first | rfl | exact absurd rfl hq) hm id (Nat.le_refl _) (.inr (Nat.le_refl _))
theorem upd_coll (h : Only m s t) (hm : m.testBit 7 = true) {v} : Only m s { t with coll := v } :=
  h.put .coll (fun q hq => by cases q <;> first | rfl | exact absurd rfl hq) hm id (Nat.le_refl _) (.inr (Nat.le_refl _))
theorem upd_pass (h : Only m s t) (hm : m.testBit 8 = true) {v} : Only m s { t with pass := v } :=
  h.put .pass (fun q hq => by cases q <;> first | rfl | exact absurd rfl hq) hm id (Nat.le_refl _) (.inr (Nat.le_refl _))
theorem upd_cores (h : Only m s t) (hm : m.testBit 9 = true) {v} (hv : twf (fun _ => {}) t.cores = true → twf (fun _ => {}) v = true) :
    Only m s { t with cores := v } :=
  h.put .cores (fun q hq => by cases q <;> first | rfl | exact absurd rfl hq) hm hv (Nat.le_refl _) (.inr (Nat.le_refl _))
theorem upd_ctxs (h : Only m s t) (hm : m.testBit 10 = true) {v} (hv : twf (fun _ => {}) t.ctxs = true → twf (fun _ => {}) v = true) :
    Only m s { t with ctxs := v } :=
  h.put .ctxs (fun q hq => by cases q <;> first | rfl | exact absurd rfl hq) hm hv (Nat.le_refl _) (.inr (Nat.le_refl _))
theorem upd_wch (h : Only m s t) (hm : m.testBit 11 = true) {v} : Only m s { t with wch := v } :=
  h.put .wch (fun q hq => by cases q <;> first | rfl | exact absurd rfl hq) hm id (Nat.le_refl _) (.inr (Nat.le_refl _))
theorem upd_ills (h : Only m s t) (hm : m.testBit 12 = true) {v} (hv : twf (fun _ => {}) t.ills = true → twf (fun _ => {}) v = true) :
    Only m s { t with ills := v } :=
  h.put .ills (fun q hq => by cases q <;> first | rfl | exact absurd rfl hq) hm hv (Nat.le_refl _) (.inr (Nat.le_refl _))
theorem upd_mem (h : Only m s t) (hm : m.testBit 13 = true) {v} (hv : twf (fun _ => 0) t.mem = true → twf (fun _ => 0) v = true) :
    Only m s { t with mem := v } :=
  h.put .mem (fun q hq => by cases q <;> first | rfl | exact absurd rfl hq) hm hv (Nat.le_refl _) (.inr (Nat.le_refl _))
theorem upd_memPoison (h : Only m s t) (hm : m.testBit 14 = true) {v} (hv : twf (fun _ => false) t.memPoison = true → twf (fun _ => false) v = true) :
    Only m s { t with memPoison := v } :=
  h.put .memPoison (fun q hq => by cases q <;> first | rfl | exact absurd rfl hq) hm hv (Nat.le_refl _) (.inr (Nat.le_refl _))
theorem upd_memUe (h : Only m s t) (hm : m.testBit 15 = true) {v} (hv : twf (fun _ => false) t.memUe = true → twf (fun _ => false) v = true) :
    Only m s { t with memUe := v } :=
  h.put .memUe (fun q hq => by cases q <;> first | rfl | exact absurd rfl hq) hm hv (Nat.le_refl _) (.inr (Nat.le_refl _))
theorem upd_sfe (h : Only m s t) (hm : m.testBit 16 = true) {v} : Only m s { t with sfe := v } :=
  h.put .sfe (fun q hq => by cases q <;> first | rfl | exact absurd rfl hq) hm id (Nat.le_refl _) (.inr (Nat.le_refl _))
theorem upd_fmt (h : Only m s t) (hm : m.testBit 17 = true) {v} : Only m s { t with fmt := v } :=
  h.put .fmt (fun q hq => by cases q <;> first | rfl | exact absurd rfl hq) hm id (Nat.le_refl _) (.inr (Nat.le_refl _))
theorem upd_dpp (h : Only m s t) (hm : m.testBit 18 = true) {v} : Only m s { t with dpp := v } :=
  h.put .dpp (fun q hq => by cases q <;> first | rfl | exact absurd rfl hq) hm id (Nat.le_refl _) (.inr (Nat.le_refl _))
theorem upd_venc (h : Only m s t) (hm : m.testBit 19 = true) {v} : Only m s { t with venc := v } :=
  h.put .venc (fun q hq => by cases q <;> first | rfl | exact absurd rfl hq) hm id (Nat.le_refl _) (.inr (Nat.le_refl _))
theorem upd_vdec (h : Only m s t) (hm : m.testBit 20 = true) {v} : Only m s { t with vdec := v } :=
  h.put .vdec (fun q hq => by cases q <;> first | rfl | exact absurd rfl hq) hm id (Nat.le_refl _) (.inr (Nat.le_refl _))
theorem upd_coh (h : Only m s t) (hm : m.testBit 21 = true) {v} : Only m s { t with coh := v } :=
  h.put .coh (fun q hq => by cases q <;> first | rfl | exact absurd rfl hq) hm id (Nat.le_refl _) (.inr (Nat.le_refl _))
theorem upd_eth (h : Only m s t) (hm : m.testBit 22 = true) {v} : Only m s { t with eth := v } :=
  h.put .eth (fun q hq => by cases q <;> first | rfl | exact absurd rfl hq) hm id (Nat.le_refl _) (.inr (Nat.le_refl _))
theorem upd_per (h : Only m s t) (hm : m.testBit 23 = true) {v} : Only m s { t with per := v } :=
  h.put .per (fun q hq => by cases q <;> first | rfl | exact absurd rfl hq) hm id (Nat.le_refl _) (.inr (Nat.le_refl _))
theorem upd_dsv (h : Only m s t) (hm : m.testBit 24 = true) {v} : Only m s { t with dsv := v } :=
  h.put .dsv (fun q hq => by cases q <;> first | rfl | exact absurd rfl hq) hm id (Nat.le_refl _) (.inr (Nat.le_refl _))
theorem upd_pcie (h : Only m s t) (hm : m.testBit 25 = true) {v} : Only m s { t with pcie := v } :=
  h.put .pcie (fun q hq => by cases q <;> first | rfl | exact absurd rfl hq) hm id (Nat.le_refl _) (.inr (Nat.le_refl _))
theorem upd_pwr (h : Only m s t) (hm : m.testBit 26 = true) {v} : Only m s { t with pwr := v } :=
  h.put .pwr (fun q hq => by cases q <;> first | rfl | exact absurd rfl hq) hm id (Nat.le_refl _) (.inr (Nat.le_refl _))
theorem upd_clk (h : Only m s t) (hm : m.testBit 27 = true) {v} : Only m s { t with clk := v } :=
  h.put .clk (fun q hq => by cases q <;> first | rfl | exact absurd rfl hq) hm id (Nat.le_refl _) (.inr (Nat.le_refl _))
theorem upd_thm (h : Only m s t) (hm : m.testBit 28 = true) {v} : Only m s { t with thm := v } :=
  h.put .thm (fun q hq => by cases q <;> first | rfl | exact absurd rfl hq) hm id (Nat.le_refl _) (.inr (Nat.le_refl _))
theorem upd_ms (h : Only m s t) (hm : m.testBit 29 = true) {v} : Only m s { t with ms := v } :=
  h.put .ms (fun q hq => by cases q <;> first | rfl | exact absurd rfl hq) hm id (Nat.le_refl _) (.inr (Nat.le_refl _))
theorem upd_stats (h : Only m s t) (hm : m.testBit 30 = true) {v} (hv : twf (fun _ => 0) t.stats = true → twf (fun _ => 0) v = true) :
    Only m s { t with stats := v } :=
  h.put .stats (fun q hq => by cases q <;> first | rfl | exact absurd rfl hq) hm hv (Nat.le_refl _) (.inr (Nat.le_refl _))
theorem upd_irqs (h : Only m s t) (hm : m.testBit 31 = true) {v} (hv : twf (fun _ => 0) t.irqs = true → twf (fun _ => 0) v = true) :
    Only m s { t with irqs := v } :=
  h.put .irqs (fun q hq => by cases q <;> first | rfl | exact absurd rfl hq) hm hv (Nat.le_refl _) (.inr (Nat.le_refl _))
theorem upd_resp (h : Only m s t) (hm : m.testBit 32 = true) {v} : Only m s { t with resp := v } :=
  h.put .resp (fun q hq => by cases q <;> first | rfl | exact absurd rfl hq) hm id (Nat.le_refl _) (.inr (Nat.le_refl _))
theorem upd_fresh (h : Only m s t) (hm : m.testBit 33 = true) {v} (hv : t.fresh ≤ v) :
    Only m s { t with fresh := v } :=
  h.put .fresh (fun q hq => by cases q <;> first | rfl | exact absurd rfl hq) hm id hv (.inr (Nat.le_refl _))
theorem upd_pending (h : Only m s t) (hm : m.testBit 34 = true) {v} : Only m s { t with pending := v } :=
  h.put .pending (fun q hq => by cases q <;> first | rfl | exact absurd rfl hq) hm id (Nat.le_refl _) (.inr (Nat.le_refl _))

end Only

/-- An outcome is a next state, within a footprint. -/
def Ends (m : Nat) (s : State) (o : Host.Outcome State Fault Refusal) : Prop := ∃ t, o = .next t ∧ Only m s t

theorem Ends.next {m : Nat} {s t : State} (h : Only m s t) : Ends m s (.next t) := ⟨t, rfl, h⟩

theorem Ends.mono {g m : Nat} {s : State} {o : Host.Outcome State Fault Refusal} (h : Ends g s o) (hm : Only.sub g m = true) :
    Ends m s o := h.imp fun _ k => ⟨k.1, k.2.mono hm⟩

/-- A footprint as a frame over the named parts. -/
theorem Only.changes {m : Nat} {s t : State} (h : Only m s t) {l : List Part}
    (hl : ∀ p : Part, p ∈ l ∨ m.testBit p.idx = false) : ChangesOnly l s t := fun p hp => h.same p ((hl p).resolve_left hp)

end Sys2Proof.Machine
end

