-- ==== Sys2Proof/Laws/OnlyOps.lean ====
section
/-! SUPPORT. The footprints of the shared operations, the pass queues, the operands and the tensor cores (see `Only`): one lemma for each operation. -/

namespace Sys2Proof.Machine

open Sys2Proof

theorem State.setReg_only {s a1 a2} : Only 2 s (State.setReg s a1 a2) := by
  unfold State.setReg
  exact Only.upd_regs Only.refl rfl (twf_tset _ _ _ _)

theorem State.setRf_only {s a1 a2 a3 a4} : Only 2 s (State.setRf s a1 a2 a3 a4) := by
  unfold State.setRf
  exact State.setReg_only.mono rfl

theorem State.inc_only {s a1 a2} : Only 2 s (State.inc s a1 a2) := by
  unfold State.inc
  exact State.setReg_only.mono rfl

theorem State.incWrap_only {s a1 a2} : Only 2 s (State.incWrap s a1 a2) := by
  unfold State.incWrap
  exact State.setReg_only.mono rfl

theorem State.setDom_only {s a1 a2} : Only 16 s (State.setDom s a1 a2) := by
  unfold State.setDom
  exact Only.upd_doms Only.refl rfl (twf_tset _ _ _ _)

theorem State.setPin_only {s a1 a2} : Only 32 s (State.setPin s a1 a2) := by
  unfold State.setPin
  exact Only.upd_pins Only.refl rfl (twf_tset _ _ _ _)

theorem State.setQueue_only {s a1 a2} : Only 256 s (State.setQueue s a1 a2) := by
  unfold State.setQueue
  exact Only.upd_pass Only.refl rfl

theorem State.setPool_only {s a1 a2} : Only 256 s (State.setPool s a1 a2) := by
  unfold State.setPool
  exact Only.upd_pass Only.refl rfl

theorem State.setCore_only {s a1 a2} : Only 512 s (State.setCore s a1 a2) := by
  unfold State.setCore
  exact Only.upd_cores Only.refl rfl (twf_tset _ _ _ _)

theorem State.setCtx_only {s a1 a2} : Only 1024 s (State.setCtx s a1 a2) := by
  unfold State.setCtx
  exact Only.upd_ctxs Only.refl rfl (twf_tset _ _ _ _)

theorem State.setIll_only {s a1 a2} : Only 4096 s (State.setIll s a1 a2) := by
  unfold State.setIll
  exact Only.upd_ills Only.refl rfl (twf_tset _ _ _ _)

theorem State.setStat_only {s a1 a2 a3 a4} : Only 1073741824 s (State.setStat s a1 a2 a3 a4) := by
  unfold State.setStat
  exact Only.upd_stats Only.refl rfl (twf_tset _ _ _ _)

theorem State.irq_only {s a1} : Only 2147483648 s (State.irq s a1) := by
  unfold State.irq
  exact Only.upd_irqs Only.refl rfl (twf_tset _ _ _ _)

theorem State.draw_only {s p} (e : State.draw s = p) : Only 8589934592 s p.2 := by
  subst e
  unfold State.draw
  exact Only.snd (Only.upd_fresh Only.refl rfl (Nat.le_succ _))

theorem Tod.advance_tick (t : Tod) (r : Int) (k : Nat) : (t.advance r k).tick < tickHz :=
  Nat.mod_lt _ (by decide)

theorem State.ticks_only {s : State} {k : Nat} : Only 9 s (s.ticks k) :=
  Only.upd_tod (Only.upd_now Only.refl rfl (.inr (Nat.le_add_right _ _))) rfl fun h => by
    split
    · exact h
    · exact Tod.advance_tick _ _ _

theorem State.goto_only {s a1} : Only 9 s (State.goto s a1) := by
  unfold State.goto
  exact Only.ite (State.ticks_only.mono rfl) Only.refl

theorem State.postRec_only {s a1} : Only 128 s (State.postRec s a1) := by
  unfold State.postRec
  exact Only.upd_coll Only.refl rfl

theorem State.unpost_only {s a1} : Only 128 s (State.unpost s a1) := by
  unfold State.unpost
  exact Only.upd_coll Only.refl rfl

theorem State.raiseC_only {s a1 a2 a3 a4 a5 a6} : Only 128 s (State.raiseC s a1 a2 a3 a4 a5 a6) := by
  unfold State.raiseC
  exact State.postRec_only.mono rfl

theorem State.raise_only {s a1 a2 a3 a4 a5} : Only 128 s (State.raise s a1 a2 a3 a4 a5) := by
  unfold State.raise
  exact State.raiseC_only.mono rfl

theorem State.cfgErr_only {s a1 a2} : Only 128 s (State.cfgErr s a1 a2) := by
  unfold State.cfgErr
  exact State.raise_only.mono rfl

theorem State.setRate_only {s a1 a2} : Only 128 s (State.setRate s a1 a2) := by
  unfold State.setRate
  exact Only.upd_coll Only.refl rfl

theorem State.raiseKeyed_only {s a1 a2 a3 a4 a5 a6} : Only 128 s (State.raiseKeyed s a1 a2 a3 a4 a5 a6) := by
  unfold State.raiseKeyed
  extract_lets x0 x1 x2
  clear_value x0 x1 x2
  exact Only.ite (State.setRate_only.mono rfl) (State.postRec_only.after rfl (State.setRate_only.mono rfl))

theorem State.setSlice_only {s a1 a2} : Only 536870912 s (State.setSlice s a1 a2) := by
  unfold State.setSlice
  exact Only.upd_ms Only.refl rfl

theorem State.lineUse_only {s a1 a2 a3} : Only 536870912 s (State.lineUse s a1 a2 a3) := by
  unfold State.lineUse
  exact Only.ite (State.setSlice_only.mono rfl) Only.refl

theorem State.fwDeny_only {s a1 a2 a3 a4} : Only 128 s (State.fwDeny s a1 a2 a3 a4) := by
  unfold State.fwDeny
  extract_lets x0
  clear_value x0
  exact State.raiseKeyed_only.mono rfl

theorem State.rangeErr_only {s a1} : Only 128 s (State.rangeErr s a1) := by
  unfold State.rangeErr
  exact State.raise_only.mono rfl

theorem State.setByte_only {s a1 a2} : Only 8192 s (State.setByte s a1 a2) := by
  unfold State.setByte
  exact Only.upd_mem Only.refl rfl (twf_tset _ _ _ _)

theorem State.setBytes_only {s a1 a2} : Only 8192 s (State.setBytes s a1 a2) := by
  induction a2 generalizing s a1 with
  | nil =>
    unfold State.setBytes
    exact Only.refl
  | cons x l ih =>
    unfold State.setBytes
    exact Only.after (ih ..) rfl (State.setByte_only.mono rfl)

theorem State.setSecPoison_only {s a1 a2} : Only 16384 s (State.setSecPoison s a1 a2) := by
  unfold State.setSecPoison
  exact Only.upd_memPoison Only.refl rfl (twf_tset _ _ _ _)

theorem State.sweepPoison_only {s a1 a2 a3 a4 a5} : Only 16384 s (State.sweepPoison s a1 a2 a3 a4 a5) := by
  induction a5 generalizing s a1 a2 a3 a4 with
  | zero =>
    unfold State.sweepPoison
    exact Only.refl
  | succ n ih =>
    unfold State.sweepPoison
    extract_lets x0
    have hx0 : Only 16384 s x0 := by
      unfold x0
      exact Only.ite (State.setSecPoison_only.mono rfl) (Only.ite (State.setSecPoison_only.mono rfl) Only.refl)
    clear_value x0
    exact Only.after (ih ..) rfl hx0

theorem State.sweepUe_only {s a1 a2 a3 a4} : Only 32768 s (State.sweepUe s a1 a2 a3 a4) := by
  induction a4 generalizing s a1 a2 a3 with
  | zero =>
    unfold State.sweepUe
    exact Only.refl
  | succ n ih =>
    unfold State.sweepUe
    extract_lets x0
    have hx0 : Only 32768 s x0 := Only.ite (Only.upd_memUe Only.refl rfl (twf_tset _ _ _ _)) Only.refl
    clear_value x0
    exact Only.after (ih ..) rfl hx0

theorem State.dramPut_only {s a1 a2 a3} : Only 1610670080 s (State.dramPut s a1 a2 a3) := by
  unfold State.dramPut
  extract_lets x0 x1 x2 x3
  clear_value x0
  have hx1 : Only 1610670080 s x1 := State.setStat_only.mono rfl
  clear_value x1 x2
  have hx3 : Only 1610670080 s x3 := Only.upd_ms hx1 rfl
  clear_value x3
  exact Only.ite Only.refl (State.sweepUe_only.after rfl (State.sweepPoison_only.after rfl (State.setBytes_only.after rfl hx3)))

theorem State.ueReport_only {s a1} : Only 1073741954 s (State.ueReport s a1) := by
  unfold State.ueReport
  extract_lets x0 x1 x2
  clear_value x0
  have hx1 : Only 1073741954 s x1 := State.setStat_only.after rfl (State.inc_only.mono rfl)
  clear_value x1
  have hx2 : Only 1073741954 s x2 := State.setReg_only.after rfl (State.setReg_only.after rfl hx1)
  clear_value x2
  exact State.raise_only.after rfl hx2

theorem State.ueRead_only {s a1 a2} : Only 1073741954 s (State.ueRead s a1 a2) := by
  unfold State.ueRead
  split
  · exact Only.refl
  · exact State.ueReport_only.mono rfl

theorem State.dramWrite_only {s a1 a2 a3} : Only 1610670210 s (State.dramWrite s a1 a2 a3) := by
  unfold State.dramWrite
  extract_lets x0 x1
  clear_value x0
  have hx1 : Only 1610670210 s x1 := State.dramPut_only.mono rfl
  clear_value x1
  refine Only.foldl (fun t3 i2 h4 => ?_) hx1
  exact State.ueReport_only.after rfl (State.setSecPoison_only.after rfl (Only.upd_memUe h4 rfl (twf_tset _ _ _ _)))

theorem State.dramBeats_only {s a1 a2 a3 a4} : Only 1610670210 s (State.dramBeats s a1 a2 a3 a4) := by
  unfold State.dramBeats
  refine Only.foldl (fun t1 i0 h2 => ?_) Only.refl
  refine Only.foldl (fun t4 i3 h5 => ?_) h2
  exact State.dramWrite_only.after rfl h5

theorem State.writeLine_only {s a1 a2 a3 a4 a5} : Only 1610670210 s (State.writeLine s a1 a2 a3 a4 a5) := by
  unfold State.writeLine
  refine Only.ite (State.fwDeny_only.mono rfl) ?_
  refine Only.ite (State.fwDeny_only.mono rfl) ?_
  exact Only.ite (State.rangeErr_only.mono rfl) (State.dramWrite_only.after rfl (State.lineUse_only.mono rfl))

theorem State.writeMasked_only {s a1 a2 a3 a4 a5 a6} : Only 1610670210 s (State.writeMasked s a1 a2 a3 a4 a5 a6) := by
  unfold State.writeMasked
  refine Only.ite (State.fwDeny_only.mono rfl) ?_
  refine Only.ite (State.fwDeny_only.mono rfl) ?_
  exact Only.ite (State.rangeErr_only.mono rfl) (State.dramBeats_only.after rfl (State.lineUse_only.mono rfl))

theorem State.unitWrite_only {s a1 a2 a3 a4 a5} : Only 1610670210 s (State.unitWrite s a1 a2 a3 a4 a5) := by
  unfold State.unitWrite
  refine Only.foldl (fun t1 i0 h2 => ?_) Only.refl
  exact State.writeLine_only.after rfl h2

theorem State.readLine_only {s a1 a2 a3 a4 p} (e : State.readLine s a1 a2 a3 a4 = p) : Only 10200547458 s p.2 := by
  subst e
  unfold State.readLine
  split
  · exact Only.snd ((State.draw_only rfl).after rfl (State.fwDeny_only.mono rfl))
  · split
    · exact Only.snd ((State.draw_only rfl).after rfl (State.fwDeny_only.mono rfl))
    · split
      · exact Only.snd (State.rangeErr_only.mono rfl)
      · exact Only.snd (State.setStat_only.after rfl (State.ueRead_only.after rfl (State.lineUse_only.mono rfl)))

theorem State.unitRead_only {s a1 a2 a3 a4 p} (e : State.unitRead s a1 a2 a3 a4 = p) : Only 10200547458 s p.2 := by
  subst e
  unfold State.unitRead
  refine Only.foldl2 (fun t1 i0 h2 => ?_) Only.refl
  split
  · rename_i y3 y4 y5 y6
    have hy5 : Only 10200547458 s y5 := (State.readLine_only y6).after rfl h2
    exact Only.snd (hy5)

theorem State.pqStat_only {s a1 a2 a3} : Only 256 s (State.pqStat s a1 a2 a3) := by
  unfold State.pqStat
  exact Only.upd_pass Only.refl rfl

theorem State.plStat_only {s a1 a2 a3} : Only 256 s (State.plStat s a1 a2 a3) := by
  unfold State.plStat
  exact Only.upd_pass Only.refl rfl

theorem State.alloc_only {s a1 a2 p} (e : State.alloc s a1 a2 = p) : Only 256 s p.2 := by
  subst e
  unfold State.alloc
  extract_lets x0
  clear_value x0
  split
  · split
    · exact Only.snd (State.plStat_only.after rfl (State.setPool_only.mono rfl))
    · exact Only.snd (State.plStat_only.mono rfl)
  · exact Only.snd (Only.refl)

theorem State.release_only {s a1 a2} : Only 256 s (State.release s a1 a2) := by
  unfold State.release
  extract_lets x0
  clear_value x0
  split
  · exact State.setPool_only.mono rfl
  · exact Only.refl

theorem State.giveBack_only {s a1} : Only 256 s (State.giveBack s a1) := by
  unfold State.giveBack
  split
  · exact State.release_only.mono rfl
  · exact Only.refl

theorem State.dropItem_only {s a1} : Only 256 s (State.dropItem s a1) := by
  unfold State.dropItem
  exact Only.ite Only.refl (State.release_only.mono rfl)

theorem State.releaseAll_only {s a1} : Only 256 s (State.releaseAll s a1) := by
  unfold State.releaseAll
  refine Only.forEach (fun i0 t1 h2 => ?_) Only.refl
  extract_lets x3 x4
  clear_value x3 x4
  exact Only.ite h2 (State.setPool_only.after rfl h2)

theorem State.push_only {s a1 a2 a3 p} (e : State.push s a1 a2 a3 = p) : Only 2147483904 s p.2 := by
  subst e
  unfold State.push
  extract_lets x0 x1 x2 x3 x4 x5 x6 x7
  clear_value x0 x1 x2 x3
  have hx4 : Only 2147483904 s x4 := State.setQueue_only.mono rfl
  clear_value x4
  have hx5 : Only 2147483904 s x5 := Only.ite hx4 (State.setPool_only.after rfl hx4)
  clear_value x5 x6
  have hx7 : Only 2147483904 s x7 := Only.ite (State.irq_only.after rfl hx5) hx5
  clear_value x7
  split
  · exact Only.snd (Only.refl)
  · split
    · exact Only.snd (State.setQueue_only.mono rfl)
    · split
      · exact Only.snd (Only.refl)
      · split
        · exact Only.snd (State.pqStat_only.after rfl (State.pqStat_only.after rfl hx7))
        · exact Only.snd (Only.refl)

theorem State.waitPush_only {s a1 a2} : Only 256 s (State.waitPush s a1 a2) := by
  unfold State.waitPush
  extract_lets x0
  clear_value x0
  exact Only.ite Only.refl (State.pqStat_only.after rfl (State.setQueue_only.mono rfl))

theorem State.waitPop_only {s a1 a2} : Only 256 s (State.waitPop s a1 a2) := by
  unfold State.waitPop
  extract_lets x0
  clear_value x0
  exact Only.ite Only.refl (State.setQueue_only.mono rfl)

theorem State.unwait_only {s a1 a2} : Only 256 s (State.unwait s a1 a2) := by
  unfold State.unwait
  extract_lets x0
  clear_value x0
  exact State.setQueue_only.mono rfl

theorem State.pop_only {s a1 a2 p} (e : State.pop s a1 a2 = p) : Only 256 s p.2 := by
  subst e
  unfold State.pop
  extract_lets x0
  clear_value x0
  split
  · exact Only.snd (Only.refl)
  · split
    · extract_lets x8 x9 x10 x11
      have hx8 : Only 256 s x8 := State.setQueue_only.mono rfl
      clear_value x8 x9 x10
      have hx11 : Only 256 s x11 := Only.ite hx8 (State.setPool_only.after rfl hx8)
      clear_value x11
      exact Only.snd (State.pqStat_only.after rfl hx11)
    · exact Only.snd (Only.refl)

theorem State.unitPop_only {s a1 a2 p} (e : State.unitPop s a1 a2 = p) : Only 256 s p.2 := by
  subst e
  unfold State.unitPop
  split
  · rename_i y0 y1 y2 y3
    have hy2 : Only 256 s y2 := (State.pop_only y3).mono rfl
    exact Only.snd (hy2)
  · rename_i y4 y5 y6
    have hy5 : Only 256 s y5 := (State.pop_only y6).mono rfl
    exact Only.snd (State.waitPop_only.mono rfl)

theorem State.freeQueued_only {s a1} : Only 256 s (State.freeQueued s a1) := by
  unfold State.freeQueued
  extract_lets x0 x1
  clear_value x0 x1
  exact Only.ite (State.setPool_only.mono rfl) Only.refl

theorem State.flushStart_only {s a1} : Only 256 s (State.flushStart s a1) := by
  unfold State.flushStart
  exact State.setQueue_only.mono rfl

theorem State.flushEnd_only {s a1} : Only 386 s (State.flushEnd s a1) := by
  unfold State.flushEnd
  extract_lets x0 x1 x2 x3 x4 x5 x6
  clear_value x0 x1
  have hx2 : Only 386 s x2 := by
    unfold x2
    refine Only.foldl (fun t8 i7 h9 => ?_) Only.refl
    exact State.freeQueued_only.after rfl h9
  clear_value x2 x3
  have hx4 : Only 386 s x4 := State.setQueue_only.after rfl hx2
  clear_value x4
  have hx5 : Only 386 s x5 := by
    unfold x5
    refine Only.forEach (fun i10 t11 h12 => ?_) hx4
    exact Only.ite (State.setReg_only.after rfl (Only.upd_pass h12 rfl)) h12
  clear_value x5
  have hx6 : Only 386 s x6 := State.pqStat_only.after rfl hx5
  clear_value x6
  exact Only.ite hx6 (State.raise_only.after rfl hx6)

theorem State.bumpPool_only {s a1 a2} : Only 256 s (State.bumpPool s a1 a2) := by
  unfold State.bumpPool
  extract_lets x0 x1 x2 x3 x4
  clear_value x0 x1 x2
  have hx3 : Only 256 s x3 := State.setPool_only.mono rfl
  clear_value x3
  have hx4 : Only 256 s x4 := by
    unfold x4
    refine Only.forEach (fun i5 t6 h7 => ?_) hx3
    extract_lets x8
    clear_value x8
    exact Only.ite (State.setQueue_only.after rfl h7) h7
  clear_value x4
  exact State.plStat_only.after rfl hx4

theorem State.parityErr_only {s a1 a2} : Only 128 s (State.parityErr s a1 a2) := by
  unfold State.parityErr
  exact State.raise_only.mono rfl

theorem State.perf_only {s a1 a2 a3} : Only 640 s (State.perf s a1 a2 a3) := by
  unfold State.perf
  extract_lets x0 x1
  clear_value x0 x1
  refine Only.foldl (fun t3 i2 h4 => ?_) (State.setCore_only.mono rfl)
  exact State.parityErr_only.after rfl h4

theorem State.dissolve_only {s a1 a2} : Only 2 s (State.dissolve s a1 a2) := by
  unfold State.dissolve
  exact State.setRf_only.after rfl (State.setRf_only.mono rfl)

theorem State.dissolveAt_only {s a1 a2 a3} : Only 2 s (State.dissolveAt s a1 a2 a3) := by
  unfold State.dissolveAt
  refine Only.forEach (fun i0 t1 h2 => ?_) Only.refl
  exact Only.ite (State.dissolve_only.after rfl h2) h2

theorem State.takeTurn_only {s a1 a2} : Only 512 s (State.takeTurn s a1 a2) := by
  unfold State.takeTurn
  extract_lets x0
  clear_value x0
  exact Only.ite Only.refl (Only.ite (State.setCore_only.mono rfl) (State.setCore_only.mono rfl))

theorem State.noteIssue_only {s a1 a2} : Only 1536 s (State.noteIssue s a1 a2) := by
  unfold State.noteIssue
  extract_lets x0 x1 x2
  have hx0 : Only 1536 s x0 := by
    unfold x0
    refine Only.forEach (fun i3 t4 h5 => ?_) Only.refl
    extract_lets x6
    clear_value x6
    exact Only.ite (State.setCtx_only.after rfl h5) h5
  clear_value x0
  have hx1 : Only 1536 s x1 := State.takeTurn_only.after rfl hx0
  clear_value x1 x2
  exact State.setCore_only.after rfl hx1

theorem State.holdNest_only {s a1} : Only 1024 s (State.holdNest s a1) := by
  unfold State.holdNest
  extract_lets x0
  clear_value x0
  split
  · exact Only.ite (State.setCtx_only.mono rfl) Only.refl
  · exact Only.refl

theorem State.seqDone_only {s a1 a2 a3} : Only 1536 s (State.seqDone s a1 a2 a3) := by
  unfold State.seqDone
  extract_lets x0
  have hx0 : Only 1536 s x0 := State.noteIssue_only.mono rfl
  clear_value x0
  exact State.holdNest_only.after rfl (State.setCore_only.after rfl hx0)

theorem State.seqHeld_only {s a1 a2 a3} : Only 1536 s (State.seqHeld s a1 a2 a3) := by
  unfold State.seqHeld
  extract_lets x0
  have hx0 : Only 1536 s x0 := State.noteIssue_only.mono rfl
  clear_value x0
  exact State.setCore_only.after rfl hx0

theorem State.noteRanges_only {s a1} : Only 512 s (State.noteRanges s a1) := by
  unfold State.noteRanges
  extract_lets x0 x1
  clear_value x0 x1
  exact State.setCore_only.mono rfl

theorem State.sendOut_only {s a1 a2 a3} : Only 1610670722 s (State.sendOut s a1 a2 a3) := by
  unfold State.sendOut
  extract_lets x0
  have hx0 : Only 1610670722 s x0 := by
    unfold x0
    refine Only.foldl (fun t2 i1 h3 => ?_) Only.refl
    exact State.writeMasked_only.after rfl h3
  clear_value x0
  exact State.setCore_only.after rfl hx0

theorem State.sendWrites_only {s a1} : Only 1610670722 s (State.sendWrites s a1) := by
  unfold State.sendWrites
  refine Only.foldl (fun t1 i0 h2 => ?_) Only.refl
  exact State.sendOut_only.after rfl h2

theorem State.fly_only {s a1 a2 a3} : Only 1610671746 s (State.fly s a1 a2 a3) := by
  unfold State.fly
  extract_lets x0 x1 x2 x3 x4 x5 x6 x7 x8 x9 x10
  clear_value x0 x1
  have hx2 : Only 1610671746 s x2 := State.noteIssue_only.mono rfl
  clear_value x2 x3 x4 x5 x6 x7
  have hx8 : Only 1610671746 s x8 := State.setCore_only.after rfl hx2
  clear_value x8 x9
  have hx10 : Only 1610671746 s x10 := Only.ite (State.setCtx_only.after rfl hx8) hx8
  clear_value x10
  exact State.holdNest_only.after rfl (State.noteRanges_only.after rfl (State.sendWrites_only.after rfl hx10))

theorem State.wake_only {s a1} : Only 1536 s (State.wake s a1) := by
  unfold State.wake
  extract_lets x0 x1 x2 x3 x4
  have hx4 : Only 1536 s x4 := State.setCore_only.mono rfl
  clear_value x4
  exact Only.ite Only.refl (State.holdNest_only.after rfl (State.setCtx_only.after rfl hx4))

theorem State.barCheck_only {s a1} : Only 1920 s (State.barCheck s a1) := by
  unfold State.barCheck
  split
  · exact Only.refl
  · extract_lets x5 x6 x7 x8 x9
    clear_value x5 x6 x7
    have hx8 : Only 1920 s x8 := Only.upd_pass Only.refl rfl
    clear_value x8
    have hx9 : Only 1920 s x9 := Only.ite hx8 (State.raise_only.after rfl hx8)
    clear_value x9
    refine Only.ite ?_ Only.refl
    refine Only.forEach (fun i10 t11 h12 => ?_) hx9
    extract_lets x13 x14
    have hx13 : Only 1920 s x13 := State.wake_only.after rfl h12
    clear_value x13 x14
    exact Only.ite hx13 (State.setCtx_only.after rfl hx13)

theorem State.barAll_only {s} : Only 1920 s (State.barAll s) := by
  unfold State.barAll
  refine Only.forEach (fun i0 t1 h2 => ?_) Only.refl
  exact State.barCheck_only.after rfl h2

theorem State.tryHalt_only {s a1} : Only 512 s (State.tryHalt s a1) := by
  unfold State.tryHalt
  exact Only.ite (State.setCore_only.mono rfl) Only.refl

theorem State.unmiss_only {s a1 a2} : Only 1154 s (State.unmiss s a1 a2) := by
  unfold State.unmiss
  extract_lets x0
  clear_value x0
  split
  · extract_lets x5
    have hx5 : Only 1154 s x5 := State.unpost_only.mono rfl
    clear_value x5
    exact Only.ite (State.setCtx_only.after rfl (State.setReg_only.after rfl hx5)) Only.refl
  · exact Only.refl

theorem State.haltCtx_only {s a1 a2 a3 a4 a5} : Only 1922 s (State.haltCtx s a1 a2 a3 a4 a5) := by
  unfold State.haltCtx
  extract_lets x0 x1 x2 x3 x4 x5 x6
  clear_value x0
  have hx1 : Only 1922 s x1 := State.unmiss_only.mono rfl
  clear_value x1 x2 x3
  have hx4 : Only 1922 s x4 := State.setCore_only.after rfl hx1
  clear_value x4
  have hx5 : Only 1922 s x5 := State.setCtx_only.after rfl hx4
  clear_value x5
  have hx6 : Only 1922 s x6 := State.setReg_only.after rfl (State.setReg_only.after rfl hx5)
  clear_value x6
  exact State.tryHalt_only.after rfl (State.barAll_only.after rfl (State.raise_only.after rfl hx6))

theorem State.haltTile_only {s a1 a2 a3 a4} : Only 1922 s (State.haltTile s a1 a2 a3 a4) := by
  unfold State.haltTile
  extract_lets x0
  clear_value x0
  exact State.haltCtx_only.after rfl (State.setCore_only.mono rfl)

theorem State.arrive_only {s u : State} {k id mask : Nat} (h : s.arrive k id mask = some u) : Only 256 s u := by
  unfold State.arrive at h
  split at h
  · cases h
    exact Only.upd_pass Only.refl rfl
  · split at h
    · cases h
      exact Only.upd_pass Only.refl rfl
    · cases h

theorem State.signalTo_only {s a1} : Only 1536 s (State.signalTo s a1) := by
  unfold State.signalTo
  extract_lets x0
  clear_value x0
  split
  · exact Only.refl
  · exact State.wake_only.mono rfl
  · exact State.setCtx_only.mono rfl

theorem State.settleSlot_only {s a1 a2 a3} : Only 1920 s (State.settleSlot s a1 a2 a3) := by
  unfold State.settleSlot
  extract_lets x0 x1 x2 x3
  clear_value x0 x1 x2
  have hx3 : Only 1920 s x3 := State.setCore_only.mono rfl
  clear_value x3
  refine Only.ite ?_ Only.refl
  split
  · exact State.tryHalt_only.after rfl (State.barAll_only.after rfl (State.setCtx_only.after rfl hx3))
  · exact Only.ite (State.wake_only.after rfl (State.setCore_only.mono rfl)) Only.refl
  · exact State.setCtx_only.after rfl hx3
  · exact State.signalTo_only.after rfl hx3
  · exact Only.refl

theorem State.settleCtx_only {s a1 a2} : Only 1922 s (State.settleCtx s a1 a2) := by
  unfold State.settleCtx
  extract_lets x0 x1 x2
  clear_value x0 x1
  have hx2 : Only 1922 s x2 := by
    unfold x2
    split
    · exact Only.ite (State.wake_only.mono rfl) Only.refl
    · exact Only.refl
  clear_value x2
  split
  · exact Only.ite (State.haltCtx_only.after rfl hx2) hx2
  · exact hx2

theorem State.settle_only {s a1 a2} : Only 1922 s (State.settle s a1 a2) := by
  unfold State.settle
  refine State.settleCtx_only.after rfl ?_
  refine Only.foldl (fun t1 i0 h2 => ?_) Only.refl
  split
  · exact State.settleSlot_only.after rfl h2
  · exact h2

theorem State.retire_only {s a1 a2} : Only 1610672002 s (State.retire s a1 a2) := by
  unfold State.retire
  split
  · exact Only.refl
  · extract_lets x5 x6 x7 x8 x9
    clear_value x5
    have hx6 : Only 1610672002 s x6 := State.setCore_only.mono rfl
    clear_value x6
    have hx7 : Only 1610672002 s x7 := by
      unfold x7
      refine Only.foldl (fun t11 i10 h12 => ?_) (State.sendWrites_only.after rfl hx6)
      exact State.setReg_only.after rfl h12
    clear_value x7 x8
    have hx9 : Only 1610672002 s x9 := by
      unfold x9
      split
      · exact State.setCtx_only.after rfl hx7
      · exact hx7
    clear_value x9
    exact State.settle_only.after rfl hx9

theorem State.unwaitDomain_only {s a1 a2} : Only 1536 s (State.unwaitDomain s a1 a2) := by
  unfold State.unwaitDomain
  extract_lets x0
  clear_value x0
  split
  · exact Only.ite (State.wake_only.mono rfl) Only.refl
  · exact Only.ite (State.wake_only.after rfl (State.setCtx_only.mono rfl)) Only.refl
  · exact Only.refl

theorem State.releaseDomain_only {s a1} : Only 1536 s (State.releaseDomain s a1) := by
  unfold State.releaseDomain
  extract_lets x0 x1
  clear_value x0
  have hx1 : Only 1536 s x1 := by
    unfold x1
    refine Only.forEach (fun i2 t3 h4 => ?_) Only.refl
    extract_lets x5
    clear_value x5
    exact Only.ite (State.setCore_only.after rfl h4) h4
  clear_value x1
  refine Only.forEach (fun i6 t7 h8 => ?_) hx1
  extract_lets x9 x10
  clear_value x9
  have hx10 : Only 1536 s x10 := Only.ite h8 (State.setCtx_only.after rfl h8)
  clear_value x10
  exact State.unwaitDomain_only.after rfl hx10

end Sys2Proof.Machine
end

