-- ==== Sys2Proof/Laws/OnlyTensor.lean ====
section
/-! SUPPORT. The footprints of the contexts of a tensor core and its instructions (see `Only`): one lemma for each operation. -/

namespace Sys2Proof.Machine

open Sys2Proof

theorem State.goContext_only {s a1 a2} : Only 10200548482 s (State.goContext s a1 a2) := by
  unfold State.goContext
  extract_lets x0 x1 x2 x3 x4 x5 x6 x7 x8 x9 x10 x11 x12 x13
  clear_value x0 x1 x2
  have hx3 : Only 10200548482 s x3.2 := (State.unitRead_only (p := x3) rfl).mono rfl
  clear_value x3 x4
  have hx5 : Only 10200548482 s x5 := hx3
  clear_value x5 x6
  have hx7 : Only 10200548482 s x7.2 := (State.unitRead_only (p := x7) rfl).after rfl hx5
  clear_value x7 x8
  have hx9 : Only 10200548482 s x9 := hx7
  clear_value x9 x10 x11 x12
  have hx13 : Only 10200548482 s x13 := State.setCtx_only.after rfl hx9
  clear_value x13
  refine Only.ite (State.cfgErr_only.mono rfl) ?_
  refine Only.ite (State.raise_only.after rfl hx9) ?_
  refine Only.forEach (fun i14 t15 h16 => ?_) hx13
  exact State.setReg_only.after rfl h16

theorem State.leaveQueues_only {s a1 a2} : Only 256 s (State.leaveQueues s a1 a2) := by
  unfold State.leaveQueues
  refine Only.foldl (fun t1 i0 h2 => ?_) Only.refl
  exact State.unwait_only.after rfl h2

theorem State.leaveBarrier_only {s a1 a2} : Only 256 s (State.leaveBarrier s a1 a2) := by
  unfold State.leaveBarrier
  split
  · extract_lets x3 x4
    clear_value x3 x4
    exact Only.upd_pass Only.refl rfl
  · exact Only.refl

theorem State.stopContext_only {s a1 a2} : Only 3840 s (State.stopContext s a1 a2) := by
  unfold State.stopContext
  extract_lets x0 x1 x2 x3 x4 x5 x6 x7
  clear_value x0 x1
  have hx2 : Only 3840 s x2 := by
    unfold x2
    split
    · exact State.leaveBarrier_only.mono rfl
    · exact State.leaveQueues_only.mono rfl
  clear_value x2 x3 x4
  have hx5 : Only 3840 s x5 := State.setCore_only.after rfl hx2
  clear_value x5 x6
  have hx7 : Only 3840 s x7 := Only.upd_wch hx5 rfl
  clear_value x7
  exact State.setCtx_only.after rfl hx7

theorem State.stopCmd_only {s a1 a2} : Only 3968 s (State.stopCmd s a1 a2) := by
  unfold State.stopCmd
  exact Only.ite (State.stopContext_only.mono rfl) (State.cfgErr_only.mono rfl)

theorem State.stopped_only {s a1 a2} : Only 1536 s (State.stopped s a1 a2) := by
  unfold State.stopped
  extract_lets x0 x1
  clear_value x0 x1
  exact Only.ite (State.tryHalt_only.after rfl (State.setCtx_only.mono rfl)) Only.refl

theorem State.resetContext_only {s a1 a2} : Only 1922 s (State.resetContext s a1 a2) := by
  unfold State.resetContext
  extract_lets x0 x1 x2 x3 x4 x5
  clear_value x0 x1
  have hx2 : Only 1922 s x2 := State.leaveQueues_only.mono rfl
  clear_value x2 x3
  have hx4 : Only 1922 s x4 := State.setCore_only.after rfl hx2
  clear_value x4
  have hx5 : Only 1922 s x5 := State.setCtx_only.after rfl hx4
  clear_value x5
  split
  · refine State.barAll_only.after rfl ?_
    refine Only.forEach (fun i8 t9 h10 => ?_) hx5
    exact State.setReg_only.after rfl h10
  · refine State.barAll_only.after rfl ?_
    refine Only.forEach (fun i13 t14 h15 => ?_) hx5
    exact State.setReg_only.after rfl h15
  · refine State.barAll_only.after rfl ?_
    refine Only.forEach (fun i18 t19 h20 => ?_) hx5
    exact State.setReg_only.after rfl h20
  · exact State.cfgErr_only.mono rfl

theorem ifCx_only {g n m : Nat} {f : State → State} {s : State} (_ : Only.sub 0 g = true)
    (hf : ∀ u, Only g s u → Only g s (f u)) : Ends g s (ifCx n m f s) :=
  Ends.next (Only.ite (hf s Only.refl) Only.refl)

theorem execGoCtx_only {a0 a1 s} : Ends 10200548482 s (execGoCtx a0 a1 s) := by
  unfold execGoCtx
  refine ifCx_only rfl (fun u0 hu1 => ?_)
  exact State.goContext_only.after rfl hu1

theorem execStopCtx_only {a0 a1 s} : Ends 3968 s (execStopCtx a0 a1 s) := by
  unfold execStopCtx
  refine ifCx_only rfl (fun u0 hu1 => ?_)
  exact State.stopCmd_only.after rfl hu1

theorem execContextStopped_only {a0 a1 s} : Ends 1536 s (execContextStopped a0 a1 s) := by
  unfold execContextStopped
  refine ifCx_only rfl (fun u0 hu1 => ?_)
  exact State.stopped_only.after rfl hu1

theorem execResetCtx_only {a0 a1 s} : Ends 1922 s (execResetCtx a0 a1 s) := by
  unfold execResetCtx
  refine ifCx_only rfl (fun u0 hu1 => ?_)
  exact State.resetContext_only.after rfl hu1

theorem State.haltReq_only {s a1} : Only 3842 s (State.haltReq s a1) := by
  unfold State.haltReq
  extract_lets x0
  have hx0 : Only 3842 s x0 := State.setRf_only.mono rfl
  clear_value x0
  refine State.tryHalt_only.after rfl ?_
  refine Only.forEach (fun i1 t2 h3 => ?_) hx0
  exact Only.ite (State.stopContext_only.after rfl h3) h3

theorem State.haltReqClear_only {s a1} : Only 514 s (State.haltReqClear s a1) := by
  unfold State.haltReqClear
  extract_lets x0 x1
  have hx0 : Only 514 s x0 := State.setRf_only.mono rfl
  clear_value x0 x1
  exact State.setCore_only.after rfl hx0

theorem execHaltReq_only {a0 s} : Ends 3842 s (execHaltReq a0 s) := by
  unfold execHaltReq
  refine Ends.next ?_
  exact Only.ite (State.haltReq_only.mono rfl) Only.refl

theorem execHaltReqClear_only {a0 s} : Ends 514 s (execHaltReqClear a0 s) := by
  unfold execHaltReqClear
  refine Ends.next ?_
  exact Only.ite (State.haltReqClear_only.mono rfl) Only.refl

theorem State.dispatch_only {s a1 a2 a3 a4 a5} : Only 1536 s (State.dispatch s a1 a2 a3 a4 a5) := by
  unfold State.dispatch
  extract_lets x0 x1 x2 x3 x4
  clear_value x0 x1 x2 x3
  have hx4 : Only 1536 s x4 := State.setCore_only.mono rfl
  clear_value x4
  exact State.setCtx_only.after rfl hx4

theorem State.dispatchTimed_only {s a1 a2 a3 a4 a5} : Only 1922 s (State.dispatchTimed s a1 a2 a3 a4 a5) := by
  unfold State.dispatchTimed
  extract_lets x0 x1
  clear_value x0 x1
  refine Only.ite Only.refl ?_
  split
  · exact State.haltCtx_only.mono rfl
  · exact Only.ite (State.dispatch_only.mono rfl) (Only.ite (State.setCtx_only.mono rfl) Only.refl)

theorem State.fetchInsn_only {s a1 a2} : Only 10200549250 s (State.fetchInsn s a1 a2) := by
  unfold State.fetchInsn
  extract_lets x0 x1 x2 x3 x4 x5 x6 x7
  clear_value x0 x1
  have hx2 : Only 10200549250 s x2.2 := (State.unitRead_only (p := x2) rfl).mono rfl
  clear_value x2 x3
  have hx4 : Only 10200549250 s x4 := hx2
  clear_value x4 x5 x6 x7
  refine Only.ite Only.refl ?_
  split
  · exact Only.refl
  · refine Only.ite (State.haltCtx_only.mono rfl) ?_
    refine Only.ite (State.settleCtx_only.after rfl (State.setCtx_only.after rfl hx4)) ?_
    split
    · exact State.haltCtx_only.after rfl hx4
    · exact Only.ite (State.dispatchTimed_only.after rfl hx4) (State.dispatch_only.after rfl hx4)

theorem execInstructionFetch_only {a0 a1 s} : Ends 10200549250 s (execInstructionFetch a0 a1 s) := by
  unfold execInstructionFetch
  refine ifCx_only rfl (fun u0 hu1 => ?_)
  exact State.fetchInsn_only.after rfl hu1

theorem atIssue_only {g n m op : Nat} {w : Insn} {f : Slot → State → State} {s : State} (_ : Only.sub 0 g = true)
    (hf : ∀ e u, Only g s u → Only g s (f e u)) : Ends g s (atIssue n m op w f s) := by
  refine Ends.next ?_
  split
  · exact hf _ s Only.refl
  · exact Only.refl

theorem execNopI_only {a0 a1 a2 s} : Ends 1536 s (execNopI a0 a1 a2 s) := by
  unfold execNopI
  refine atIssue_only rfl (fun _ u0 hu1 => ?_)
  exact State.seqDone_only.after rfl hu1

theorem execHaltI_only {a0 a1 a2 s} : Ends 1922 s (execHaltI a0 a1 a2 s) := by
  unfold execHaltI
  refine atIssue_only rfl (fun _ u0 hu1 => ?_)
  extract_lets x2 x3
  have hx2 : Only 1922 s x2 := State.seqHeld_only.after rfl hu1
  clear_value x2 x3
  exact State.settle_only.after rfl (State.setCtx_only.after rfl hx2)

theorem execYieldI_only {a0 a1 a2 s} : Ends 1536 s (execYieldI a0 a1 a2 s) := by
  unfold execYieldI
  refine atIssue_only rfl (fun _ u0 hu1 => ?_)
  extract_lets x2 x3 x4
  clear_value x2
  have hx3 : Only 1536 s x3 := State.seqDone_only.after rfl hu1
  clear_value x3 x4
  exact State.setCtx_only.after rfl hx3

theorem execYieldTimeout_only {a0 a1 s} : Ends 1024 s (execYieldTimeout a0 a1 s) := by
  unfold execYieldTimeout
  refine ifCx_only rfl (fun u0 hu1 => ?_)
  exact State.setCtx_only.after rfl hu1

theorem execFenceI_only {a0 a1 a2 s} : Ends 1536 s (execFenceI a0 a1 a2 s) := by
  unfold execFenceI
  refine atIssue_only rfl (fun _ u0 hu1 => ?_)
  exact State.seqDone_only.after rfl hu1

theorem execDepmarkI_only {a0 a1 a2 s} : Ends 1536 s (execDepmarkI a0 a1 a2 s) := by
  unfold execDepmarkI
  refine atIssue_only rfl (fun _ u0 hu1 => ?_)
  extract_lets x2 x3 x4 x5 x6 x7
  clear_value x2 x3 x4 x5
  have hx6 : Only 1536 s x6 := State.seqDone_only.after rfl hu1
  clear_value x6 x7
  exact State.setCtx_only.after rfl hx6

theorem execBarrierI_only {a0 a1 a2 s} : Ends 1922 s (execBarrierI a0 a1 a2 s) := by
  unfold execBarrierI
  refine atIssue_only rfl (fun _ u0 hu1 => ?_)
  extract_lets x2 x3 x4
  clear_value x2 x3
  have hx4 : Only 1922 s x4 := State.seqHeld_only.after rfl hu1
  clear_value x4
  split
  · rename_i y5 y6 y7
    have hy6 : Only 1922 s y6 := (State.arrive_only y7).after rfl hx4
    exact State.barCheck_only.after rfl (State.setCtx_only.after rfl hy6)
  · rename_i y8 y9
    exact State.haltCtx_only.after rfl hx4

theorem execDrainI_only {a0 a1 a2 s} : Ends 1922 s (execDrainI a0 a1 a2 s) := by
  unfold execDrainI
  refine atIssue_only rfl (fun _ u0 hu1 => ?_)
  extract_lets x2 x3
  have hx2 : Only 1922 s x2 := State.seqHeld_only.after rfl hu1
  clear_value x2 x3
  exact State.settle_only.after rfl (State.setCtx_only.after rfl hx2)

theorem execNestImpliedSync_only {a0 a1 s} : Ends 1922 s (execNestImpliedSync a0 a1 s) := by
  unfold execNestImpliedSync
  refine ifCx_only rfl (fun u0 hu1 => ?_)
  extract_lets x2 x3
  clear_value x2 x3
  split
  · extract_lets x12 x13
    clear_value x12 x13
    refine Only.ite hu1 ?_
    refine Only.ite (State.settleCtx_only.after rfl (State.setCtx_only.after rfl hu1)) ?_
    refine Only.ite hu1 ?_
    split
    · rename_i y14 y15 y16
      have hy15 : Only 1922 s y15 := (State.arrive_only y16).after rfl hu1
      exact State.barCheck_only.after rfl (State.setCtx_only.after rfl hy15)
    · rename_i y17 y18
      exact State.haltCtx_only.after rfl hu1
  · exact hu1

theorem execWaitlineI_only {a0 a1 a2 s} : Ends 1536 s (execWaitlineI a0 a1 a2 s) := by
  unfold execWaitlineI
  refine atIssue_only rfl (fun _ u0 hu1 => ?_)
  extract_lets x2 x3 x4 x5 x6 x7
  clear_value x2 x3 x4
  have hx5 : Only 1536 s x5 := State.seqHeld_only.after rfl hu1
  clear_value x5 x6 x7
  refine Only.ite hu1 ?_
  refine Only.ite ?_ (Only.ite (State.seqDone_only.after rfl hu1) (State.setCtx_only.after rfl hx5))
  exact Only.ite (State.seqDone_only.after rfl (State.setCtx_only.after rfl hu1)) (Only.ite (State.seqDone_only.after rfl hu1)
    (State.setCtx_only.after rfl hx5))

theorem execWaitlineSetpfx_only {a0 a1 a2 s} : Ends 1536 s (execWaitlineSetpfx a0 a1 a2 s) := by
  unfold execWaitlineSetpfx
  refine atIssue_only rfl (fun _ u0 hu1 => ?_)
  extract_lets x2 x3 x4
  clear_value x2
  have hx3 : Only 1536 s x3 := State.seqDone_only.after rfl hu1
  clear_value x3 x4
  exact Only.ite (State.setCtx_only.after rfl hx3) hu1

theorem execWaitlineRelease_only {a0 a1 s} : Ends 1536 s (execWaitlineRelease a0 a1 s) := by
  unfold execWaitlineRelease
  refine ifCx_only rfl (fun u0 hu1 => ?_)
  split
  · exact Only.ite (State.wake_only.after rfl hu1) hu1
  · exact Only.ite (State.wake_only.after rfl (State.setCtx_only.after rfl hu1)) hu1
  · exact hu1

theorem execDeadlineI_only {a0 a1 a2 s} : Ends 1922 s (execDeadlineI a0 a1 a2 s) := by
  unfold execDeadlineI
  refine atIssue_only rfl (fun _ u0 hu1 => ?_)
  extract_lets x2 x3
  clear_value x2 x3
  exact State.settle_only.after rfl (State.seqHeld_only.after rfl hu1)

theorem execDeadlineMiss_only {a0 a1 s} : Ends 1154 s (execDeadlineMiss a0 a1 s) := by
  unfold execDeadlineMiss
  refine ifCx_only rfl (fun u0 hu1 => ?_)
  extract_lets x2 x3
  clear_value x2 x3
  split
  · extract_lets x9 x10 x11 x12 x13
    clear_value x9 x10 x11
    have hx12 : Only 1154 s x12 := State.setCtx_only.after rfl hu1
    clear_value x12
    have hx13 : Only 1154 s x13 := State.inc_only.after rfl hx12
    clear_value x13
    exact Only.ite (State.raise_only.after rfl hx13) hu1
  · exact hu1

theorem execSignalI_only {a0 a1 a2 s} : Ends 1922 s (execSignalI a0 a1 a2 s) := by
  unfold execSignalI
  refine atIssue_only rfl (fun _ u0 hu1 => ?_)
  exact State.settle_only.after rfl (State.seqHeld_only.after rfl hu1)

theorem State.dissolveFor_only {s a1 a2 a3 a4} : Only 2 s (State.dissolveFor s a1 a2 a3 a4) := by
  unfold State.dissolveFor
  refine Only.foldl (fun t1 i0 h2 => ?_) Only.refl
  exact Only.ite (State.dissolveAt_only.after rfl h2) h2

theorem execLoadI_only {a0 a1 a2 s} : Ends 1610672002 s (execLoadI a0 a1 a2 s) := by
  unfold execLoadI
  refine atIssue_only rfl (fun _ u0 hu1 => ?_)
  extract_lets x2 x3 x4 x5
  clear_value x2 x3 x4 x5
  split
  · exact State.haltTile_only.after rfl hu1
  · exact State.fly_only.after rfl (State.dissolveFor_only.after rfl hu1)

theorem execLoadDataReturn_only {a0 a1 a2 s} : Ends 10200547970 s (execLoadDataReturn a0 a1 a2 s) := by
  unfold execLoadDataReturn
  refine Ends.next ?_
  split
  · exact Only.refl
  · refine Only.ite ?_ Only.refl
    split
    · exact Only.refl
    · extract_lets x10 x11 x12
      have hx10 : Only 10200547970 s x10.2 := (State.readLine_only (p := x10) rfl).mono rfl
      clear_value x10 x11
      have hx12 : Only 10200547970 s x12 := State.perf_only.after rfl hx10
      clear_value x12
      exact State.setCore_only.after rfl hx12

theorem execStoreI_only {a0 a1 a2 s} : Ends 1610672002 s (execStoreI a0 a1 a2 s) := by
  unfold execStoreI
  refine atIssue_only rfl (fun _ u0 hu1 => ?_)
  extract_lets x2 x3 x4 x5 x6 x7
  clear_value x2 x3 x4 x5 x6
  have hx7 : Only 1610672002 s x7 := State.setCtx_only.after rfl hu1
  clear_value x7
  split
  · exact State.haltTile_only.after rfl hu1
  · exact State.fly_only.after rfl hx7

theorem State.setGroups_only {s a1 a2} : Only 2048 s (State.setGroups s a1 a2) := by
  unfold State.setGroups
  exact Only.ite (Only.upd_wch Only.refl rfl) (Only.upd_wch Only.refl rfl)

theorem State.setGroup_only {s a1 a2 a3} : Only 2048 s (State.setGroup s a1 a2 a3) := by
  unfold State.setGroup
  exact State.setGroups_only.mono rfl

theorem State.joinGroup_only {s a1 a2 a3} : Only 2560 s (State.joinGroup s a1 a2 a3) := by
  unfold State.joinGroup
  extract_lets x0 x1 x2 x3 x4 x5 x6 x7 x8
  clear_value x0 x1 x2 x3 x4 x5 x6 x7
  have hx8 : Only 2560 s x8 := Only.upd_wch Only.refl rfl
  clear_value x8
  refine Only.ite Only.refl ?_
  split
  · split
    · exact State.setCore_only.after rfl (State.setGroup_only.mono rfl)
    · exact Only.refl
  · split
    · exact State.setCore_only.after rfl (State.setGroup_only.after rfl hx8)
    · exact Only.refl

theorem execLoadwI_only {a0 a1 a2 s} : Ends 1610674050 s (execLoadwI a0 a1 a2 s) := by
  unfold execLoadwI
  refine atIssue_only rfl (fun _ u0 hu1 => ?_)
  extract_lets x2 x3 x4 x5 x6 x7 x8 x9 x10 x11 x12 x13 x14
  clear_value x2 x3 x4 x5 x6 x7 x8 x10
  have hx11 : Only 1610674050 s x11 := State.dissolveFor_only.after rfl hu1
  clear_value x11
  have hx12 : Only 1610674050 s x12 := State.fly_only.after rfl hx11
  clear_value x12
  have hx13 : Only 1610674050 s x13 := State.fly_only.after rfl hx11
  clear_value x13
  have hx14 : Only 1610674050 s x14 := by
    unfold x14
    split
    · exact State.setCore_only.after rfl hx13
    · exact hx13
  clear_value x14
  split
  · exact State.haltTile_only.after rfl hu1
  · refine Only.ite (State.fly_only.after rfl hx11) ?_
    refine Only.ite ?_ (State.raise_only.after rfl hx14)
    split
    · exact State.joinGroup_only.after rfl hx12
    · exact hx12

theorem State.noteExcluded_only {s a1 a2 a3} : Only 1026 s (State.noteExcluded s a1 a2 a3) := by
  unfold State.noteExcluded
  extract_lets x0 x1
  clear_value x0 x1
  exact Only.ite Only.refl (State.setCtx_only.after rfl (State.inc_only.mono rfl))

theorem State.vecIssue_only {s a1 a2 a3 a4 a5} : Only 1610672002 s (State.vecIssue s a1 a2 a3 a4 a5) := by
  unfold State.vecIssue
  split
  · exact State.haltTile_only.mono rfl
  · extract_lets x5 x6 x7
    clear_value x5 x6 x7
    exact State.fly_only.after rfl (State.noteExcluded_only.after rfl (State.perf_only.after rfl (State.dissolveFor_only.mono rfl)))

theorem execCopyI_only {a0 a1 a2 s} : Ends 1610672002 s (execCopyI a0 a1 a2 s) := by
  unfold execCopyI
  refine atIssue_only rfl (fun _ u0 hu1 => ?_)
  extract_lets x2 x3 x4
  clear_value x2 x3 x4
  exact State.vecIssue_only.after rfl hu1

theorem execFillI_only {a0 a1 a2 s} : Ends 1610672002 s (execFillI a0 a1 a2 s) := by
  unfold execFillI
  refine atIssue_only rfl (fun _ u0 hu1 => ?_)
  exact State.vecIssue_only.after rfl hu1

theorem State.arrayIssue_only {s a1 a2 a3 a4} : Only 1610672002 s (State.arrayIssue s a1 a2 a3 a4) := by
  unfold State.arrayIssue
  extract_lets x0
  clear_value x0
  exact State.vecIssue_only.mono rfl

theorem execMmulI_only {a0 a1 a2 s} : Ends 1610672002 s (execMmulI a0 a1 a2 s) := by
  unfold execMmulI
  refine atIssue_only rfl (fun _ u0 hu1 => ?_)
  exact State.arrayIssue_only.after rfl hu1

theorem execConvI_only {a0 a1 a2 s} : Ends 1610672002 s (execConvI a0 a1 a2 s) := by
  unfold execConvI
  refine atIssue_only rfl (fun _ u0 hu1 => ?_)
  exact State.arrayIssue_only.after rfl hu1

theorem execDwconvI_only {a0 a1 a2 s} : Ends 1610672002 s (execDwconvI a0 a1 a2 s) := by
  unfold execDwconvI
  refine atIssue_only rfl (fun _ u0 hu1 => ?_)
  exact State.arrayIssue_only.after rfl hu1

theorem execCx0PreemptStart_only {a0 a1 s} : Ends 512 s (execCx0PreemptStart a0 a1 s) := by
  unfold execCx0PreemptStart
  refine Ends.next ?_
  extract_lets x0 x1
  clear_value x0 x1
  refine Only.ite ?_ Only.refl
  split
  · exact State.setCore_only.mono rfl
  · exact Only.refl

theorem execVopI_only {a0 a1 a2 s} : Ends 1610672002 s (execVopI a0 a1 a2 s) := by
  unfold execVopI
  refine atIssue_only rfl (fun _ u0 hu1 => ?_)
  extract_lets x2
  clear_value x2
  exact State.vecIssue_only.after rfl hu1

theorem execActI_only {a0 a1 a2 s} : Ends 1610672002 s (execActI a0 a1 a2 s) := by
  unfold execActI
  refine atIssue_only rfl (fun _ u0 hu1 => ?_)
  extract_lets x2 x3 x4
  clear_value x2 x3 x4
  exact State.vecIssue_only.after rfl hu1

theorem execReqI_only {a0 a1 a2 s} : Ends 1610672002 s (execReqI a0 a1 a2 s) := by
  unfold execReqI
  refine atIssue_only rfl (fun _ u0 hu1 => ?_)
  extract_lets x2
  clear_value x2
  exact State.vecIssue_only.after rfl hu1

theorem execReduceI_only {a0 a1 a2 s} : Ends 1610672002 s (execReduceI a0 a1 a2 s) := by
  unfold execReduceI
  refine atIssue_only rfl (fun _ u0 hu1 => ?_)
  extract_lets x2 x3 x4
  clear_value x2 x3 x4
  exact State.vecIssue_only.after rfl hu1

theorem execShufI_only {a0 a1 a2 s} : Ends 1610672002 s (execShufI a0 a1 a2 s) := by
  unfold execShufI
  refine atIssue_only rfl (fun _ u0 hu1 => ?_)
  extract_lets x2 x3 x4
  clear_value x2 x3 x4
  exact State.vecIssue_only.after rfl hu1

theorem execPoolmaxI_only {a0 a1 a2 s} : Ends 1610672002 s (execPoolmaxI a0 a1 a2 s) := by
  unfold execPoolmaxI
  refine atIssue_only rfl (fun _ u0 hu1 => ?_)
  extract_lets x2
  clear_value x2
  exact State.vecIssue_only.after rfl hu1

theorem execPoolavgI_only {a0 a1 a2 s} : Ends 1610672002 s (execPoolavgI a0 a1 a2 s) := by
  unfold execPoolavgI
  refine atIssue_only rfl (fun _ u0 hu1 => ?_)
  extract_lets x2
  clear_value x2
  exact State.vecIssue_only.after rfl hu1

theorem State.setDslot_only {s a1 a2} : Only 262144 s (State.setDslot s a1 a2) := by
  unfold State.setDslot
  exact Only.upd_dpp Only.refl rfl

theorem State.takeDslot_only {s a1 a2 a3 a4} : Only 262146 s (State.takeDslot s a1 a2 a3 a4) := by
  unfold State.takeDslot
  extract_lets x0 x1 x2 x3
  clear_value x0
  have hx1 : Only 262146 s x1 := State.setDslot_only.mono rfl
  clear_value x1 x2
  have hx3 : Only 262146 s x3 := Only.upd_dpp hx1 rfl
  clear_value x3
  exact State.setRf_only.after rfl hx3

theorem State.dppSubmitJob_only {s a1 a2 p} (e : State.dppSubmitJob s a1 a2 = p) : Only 262146 s p.2 := by
  subst e
  unfold State.dppSubmitJob
  split
  · extract_lets x5
    have hx5 : Only 262146 s x5 := State.takeDslot_only.mono rfl
    clear_value x5
    exact Only.snd (hx5)
  · exact Only.snd (Only.refl)

theorem State.detWake_only {s} : Only 1536 s (State.detWake s) := by
  unfold State.detWake
  refine Only.forEach (fun i0 t1 h2 => ?_) Only.refl
  refine Only.foldl (fun t4 i3 h5 => ?_) h2
  split
  · refine Only.ite ?_ h5
    split
    · exact State.wake_only.after rfl (State.setCore_only.after rfl h5)
    · exact h5
  · exact h5

theorem State.haltStale_only {s a1 a2 a3 a4} : Only 1922 s (State.haltStale s a1 a2 a3 a4) := by
  unfold State.haltStale
  extract_lets x0 x1
  have hx0 : Only 1922 s x0 := Only.ite (State.leaveQueues_only.mono rfl) Only.refl
  clear_value x0 x1
  exact State.haltCtx_only.after rfl (State.setCore_only.after rfl hx0)

theorem State.addrWord_only {s a1 p} (e : State.addrWord s a1 = p) : Only 8589934592 s p.2 := by
  subst e
  unfold State.addrWord
  split
  · exact (State.draw_only rfl).mono rfl
  · exact Only.snd (Only.refl)

theorem State.popWrites_only {s a1 a2 p} (e : State.popWrites s a1 a2 = p) : Only 8589934592 s p.2 := by
  subst e
  unfold State.popWrites
  extract_lets x0 x1 x2
  have hx0 : Only 8589934592 s x0.2 := (State.addrWord_only (p := x0) rfl).mono rfl
  clear_value x0 x1
  have hx2 : Only 8589934592 s x2 := hx0
  clear_value x2
  exact Only.snd (hx2)

theorem State.passWait_only {s a1 a2 a3 a4 a5} : Only 1610672002 s (State.passWait s a1 a2 a3 a4 a5) := by
  unfold State.passWait
  extract_lets x0 x1 x2 x3 x4
  have hx0 : Only 1610672002 s x0 := State.fly_only.mono rfl
  clear_value x0 x1
  have hx2 : Only 1610672002 s x2 := State.setCore_only.after rfl hx0
  clear_value x2 x3
  have hx4 : Only 1610672002 s x4 := State.setCtx_only.after rfl hx2
  clear_value x4
  exact Only.ite (State.waitPush_only.after rfl hx4) (State.waitPop_only.after rfl hx4)

theorem State.pqpop_only {a0 a1 a2 s} : Only 10200606594 s (State.pqpop a0 a1 a2 s) := by
  unfold State.pqpop
  extract_lets x0 x1 x2 x3 x4 x5 x6
  clear_value x0 x1 x2 x3 x4 x5
  have hx6 : Only 10200606594 s x6 := (State.pop_only rfl).mono rfl
  clear_value x6
  split
  · split
    · exact State.haltStale_only.mono rfl
    · extract_lets x18
      have hx18 : Only 10200606594 s x18.2 := (State.popWrites_only (p := x18) rfl).after rfl hx6
      clear_value x18
      exact State.fly_only.after rfl hx18
  · exact Only.ite Only.refl (Only.ite (State.passWait_only.mono rfl) (State.fly_only.mono rfl))
  · exact Only.ite (State.passWait_only.mono rfl) (State.fly_only.mono rfl)

theorem execPqpopI_only {a0 a1 a2 s} : Ends 10200606594 s (execPqpopI a0 a1 a2 s) := by
  unfold execPqpopI
  refine atIssue_only rfl (fun _ u0 hu1 => ?_)
  exact State.pqpop_only.after rfl hu1

theorem State.tookSummary_only {s a1} : Only 1024 s (State.tookSummary s a1) := by
  unfold State.tookSummary
  exact State.setCtx_only.mono rfl

theorem State.pqpush_only {a0 a1 a2 s} : Only 3758155650 s (State.pqpush a0 a1 a2 s) := by
  unfold State.pqpush
  extract_lets x0 x1 x2 x3
  clear_value x0 x1 x2 x3
  split
  · exact State.haltStale_only.mono rfl
  · refine Only.ite Only.refl ?_
    split
    · rename_i y9 y10 y11
      have hy10 : Only 3758155650 s y10 := (State.push_only y11).mono rfl
      exact State.fly_only.after rfl (State.tookSummary_only.after rfl hy10)
    · rename_i y12 y13 y14
      have hy13 : Only 3758155650 s y13 := (State.push_only y14).mono rfl
      exact State.fly_only.after rfl hy13
    · rename_i y15 y16 y17
      have hy16 : Only 3758155650 s y16 := (State.push_only y17).mono rfl
      exact State.haltStale_only.mono rfl
    · rename_i y18 y19 y20
      have hy19 : Only 3758155650 s y19 := (State.push_only y20).mono rfl
      exact Only.ite (State.passWait_only.after rfl hy19) (State.fly_only.after rfl hy19)

theorem execPqpushI_only {a0 a1 a2 s} : Ends 3758155650 s (execPqpushI a0 a1 a2 s) := by
  unfold execPqpushI
  refine atIssue_only rfl (fun _ u0 hu1 => ?_)
  exact State.pqpush_only.after rfl hu1

theorem execHallocI_only {a0 a1 a2 s} : Ends 1610672002 s (execHallocI a0 a1 a2 s) := by
  unfold execHallocI
  refine atIssue_only rfl (fun _ u0 hu1 => ?_)
  extract_lets x2 x3
  clear_value x2 x3
  refine Only.ite hu1 ?_
  split
  · rename_i y4 y5 y6 y7
    have hy6 : Only 1610672002 s y6 := (State.alloc_only y7).after rfl hu1
    exact State.fly_only.after rfl hy6
  · rename_i y8 y9 y10
    have hy9 : Only 1610672002 s y9 := (State.alloc_only y10).after rfl hu1
    exact State.fly_only.after rfl hy9

theorem execHrelI_only {a0 a1 a2 s} : Ends 1610672002 s (execHrelI a0 a1 a2 s) := by
  unfold execHrelI
  refine atIssue_only rfl (fun _ u0 hu1 => ?_)
  extract_lets x2
  clear_value x2
  refine Only.ite (State.fly_only.after rfl hu1) ?_
  split
  · exact State.haltStale_only.after rfl hu1
  · exact Only.ite hu1 (State.fly_only.after rfl (State.release_only.after rfl hu1))

theorem execDetsubI_only {a0 a1 a2 s} : Ends 1610933890 s (execDetsubI a0 a1 a2 s) := by
  unfold execDetsubI
  refine atIssue_only rfl (fun _ u0 hu1 => ?_)
  extract_lets x2 x3 x4
  have hx2 : Only 1610933890 s x2.2 := (State.dppSubmitJob_only (p := x2) rfl).after rfl hu1
  clear_value x2 x3
  have hx4 : Only 1610933890 s x4 := hx2
  clear_value x4
  exact State.fly_only.after rfl hx4

theorem State.detwait_only {a0 a1 a2 s} : Only 1610671746 s (State.detwait a0 a1 a2 s) := by
  unfold State.detwait
  extract_lets x0 x1 x2 x3 x4
  clear_value x0
  have hx1 : Only 1610671746 s x1 := State.fly_only.mono rfl
  clear_value x1 x2
  have hx3 : Only 1610671746 s x3 := State.setCore_only.after rfl hx1
  clear_value x3 x4
  split
  · exact State.fly_only.mono rfl
  · exact State.setCtx_only.after rfl hx3

theorem execDetwaitI_only {a0 a1 a2 s} : Ends 1610671746 s (execDetwaitI a0 a1 a2 s) := by
  unfold execDetwaitI
  refine atIssue_only rfl (fun _ u0 hu1 => ?_)
  exact State.detwait_only.after rfl hu1

theorem State.servePop_only {s a1 a2 a3} : Only 8589936514 s (State.servePop s a1 a2 a3) := by
  unfold State.servePop
  extract_lets x0 x1
  clear_value x0
  have hx1 : Only 8589936514 s x1 := (State.pop_only rfl).mono rfl
  clear_value x1
  split
  · split
    · exact State.haltStale_only.mono rfl
    · extract_lets x13 x14
      have hx13 : Only 8589936514 s x13.2 := (State.popWrites_only (p := x13) rfl).after rfl hx1
      clear_value x13
      have hx14 : Only 8589936514 s x14 := hx13
      clear_value x14
      exact State.wake_only.after rfl (State.setCore_only.after rfl hx14)
  · exact Only.refl

theorem State.servePush_only {s a1 a2 a3} : Only 2147485570 s (State.servePush s a1 a2 a3) := by
  unfold State.servePush
  extract_lets x0 x1 x2
  clear_value x0 x1
  have hx2 : ∀ t a1, Only 2147485570 s t → Only 2147485570 s (x2 t a1) := by
    intro t3 b1 h4
    unfold x2
    exact State.wake_only.after rfl (State.setCore_only.after rfl h4)
  clear_value x2
  split
  · exact State.haltStale_only.mono rfl
  · split
    · rename_i y10 y11 y12
      have hy11 : Only 2147485570 s y11 := (State.push_only y12).mono rfl
      exact hx2 _ _ (State.tookSummary_only.after rfl hy11)
    · rename_i y13 y14 y15
      have hy14 : Only 2147485570 s y14 := (State.push_only y15).mono rfl
      exact hx2 _ _ hy14
    · rename_i y16 y17 y18
      exact Only.refl

theorem execContextWakePass_only {a0 a1 s} : Ends 10737420162 s (execContextWakePass a0 a1 s) := by
  unfold execContextWakePass
  refine ifCx_only rfl (fun u0 hu1 => ?_)
  split
  · exact Only.ite (State.servePop_only.after rfl hu1) (State.servePush_only.after rfl hu1)
  · exact hu1

theorem State.reissuePass_only {s a1 a2} : Only 12348090242 s (State.reissuePass s a1 a2) := by
  unfold State.reissuePass
  split
  · exact Only.refl
  · refine Only.ite Only.refl ?_
    split
    · exact State.pqpop_only.mono rfl
    · exact State.pqpush_only.mono rfl
    · exact State.detwait_only.mono rfl
    · exact Only.refl

theorem State.repeatLine_only {s a1 a2 a3} : Only 1536 s (State.repeatLine s a1 a2 a3) := by
  unfold State.repeatLine
  extract_lets x0
  clear_value x0
  split
  · exact Only.ite (State.wake_only.mono rfl) Only.refl
  · exact Only.ite (State.wake_only.after rfl (State.setCtx_only.mono rfl)) (Only.ite (State.wake_only.mono rfl) Only.refl)

theorem State.repeatBarrier_only {s a1 a2 a3} : Only 1922 s (State.repeatBarrier s a1 a2 a3) := by
  unfold State.repeatBarrier
  extract_lets x0 x1 x2
  clear_value x0 x1 x2
  split
  · rename_i y3 y4 y5
    have hy4 : Only 1922 s y4 := (State.arrive_only y5).mono rfl
    exact State.barCheck_only.after rfl hy4
  · rename_i y6 y7
    exact State.haltCtx_only.mono rfl

theorem State.resumeContext_only {s a1 a2} : Only 12348090242 s (State.resumeContext s a1 a2) := by
  unfold State.resumeContext
  extract_lets x0 x1 x2 x3
  clear_value x0 x1
  have hx2 : Only 12348090242 s x2 := State.setCtx_only.mono rfl
  clear_value x2
  have hx3 : ∀ t, Only 12348090242 s t → Only 12348090242 s (x3 t) := by
    intro t4 h5
    unfold x3
    exact State.setCtx_only.after rfl h5
  clear_value x3
  refine Only.ite (State.cfgErr_only.mono rfl) ?_
  split
  · exact State.reissuePass_only.after rfl (hx3 _ hx2)
  · exact State.reissuePass_only.after rfl (hx3 _ hx2)
  · exact State.repeatBarrier_only.after rfl hx2
  · exact State.repeatLine_only.after rfl hx2
  · exact Only.ite (hx3 _ hx2) hx2
  · exact State.settle_only.after rfl hx2
  · exact State.settle_only.after rfl hx2
  · exact hx2
  · exact hx2

theorem execResumeCtx_only {a0 a1 s} : Ends 12348090242 s (execResumeCtx a0 a1 s) := by
  unfold execResumeCtx
  refine ifCx_only rfl (fun u0 hu1 => ?_)
  exact State.resumeContext_only.after rfl hu1

theorem State.flowDone_only {s a1 a2 a3 a4} : Only 1922 s (State.flowDone s a1 a2 a3 a4) := by
  unfold State.flowDone
  extract_lets x0 x1
  have hx0 : Only 1922 s x0 := State.seqDone_only.mono rfl
  clear_value x0 x1
  split
  · exact State.setCtx_only.after rfl hx0
  · exact Only.ite (State.haltCtx_only.after rfl (State.setCtx_only.after rfl hx0)) (State.setCtx_only.after rfl hx0)

theorem State.setSreg_only {s a1 a2 a3 a4} : Only 2 s (State.setSreg s a1 a2 a3 a4) := by
  unfold State.setSreg
  exact State.setReg_only.mono rfl

theorem execLoopI_only {a0 a1 a2 s} : Ends 1922 s (execLoopI a0 a1 a2 s) := by
  unfold execLoopI
  refine atIssue_only rfl (fun _ u0 hu1 => ?_)
  extract_lets x2
  clear_value x2
  exact Only.ite (State.flowDone_only.after rfl hu1) (State.flowDone_only.after rfl (State.setSreg_only.after rfl hu1))

theorem execEndloopI_only {a0 a1 a2 s} : Ends 1922 s (execEndloopI a0 a1 a2 s) := by
  unfold execEndloopI
  refine atIssue_only rfl (fun _ u0 hu1 => ?_)
  extract_lets x2 x3
  clear_value x2
  have hx3 : Only 1922 s x3 := State.setSreg_only.after rfl hu1
  clear_value x3
  exact Only.ite (State.flowDone_only.after rfl hx3) (State.flowDone_only.after rfl hx3)

theorem execJumpI_only {a0 a1 a2 s} : Ends 1922 s (execJumpI a0 a1 a2 s) := by
  unfold execJumpI
  refine atIssue_only rfl (fun _ u0 hu1 => ?_)
  exact State.flowDone_only.after rfl hu1

theorem execBrzI_only {a0 a1 a2 s} : Ends 1922 s (execBrzI a0 a1 a2 s) := by
  unfold execBrzI
  refine atIssue_only rfl (fun _ u0 hu1 => ?_)
  exact State.flowDone_only.after rfl hu1

theorem execBrnzI_only {a0 a1 a2 s} : Ends 1922 s (execBrnzI a0 a1 a2 s) := by
  unfold execBrnzI
  refine atIssue_only rfl (fun _ u0 hu1 => ?_)
  exact State.flowDone_only.after rfl hu1

theorem execSetsI_only {a0 a1 a2 s} : Ends 1538 s (execSetsI a0 a1 a2 s) := by
  unfold execSetsI
  refine atIssue_only rfl (fun _ u0 hu1 => ?_)
  exact State.seqDone_only.after rfl (State.setSreg_only.after rfl hu1)

theorem execAddsI_only {a0 a1 a2 s} : Ends 1538 s (execAddsI a0 a1 a2 s) := by
  unfold execAddsI
  refine atIssue_only rfl (fun _ u0 hu1 => ?_)
  extract_lets x2 x3
  clear_value x2 x3
  exact State.seqDone_only.after rfl (State.setSreg_only.after rfl hu1)

theorem execBucketI_only {a0 a1 a2 s} : Ends 1922 s (execBucketI a0 a1 a2 s) := by
  unfold execBucketI
  refine atIssue_only rfl (fun _ u0 hu1 => ?_)
  extract_lets x2 x3 x4 x5
  clear_value x2 x3 x4 x5
  split
  · extract_lets x10
    have hx10 : Only 1922 s x10 := State.setCtx_only.after rfl (State.setSreg_only.after rfl hu1)
    clear_value x10
    exact State.flowDone_only.after rfl hx10
  · exact State.flowDone_only.after rfl (State.setSreg_only.after rfl hu1)

end Sys2Proof.Machine
end

