-- ==== Sys2Proof/Laws/OnlyAccess.lean ====
section
/-! SUPPORT. The footprints of register writes, the events of a tensor core, the weight chain and the pass queues (see `Only`): one lemma for each operation. -/

namespace Sys2Proof.Machine

open Sys2Proof

theorem State.markRsvd_only {s a1} : Only 2 s (State.markRsvd s a1) := by
  unfold State.markRsvd
  exact State.setReg_only.after rfl (State.setRf_only.mono rfl)

theorem State.noteRsvd_only {s a1 a2} : Only 2 s (State.noteRsvd s a1 a2) := by
  unfold State.noteRsvd
  split
  · exact Only.refl
  · exact Only.ite Only.refl (State.markRsvd_only.mono rfl)

theorem State.cfgAt_only {s a1} : Only 128 s (State.cfgAt s a1) := by
  unfold State.cfgAt
  split
  · exact Only.refl
  · exact State.cfgErr_only.mono rfl

theorem State.putReg_only {s a1 a2} : Only 130 s (State.putReg s a1 a2) := by
  unfold State.putReg
  split
  · exact Only.refl
  · extract_lets x5 x6
    clear_value x5
    have hx6 : Only 130 s x6 := State.noteRsvd_only.after rfl (State.setReg_only.mono rfl)
    clear_value x6
    exact Only.ite (State.cfgErr_only.after rfl hx6) hx6

theorem State.refuse_only {s a1 a2} : Only 130 s (State.refuse s a1 a2) := by
  unfold State.refuse
  exact State.cfgAt_only.after rfl (State.noteRsvd_only.mono rfl)

theorem State.denied_only {s a1 a2 a3 a4 a5 a6} : Only 12884902016 s (State.denied s a1 a2 a3 a4 a5 a6) := by
  unfold State.denied
  extract_lets x0 x1
  have hx0 : Only 12884902016 s x0 := by
    unfold x0
    split
    · rename_i y2 y3 y4
      exact Only.refl
    · exact State.fwDeny_only.mono rfl
  clear_value x0
  have hx1 : Only 12884902016 s x1 := (State.draw_only rfl).after rfl hx0
  clear_value x1
  split
  · exact Only.upd_resp hx0 rfl
  · exact Only.upd_resp hx0 rfl
  · exact Only.upd_resp hx0 rfl
  · exact Only.ite (Only.upd_resp hx0 rfl) (Only.upd_resp hx1 rfl)

theorem State.asIssued_only {s a1 a2 a3} : Only 1026 s (State.asIssued s a1 a2 a3) := by
  unfold State.asIssued
  extract_lets x0 x1
  have hx0 : Only 1026 s x0 := by
    unfold x0
    refine Only.foldl (fun t3 i2 h4 => ?_) Only.refl
    exact State.setReg_only.after rfl h4
  clear_value x0 x1
  exact State.setCtx_only.after rfl hx0

theorem State.poisonDst_only {s a1 a2} : Only 1538 s (State.poisonDst s a1 a2) := by
  unfold State.poisonDst
  extract_lets x0 x1 x2 x3 x4 x5
  clear_value x0
  have hx1 : Only 1538 s x1 := State.asIssued_only.mono rfl
  clear_value x1 x2 x3 x4 x5
  refine Only.ite (State.setCtx_only.after rfl (State.setCore_only.mono rfl)) ?_
  split
  · exact State.setCore_only.mono rfl
  · exact Only.refl

theorem State.backToUnit_only {s a1 a2} : Only 1610670722 s (State.backToUnit s a1 a2) := by
  unfold State.backToUnit
  extract_lets x0
  clear_value x0
  exact State.sendWrites_only.after rfl (State.setCore_only.mono rfl)

theorem State.poisonOp_only {s a1 a2 a3} : Only 1610671746 s (State.poisonOp s a1 a2 a3) := by
  unfold State.poisonOp
  extract_lets x0 x1
  have hx0 : Only 1610671746 s x0 := State.poisonDst_only.mono rfl
  clear_value x0 x1
  exact State.parityErr_only.after rfl (State.backToUnit_only.after rfl hx0)

theorem State.badWord_only {s a1 a2} : Only 514 s (State.badWord s a1 a2) := by
  unfold State.badWord
  extract_lets x0 x1 x2
  clear_value x0
  have hx1 : Only 514 s x1 := State.setReg_only.after rfl (State.inc_only.mono rfl)
  clear_value x1 x2
  exact State.setCore_only.after rfl hx1

theorem State.abort_only {s a1 a2 a3 a4 a5} : Only 512 s (State.abort s a1 a2 a3 a4 a5) := by
  unfold State.abort
  extract_lets x0 x1
  clear_value x0 x1
  exact State.setCore_only.mono rfl

theorem State.parityHit_only {s a1 a2 a3} : Only 1610673794 s (State.parityHit s a1 a2 a3) := by
  unfold State.parityHit
  extract_lets x0 x1 x2
  have hx0 : Only 1610673794 s x0 := State.badWord_only.mono rfl
  clear_value x0
  have hx1 : Only 1610673794 s x1 := State.abort_only.after rfl hx0
  clear_value x1 x2
  refine Only.ite Only.refl ?_
  refine Only.ite (State.poisonOp_only.after rfl hx0) ?_
  split
  · exact State.poisonOp_only.after rfl hx0
  · exact Only.upd_wch hx1 rfl
  · exact State.abort_only.after rfl hx0
  · exact State.abort_only.after rfl hx0

theorem State.parityAgain_only {s a1 a2 a3} : Only 1610671746 s (State.parityAgain s a1 a2 a3) := by
  unfold State.parityAgain
  extract_lets x0
  have hx0 : Only 1610671746 s x0 := State.badWord_only.mono rfl
  clear_value x0
  exact Only.ite Only.refl (Only.ite (State.poisonOp_only.after rfl hx0) (State.setCore_only.after rfl hx0))

theorem execOperationRetire_only {a0 a1 s} : Ends 1610674050 s (execOperationRetire a0 a1 s) := by
  unfold execOperationRetire
  refine Ends.next ?_
  split
  · exact Only.refl
  · extract_lets x5 x6
    have hx5 : Only 1610674050 s x5 := State.retire_only.after rfl (Only.ite Only.refl (State.sendOut_only.mono rfl))
    clear_value x5 x6
    refine Only.ite ?_ Only.refl
    split
    · exact State.parityHit_only.mono rfl
    · exact Only.ite hx5 (State.raise_only.after rfl (State.inc_only.after rfl hx5))

theorem execParityError_only {a0 a1 a2 s} : Ends 1610673794 s (execParityError a0 a1 a2 s) := by
  unfold execParityError
  refine Ends.next ?_
  split
  · exact Only.refl
  · extract_lets x5
    clear_value x5
    refine Only.ite ?_ Only.refl
    refine Only.ite (State.parityHit_only.mono rfl) ?_
    split
    · exact Only.ite (State.parityAgain_only.mono rfl) Only.refl
    · exact Only.refl

theorem State.rerun_only {s a1 a2 a3 a4} : Only 10200547970 s (State.rerun s a1 a2 a3 a4) := by
  unfold State.rerun
  extract_lets x0
  clear_value x0
  refine Only.ite ?_ (State.perf_only.mono rfl)
  refine Only.foldl (fun t2 i1 h3 => ?_) Only.refl
  extract_lets x4
  have hx4 : Only 10200547970 s x4.2 := (State.readLine_only (p := x4) rfl).after rfl h3
  clear_value x4
  exact State.perf_only.after rfl hx4

theorem State.reissue_only {s a1 a2} : Only 1610671746 s (State.reissue s a1 a2) := by
  unfold State.reissue
  extract_lets x0 x1 x2 x3
  have hx0 : Only 1610671746 s x0 := State.asIssued_only.mono rfl
  clear_value x0 x1 x2 x3
  exact State.backToUnit_only.after rfl (State.perf_only.mono rfl)

theorem State.replay_only {s a1 a2 a3 a4} : Only 10200606338 s (State.replay s a1 a2 a3 a4) := by
  unfold State.replay
  split
  · exact State.poisonOp_only.mono rfl
  · refine Only.ite (State.poisonOp_only.mono rfl) ?_
    split
    · exact State.parityAgain_only.mono rfl
    · exact State.reissue_only.after rfl (State.rerun_only.mono rfl)

theorem execParityReplayReissue_only {a0 a1 s} : Ends 10200606338 s (execParityReplayReissue a0 a1 s) := by
  unfold execParityReplayReissue
  refine Ends.next ?_
  split
  · exact Only.refl
  · split
    · refine Only.ite ?_ Only.refl
      split
      · exact State.replay_only.mono rfl
      · exact State.reissue_only.mono rfl
    · exact Only.refl

theorem execAccParityError_only {a0 a1 a2 s} : Ends 642 s (execAccParityError a0 a1 a2 s) := by
  unfold execAccParityError
  refine Ends.next ?_
  split
  · exact Only.refl
  · extract_lets x5 x6 x7
    clear_value x5
    have hx6 : Only 642 s x6 := State.setCore_only.mono rfl
    clear_value x6
    have hx7 : Only 642 s x7 := State.setReg_only.after rfl hx6
    clear_value x7
    exact Only.ite (State.raise_only.after rfl hx7) Only.refl

theorem State.spmInitCmd_only {s a1} : Only 642 s (State.spmInitCmd s a1) := by
  unfold State.spmInitCmd
  extract_lets x0 x1
  clear_value x0
  have hx1 : Only 642 s x1 := State.dissolveAt_only.mono rfl
  clear_value x1
  exact Only.ite (State.setCore_only.after rfl hx1) (State.cfgErr_only.mono rfl)

theorem execSpmInit_only {a0 s} : Ends 642 s (execSpmInit a0 s) := by
  unfold execSpmInit
  refine Ends.next ?_
  exact Only.ite (State.spmInitCmd_only.mono rfl) Only.refl

theorem execSpmPowerupInitDone_only {a0 s} : Ends 514 s (execSpmPowerupInitDone a0 s) := by
  unfold execSpmPowerupInitDone
  refine Ends.next ?_
  exact Only.ite (State.setRf_only.after rfl (State.setCore_only.mono rfl)) Only.refl

theorem State.resCtrl_only {s a1 a2 a3} : Only 130 s (State.resCtrl s a1 a2 a3) := by
  unfold State.resCtrl
  extract_lets x0 x1 x2
  clear_value x0 x1
  have hx2 : Only 130 s x2 := Only.ite Only.refl (State.cfgErr_only.mono rfl)
  clear_value x2
  exact Only.ite (State.setRf_only.after rfl (State.noteRsvd_only.after rfl hx2)) (Only.ite (State.refuse_only.mono rfl) (State.putReg_only.mono rfl))

theorem execSpmResValidWrite_only {a0 a1 a2 s} : Ends 130 s (execSpmResValidWrite a0 a1 a2 s) := by
  unfold execSpmResValidWrite
  refine Ends.next ?_
  exact Only.ite (State.resCtrl_only.mono rfl) Only.refl

theorem State.actTab_only {s a1 a2 a3 a4} : Only 130 s (State.actTab s a1 a2 a3 a4) := by
  unfold State.actTab
  exact Only.ite (State.cfgErr_only.mono rfl) (State.putReg_only.mono rfl)

theorem execActtabWrite_only {a0 a1 a2 a3 s} : Ends 130 s (execActtabWrite a0 a1 a2 a3 s) := by
  unfold execActtabWrite
  refine Ends.next ?_
  exact Only.ite (State.actTab_only.mono rfl) Only.refl

theorem State.hopPut_only {s a1 a2} : Only 2048 s (State.hopPut s a1 a2) := by
  unfold State.hopPut
  exact Only.upd_wch Only.refl rfl

theorem State.hopDrop_only {s a1} : Only 2048 s (State.hopDrop s a1) := by
  unfold State.hopDrop
  exact Only.upd_wch Only.refl rfl

theorem State.grpStart_only {s a1 a2 a3} : Only 2048 s (State.grpStart s a1 a2 a3) := by
  unfold State.grpStart
  extract_lets x0
  clear_value x0
  exact Only.ite (State.setGroup_only.mono rfl) Only.refl

theorem State.rejoin_only {s a1} : Only 2560 s (State.rejoin s a1) := by
  unfold State.rejoin
  refine Only.forEach (fun i0 t1 h2 => ?_) Only.refl
  refine Only.ite h2 ?_
  refine Only.foldl (fun t4 i3 h5 => ?_) h2
  exact Only.ite (State.joinGroup_only.after rfl h5) h5

theorem State.grpSend_only {s a1 a2 a3} : Only 10200550018 s (State.grpSend s a1 a2 a3) := by
  unfold State.grpSend
  extract_lets x0 x1 x2 x3 x4 x5 x6
  clear_value x0
  have hx1 : Only 10200550018 s x1.2 := (State.unitRead_only (p := x1) rfl).mono rfl
  clear_value x1 x2
  have hx3 : Only 10200550018 s x3 := hx1
  clear_value x3
  have hx4 : Only 10200550018 s x4 := State.incWrap_only.after rfl hx3
  clear_value x4
  have hx5 : Only 10200550018 s x5 := Only.ite hx4 (State.hopPut_only.after rfl hx4)
  clear_value x5 x6
  refine Only.ite Only.refl ?_
  exact Only.ite (State.rejoin_only.after rfl (State.setGroup_only.after rfl hx5)) (State.setGroup_only.after rfl hx5)

theorem State.refillLost_only {s a1} : Only 1610671746 s (State.refillLost s a1) := by
  unfold State.refillLost
  split
  · split
    · exact State.poisonOp_only.mono rfl
    · exact Only.refl
  · exact Only.refl

theorem State.refillSend_only {s a1 a2} : Only 10200608386 s (State.refillSend s a1 a2) := by
  unfold State.refillSend
  extract_lets x0 x1 x2
  clear_value x0 x1
  have hx2 : Only 10200608386 s x2 := Only.upd_wch Only.refl rfl
  clear_value x2
  refine Only.ite (State.refillLost_only.after rfl (Only.upd_wch Only.refl rfl)) ?_
  refine Only.ite Only.refl ?_
  split
  · rename_i y3 y4 y5 y6
    have hy5 : Only 10200608386 s y5 := by
      refine Only.eq2 y6 ?_
      refine Only.foldl2 (fun t8 i7 h9 => ?_) hx2
      split
      · rename_i y10 y11 y12 y13
        have hy12 : Only 10200608386 s y12 := (State.readLine_only y13).after rfl h9
        exact hy12
    extract_lets x14
    have hx14 : Only 10200608386 s x14 := State.incWrap_only.after rfl hy5
    clear_value x14
    exact State.hopPut_only.after rfl hx14

theorem execWchGroupFetch_only {a0 a1 s} : Ends 10200608386 s (execWchGroupFetch a0 a1 s) := by
  unfold execWchGroupFetch
  refine Ends.next ?_
  extract_lets x0
  clear_value x0
  split
  · exact State.refillSend_only.mono rfl
  · refine Only.ite Only.refl ?_
    split
    · exact Only.refl
    · extract_lets x11
      have hx11 : Only 10200608386 s x11 := Only.ite (State.grpStart_only.mono rfl) Only.refl
      clear_value x11
      split
      · exact State.grpSend_only.after rfl hx11
      · exact hx11

theorem execWchMatchTimeout_only {a0 a1 s} : Ends 2176 s (execWchMatchTimeout a0 a1 s) := by
  unfold execWchMatchTimeout
  refine Ends.next ?_
  extract_lets x0
  clear_value x0
  refine Only.ite Only.refl ?_
  split
  · exact Only.refl
  · extract_lets x6 x7
    clear_value x6
    have hx7 : Only 2176 s x7 := State.raise_only.mono rfl
    clear_value x7
    exact Only.ite (State.grpStart_only.after rfl hx7) Only.refl

theorem State.fillSlot_only {s a1 a2 a3} : Only 640 s (State.fillSlot s a1 a2 a3) := by
  unfold State.fillSlot
  extract_lets x0 x1 x2
  clear_value x0 x1
  have hx2 : Only 640 s x2 := State.perf_only.mono rfl
  clear_value x2
  exact State.setCore_only.after rfl hx2

theorem State.deliver_only {s a1 a2} : Only 640 s (State.deliver s a1 a2) := by
  unfold State.deliver
  split
  · extract_lets x3
    have hx3 : Only 640 s x3 := State.perf_only.mono rfl
    clear_value x3
    split
    · exact State.setCore_only.after rfl hx3
    · exact hx3
  · refine Only.foldl (fun t12 i11 h13 => ?_) Only.refl
    refine Only.ite ?_ h13
    split
    · exact State.fillSlot_only.after rfl h13
    · exact h13

theorem State.hopMove_only {s a1 a2 a3} : Only 1610673794 s (State.hopMove s a1 a2 a3) := by
  unfold State.hopMove
  extract_lets x0 x1 x2 x3 x4 x5 x6
  clear_value x0 x1 x2
  have hx3 : Only 1610673794 s x3 := Only.ite Only.refl (State.raise_only.after rfl (State.inc_only.mono rfl))
  clear_value x3 x4
  have hx5 : Only 1610673794 s x5 := by
    unfold x5
    refine Only.ite (State.deliver_only.after rfl hx3) ?_
    split
    · exact Only.ite (State.refillLost_only.after rfl hx3) hx3
    · exact hx3
  clear_value x5
  have hx6 : Only 1610673794 s x6 := State.hopDrop_only.after rfl hx5
  clear_value x6
  refine Only.ite Only.refl ?_
  refine Only.ite hx6 ?_
  split
  · exact State.hopPut_only.after rfl hx6
  · exact hx6

theorem execWchPacketHop_only {a0 a1 s} : Ends 1610673794 s (execWchPacketHop a0 a1 s) := by
  unfold execWchPacketHop
  refine Ends.next ?_
  refine Only.ite ?_ Only.refl
  split
  · exact State.hopMove_only.mono rfl
  · exact Only.refl

theorem State.dropRefills_only {s a1} : Only 10200608386 s (State.dropRefills s a1) := by
  unfold State.dropRefills
  refine Only.foldl (fun t1 i0 h2 => ?_) Only.refl
  exact State.refillSend_only.after rfl h2

theorem execWchBypassSwitch_only {a0 s} : Ends 10200608386 s (execWchBypassSwitch a0 s) := by
  unfold execWchBypassSwitch
  refine Ends.next ?_
  extract_lets x0 x1 x2 x3 x4
  clear_value x0
  have hx1 : Only 10200608386 s x1 := Only.upd_wch Only.refl rfl
  clear_value x1 x2
  have hx3 : Only 10200608386 s x3 := State.setCore_only.after rfl hx1
  clear_value x3
  have hx4 : Only 10200608386 s x4 := Only.upd_wch Only.refl rfl
  clear_value x4
  exact Only.ite Only.refl (Only.ite (State.dropRefills_only.after rfl hx3) (State.rejoin_only.after rfl hx4))

theorem State.wchCtrlWrite_only {s a1} : Only 2178 s (State.wchCtrlWrite s a1) := by
  unfold State.wchCtrlWrite
  extract_lets x0 x1 x2 x3 x4
  clear_value x0 x1 x2
  have hx3 : Only 2178 s x3 := by
    unfold x3
    exact Only.ite (State.setRf_only.after rfl (State.refuse_only.mono rfl)) (State.putReg_only.mono rfl)
  clear_value x3 x4
  exact Only.ite (Only.upd_wch hx3 rfl) hx3

theorem execWchSplitWrite_only {a0 s} : Ends 2178 s (execWchSplitWrite a0 s) := by
  unfold execWchSplitWrite
  refine Ends.next ?_
  exact State.wchCtrlWrite_only.mono rfl

theorem State.setChan_only {s a1 a2} : Only 536870912 s (State.setChan s a1 a2) := by
  unfold State.setChan
  exact Only.upd_ms Only.refl rfl

theorem State.pqCfgWrite_only {s a1 a2} : Only 386 s (State.pqCfgWrite s a1 a2) := by
  unfold State.pqCfgWrite
  extract_lets x0 x1 x2 x3 x4 x5 x6
  clear_value x0 x1 x2
  have hx3 : Only 386 s x3 := State.noteRsvd_only.mono rfl
  clear_value x3 x4
  have hx5 : Only 386 s x5 := Only.ite (State.cfgErr_only.after rfl hx3) (State.setRf_only.after rfl hx3)
  clear_value x5 x6
  refine Only.ite (State.refuse_only.mono rfl) ?_
  refine Only.ite ?_ (Only.ite (State.flushStart_only.after rfl (State.setRf_only.after rfl hx5)) hx5)
  exact Only.ite (State.cfgErr_only.after rfl hx5) (State.setQueue_only.after rfl (State.setRf_only.after rfl hx5))

theorem execPqEnable_only {a0 a1 s} : Ends 386 s (execPqEnable a0 a1 s) := by
  unfold execPqEnable
  refine Ends.next ?_
  exact Only.ite (State.pqCfgWrite_only.mono rfl) Only.refl

theorem execPqDisable_only {a0 a1 s} : Ends 386 s (execPqDisable a0 a1 s) := by
  unfold execPqDisable
  refine Ends.next ?_
  exact Only.ite (State.pqCfgWrite_only.mono rfl) Only.refl

theorem State.pqFlushCmd_only {s a1} : Only 384 s (State.pqFlushCmd s a1) := by
  unfold State.pqFlushCmd
  exact Only.ite (State.cfgErr_only.mono rfl) (State.flushStart_only.mono rfl)

theorem execPqFlush_only {a0 s} : Ends 384 s (execPqFlush a0 s) := by
  unfold execPqFlush
  refine Ends.next ?_
  exact Only.ite (State.pqFlushCmd_only.mono rfl) Only.refl

theorem execPqFlushComplete_only {a0 s} : Ends 386 s (execPqFlushComplete a0 s) := by
  unfold execPqFlushComplete
  refine Ends.next ?_
  exact Only.ite (State.flushEnd_only.mono rfl) Only.refl

theorem State.revoke_only {s a1 a2 a3} : Only 386 s (State.revoke s a1 a2 a3) := by
  unfold State.revoke
  extract_lets x0 x1 x2
  clear_value x0
  have hx1 : Only 386 s x1 := Only.ite (State.noteRsvd_only.mono rfl) Only.refl
  clear_value x1 x2
  refine Only.ite (State.cfgErr_only.after rfl hx1) ?_
  split
  · exact hx1
  · exact State.setPool_only.after rfl hx1

theorem execPoolRevoke_only {a0 a1 a2 s} : Ends 386 s (execPoolRevoke a0 a1 a2 s) := by
  unfold execPoolRevoke
  refine Ends.next ?_
  exact Only.ite (State.revoke_only.mono rfl) Only.refl

theorem State.bumpDone_only {s a1} : Only 256 s (State.bumpDone s a1) := by
  unfold State.bumpDone
  split
  · exact Only.ite Only.refl (State.bumpPool_only.mono rfl)
  · exact Only.refl

theorem execPoolBumpComplete_only {a0 s} : Ends 256 s (execPoolBumpComplete a0 s) := by
  unfold execPoolBumpComplete
  refine Ends.next ?_
  exact Only.ite (State.bumpDone_only.mono rfl) Only.refl

theorem State.passCtrlSet_only {s a1} : Only 130 s (State.passCtrlSet s a1) := by
  unfold State.passCtrlSet
  extract_lets x0
  clear_value x0
  exact Only.ite (State.refuse_only.mono rfl) (State.putReg_only.mono rfl)

theorem execPassCtrlWrite_only {a0 s} : Ends 130 s (execPassCtrlWrite a0 s) := by
  unfold execPassCtrlWrite
  refine Ends.next ?_
  exact State.passCtrlSet_only.mono rfl

theorem State.plWrite_only {s a1 a2 a3} : Only 386 s (State.plWrite s a1 a2 a3) := by
  unfold State.plWrite
  extract_lets x0 x1 x2 x3
  have hx0 : Only 386 s x0 := State.putReg_only.mono rfl
  clear_value x0 x1 x2 x3
  refine Only.ite (State.refuse_only.mono rfl) ?_
  exact Only.ite (State.refuse_only.mono rfl) (Only.ite (State.setPool_only.after rfl hx0) hx0)

theorem State.swStatus_only {s a1 a2} : Only 2 s (State.swStatus s a1 a2) := by
  unfold State.swStatus
  exact State.setReg_only.mono rfl

theorem State.swStale_only {s a1 a2} : Only 130 s (State.swStale s a1 a2) := by
  unfold State.swStale
  exact State.raise_only.after rfl (State.swStatus_only.mono rfl)

theorem swCmd_only {g k : Nat} {who : Initiator} {f : State → State} {s : State} (hm : Only.sub 128 g = true)
    (hf : ∀ u, Only g s u → Only g s (f u)) : Ends g s (swCmd who k f s) :=
  Ends.next (Only.ite Only.refl (Only.ite (hf s Only.refl) (State.cfgErr_only.mono (Only.sub_trans (by rfl) hm))))

theorem State.swPopCmd_only {s a1} : Only 8589934978 s (State.swPopCmd s a1) := by
  unfold State.swPopCmd
  extract_lets x0 x1 x2
  clear_value x0
  have hx1 : Only 8589934978 s x1 := by
    unfold x1
    split
    · exact State.bumpDone_only.mono rfl
    · exact Only.refl
  clear_value x1
  have hx2 : Only 8589934978 s x2 := (State.pop_only rfl).after rfl hx1
  clear_value x2
  split
  · split
    · exact State.swStale_only.after rfl hx1
    · extract_lets x20 x21 x22
      have hx20 : Only 8589934978 s x20.2 := (State.addrWord_only (p := x20) rfl).after rfl hx2
      clear_value x20 x21
      have hx22 : Only 8589934978 s x22 := hx20
      clear_value x22
      exact State.swStatus_only.after rfl (State.setReg_only.after rfl (State.setReg_only.after rfl (State.setReg_only.after rfl
        (State.setReg_only.after rfl (State.setReg_only.after rfl hx22)))))
  · exact State.swStatus_only.after rfl hx1

theorem execSwPop_only {a0 a1 s} : Ends 8589934978 s (execSwPop a0 a1 s) := by
  unfold execSwPop
  refine swCmd_only rfl (fun u0 hu1 => ?_)
  exact State.swPopCmd_only.after rfl hu1

theorem State.swAllocCmd_only {s a1} : Only 258 s (State.swAllocCmd s a1) := by
  unfold State.swAllocCmd
  extract_lets x0 x1
  clear_value x0
  have hx1 : Only 258 s x1 := State.bumpDone_only.mono rfl
  clear_value x1
  split
  · rename_i y2 y3 y4 y5
    have hy4 : Only 258 s y4 := (State.alloc_only y5).after rfl hx1
    exact State.swStatus_only.after rfl (State.setReg_only.after rfl (State.setReg_only.after rfl hy4))
  · rename_i y6 y7 y8
    have hy7 : Only 258 s y7 := (State.alloc_only y8).after rfl hx1
    exact State.swStatus_only.after rfl hy7

theorem execSwAlloc_only {a0 a1 s} : Ends 386 s (execSwAlloc a0 a1 s) := by
  unfold execSwAlloc
  refine swCmd_only rfl (fun u0 hu1 => ?_)
  exact State.swAllocCmd_only.after rfl hu1

theorem State.swReleaseCmd_only {s a1} : Only 386 s (State.swReleaseCmd s a1) := by
  unfold State.swReleaseCmd
  extract_lets x0 x1
  clear_value x0
  have hx1 : Only 386 s x1 := State.bumpDone_only.mono rfl
  clear_value x1
  refine Only.ite (State.swStatus_only.mono rfl) ?_
  split
  · exact State.swStale_only.after rfl hx1
  · exact State.swStatus_only.after rfl (State.release_only.after rfl hx1)

theorem execSwRelease_only {a0 a1 s} : Ends 386 s (execSwRelease a0 a1 s) := by
  unfold execSwRelease
  refine swCmd_only rfl (fun u0 hu1 => ?_)
  exact State.swReleaseCmd_only.after rfl hu1

theorem State.swPushCmd_only {s a1 a2} : Only 2147484034 s (State.swPushCmd s a1 a2) := by
  unfold State.swPushCmd
  extract_lets x0 x1 x2 x3 x4 x5
  have hx0 : Only 2147484034 s x0 := State.setReg_only.mono rfl
  clear_value x0 x1
  have hx2 : Only 2147484034 s x2 := Only.upd_pass hx0 rfl
  clear_value x2 x3 x4
  have hx5 : Only 2147484034 s x5 := Only.ite hx2 (State.bumpDone_only.after rfl hx2)
  clear_value x5
  split
  · exact State.swStale_only.after rfl hx5
  · split
    · rename_i y11 y12 y13
      have hy12 : Only 2147484034 s y12 := (State.push_only y13).after rfl hx5
      exact State.swStatus_only.after rfl hy12
    · rename_i y14 y15 y16
      have hy15 : Only 2147484034 s y15 := (State.push_only y16).after rfl hx5
      exact State.swStatus_only.after rfl hy15
    · rename_i y17 y18 y19
      have hy18 : Only 2147484034 s y18 := (State.push_only y19).after rfl hx5
      exact State.swStatus_only.after rfl hy18
    · rename_i y20 y21 y22
      have hy21 : Only 2147484034 s y21 := (State.push_only y22).after rfl hx5
      exact State.swStale_only.after rfl hx5

theorem execSwPush_only {a0 a1 a2 s} : Ends 2147484034 s (execSwPush a0 a1 a2 s) := by
  unfold execSwPush
  refine swCmd_only rfl (fun u0 hu1 => ?_)
  exact State.swPushCmd_only.after rfl hu1

theorem State.passAuditCmd_only {s} : Only 386 s (State.passAuditCmd s) := by
  unfold State.passAuditCmd
  split
  · exact State.cfgErr_only.mono rfl
  · exact State.setReg_only.after rfl (Only.upd_pass Only.refl rfl)

theorem State.wchAuditCmd_only {s} : Only 2178 s (State.wchAuditCmd s) := by
  unfold State.wchAuditCmd
  split
  · exact State.cfgErr_only.mono rfl
  · exact State.setReg_only.after rfl (Only.upd_wch Only.refl rfl)

theorem State.memAuditCmd_only {s} : Only 536871042 s (State.memAuditCmd s) := by
  unfold State.memAuditCmd
  split
  · exact State.cfgErr_only.mono rfl
  · exact State.setReg_only.after rfl (Only.upd_ms Only.refl rfl)

theorem execPassAudit_only {s} : Ends 386 s (execPassAudit s) := by
  unfold execPassAudit
  refine Ends.next ?_
  exact State.passAuditCmd_only.mono rfl

theorem execWchAudit_only {s} : Ends 2178 s (execWchAudit s) := by
  unfold execWchAudit
  refine Ends.next ?_
  exact State.wchAuditCmd_only.mono rfl

theorem execMemAudit_only {s} : Ends 536871042 s (execMemAudit s) := by
  unfold execMemAudit
  refine Ends.next ?_
  exact State.memAuditCmd_only.mono rfl

theorem State.auditReport_only {s a1 a2} : Only 130 s (State.auditReport s a1 a2) := by
  unfold State.auditReport
  extract_lets x0
  have hx0 : Only 130 s x0 := State.setReg_only.mono rfl
  clear_value x0
  exact Only.ite hx0 (State.raise_only.after rfl hx0)

theorem execAuditComplete_only {a0 s} : Ends 536873346 s (execAuditComplete a0 s) := by
  unfold execAuditComplete
  refine Ends.next ?_
  split
  · split
    · exact State.auditReport_only.after rfl (Only.upd_pass Only.refl rfl)
    · exact Only.refl
  · split
    · exact State.auditReport_only.after rfl (Only.upd_wch Only.refl rfl)
    · exact Only.refl
  · split
    · exact State.auditReport_only.after rfl (Only.upd_ms Only.refl rfl)
    · exact Only.refl

end Sys2Proof.Machine
end

