-- ==== Sys2Proof/Laws/OnlyTimebase.lean ====
section
/-! SUPPORT. The footprints of the illuminators, the schedule and the line timebase (see `Only`): one lemma for each operation. -/

namespace Sys2Proof.Machine

open Sys2Proof

theorem State.illRampAt_only {s a1 a2} : Only 4096 s (State.illRampAt s a1 a2) := by
  unfold State.illRampAt
  extract_lets x0
  clear_value x0
  exact Only.ite (State.setIll_only.mono rfl) Only.refl

theorem State.illRampDown_only {s a1} : Only 4096 s (State.illRampDown s a1) := by
  unfold State.illRampDown
  exact State.illRampAt_only.mono rfl

theorem State.illOnCh_only {s a1 a2 a3} : Only 4226 s (State.illOnCh s a1 a2 a3) := by
  unfold State.illOnCh
  extract_lets x0 x1
  clear_value x0
  have hx1 : Only 4226 s x1 := State.setIll_only.mono rfl
  clear_value x1
  refine Only.ite (State.raise_only.after rfl (State.inc_only.mono rfl)) ?_
  exact Only.ite Only.refl (Only.ite Only.refl (State.incWrap_only.after rfl hx1))

theorem State.illUnover_only {s a1 a2} : Only 4224 s (State.illUnover s a1 a2) := by
  unfold State.illUnover
  extract_lets x0
  clear_value x0
  split
  · exact Only.ite (State.setIll_only.after rfl (State.unpost_only.mono rfl)) Only.refl
  · exact Only.refl

theorem State.illOffCh_only {s a1 a2} : Only 4226 s (State.illOffCh s a1 a2) := by
  unfold State.illOffCh
  extract_lets x0 x1 x2
  have hx0 : Only 4226 s x0 := State.illUnover_only.mono rfl
  clear_value x0 x1
  have hx2 : Only 4226 s x2 := State.setReg_only.after rfl hx0
  clear_value x2
  exact Only.ite (State.setIll_only.after rfl hx2) (State.illRampAt_only.after rfl hx0)

theorem State.illLatch_only {s a1 a2 a3} : Only 4098 s (State.illLatch s a1 a2 a3) := by
  unfold State.illLatch
  extract_lets x0 x1
  clear_value x0
  have hx1 : Only 4098 s x1 := Only.ite Only.refl (State.inc_only.mono rfl)
  clear_value x1
  exact State.setIll_only.after rfl hx1

theorem State.illTrip_only {s a1 a2 a3} : Only 128 s (State.illTrip s a1 a2 a3) := by
  unfold State.illTrip
  extract_lets x0
  clear_value x0
  exact State.raise_only.mono rfl

theorem State.illFast_only {s a1} : Only 4226 s (State.illFast s a1) := by
  unfold State.illFast
  extract_lets x0 x1
  clear_value x0 x1
  exact Only.ite Only.refl (State.illTrip_only.after rfl (State.illLatch_only.mono rfl))

theorem State.illNormal_only {s a1} : Only 4226 s (State.illNormal s a1) := by
  unfold State.illNormal
  extract_lets x0
  clear_value x0
  exact Only.ite Only.refl (State.illTrip_only.after rfl (State.illLatch_only.mono rfl))

theorem execIllBlankEnd_only {a0 s} : Ends 4105 s (execIllBlankEnd a0 s) := by
  unfold execIllBlankEnd
  refine Ends.next ?_
  extract_lets x0 x1
  clear_value x0
  have hx1 : Only 4105 s x1 := State.goto_only.mono rfl
  clear_value x1
  exact Only.ite (State.setIll_only.after rfl hx1) Only.refl

theorem execIllFastTrip_only {a0 s} : Ends 4226 s (execIllFastTrip a0 s) := by
  unfold execIllFastTrip
  refine Ends.next ?_
  exact Only.ite (State.illFast_only.mono rfl) Only.refl

theorem execIllNormalTrip_only {a0 s} : Ends 4226 s (execIllNormalTrip a0 s) := by
  unfold execIllNormalTrip
  refine Ends.next ?_
  exact Only.ite (State.illNormal_only.mono rfl) Only.refl

theorem execIllMaxonExpiry_only {a0 s} : Ends 4233 s (execIllMaxonExpiry a0 s) := by
  unfold execIllMaxonExpiry
  refine Ends.next ?_
  extract_lets x0 x1 x2 x3 x4
  clear_value x0
  have hx1 : Only 4233 s x1 := State.goto_only.mono rfl
  clear_value x1 x2 x3
  have hx4 : Only 4233 s x4 := State.setIll_only.after rfl hx1
  clear_value x4
  exact Only.ite (State.postRec_only.after rfl hx4) Only.refl

theorem execIllGateUv_only {s} : Ends 4226 s (execIllGateUv s) := by
  unfold execIllGateUv
  refine Ends.next ?_
  extract_lets x0 x1
  have hx0 : Only 4226 s x0 := State.setRf_only.mono rfl
  clear_value x0
  have hx1 : Only 4226 s x1 := by
    unfold x1
    refine Only.forEach (fun i2 t3 h4 => ?_) hx0
    extract_lets x5 x6
    clear_value x5 x6
    exact Only.ite (State.illLatch_only.after rfl h4) (State.setIll_only.after rfl h4)
  clear_value x1
  exact Only.ite Only.refl (State.raise_only.after rfl hx1)

theorem execIllGateUvRecover_only {s} : Ends 2 s (execIllGateUvRecover s) := by
  unfold execIllGateUvRecover
  refine Ends.next ?_
  exact State.setRf_only.mono rfl

theorem State.illStatusWrite_only {s a1 a2} : Only 4226 s (State.illStatusWrite s a1 a2) := by
  unfold State.illStatusWrite
  extract_lets x0 x1 x2
  have hx0 : Only 4226 s x0 := State.noteRsvd_only.mono rfl
  clear_value x0 x1 x2
  refine Only.ite ?_ (State.setIll_only.after rfl hx0)
  exact Only.ite (State.cfgErr_only.after rfl (State.setIll_only.after rfl hx0)) (State.setIll_only.after rfl hx0)

theorem execIllFaultClear_only {a0 a1 s} : Ends 4226 s (execIllFaultClear a0 a1 s) := by
  unfold execIllFaultClear
  refine Ends.next ?_
  exact Only.ite (State.illStatusWrite_only.mono rfl) Only.refl

theorem State.illCfgWrite_only {s a1 a2} : Only 4226 s (State.illCfgWrite s a1 a2) := by
  unfold State.illCfgWrite
  extract_lets x0
  have hx0 : Only 4226 s x0 := State.putReg_only.mono rfl
  clear_value x0
  exact Only.ite hx0 (State.illRampDown_only.after rfl hx0)

theorem execIllChannelDisable_only {a0 a1 s} : Ends 4226 s (execIllChannelDisable a0 a1 s) := by
  unfold execIllChannelDisable
  refine Ends.next ?_
  exact Only.ite (State.illCfgWrite_only.mono rfl) Only.refl

theorem State.illStopDomain_only {s a1} : Only 4096 s (State.illStopDomain s a1) := by
  unfold State.illStopDomain
  refine Only.forEach (fun i0 t1 h2 => ?_) Only.refl
  exact Only.ite (State.illRampDown_only.after rfl h2) h2

theorem State.setEnt_only {s a1 a2} : Only 2 s (State.setEnt s a1 a2) := by
  unfold State.setEnt
  exact State.setReg_only.after rfl (State.setReg_only.after rfl (State.setReg_only.after rfl (State.setReg_only.mono rfl)))

theorem State.setShadow_only {s a1 a2} : Only 64 s (State.setShadow s a1 a2) := by
  unfold State.setShadow
  exact Only.upd_sched Only.refl rfl

theorem State.setCommitted_only {s a1 a2} : Only 64 s (State.setCommitted s a1 a2) := by
  unfold State.setCommitted
  exact Only.upd_sched Only.refl rfl

theorem State.setFiredIn_only {s a1 a2} : Only 64 s (State.setFiredIn s a1 a2) := by
  unfold State.setFiredIn
  exact Only.upd_sched Only.refl rfl

theorem State.pinAct_only {s a1 a2 a3} : Only 32 s (State.pinAct s a1 a2 a3) := by
  unfold State.pinAct
  extract_lets x0 x1
  clear_value x0 x1
  exact Only.ite Only.refl (Only.ite (State.setPin_only.mono rfl) (State.setPin_only.mono rfl))

theorem State.pinsOff_only {s a1} : Only 32 s (State.pinsOff s a1) := by
  unfold State.pinsOff
  refine Only.forEach (fun i0 t1 h2 => ?_) Only.refl
  exact Only.ite (State.setPin_only.after rfl h2) h2

theorem State.autoPulses_only {s a1 a2} : Only 32 s (State.autoPulses s a1 a2) := by
  unfold State.autoPulses
  refine Only.forEach (fun i0 t1 h2 => ?_) Only.refl
  extract_lets x3 x4 x5
  clear_value x3
  have hx4 : Only 32 s x4 := State.pinAct_only.after rfl h2
  clear_value x4 x5
  exact Only.ite (State.setPin_only.after rfl hx4) h2

theorem State.schedDelay_only {s a1 a2 p} (e : State.schedDelay s a1 a2 = p) : Only 66 s p.2 := by
  subst e
  unfold State.schedDelay
  extract_lets x0 x1 x2 x3
  clear_value x0 x1 x2
  have hx3 : Only 66 s x3 := Only.upd_sched Only.refl rfl
  clear_value x3
  split
  · exact Only.snd (Only.ite hx3 (State.inc_only.after rfl hx3))
  · exact Only.snd (Only.upd_sched Only.refl rfl)

theorem State.illAct_only {s a1 a2 a3 a4} : Only 4226 s (State.illAct s a1 a2 a3 a4) := by
  unfold State.illAct
  extract_lets x0 x1
  have hx0 : Only 4226 s x0 := State.illOffCh_only.mono rfl
  clear_value x0 x1
  exact Only.ite (Only.ite Only.refl (State.illOnCh_only.mono rfl)) (State.setIll_only.after rfl hx0)

theorem State.schedEffect_only {s a1 a2} : Only 2147620594 s (State.schedEffect s a1 a2) := by
  unfold State.schedEffect
  split
  · refine Only.forEach (fun i2 t3 h4 => ?_) Only.refl
    exact State.pinAct_only.after rfl h4
  · refine Only.forEach (fun i7 t8 h9 => ?_) Only.refl
    exact State.pinAct_only.after rfl h9
  · refine Only.forEach (fun i12 t13 h14 => ?_) Only.refl
    exact State.illAct_only.after rfl h14
  · refine Only.forEach (fun i17 t18 h19 => ?_) Only.refl
    exact State.illAct_only.after rfl h19
  · split
    · exact Only.ite (State.wake_only.mono rfl) Only.refl
    · exact Only.refl
  · extract_lets x30 x31 x32
    clear_value x30 x31 x32
    exact Only.ite (Only.upd_fmt Only.refl rfl) Only.refl
  · extract_lets x35
    clear_value x35
    exact State.setReg_only.mono rfl
  · extract_lets x38 x39 x40 x41
    clear_value x38
    have hx39 : Only 2147620594 s x39 := State.setRf_only.mono rfl
    clear_value x39 x40
    have hx41 : Only 2147620594 s x41 := Only.upd_sched hx39 rfl
    clear_value x41
    exact Only.ite (State.irq_only.after rfl hx41) hx41
  · exact State.setDom_only.mono rfl
  · exact State.setDom_only.mono rfl
  · exact Only.refl

theorem State.fireEnt_only {s a1 a2} : Only 2147620603 s (State.fireEnt s a1 a2) := by
  unfold State.fireEnt
  extract_lets x0 x1 x2 x3 x4 x5 x6 x7
  clear_value x0
  have hx1 : Only 2147620603 s x1 := State.setFiredIn_only.mono rfl
  clear_value x1 x2
  have hx3 : Only 2147620603 s x3.2 := (State.schedDelay_only (p := x3) rfl).after rfl hx1
  clear_value x3 x4
  have hx5 : Only 2147620603 s x5 := hx3
  clear_value x5
  have hx6 : Only 2147620603 s x6 := Only.ite hx5 (State.goto_only.after rfl hx5)
  clear_value x6
  have hx7 : Only 2147620603 s x7 := State.schedEffect_only.after rfl hx6
  clear_value x7
  exact Only.ite hx7 (State.setEnt_only.after rfl hx7)

theorem State.fireAt_only {s a1 a2} : Only 2147620603 s (State.fireAt s a1 a2) := by
  unfold State.fireAt
  extract_lets x0 x1
  clear_value x0 x1
  refine Only.ite Only.refl ?_
  exact Only.ite (Only.ite Only.refl (State.fireEnt_only.after rfl (State.goto_only.mono rfl))) (Only.ite Only.refl
    (State.fireEnt_only.after rfl (State.goto_only.mono rfl)))

theorem State.passOver_only {s a1 a2 a3} : Only 2147620603 s (State.passOver s a1 a2 a3) := by
  unfold State.passOver
  refine Only.foldl (fun t1 i0 h2 => ?_) Only.refl
  exact State.fireEnt_only.after rfl h2

theorem State.rangeCheck_only {s a1} : Only 130 s (State.rangeCheck s a1) := by
  unfold State.rangeCheck
  extract_lets x0
  clear_value x0
  exact Only.ite (State.raise_only.after rfl (State.inc_only.mono rfl)) Only.refl

theorem State.entEffect_only {s a1 a2} : Only 194 s (State.entEffect s a1 a2) := by
  unfold State.entEffect
  extract_lets x0 x1
  have hx0 : Only 194 s x0 := State.setEnt_only.mono rfl
  clear_value x0
  have hx1 : Only 194 s x1 := State.setFiredIn_only.after rfl hx0
  clear_value x1
  exact State.rangeCheck_only.after rfl hx1

theorem State.commitLine0_only {s a1} : Only 194 s (State.commitLine0 s a1) := by
  unfold State.commitLine0
  refine Only.forEach (fun i0 t1 h2 => ?_) Only.refl
  split
  · exact Only.ite (State.entEffect_only.after rfl (State.setCommitted_only.after rfl h2)) h2
  · exact h2

theorem State.flenCheck_only {s a1} : Only 130 s (State.flenCheck s a1) := by
  unfold State.flenCheck
  refine Only.forEach (fun i0 t1 h2 => ?_) Only.refl
  exact Only.ite (State.rangeCheck_only.after rfl h2) h2

theorem State.tryArm_only {s a1} : Only 16 s (State.tryArm s a1) := by
  unfold State.tryArm
  extract_lets x0
  clear_value x0
  refine Only.ite Only.refl ?_
  exact Only.ite (Only.ite (State.setDom_only.mono rfl) (State.setDom_only.mono rfl)) (State.setDom_only.mono rfl)

theorem State.ldApply_only {s a1} : Only 146 s (State.ldApply s a1) := by
  unfold State.ldApply
  extract_lets x0 x1 x2
  clear_value x0 x1
  have hx2 : Only 146 s x2 := State.setDom_only.mono rfl
  clear_value x2
  exact Only.ite hx2 (State.flenCheck_only.after rfl hx2)

theorem State.ldAfter_only {s a1 a2} : Only 146 s (State.ldAfter s a1 a2) := by
  unfold State.ldAfter
  extract_lets x0 x1
  have hx0 : Only 146 s x0 := Only.ite Only.refl (State.ldApply_only.mono rfl)
  clear_value x0
  have hx1 : Only 146 s x1 := Only.ite (State.cfgErr_only.after rfl hx0) hx0
  clear_value x1
  exact State.tryArm_only.after rfl hx1

theorem State.ldPeriodWrite_only {s a1 a2} : Only 146 s (State.ldPeriodWrite s a1 a2) := by
  unfold State.ldPeriodWrite
  exact State.ldAfter_only.after rfl (State.putReg_only.mono rfl)

theorem State.ldFlenWrite_only {s a1 a2} : Only 146 s (State.ldFlenWrite s a1 a2) := by
  unfold State.ldFlenWrite
  exact State.ldAfter_only.after rfl (State.putReg_only.mono rfl)

theorem State.flushLate_only {s a1} : Only 144 s (State.flushLate s a1) := by
  unfold State.flushLate
  extract_lets x0
  clear_value x0
  exact Only.ite Only.refl (State.setDom_only.after rfl (State.raise_only.mono rfl))

theorem State.stopAt_only {s a1 a2} : Only 5808 s (State.stopAt s a1 a2) := by
  unfold State.stopAt
  extract_lets x0 x1 x2
  have hx0 : Only 5808 s x0 := State.flushLate_only.mono rfl
  clear_value x0 x1
  have hx2 : Only 5808 s x2 := State.setDom_only.after rfl hx0
  clear_value x2
  exact State.illStopDomain_only.after rfl (State.releaseDomain_only.after rfl (State.pinsOff_only.after rfl hx2))

theorem State.stopDomain_only {s a1} : Only 5808 s (State.stopDomain s a1) := by
  unfold State.stopDomain
  exact Only.ite (State.stopAt_only.mono rfl) (State.setDom_only.mono rfl)

theorem State.beginFrame_only {s a1 a2 a3} : Only 242 s (State.beginFrame s a1 a2 a3) := by
  unfold State.beginFrame
  extract_lets x0 x1 x2 x3 x4
  clear_value x0
  have hx1 : Only 242 s x1 := State.setDom_only.mono rfl
  clear_value x1
  have hx2 : Only 242 s x2 := State.ldApply_only.after rfl hx1
  clear_value x2 x3
  have hx4 : Only 242 s x4 := State.setDom_only.after rfl hx2
  clear_value x4
  exact State.autoPulses_only.after rfl (State.commitLine0_only.after rfl hx4)

theorem execDomainStart_only {a0 s} : Ends 251 s (execDomainStart a0 s) := by
  unfold execDomainStart
  refine Ends.next ?_
  split
  · extract_lets x3 x4
    have hx3 : Only 251 s x3 := State.goto_only.mono rfl
    clear_value x3 x4
    exact Only.ite (State.beginFrame_only.after rfl (State.setDom_only.after rfl hx3)) Only.refl
  · exact Only.refl

theorem execLineBoundary_only {a0 s} : Ends 5883 s (execLineBoundary a0 s) := by
  unfold execLineBoundary
  refine Ends.next ?_
  extract_lets x0 x1 x2 x3
  clear_value x0 x1 x2
  have hx3 : Only 5883 s x3 := State.goto_only.mono rfl
  clear_value x3
  refine Only.ite ?_ Only.refl
  exact Only.ite (State.setDom_only.after rfl (State.goto_only.mono rfl)) (Only.ite (State.stopAt_only.after rfl hx3)
    (State.beginFrame_only.after rfl hx3))

theorem State.predictStart_only {s a1} : Only 251 s (State.predictStart s a1) := by
  unfold State.predictStart
  extract_lets x0 x1 x2
  clear_value x0
  have hx1 : Only 251 s x1 := State.flushLate_only.after rfl (State.goto_only.mono rfl)
  clear_value x1 x2
  exact State.beginFrame_only.after rfl (State.setDom_only.after rfl hx1)

theorem execPredictedFrameStart_only {a0 s} : Ends 251 s (execPredictedFrameStart a0 s) := by
  unfold execPredictedFrameStart
  refine Ends.next ?_
  exact Only.ite (State.predictStart_only.mono rfl) Only.refl

theorem State.windowEnd_only {s a1} : Only 1073747643 s (State.windowEnd s a1) := by
  unfold State.windowEnd
  extract_lets x0 x1 x2 x3 x4
  clear_value x0
  have hx1 : Only 1073747643 s x1 := State.goto_only.mono rfl
  clear_value x1 x2
  have hx3 : Only 1073747643 s x3 := State.setStat_only.after rfl (State.setDom_only.after rfl hx1)
  clear_value x3
  have hx4 : Only 1073747643 s x4 := State.raise_only.after rfl hx3
  clear_value x4
  exact Only.ite hx3 (State.stopDomain_only.after rfl (State.setRf_only.after rfl hx4))

theorem execFsWindowEnd_only {a0 s} : Ends 1073747643 s (execFsWindowEnd a0 s) := by
  unfold execFsWindowEnd
  refine Ends.next ?_
  exact Only.ite (State.windowEnd_only.mono rfl) Only.refl

theorem State.fsBegin_only {s a1} : Only 2147620603 s (State.fsBegin s a1) := by
  unfold State.fsBegin
  extract_lets x0 x1
  have hx0 : Only 2147620603 s x0 := Only.ite (State.flushLate_only.after rfl (State.passOver_only.mono rfl)) Only.refl
  clear_value x0 x1
  exact State.beginFrame_only.after rfl (State.setDom_only.after rfl hx0)

theorem State.slavedDue_only {s a1 a2} : Only 1073747707 s (State.slavedDue s a1 a2) := by
  induction a2 generalizing s a1 with
  | zero =>
    unfold State.slavedDue
    exact Only.refl
  | succ n ih =>
    unfold State.slavedDue
    extract_lets x0
    clear_value x0
    refine Only.ite Only.refl ?_
    refine Only.ite (Only.after (ih ..) rfl (State.predictStart_only.mono rfl)) ?_
    split
    · exact Only.ite (Only.after (ih ..) rfl (State.windowEnd_only.mono rfl)) Only.refl
    · exact Only.refl

theorem State.domFrameStart_only {s a1} : Only 3221362427 s (State.domFrameStart s a1) := by
  unfold State.domFrameStart
  extract_lets x0 x1
  have hx0 : Only 3221362427 s x0 := State.slavedDue_only.mono rfl
  clear_value x0 x1
  refine Only.ite (State.fsBegin_only.mono rfl) ?_
  refine Only.ite Only.refl ?_
  refine Only.ite (State.fsBegin_only.mono rfl) ?_
  refine Only.ite hx0 ?_
  exact Only.ite (Only.ite (State.setDom_only.after rfl hx0) (State.setDom_only.after rfl hx0)) (Only.ite
    (State.fsBegin_only.after rfl hx0) (State.setDom_only.after rfl hx0))

theorem State.domLine_only {s a1} : Only 2147620603 s (State.domLine s a1) := by
  unfold State.domLine
  extract_lets x0 x1 x2
  clear_value x0 x1
  have hx2 : Only 2147620603 s x2 := State.setDom_only.mono rfl
  clear_value x2
  exact Only.ite (Only.ite (State.passOver_only.after rfl hx2) hx2) Only.refl

theorem State.membersWrite_only {s a1 a2} : Only 16 s (State.membersWrite s a1 a2) := by
  unfold State.membersWrite
  exact Only.ite (State.setDom_only.mono rfl) (State.setDom_only.mono rfl)

theorem State.ldCtrlPut_only {s a1 a2} : Only 146 s (State.ldCtrlPut s a1 a2) := by
  unfold State.ldCtrlPut
  extract_lets x0 x1 x2 x3 x4 x5
  clear_value x0 x1 x2 x3
  have hx4 : Only 146 s x4 := State.setReg_only.after rfl (State.noteRsvd_only.mono rfl)
  clear_value x4
  have hx5 : Only 146 s x5 := Only.ite (State.cfgErr_only.after rfl hx4) hx4
  clear_value x5
  exact Only.ite hx5 (State.membersWrite_only.after rfl hx5)

theorem State.ldCtrlWrite_only {s a1 a2} : Only 5810 s (State.ldCtrlWrite s a1 a2) := by
  unfold State.ldCtrlWrite
  extract_lets x0 x1
  have hx0 : Only 5810 s x0 := State.ldCtrlPut_only.mono rfl
  clear_value x0
  have hx1 : Only 5810 s x1 := Only.ite (State.stopDomain_only.after rfl hx0) hx0
  clear_value x1
  exact State.ldAfter_only.after rfl hx1

theorem execDomainEnable_only {a0 a1 s} : Ends 5810 s (execDomainEnable a0 a1 s) := by
  unfold execDomainEnable
  refine Ends.next ?_
  exact Only.ite (State.ldCtrlWrite_only.mono rfl) Only.refl

theorem execDomainDisable_only {a0 a1 s} : Ends 5810 s (execDomainDisable a0 a1 s) := by
  unfold execDomainDisable
  refine Ends.next ?_
  exact Only.ite (State.ldCtrlWrite_only.mono rfl) Only.refl

theorem State.lptCtrlWrite_only {s a1} : Only 5810 s (State.lptCtrlWrite s a1) := by
  unfold State.lptCtrlWrite
  extract_lets x0 x1 x2 x3
  clear_value x0 x1
  have hx2 : Only 5810 s x2 := State.putReg_only.mono rfl
  clear_value x2
  have hx3 : Only 5810 s x3 := by
    unfold x3
    refine Only.forEach (fun i4 t5 h6 => ?_) hx2
    exact State.stopDomain_only.after rfl h6
  clear_value x3
  refine Only.ite ?_ ?_
  · refine Only.forEach (fun i7 t8 h9 => ?_) hx3
    exact State.setPin_only.after rfl h9
  · refine Only.forEach (fun i10 t11 h12 => ?_) hx2
    exact State.ldAfter_only.after rfl h12

theorem execLptEnable_only {s} : Ends 5810 s (execLptEnable s) := by
  unfold execLptEnable
  refine Ends.next ?_
  exact State.lptCtrlWrite_only.mono rfl

theorem execLptDisable_only {s} : Ends 5810 s (execLptDisable s) := by
  unfold execLptDisable
  refine Ends.next ?_
  exact State.lptCtrlWrite_only.mono rfl

theorem execSchedNone_only {a0 s} : Ends 2147620603 s (execSchedNone a0 s) := by
  unfold execSchedNone
  refine Ends.next ?_
  exact Only.ite (State.fireAt_only.mono rfl) Only.refl

theorem execFsyncSet_only {a0 s} : Ends 2147620603 s (execFsyncSet a0 s) := by
  unfold execFsyncSet
  refine Ends.next ?_
  exact Only.ite (State.fireAt_only.mono rfl) Only.refl

theorem execFsyncClr_only {a0 s} : Ends 2147620603 s (execFsyncClr a0 s) := by
  unfold execFsyncClr
  refine Ends.next ?_
  exact Only.ite (State.fireAt_only.mono rfl) Only.refl

theorem execIllOn_only {a0 s} : Ends 2147620603 s (execIllOn a0 s) := by
  unfold execIllOn
  refine Ends.next ?_
  exact Only.ite (State.fireAt_only.mono rfl) Only.refl

theorem execIllOff_only {a0 s} : Ends 2147620603 s (execIllOff a0 s) := by
  unfold execIllOff
  refine Ends.next ?_
  exact Only.ite (State.fireAt_only.mono rfl) Only.refl

theorem execCtxWake_only {a0 s} : Ends 2147620603 s (execCtxWake a0 s) := by
  unfold execCtxWake
  refine Ends.next ?_
  exact Only.ite (State.fireAt_only.mono rfl) Only.refl

theorem execFmtStart_only {a0 s} : Ends 2147620603 s (execFmtStart a0 s) := by
  unfold execFmtStart
  refine Ends.next ?_
  exact Only.ite (State.fireAt_only.mono rfl) Only.refl

theorem execVencSlice_only {a0 s} : Ends 2147620603 s (execVencSlice a0 s) := by
  unfold execVencSlice
  refine Ends.next ?_
  exact Only.ite (State.fireAt_only.mono rfl) Only.refl

theorem execIrq_only {a0 s} : Ends 2147620603 s (execIrq a0 s) := by
  unfold execIrq
  refine Ends.next ?_
  exact Only.ite (State.fireAt_only.mono rfl) Only.refl

theorem execMaintOpen_only {a0 s} : Ends 2147620603 s (execMaintOpen a0 s) := by
  unfold execMaintOpen
  refine Ends.next ?_
  exact Only.ite (State.fireAt_only.mono rfl) Only.refl

theorem execMaintClose_only {a0 s} : Ends 2147620603 s (execMaintClose a0 s) := by
  unfold execMaintClose
  refine Ends.next ?_
  exact Only.ite (State.fireAt_only.mono rfl) Only.refl

theorem execFsyncTrimEdge_only {a0 s} : Ends 41 s (execFsyncTrimEdge a0 s) := by
  unfold execFsyncTrimEdge
  refine Ends.next ?_
  split
  · extract_lets x5 x6
    have hx5 : Only 41 s x5 := State.goto_only.mono rfl
    clear_value x5 x6
    exact Only.ite (State.setPin_only.after rfl hx5) Only.refl
  · exact Only.refl

theorem execFsyncAutoPulseEnd_only {a0 s} : Ends 41 s (execFsyncAutoPulseEnd a0 s) := by
  unfold execFsyncAutoPulseEnd
  refine Ends.next ?_
  split
  · extract_lets x4 x5
    have hx4 : Only 41 s x4 := State.goto_only.mono rfl
    clear_value x4 x5
    exact Only.ite (State.setPin_only.after rfl hx4) Only.refl
  · exact Only.refl

theorem State.fsyncWrite_only {s a1 a2} : Only 162 s (State.fsyncWrite s a1 a2) := by
  unfold State.fsyncWrite
  extract_lets x0 x1
  clear_value x0
  have hx1 : Only 162 s x1 := State.putReg_only.mono rfl
  clear_value x1
  exact Only.ite hx1 (State.setPin_only.after rfl hx1)

theorem execFsyncDomainWrite_only {a0 a1 s} : Ends 162 s (execFsyncDomainWrite a0 a1 s) := by
  unfold execFsyncDomainWrite
  refine Ends.next ?_
  exact Only.ite (State.fsyncWrite_only.mono rfl) Only.refl

theorem State.entWrite_only {s a1 a2 a3} : Only 194 s (State.entWrite s a1 a2 a3) := by
  unfold State.entWrite
  extract_lets x0 x1 x2 x3 x4 x5 x6 x7 x8
  clear_value x0 x1 x2 x3
  have hx4 : Only 194 s x4 := State.setShadow_only.mono rfl
  clear_value x4 x5 x6 x7
  have hx8 : Only 194 s x8 := State.entEffect_only.after rfl (State.setCommitted_only.after rfl (State.setShadow_only.mono rfl))
  clear_value x8
  exact Only.ite (Only.ite (State.cfgErr_only.after rfl hx4) hx4) (Only.ite (State.cfgErr_only.after rfl hx8) hx8)

theorem execSchedEntryWrite_only {a0 a1 a2 s} : Ends 194 s (execSchedEntryWrite a0 a1 a2 s) := by
  unfold execSchedEntryWrite
  refine Ends.next ?_
  exact Only.ite (State.entWrite_only.mono rfl) Only.refl

theorem State.commit_only {s} : Only 194 s (State.commit s) := by
  unfold State.commit
  refine Only.forEach (fun i0 t1 h2 => ?_) Only.refl
  split
  · extract_lets x6
    have hx6 : Only 194 s x6 := State.setShadow_only.after rfl h2
    clear_value x6
    exact Only.ite (State.setCommitted_only.after rfl hx6) (State.entEffect_only.after rfl (State.setCommitted_only.after rfl hx6))
  · exact h2

theorem execSchedCommit_only {s} : Ends 194 s (execSchedCommit s) := by
  unfold execSchedCommit
  refine Ends.next ?_
  exact State.commit_only.mono rfl

theorem State.schedCtrlWrite_only {s a1} : Only 194 s (State.schedCtrlWrite s a1) := by
  unfold State.schedCtrlWrite
  extract_lets x0
  have hx0 : Only 194 s x0 := State.putReg_only.mono rfl
  clear_value x0
  exact Only.ite (State.commit_only.after rfl hx0) hx0

end Sys2Proof.Machine
end

