-- ==== Sys2Proof/Laws/OnlySfe.lean ====
section
/-! SUPPORT. The footprints of the sensor front end (see `Only`): one lemma for each operation. -/

namespace Sys2Proof.Machine

open Sys2Proof

theorem State.setSc_only {s a1 a2} : Only 65536 s (State.setSc s a1 a2) := by
  unfold State.setSc
  exact Only.upd_sfe Only.refl rfl

theorem State.setGrp_only {s a1 a2} : Only 65536 s (State.setGrp s a1 a2) := by
  unfold State.setGrp
  exact Only.upd_sfe Only.refl rfl

theorem State.setEarly_only {s a1 a2} : Only 65536 s (State.setEarly s a1 a2) := by
  unfold State.setEarly
  exact Only.upd_sfe Only.refl rfl

theorem State.hear_only {s a1} : Only 2 s (State.hear s a1) := by
  unfold State.hear
  exact State.setRf_only.mono rfl

theorem State.emitStripe_only {s a1 a2 a3 a4} : Only 65536 s (State.emitStripe s a1 a2 a3 a4) := by
  unfold State.emitStripe
  extract_lets x0
  clear_value x0
  exact State.setSc_only.mono rfl

theorem State.emitLast_only {s a1 a2} : Only 65792 s (State.emitLast s a1 a2) := by
  unfold State.emitLast
  extract_lets x0
  have hx0 : Only 65792 s x0 := by
    unfold x0
    split
    · exact Only.ite (State.release_only.mono rfl) (State.emitStripe_only.mono rfl)
    · exact Only.refl
  clear_value x0
  split
  · exact State.emitStripe_only.after rfl hx0
  · exact hx0

theorem State.finishFrame_only {s a1 a2} : Only 1073807618 s (State.finishFrame s a1 a2) := by
  unfold State.finishFrame
  extract_lets x0 x1 x2
  have hx0 : Only 1073807618 s x0 := State.setReg_only.after rfl (State.emitLast_only.mono rfl)
  clear_value x0
  have hx1 : Only 1073807618 s x1 := State.setStat_only.after rfl (State.setStat_only.after rfl hx0)
  clear_value x1 x2
  exact State.setSc_only.after rfl hx1

theorem State.settleSc_only {s a1 a2} : Only 1073807618 s (State.settleSc s a1 a2) := by
  induction a2 generalizing s a1 with
  | zero =>
    unfold State.settleSc
    exact Only.refl
  | succ n ih =>
    unfold State.settleSc
    split
    · exact Only.ite (Only.after (ih ..) rfl (State.finishFrame_only.mono rfl)) Only.refl
    · exact Only.refl

theorem State.closeFrame_only {s a1 a2 a3 a4} : Only 1073807618 s (State.closeFrame s a1 a2 a3 a4) := by
  unfold State.closeFrame
  extract_lets x0
  have hx0 : Only 1073807618 s x0 := State.setSc_only.mono rfl
  clear_value x0
  exact Only.ite Only.refl (State.settleSc_only.after rfl hx0)

theorem State.endNow_only {s a1 a2} : Only 1073807618 s (State.endNow s a1 a2) := by
  unfold State.endNow
  split
  · extract_lets x3
    have hx3 : Only 1073807618 s x3 := State.setSc_only.mono rfl
    clear_value x3
    exact Only.ite (State.settleSc_only.after rfl hx3) Only.refl
  · exact Only.refl

theorem State.inputFault_only {s a1 a2 a3 a4} : Only 65664 s (State.inputFault s a1 a2 a3 a4) := by
  unfold State.inputFault
  extract_lets x0 x1
  clear_value x0 x1
  exact Only.ite (State.setSc_only.mono rfl) (Only.ite Only.refl (State.postRec_only.after rfl (State.setSc_only.mono rfl)))

theorem State.reportFaults_only {s a1} : Only 65664 s (State.reportFaults s a1) := by
  unfold State.reportFaults
  extract_lets x0
  clear_value x0
  refine Only.foldl (fun t2 i1 h3 => ?_) (State.setSc_only.mono rfl)
  exact State.postRec_only.after rfl h3

theorem State.openGate_only {s a1} : Only 65536 s (State.openGate s a1) := by
  unfold State.openGate
  refine Only.foldl (fun t1 i0 h2 => ?_) Only.refl
  exact State.setSc_only.after rfl h2

theorem State.dropFrame_only {s a1 a2} : Only 1073807618 s (State.dropFrame s a1 a2) := by
  unfold State.dropFrame
  extract_lets x0 x1 x2 x3 x4 x5
  clear_value x0
  have hx1 : ∀ a0 t, Only 1073807618 s t → Only 1073807618 s (x1 a0 t) := by
    intro b0 t6 h7
    unfold x1
    refine Only.foldl (fun t9 i8 h10 => ?_) h7
    exact State.giveBack_only.after rfl h10
  clear_value x1
  have hx2 : Only 1073807618 s x2 := hx1 _ _ Only.refl
  clear_value x2
  have hx3 : Only 1073807618 s x3 := hx1 _ _ hx2
  clear_value x3
  have hx4 : Only 1073807618 s x4 := hx1 _ _ hx3
  clear_value x4
  have hx5 : Only 1073807618 s x5 := hx1 _ _ hx4
  clear_value x5
  exact State.settleSc_only.after rfl (State.setSc_only.after rfl hx5)

theorem State.dropGroup_only {s a1} : Only 1073807618 s (State.dropGroup s a1) := by
  unfold State.dropGroup
  refine Only.foldl (fun t1 i0 h2 => ?_) Only.refl
  exact State.dropFrame_only.after rfl h2

theorem State.placeholders_only {s a1 a2 a3} : Only 65536 s (State.placeholders s a1 a2 a3) := by
  unfold State.placeholders
  extract_lets x0 x1 x2 x3 x4
  clear_value x0 x1 x2 x3 x4
  exact State.setSc_only.mono rfl

theorem State.underrun_only {s a1 a2 a3 p} (e : State.underrun s a1 a2 a3 = p) : Only 1073807746 s p.1 := by
  subst e
  unfold State.underrun
  split
  · exact Only.fst (State.raise_only.after rfl (State.dropGroup_only.mono rfl))
  · exact Only.fst (State.placeholders_only.mono rfl)

theorem State.checkGate_only {s a1 a2 p} (e : State.checkGate s a1 a2 = p) : Only 65536 s p.1 := by
  subst e
  unfold State.checkGate
  split
  · exact Only.fst (State.openGate_only.mono rfl)
  · exact Only.fst (Only.refl)

theorem State.overGroup_only {s a1 a2} : Only 1073807746 s (State.overGroup s a1 a2) := by
  unfold State.overGroup
  refine Only.ite Only.refl ?_
  refine Only.ite ?_ ?_
  · split
    · exact (State.underrun_only rfl).mono rfl
    · exact State.openGate_only.mono rfl
  · refine Only.forEach (fun i6 t7 h8 => ?_) Only.refl
    exact (State.underrun_only rfl).after rfl h8

theorem State.takeGroup_only {s a1 a2 a3 a4 p} (e : State.takeGroup s a1 a2 a3 a4 = p) : Only 1073807746 s p.1 := by
  subst e
  unfold State.takeGroup
  split
  · split
    · exact Only.fst (Only.refl)
    · exact Only.fst (State.overGroup_only.mono rfl)
  · exact Only.fst (Only.refl)

theorem State.putGroup_only {s a1 a2 a3} : Only 65536 s (State.putGroup s a1 a2 a3) := by
  unfold State.putGroup
  exact Only.ite (State.setEarly_only.mono rfl) (State.setGrp_only.mono rfl)

theorem State.joinFrame_only {s a1 a2 a3 p} (e : State.joinFrame s a1 a2 a3 = p) : Only 1073807746 s p.2.1 := by
  subst e
  unfold State.joinFrame
  split
  · exact Only.snd1 (Only.fst (Only.refl))
  · extract_lets x2 x3
    clear_value x2
    have hx3 : Only 1073807746 s x3.1 := (State.checkGate_only (p := x3) rfl).mono rfl
    clear_value x3
    split
    · exact (State.underrun_only rfl).mono rfl
    · exact hx3

theorem State.leadBegins_only {s a1 a2 p} (e : State.leadBegins s a1 a2 = p) : Only 1073807746 s p.1 := by
  subst e
  unfold State.leadBegins
  extract_lets x0 x1 x2 x3 x4
  have hx0 : Only 1073807746 s x0.1 := (State.takeGroup_only (p := x0) rfl).mono rfl
  clear_value x0
  have hx1 : Only 1073807746 s x1 := State.setEarly_only.after rfl hx0
  clear_value x1 x2 x3 x4
  split
  · exact hx1
  · split
    · exact (State.underrun_only rfl).after rfl hx1
    · extract_lets x13
      have hx13 : Only 1073807746 s x13 := by
        unfold x13
        refine Only.foldl (fun t15 i14 h16 => ?_) hx1
        exact State.dropFrame_only.after rfl h16
      clear_value x13
      refine Only.foldl1 (fun t18 i17 h19 => ?_) hx13
      exact (State.underrun_only rfl).after rfl h19

theorem State.groupStart_only {s a1 p} (e : State.groupStart s a1 = p) : Only 1073807746 s p.2 := by
  subst e
  unfold State.groupStart
  extract_lets x0 x1 x2 x3 x4 x5 x6 x7
  clear_value x4
  have hx5 : Only 1073807746 s x5.1 := (State.leadBegins_only (p := x5) rfl).mono rfl
  clear_value x5
  have hx6 : Only 1073807746 s x6.1 := by
    unfold x6
    split
    · exact Only.fst ((State.takeGroup_only rfl).after rfl hx5)
    · exact (State.takeGroup_only rfl).mono rfl
  clear_value x6
  have hx7 : Only 1073807746 s x7.2.1 := (State.joinFrame_only (p := x7) rfl).after rfl hx6
  clear_value x7
  split
  · exact Only.snd (Only.refl)
  · exact Only.snd (State.putGroup_only.after rfl hx7)

theorem State.memberExpiry_only {s d i} : Only 1073807755 s (State.memberExpiry s d i) := by
  unfold State.memberExpiry
  extract_lets x got
  have hg : ∀ u g, got = some (u, g) → Only 1073807755 s u := by
    intro u g e
    unfold got at e
    split at e
    · cases h : s.nowGroup d <;> rw [h] at e <;> cases e
      exact Only.refl
    · exact (State.takeGroup_only (Option.some.inj e)).mono rfl
  clear_value got
  split
  · next u g b _ =>
    have hu := hg u g rfl
    split
    · exact Only.refl
    · refine Only.ite Only.refl ?_
      extract_lets r r'
      have hr : Only 1073807755 s r.1 := (State.underrun_only (p := r) rfl).after rfl (State.goto_only.after rfl hu)
      have hr' : Only 1073807755 s r'.1 := (State.checkGate_only (p := r') rfl).after rfl hr
      exact State.setGrp_only.after rfl hr'
  · exact Only.refl

theorem State.leadExpiry_only {s a1 a2} : Only 1073807746 s (State.leadExpiry s a1 a2) := by
  unfold State.leadExpiry
  extract_lets x0 x1 x2 x3 x4 x5
  clear_value x0
  have hx1 : Only 1073807746 s x1.1 := (State.takeGroup_only (p := x1) rfl).mono rfl
  clear_value x1
  have hx2 : Only 1073807746 s x2 := (State.takeGroup_only rfl).after rfl (State.setEarly_only.after rfl hx1)
  clear_value x2 x3
  have hx4 : Only 1073807746 s x4.1 := (State.underrun_only (p := x4) rfl).after rfl hx2
  clear_value x4
  have hx5 : Only 1073807746 s x5.1 := (State.checkGate_only (p := x5) rfl).after rfl hx4
  clear_value x5
  exact Only.ite Only.refl (State.setGrp_only.after rfl hx5)

theorem execGroupFsBoundExpiry_only {a0 s} : Ends 1073807755 s (execGroupFsBoundExpiry a0 s) := by
  unfold execGroupFsBoundExpiry
  refine Ends.next ?_
  split
  · exact Only.refl
  · extract_lets x5
    clear_value x5
    exact Only.ite Only.refl (Only.ite (State.leadExpiry_only.mono rfl) (State.memberExpiry_only.mono rfl))

theorem State.cutIn_only {s a1 a2 a3 a4 p} (e : State.cutIn s a1 a2 a3 a4 = p) : Only 1073807746 s p.1 := by
  subst e
  unfold State.cutIn
  split
  · exact Only.fst (Only.refl)
  · split
    · refine Only.fst (State.inputFault_only.after rfl ?_)
      refine Only.foldl (fun t4 i3 h5 => ?_) Only.refl
      exact Only.ite h5 (State.endNow_only.after rfl h5)
    · exact Only.fst (State.inputFault_only.after rfl (State.dropGroup_only.mono rfl))

theorem State.cutGroup_only {s a1 a2 a3} : Only 1073807746 s (State.cutGroup s a1 a2 a3) := by
  unfold State.cutGroup
  extract_lets x0
  have hx0 : ∀ a0 t, Only 1073807746 s t → Only 1073807746 s (x0 a0 t) := by
    intro b0 t1 h2
    unfold x0
    split
    · extract_lets x6
      have hx6 : Only 1073807746 s x6.1 := (State.cutIn_only (p := x6) rfl).after rfl h2
      clear_value x6
      exact State.putGroup_only.after rfl hx6
    · exact h2
  clear_value x0
  exact Only.ite Only.refl (hx0 _ _ (hx0 _ _ Only.refl))

theorem State.cutFrame_only {s a1 a2 a3 a4 a5} : Only 1073807746 s (State.cutFrame s a1 a2 a3 a4 a5) := by
  unfold State.cutFrame
  extract_lets x0
  have hx0 : Only 1073807746 s x0 := State.inputFault_only.mono rfl
  clear_value x0
  exact Only.ite hx0 (State.cutGroup_only.after rfl (State.closeFrame_only.after rfl hx0))

theorem State.endRx_only {s a1} : Only 1073807746 s (State.endRx s a1) := by
  unfold State.endRx
  extract_lets x0 x1 x2
  have hx0 : Only 1073807746 s x0 := by
    unfold x0
    split
    · exact Only.refl
    · exact Only.ite (State.cutFrame_only.mono rfl) (State.closeFrame_only.mono rfl)
  clear_value x0
  have hx1 : Only 1073807746 s x1 := State.reportFaults_only.after rfl hx0
  clear_value x1 x2
  exact Only.ite Only.refl (State.setRf_only.after rfl (State.setSc_only.after rfl hx1))

theorem State.header_only {s a1 a2 a3} : Only 65666 s (State.header s a1 a2 a3) := by
  unfold State.header
  refine Only.ite ?_ Only.refl
  refine Only.forEach (fun i0 t1 h2 => ?_) (State.inc_only.mono rfl)
  exact State.inputFault_only.after rfl h2

theorem State.scFrameStart_only {s a1} : Only 3221428219 s (State.scFrameStart s a1) := by
  unfold State.scFrameStart
  extract_lets x0 x1 x2 x3
  have hx0 : Only 3221428219 s x0 := State.endRx_only.mono rfl
  clear_value x0 x1
  have hx2 : Only 3221428219 s x2 := by
    unfold x2
    refine Only.forEach (fun i4 t5 h6 => ?_) hx0
    exact State.domFrameStart_only.after rfl h6
  clear_value x2 x3
  split
  · rename_i y7 y8 y9 y10 y11 y12
    have hy11 : Only 3221428219 s y11 := (State.groupStart_only y12).after rfl hx2
    extract_lets x13 x14 x15 x16 x17
    clear_value x13 x14 x15 x16
    have hx17 : Only 3221428219 s x17 := Only.ite (State.setRf_only.after rfl hy11) hy11
    clear_value x17
    exact State.setRf_only.after rfl (State.setSc_only.after rfl hx17)

theorem execFrameStart_only {a0 a1 a2 s} : Ends 3221428219 s (execFrameStart a0 a1 a2 s) := by
  unfold execFrameStart
  refine Ends.next ?_
  extract_lets x0 x1
  have hx0 : Only 3221428219 s x0 := State.hear_only.mono rfl
  clear_value x0 x1
  refine Only.ite ?_ Only.refl
  refine State.header_only.after rfl ?_
  refine Only.forEach (fun i2 t3 h4 => ?_) hx0
  exact State.scFrameStart_only.after rfl h4

theorem execFrameEndPacket_only {a0 a1 a2 s} : Ends 1073807746 s (execFrameEndPacket a0 a1 a2 s) := by
  unfold execFrameEndPacket
  refine Ends.next ?_
  extract_lets x0 x1
  have hx0 : Only 1073807746 s x0 := State.hear_only.mono rfl
  clear_value x0 x1
  refine Only.ite ?_ Only.refl
  refine Only.forEach (fun i2 t3 h4 => ?_) (State.header_only.after rfl hx0)
  exact State.endRx_only.after rfl h4

theorem State.rowIn_only {s a1 a2 a3 a4 a5} : Only 1073807746 s (State.rowIn s a1 a2 a3 a4 a5) := by
  unfold State.rowIn
  extract_lets x0 x1 x2 x3
  clear_value x0 x1 x2
  have hx3 : Only 1073807746 s x3 := State.setSc_only.mono rfl
  clear_value x3
  refine Only.ite Only.refl ?_
  exact Only.ite (State.cutFrame_only.mono rfl) (State.setStat_only.after rfl (State.setStat_only.after rfl (State.setStat_only.after rfl hx3)))

theorem State.rowHeard_only {s a1 a2} : Only 3221428219 s (State.rowHeard s a1 a2) := by
  unfold State.rowHeard
  extract_lets x0 x1 x2 x3 x4 x5 x6 x7
  clear_value x0 x1
  have hx2 : Only 3221428219 s x2 := State.setSc_only.mono rfl
  clear_value x2
  have hx3 : Only 3221428219 s x3 := by
    unfold x3
    refine Only.ite hx2 ?_
    refine Only.forEach (fun i8 t9 h10 => ?_) hx2
    exact State.domLine_only.after rfl h10
  clear_value x3 x4
  have hx5 : Only 3221428219 s x5 := Only.ite (State.inputFault_only.after rfl hx3) hx3
  clear_value x5
  have hx6 : Only 3221428219 s x6 := Only.ite (State.inputFault_only.after rfl hx5) hx5
  clear_value x6
  have hx7 : Only 3221428219 s x7 := Only.ite (State.inc_only.after rfl hx6) hx6
  clear_value x7
  split
  · exact State.rowIn_only.after rfl hx7
  · exact hx7

theorem execCountedLine_only {a0 s} : Ends 3221428219 s (execCountedLine a0 s) := by
  unfold execCountedLine
  refine Ends.next ?_
  extract_lets x0
  have hx0 : Only 3221428219 s x0 := State.hear_only.mono rfl
  clear_value x0
  refine Only.ite ?_ Only.refl
  split
  · exact State.rowHeard_only.after rfl (State.header_only.after rfl hx0)
  · exact State.inc_only.after rfl (State.header_only.after rfl hx0)

theorem execEmbeddedDataPacket_only {a0 a1 a2 a3 a4 s} : Ends 65666 s (execEmbeddedDataPacket a0 a1 a2 a3 a4 s) := by
  unfold execEmbeddedDataPacket
  refine Ends.next ?_
  extract_lets x0 x1 x2
  have hx0 : Only 65666 s x0 := State.hear_only.mono rfl
  clear_value x0 x1
  have hx2 : Only 65666 s x2 := State.header_only.after rfl hx0
  clear_value x2
  refine Only.ite ?_ Only.refl
  refine Only.ite (State.inc_only.after rfl hx2) ?_
  refine Only.forEach (fun i3 t4 h5 => ?_) hx2
  extract_lets x6 x7
  have hx6 : Only 65666 s x6 := Only.ite (State.inputFault_only.after rfl h5) h5
  clear_value x6 x7
  split
  · exact Only.ite hx6 (State.setSc_only.after rfl hx6)
  · exact hx6

theorem execGenericShortPacket_only {a0 a1 a2 a3 s} : Ends 1073807490 s (execGenericShortPacket a0 a1 a2 a3 s) := by
  unfold execGenericShortPacket
  refine Ends.next ?_
  extract_lets x0
  have hx0 : Only 1073807490 s x0 := State.header_only.after rfl (State.hear_only.mono rfl)
  clear_value x0
  exact Only.ite (Only.ite (State.setStat_only.after rfl hx0) hx0) Only.refl

theorem execUnmatchedPacket_only {a0 a1 a2 a3 s} : Ends 65666 s (execUnmatchedPacket a0 a1 a2 a3 s) := by
  unfold execUnmatchedPacket
  refine Ends.next ?_
  extract_lets x0 x1
  clear_value x0 x1
  exact Only.ite (State.inc_only.after rfl (State.header_only.after rfl (State.hear_only.mono rfl))) Only.refl

theorem execUncorrectableHeader_only {a0 s} : Ends 1073807746 s (execUncorrectableHeader a0 s) := by
  unfold execUncorrectableHeader
  refine Ends.next ?_
  refine Only.ite ?_ Only.refl
  refine Only.forEach (fun i0 t1 h2 => ?_) Only.refl
  split
  · exact State.cutFrame_only.after rfl h2
  · exact State.inputFault_only.after rfl h2

theorem execDeskewCalibration_only {a0 a1 a2 s} : Ends 2 s (execDeskewCalibration a0 a1 a2 s) := by
  unfold execDeskewCalibration
  refine Ends.next ?_
  refine Only.ite ?_ Only.refl
  exact Only.ite (State.setRf_only.after rfl (State.setRf_only.mono rfl)) (State.setRf_only.mono rfl)

theorem execUlpsEntryExit_only {a0 a1 a2 s} : Ends 65538 s (execUlpsEntryExit a0 a1 a2 s) := by
  unfold execUlpsEntryExit
  refine Ends.next ?_
  extract_lets x0 x1
  clear_value x0
  have hx1 : Only 65538 s x1 := Only.upd_sfe Only.refl rfl
  clear_value x1
  exact Only.ite (Only.ite (State.setRf_only.after rfl hx1) hx1) Only.refl

theorem State.burst_only {s a1} : Only 1610736002 s (State.burst s a1) := by
  unfold State.burst
  split
  · exact Only.refl
  · split
    · exact Only.refl
    · extract_lets x12 x13 x14 x15 x16 x17
      clear_value x12 x13 x14 x15 x17
      split
      · rename_i y18 y19 y20 y21
        have hy20 : Only 1610736002 s y20 := by
          refine Only.eq2 y21 ?_
          split
          · exact Only.snd (Only.refl)
          · split
            · rename_i y27 y28 y29 y30
              have hy29 : Only 1610736002 s y29 := (State.alloc_only y30).mono rfl
              exact Only.snd (hy29)
            · rename_i y31 y32 y33
              have hy32 : Only 1610736002 s y32 := (State.alloc_only y33).mono rfl
              exact Only.snd (hy32)
        split
        · exact hy20
        · extract_lets x37 x38 x39 x40 x41 x42 x43 x44 x45 x46 x47 x48 x49
          clear_value x37 x38 x39 x40 x41
          have hx42 : Only 1610736002 s x42 := State.unitWrite_only.after rfl hy20
          clear_value x42 x43 x44 x45
          have hx46 : Only 1610736002 s x46 := by
            unfold x46
            split
            · exact State.emitStripe_only.after rfl hx42
            · exact hx42
          clear_value x46 x47 x48
          have hx49 : Only 1610736002 s x49 := by
            unfold x49
            exact Only.ite (State.setSc_only.after rfl (State.emitStripe_only.after rfl hx46)) (Only.ite (State.setSc_only.after rfl hx46)
              (State.setSc_only.after rfl hx46))
          clear_value x49
          exact Only.ite (State.setSc_only.after rfl hx42) (State.settleSc_only.after rfl hx49)

theorem execConditioningBurst_only {s} : Ends 1610736002 s (execConditioningBurst s) := by
  unfold execConditioningBurst
  refine Ends.next ?_
  split
  · exact State.burst_only.mono rfl
  · exact Only.refl

theorem State.stripePushCmd_only {s a1} : Only 2147549568 s (State.stripePushCmd s a1) := by
  unfold State.stripePushCmd
  extract_lets x0
  clear_value x0
  split
  · exact Only.refl
  · extract_lets x7
    clear_value x7
    refine Only.ite Only.refl ?_
    split
    · rename_i y8 y9 y10
      have hy9 : Only 2147549568 s y9 := (State.push_only y10).mono rfl
      exact State.setSc_only.after rfl hy9
    · rename_i y11 y12 y13
      have hy12 : Only 2147549568 s y12 := (State.push_only y13).mono rfl
      exact State.waitPush_only.after rfl hy12
    · rename_i y14 y15 y16
      have hy15 : Only 2147549568 s y15 := (State.push_only y16).mono rfl
      exact hy15
    · rename_i y17 y18 y19
      have hy18 : Only 2147549568 s y18 := (State.push_only y19).mono rfl
      exact State.raiseC_only.after rfl (State.setSc_only.after rfl hy18)

theorem execStripePush_only {a0 s} : Ends 2147549568 s (execStripePush a0 s) := by
  unfold execStripePush
  refine Ends.next ?_
  exact Only.ite (State.stripePushCmd_only.mono rfl) Only.refl

theorem State.statsPushed_only {g i : Nat} {x : SfeCtx} {it : SfeStat} {r : Pushed × State} {s : State}
    (hm : Only.sub 65920 g = true) (h : Only g s r.2) : Only g s (State.statsPushed i x it r) := by
  obtain ⟨c, t⟩ := r
  have h : Only g s t := h
  cases c
  · exact State.setSc_only.after (Only.sub_trans (by rfl) hm) h
  · exact State.waitPush_only.after (Only.sub_trans (by rfl) hm) h
  · exact h
  · exact State.raiseC_only.after (Only.sub_trans (by rfl) hm) (State.setSc_only.after (Only.sub_trans (by rfl) hm) h)

theorem State.statsPushCmd_only {s a1} : Only 3758219650 s (State.statsPushCmd s a1) := by
  unfold State.statsPushCmd
  extract_lets x0
  clear_value x0
  split
  · exact Only.refl
  · refine Only.ite Only.refl ?_
    split
    · rename_i y7 y8 y9 y10
      have hy9 : Only 3758219650 s y9 := by
        refine Only.eq2 y10 ?_
        split
        · exact Only.snd (Only.refl)
        · split
          · rename_i y16 y17 y18 y19
            have hy18 : Only 3758219650 s y18 := (State.alloc_only y19).mono rfl
            exact Only.snd (State.unitWrite_only.after rfl hy18)
          · rename_i y20 y21 y22
            have hy21 : Only 3758219650 s y21 := (State.alloc_only y22).mono rfl
            exact Only.snd (hy21)
      split
      · exact hy9
      · extract_lets x26
        have hx26 : Only 3758219650 s x26 := State.setSc_only.after rfl hy9
        clear_value x26
        exact State.statsPushed_only rfl ((State.push_only rfl).after rfl hx26)

theorem execStatsPush_only {a0 s} : Ends 3758219650 s (execStatsPush a0 s) := by
  unfold execStatsPush
  refine Ends.next ?_
  exact Only.ite (State.statsPushCmd_only.mono rfl) Only.refl

theorem State.scOff_only {s a1} : Only 65922 s (State.scOff s a1) := by
  unfold State.scOff
  extract_lets x0 x1 x2 x3 x4
  have hx0 : Only 65922 s x0 := State.reportFaults_only.mono rfl
  clear_value x0 x1 x2
  have hx3 : Only 65922 s x3 := State.setSc_only.after rfl (State.releaseAll_only.after rfl hx0)
  clear_value x3
  have hx4 : Only 65922 s x4 := by
    unfold x4
    refine State.setRf_only.after rfl ?_
    refine Only.forEach (fun i5 t6 h7 => ?_) hx3
    exact State.unwait_only.after rfl h7
  clear_value x4
  split
  · split
    · extract_lets x14
      have hx14 : Only 65922 s x14.1 := (State.checkGate_only (p := x14) rfl).after rfl hx4
      clear_value x14
      exact State.setGrp_only.after rfl hx14
    · exact hx4
  · exact hx4

theorem State.scCtrlWrite_only {s a1 a2} : Only 65922 s (State.scCtrlWrite s a1 a2) := by
  unfold State.scCtrlWrite
  extract_lets x0 x1 x2 x3 x4 x5 x6 x7 x8 x9 x10 x11 x12 x13 x14
  clear_value x0 x1 x2
  have hx3 : Only 65922 s x3 := State.noteRsvd_only.mono rfl
  clear_value x3 x4 x5 x6 x7 x8 x9
  have hx10 : Only 65922 s x10 := State.setReg_only.after rfl hx3
  clear_value x10 x11
  have hx12 : Only 65922 s x12 := Only.ite (State.setRf_only.after rfl hx10) hx10
  clear_value x12
  have hx13 : Only 65922 s x13 := Only.ite (State.cfgErr_only.after rfl hx12) hx12
  clear_value x13 x14
  exact Only.ite (State.scOff_only.after rfl hx13) (Only.ite (State.setSc_only.after rfl hx13) hx13)

theorem execSfeCtxEnable_only {a0 a1 s} : Ends 65922 s (execSfeCtxEnable a0 a1 s) := by
  unfold execSfeCtxEnable
  refine Ends.next ?_
  exact Only.ite (State.scCtrlWrite_only.mono rfl) Only.refl

theorem State.scSrcWrite_only {s a1 a2} : Only 130 s (State.scSrcWrite s a1 a2) := by
  unfold State.scSrcWrite
  exact Only.ite (State.refuse_only.mono rfl) (State.putReg_only.mono rfl)

theorem State.scFmtWrite_only {s a1 a2} : Only 130 s (State.scFmtWrite s a1 a2) := by
  unfold State.scFmtWrite
  extract_lets x0 x1 x2 x3 x4 x5 x6 x7 x8 x9
  clear_value x0 x1 x2 x3 x4 x5 x6 x7 x8
  have hx9 : Only 130 s x9 := State.setReg_only.after rfl (State.noteRsvd_only.mono rfl)
  clear_value x9
  exact Only.ite (State.cfgErr_only.after rfl hx9) hx9

theorem State.phyCfgWrite_only {s a1 a2} : Only 130 s (State.phyCfgWrite s a1 a2) := by
  unfold State.phyCfgWrite
  extract_lets x0 x1 x2 x3 x4 x5 x6 x7 x8 x9
  clear_value x0 x1 x2 x3 x4 x5
  have hx6 : Only 130 s x6 := State.noteRsvd_only.mono rfl
  clear_value x6 x7 x8
  have hx9 : Only 130 s x9 := State.setReg_only.after rfl hx6
  clear_value x9
  refine Only.ite (State.refuse_only.mono rfl) ?_
  exact Only.ite (State.cfgErr_only.after rfl hx6) (Only.ite hx9 (State.cfgErr_only.after rfl hx9))

theorem State.laneMapWrite_only {s a1 a2} : Only 130 s (State.laneMapWrite s a1 a2) := by
  unfold State.laneMapWrite
  extract_lets x0 x1 x2 x3 x4 x5
  clear_value x0 x1 x2 x3 x4
  have hx5 : Only 130 s x5 := State.setReg_only.after rfl (State.noteRsvd_only.mono rfl)
  clear_value x5
  exact Only.ite (State.cfgErr_only.after rfl hx5) hx5

theorem State.scTabWrite_only {s a1 a2 a3} : Only 130 s (State.scTabWrite s a1 a2 a3) := by
  unfold State.scTabWrite
  extract_lets x0
  clear_value x0
  exact Only.ite (State.cfgErr_only.mono rfl) (State.setReg_only.mono rfl)

end Sys2Proof.Machine
end

