-- ==== Sys2Proof/Laws/OnlyFmt.lean ====
section
/-! SUPPORT. The footprints of the formatter and the detection post-processor (see `Only`): one lemma for each operation. -/

namespace Sys2Proof.Machine

open Sys2Proof

theorem State.setFsrc_only {s a1 a2} : Only 131072 s (State.setFsrc s a1 a2) := by
  unfold State.setFsrc
  exact Only.upd_fmt Only.refl rfl

theorem State.setFout_only {s a1 a2} : Only 131072 s (State.setFout s a1 a2) := by
  unfold State.setFout
  exact Only.upd_fmt Only.refl rfl

theorem State.putCells_only {s a1 a2 a3 a4} : Only 1610670210 s (State.putCells s a1 a2 a3 a4) := by
  unfold State.putCells
  refine Only.foldl (fun t1 i0 h2 => ?_) Only.refl
  exact State.unitWrite_only.after rfl h2

theorem State.fmtSkipFrame_only {s a1 a2 a3} : Only 130 s (State.fmtSkipFrame s a1 a2 a3) := by
  unfold State.fmtSkipFrame
  exact State.raise_only.after rfl (State.inc_only.mono rfl)

theorem State.emitRows_only {s a1 a2 a3 a4 a5 a6 a7} : Only 1610801282 s (State.emitRows s a1 a2 a3 a4 a5 a6 a7) := by
  induction a7 generalizing s a1 a2 a3 a4 a5 a6 with
  | zero =>
    unfold State.emitRows
    exact Only.refl
  | succ n ih =>
    unfold State.emitRows
    extract_lets x0 x1 x2 x3 x4 x5
    clear_value x0 x1 x2
    have hx3 : Only 1610801282 s x3 := State.putCells_only.mono rfl
    clear_value x3 x4
    have hx5 : Only 1610801282 s x5 := State.setFout_only.after rfl hx3
    clear_value x5
    exact Only.ite Only.refl (Only.ite (Only.after (ih ..) rfl hx5) Only.refl)

theorem State.feedRows_only {s a1 a2} : Only 1610801282 s (State.feedRows s a1 a2) := by
  unfold State.feedRows
  split
  · exact Only.refl
  · extract_lets x3 x4 x5 x6 x7 x8
    clear_value x3 x4 x5
    have hx6 : Only 1610801282 s x6 := by
      unfold x6
      refine Only.forEach (fun i9 t10 h11 => ?_) Only.refl
      extract_lets x12 x13
      clear_value x12 x13
      refine Only.ite ?_ h11
      split
      · exact State.emitRows_only.after rfl h11
      · exact h11
    clear_value x6 x7
    have hx8 : Only 1610801282 s x8 := State.setFsrc_only.after rfl hx6
    clear_value x8
    exact State.setRf_only.after rfl hx8

theorem State.fillGap_only {s a1 a2} : Only 1610801282 s (State.fillGap s a1 a2) := by
  unfold State.fillGap
  extract_lets x0
  clear_value x0
  exact Only.ite (State.feedRows_only.after rfl (State.setFsrc_only.mono rfl)) Only.refl

theorem State.fmtComplete_only {s a1 a2} : Only 131202 s (State.fmtComplete s a1 a2) := by
  unfold State.fmtComplete
  extract_lets x0 x1 x2 x3 x4 x5
  clear_value x0 x1 x2 x3 x4 x5
  split
  · exact State.setFout_only.mono rfl
  · extract_lets x11 x12
    have hx11 : Only 131202 s x11 := State.setFout_only.mono rfl
    clear_value x11
    have hx12 : Only 131202 s x12 := State.setReg_only.after rfl hx11
    clear_value x12
    exact Only.ite hx12 (State.raise_only.after rfl hx12)

theorem State.fmtEndFrame_only {s a1} : Only 1610801282 s (State.fmtEndFrame s a1) := by
  unfold State.fmtEndFrame
  extract_lets x0 x1 x2 x3 x4
  clear_value x0 x1
  have hx2 : Only 1610801282 s x2 := Only.ite (State.fillGap_only.after rfl (State.setFsrc_only.mono rfl)) Only.refl
  clear_value x2
  have hx3 : Only 1610801282 s x3 := by
    unfold x3
    refine Only.forEach (fun i5 t6 h7 => ?_) hx2
    exact Only.ite (State.fmtComplete_only.after rfl h7) h7
  clear_value x3 x4
  exact State.setRf_only.after rfl (State.setFsrc_only.after rfl hx3)

theorem State.fmtBegin_only {s a1 a2 a3} : Only 1610801538 s (State.fmtBegin s a1 a2 a3) := by
  unfold State.fmtBegin
  extract_lets x0 x1 x2 x3 x4 x5 x6 x7
  clear_value x0 x1 x2 x3 x4 x5 x6 x7
  refine Only.ite Only.refl ?_
  refine Only.ite Only.refl ?_
  refine Only.ite (State.fmtSkipFrame_only.mono rfl) ?_
  refine Only.ite (State.fmtSkipFrame_only.mono rfl) ?_
  refine Only.ite (State.setFout_only.mono rfl) ?_
  refine Only.ite (State.raise_only.after rfl (State.setFout_only.mono rfl)) ?_
  split
  · rename_i y8 y9 y10 y11
    have hy10 : Only 1610801538 s y10 := (State.alloc_only y11).mono rfl
    exact State.putCells_only.after rfl (State.setFout_only.after rfl hy10)
  · rename_i y12 y13 y14
    have hy13 : Only 1610801538 s y13 := (State.alloc_only y14).mono rfl
    exact State.fmtSkipFrame_only.after rfl hy13

theorem State.readRows_only {s a1 a2 a3 a4 a5 p} (e : State.readRows s a1 a2 a3 a4 a5 = p) : Only 10200547458 s p.2 := by
  subst e
  induction a5 generalizing s a1 a2 a3 a4 with
  | zero =>
    unfold State.readRows
    exact Only.snd (Only.refl)
  | succ n ih =>
    unfold State.readRows
    extract_lets x0 x1 x2 x3 x4 x5 x6 x7 x8
    clear_value x0 x1 x2
    have hx3 : Only 10200547458 s x3.2 := (State.unitRead_only (p := x3) rfl).mono rfl
    clear_value x3 x4
    have hx5 : Only 10200547458 s x5 := hx3
    clear_value x5
    have hx6 : Only 10200547458 s x6.2 := Only.after (ih ..) rfl hx5
    clear_value x6 x7
    have hx8 : Only 10200547458 s x8 := hx6
    clear_value x8
    exact Only.snd (hx8)

theorem State.fmtOpen_only {s a1 a2} : Only 1610801538 s (State.fmtOpen s a1 a2) := by
  unfold State.fmtOpen
  extract_lets x0 x1 x2 x3 x4
  clear_value x0 x1
  have hx2 : Only 1610801538 s x2 := State.setFsrc_only.mono rfl
  clear_value x2
  have hx3 : Only 1610801538 s x3 := State.setReg_only.after rfl hx2
  clear_value x3
  have hx4 : Only 1610801538 s x4 := State.setRf_only.after rfl hx3
  clear_value x4
  refine Only.forEach (fun i5 t6 h7 => ?_) hx4
  exact State.fmtBegin_only.after rfl h7

theorem State.fmtJoin_only {s a1 a2} : Only 131072 s (State.fmtJoin s a1 a2) := by
  unfold State.fmtJoin
  extract_lets x0
  clear_value x0
  exact State.setFsrc_only.mono rfl

theorem State.fmtItemRows_only {s a1 a2 a3} : Only 10200735874 s (State.fmtItemRows s a1 a2 a3) := by
  unfold State.fmtItemRows
  extract_lets x0 x1 x2 x3 x4 x5
  clear_value x0 x1 x2
  have hx3 : Only 10200735874 s x3 := State.fillGap_only.mono rfl
  clear_value x3 x4
  have hx5 : Only 10200735874 s x5.2 := (State.readRows_only (p := x5) rfl).after rfl hx3
  clear_value x5
  refine Only.ite (State.raiseC_only.mono rfl) ?_
  refine Only.ite Only.refl ?_
  refine Only.ite Only.refl ?_
  exact Only.ite (State.feedRows_only.after rfl (State.setFsrc_only.after rfl hx3)) (State.feedRows_only.after rfl hx5)

theorem State.fmtTake_only {s a1 a2} : Only 10200736130 s (State.fmtTake s a1 a2) := by
  unfold State.fmtTake
  extract_lets x0 x1 x2 x3 x4
  have hx0 : Only 10200736130 s x0 := Only.ite (State.fmtEndFrame_only.mono rfl) Only.refl
  clear_value x0 x1
  have hx2 : Only 10200736130 s x2 := Only.ite (State.fmtOpen_only.after rfl hx0) (State.fmtJoin_only.after rfl hx0)
  clear_value x2
  have hx3 : Only 10200736130 s x3 := State.fmtItemRows_only.after rfl hx2
  clear_value x3
  have hx4 : Only 10200736130 s x4 := State.dropItem_only.after rfl hx3
  clear_value x4
  exact Only.ite (State.fmtEndFrame_only.after rfl hx4) hx4

theorem execFmtSourcePop_only {a0 s} : Ends 10200736130 s (execFmtSourcePop a0 s) := by
  unfold execFmtSourcePop
  refine Ends.next ?_
  refine Only.ite ?_ Only.refl
  split
  · rename_i y0 y1 y2 y3
    have hy2 : Only 10200736130 s y2 := (State.unitPop_only y3).mono rfl
    exact State.fmtTake_only.after rfl hy2
  · rename_i y4 y5 y6
    have hy5 : Only 10200736130 s y5 := (State.unitPop_only y6).mono rfl
    exact hy5

theorem State.fmtPush_only {s a1} : Only 3221356802 s (State.fmtPush s a1) := by
  unfold State.fmtPush
  extract_lets x0 x1
  clear_value x0 x1
  split
  · exact Only.refl
  · split
    · rename_i y7 y8 y9
      have hy8 : Only 3221356802 s y8 := (State.push_only y9).mono rfl
      extract_lets x10
      have hx10 : Only 3221356802 s x10 := State.incWrap_only.after rfl (State.setFout_only.after rfl hy8)
      clear_value x10
      exact Only.ite (State.setStat_only.after rfl hx10) hx10
    · rename_i y11 y12 y13
      have hy12 : Only 3221356802 s y12 := (State.push_only y13).mono rfl
      exact State.waitPush_only.after rfl hy12
    · rename_i y14 y15 y16 y17 y18 y19
      have hy16 : Only 3221356802 s y16 := (State.push_only y19).mono rfl
      exact hy16

theorem execFmtStreamPush_only {a0 s} : Ends 3221356802 s (execFmtStreamPush a0 s) := by
  unfold execFmtStreamPush
  refine Ends.next ?_
  exact Only.ite (State.fmtPush_only.mono rfl) Only.refl

theorem execFmtDeadline_only {a0 s} : Ends 1073873024 s (execFmtDeadline a0 s) := by
  unfold execFmtDeadline
  refine Ends.next ?_
  extract_lets x0
  clear_value x0
  split
  · extract_lets x9
    have hx9 : Only 1073873024 s x9 := State.setFout_only.mono rfl
    clear_value x9
    exact Only.ite (State.raise_only.after rfl (State.setStat_only.after rfl hx9)) Only.refl
  · exact Only.refl

theorem State.fmtSrcOff_only {s a1} : Only 131330 s (State.fmtSrcOff s a1) := by
  unfold State.fmtSrcOff
  extract_lets x0 x1
  have hx0 : Only 131330 s x0 := by
    unfold x0
    refine Only.forEach (fun i2 t3 h4 => ?_) Only.refl
    extract_lets x5
    clear_value x5
    exact Only.ite (State.setFout_only.after rfl (State.giveBack_only.after rfl h4)) h4
  clear_value x0
  have hx1 : Only 131330 s x1 := State.setRf_only.after rfl (State.setFsrc_only.after rfl hx0)
  clear_value x1
  exact State.unwait_only.after rfl hx1

theorem State.fmtSrcWrite_only {s a1 a2} : Only 131458 s (State.fmtSrcWrite s a1 a2) := by
  unfold State.fmtSrcWrite
  extract_lets x0 x1 x2 x3
  clear_value x0 x1
  have hx2 : Only 131458 s x2 := State.putReg_only.mono rfl
  clear_value x2
  have hx3 : Only 131458 s x3 := by
    unfold x3
    exact Only.ite (State.cfgErr_only.after rfl (State.setRf_only.after rfl hx2)) (Only.ite (State.putReg_only.after rfl
      (State.fmtSrcOff_only.mono rfl)) hx2)
  clear_value x3
  exact State.setReg_only.after rfl hx3

theorem execFmtSourceEnable_only {a0 a1 s} : Ends 131458 s (execFmtSourceEnable a0 a1 s) := by
  unfold execFmtSourceEnable
  refine Ends.next ?_
  exact Only.ite (State.fmtSrcWrite_only.mono rfl) Only.refl

theorem execFmtSourceDisable_only {a0 a1 s} : Ends 131458 s (execFmtSourceDisable a0 a1 s) := by
  unfold execFmtSourceDisable
  refine Ends.next ?_
  exact Only.ite (State.fmtSrcWrite_only.mono rfl) Only.refl

theorem State.fmtOsOff_only {s a1} : Only 3221356802 s (State.fmtOsOff s a1) := by
  unfold State.fmtOsOff
  extract_lets x0 x1
  have hx0 : Only 3221356802 s x0 := State.fmtPush_only.mono rfl
  clear_value x0 x1
  exact State.setFout_only.after rfl (State.giveBack_only.after rfl hx0)

theorem State.fmtOsWrite_only {s a1 a2} : Only 3221356930 s (State.fmtOsWrite s a1 a2) := by
  unfold State.fmtOsWrite
  extract_lets x0 x1 x2 x3 x4 x5 x6 x7 x8 x9 x10 x11 x12 x13 x14
  clear_value x0 x1 x2 x3 x4
  have hx5 : Only 3221356930 s x5 := State.noteRsvd_only.mono rfl
  clear_value x5 x6 x7 x8 x9 x10
  have hx11 : Only 3221356930 s x11 := Only.ite (State.fmtOsOff_only.after rfl hx5) hx5
  clear_value x11
  have hx12 : Only 3221356930 s x12 := State.setReg_only.after rfl hx11
  clear_value x12 x13
  have hx14 : Only 3221356930 s x14 := Only.ite (State.setRf_only.after rfl hx12) hx12
  clear_value x14
  exact Only.ite (State.cfgErr_only.after rfl hx14) hx14

theorem execFmtStreamEnable_only {a0 a1 s} : Ends 3221356930 s (execFmtStreamEnable a0 a1 s) := by
  unfold execFmtStreamEnable
  refine Ends.next ?_
  exact Only.ite (State.fmtOsWrite_only.mono rfl) Only.refl

theorem execFmtStreamDisable_only {a0 a1 s} : Ends 3221356930 s (execFmtStreamDisable a0 a1 s) := by
  unfold execFmtStreamDisable
  refine Ends.next ?_
  exact Only.ite (State.fmtOsWrite_only.mono rfl) Only.refl

theorem State.fmtCoefPut_only {s a1 a2 a3} : Only 130 s (State.fmtCoefPut s a1 a2 a3) := by
  unfold State.fmtCoefPut
  extract_lets x0
  clear_value x0
  exact Only.ite (State.cfgErr_only.mono rfl) (State.setReg_only.mono rfl)

theorem execFmtCoefWrite_only {a0 a1 a2 s} : Ends 130 s (execFmtCoefWrite a0 a1 a2 s) := by
  unfold execFmtCoefWrite
  refine Ends.next ?_
  exact Only.ite (State.fmtCoefPut_only.mono rfl) Only.refl

theorem State.fmtDestWrite_only {s a1 a2} : Only 130 s (State.fmtDestWrite s a1 a2) := by
  unfold State.fmtDestWrite
  exact Only.ite (State.refuse_only.mono rfl) (State.putReg_only.mono rfl)

theorem State.readCands_only {s a1 a2 a3 a4 a5 a6 p} (e : State.readCands s a1 a2 a3 a4 a5 a6 = p) : Only 10200547458 s p.2.2 := by
  subst e
  induction a5 generalizing s a1 a2 a3 a4 a6 with
  | nil =>
    unfold State.readCands
    exact Only.snd2 (Only.snd (Only.refl))
  | cons x l ih =>
    unfold State.readCands
    extract_lets x0 x1
    clear_value x0 x1
    split
    · rename_i y2 y3 y4 y5
      have hy4 : Only 10200547458 s y4 := by
        refine Only.eq2 y5 ?_
        refine Only.foldl2 (fun t7 i6 h8 => ?_) Only.refl
        split
        · extract_lets x14 x15 x16 x17
          have hx14 : Only 10200547458 s x14.2 := (State.unitRead_only (p := x14) rfl).after rfl h8
          clear_value x14 x15
          have hx16 : Only 10200547458 s x16 := hx14
          clear_value x16 x17
          exact Only.snd (hx16)
      extract_lets x18 x19 x20 x21
      have hx18 : Only 10200547458 s x18.2.2 := Only.after (ih ..) rfl hy4
      clear_value x18 x19 x20
      have hx21 : Only 10200547458 s x21 := hx18
      clear_value x21
      exact Only.snd2 (Only.snd (hx21))

theorem State.writeMap_only {s a1 a2 a3 a4} : Only 1610670210 s (State.writeMap s a1 a2 a3 a4) := by
  unfold State.writeMap
  extract_lets x0 x1 x2 x3 x4
  clear_value x0 x1 x2 x3 x4
  refine Only.forEach (fun i5 t6 h7 => ?_) Only.refl
  exact State.unitWrite_only.after rfl h7

theorem State.jobDone_only {s a1 a2 a3 a4} : Only 262402 s (State.jobDone s a1 a2 a3 a4) := by
  unfold State.jobDone
  extract_lets x0 x1 x2 x3 x4 x5 x6 x7
  clear_value x0 x1 x2 x3
  have hx4 : Only 262402 s x4 := Only.ite (State.dropItem_only.mono rfl) Only.refl
  clear_value x4 x5 x6
  have hx7 : Only 262402 s x7 := State.setDslot_only.after rfl hx4
  clear_value x7
  exact State.setRf_only.after rfl hx7

theorem State.jobRun_only {s a1 p} (e : State.jobRun s a1 = p) : Only 10200604802 s p.1 := by
  subst e
  unfold State.jobRun
  extract_lets x0 x1 x2 x3 x4 x5 x6 x7 x8 x9 x10 x11 x12 x13 x14 x15 x16 x17 x18 x19 x20 x21 x22 x23 x24
  clear_value x0 x1 x2
  have hx3 : Only 10200604802 s x3.2 := (State.unitRead_only (p := x3) rfl).mono rfl
  clear_value x3 x4
  have hx5 : Only 10200604802 s x5 := hx3
  clear_value x5 x6
  have hx7 : Only 10200604802 s x7.2 := (State.unitRead_only (p := x7) rfl).after rfl hx5
  clear_value x7 x8
  have hx9 : Only 10200604802 s x9 := hx7
  clear_value x9 x10 x11 x12 x13 x14 x15 x16 x17 x18 x19 x20 x21 x22 x23 x24
  split
  · rename_i y25 y26 y27 y28 y29
    have hy28 : Only 10200604802 s y28 := by
      refine Only.eq22 y29 ?_
      refine Only.foldl22 (fun t31 i30 h32 => ?_) hx9
      extract_lets x33 x34 x35 x36 x37
      clear_value x33
      have hx34 : Only 10200604802 s x34.2 := (State.unitRead_only (p := x34) rfl).after rfl h32
      clear_value x34 x35
      have hx36 : Only 10200604802 s x36 := hx34
      clear_value x36 x37
      split
      · exact Only.snd2 (Only.snd (hx36))
      · exact Only.snd2 (Only.snd (h32))
    extract_lets x40 x41 x42 x43 x44 x45 x46 x47 x48 x49 x50 x51 x52 x53 x54 x55 x56 x57 x58 x59 x60 x61 x62 x63 x64 x65 x66 x67
    clear_value x40 x41 x42 x43 x44 x45 x46
    have hx47 : Only 10200604802 s x47 := State.unitWrite_only.after rfl hy28
    clear_value x47
    have hx48 : Only 10200604802 s x48 := Only.ite (State.writeMap_only.after rfl hx47) hx47
    clear_value x48
    have hx49 : Only 10200604802 s x49 := State.unitWrite_only.after rfl hy28
    clear_value x49 x50
    have hx51 : Only 10200604802 s x51.2.2 := (State.readCands_only (p := x51) rfl).after rfl hy28
    clear_value x51 x52 x53
    have hx54 : Only 10200604802 s x54 := hx51
    clear_value x54 x55 x56 x57 x58 x59 x60 x61 x62 x63 x64
    have hx65 : Only 10200604802 s x65 := State.unitWrite_only.after rfl hx54
    clear_value x65
    have hx66 : Only 10200604802 s x66 := Only.ite (State.writeMap_only.after rfl hx65) hx65
    clear_value x66 x67
    split
    · exact Only.fst (State.raise_only.after rfl hx48)
    · split
      · exact Only.fst (Only.ite (State.writeMap_only.after rfl hx49) hx49)
      · exact Only.fst (State.incWrap_only.after rfl hx66)

theorem State.runJob_only {s a1} : Only 10200867202 s (State.runJob s a1) := by
  unfold State.runJob
  extract_lets x0
  have hx0 : Only 10200867202 s x0.1 := (State.jobRun_only (p := x0) rfl).mono rfl
  clear_value x0
  exact State.jobDone_only.after rfl hx0

theorem execDppJobStart_only {s} : Ends 10200867202 s (execDppJobStart s) := by
  unfold execDppJobStart
  refine Ends.next ?_
  refine Only.ite Only.refl ?_
  split
  · exact State.runJob_only.mono rfl
  · exact Only.refl

theorem State.slotEnd_only {s a1 a2 a3} : Only 2 s (State.slotEnd s a1 a2 a3) := by
  unfold State.slotEnd
  exact State.setReg_only.mono rfl

theorem execDppJobComplete_only {s} : Ends 263682 s (execDppJobComplete s) := by
  unfold execDppJobComplete
  refine Ends.next ?_
  split
  · extract_lets x3 x4
    clear_value x3
    have hx4 : Only 263682 s x4 := State.slotEnd_only.after rfl (State.incWrap_only.mono rfl)
    clear_value x4
    exact Only.ite (State.setDslot_only.after rfl hx4) (State.detWake_only.after rfl (State.setDslot_only.after rfl hx4))
  · exact Only.refl

theorem State.dppSent_only {g i q : Nat} {it : Item} {f : State → State} {r : Pushed × State} {s : State}
    (hm : Only.sub 384 g = true) (hf : ∀ u, Only g s u → Only g s (f u)) (h : Only g s r.2) :
    Only g s (State.dppSent i q it f r) := by
  obtain ⟨c, t⟩ := r
  have h : Only g s t := h
  cases c
  · exact hf _ h
  · exact State.waitPush_only.after (Only.sub_trans (by rfl) hm) h
  · exact h
  · exact hf _ (State.raiseC_only.after (Only.sub_trans (by rfl) hm) h)

theorem State.dppSend_only {g i q : Nat} {b : Option (Nat × Nat)} {it : Item} {f : State → State} {s t : State}
    (hm : Only.sub 2147484032 g = true) (hf : ∀ u, Only g s u → Only g s (f u)) (h : Only g s t) :
    Only g s (t.dppSend i q b it f) := by
  cases b with
  | none => exact hf _ h
  | some p => exact State.dppSent_only (Only.sub_trans (by rfl) hm) hf ((State.push_only rfl).after (Only.sub_trans (by rfl) hm) h)

theorem State.dppPush_only {s a1} : Only 2147746176 s (State.dppPush s a1) := by
  unfold State.dppPush
  extract_lets x0 x1 x2
  clear_value x0 x1
  have hx2 : ∀ t, Only 2147746176 s t → Only 2147746176 s (x2 t) := by
    intro t3 h4
    unfold x2
    exact State.setDslot_only.after rfl h4
  clear_value x2
  split
  · refine State.dppSend_only rfl (fun u7 hu8 => ?_) ?_
    · extract_lets x9
      clear_value x9
      refine Only.ite ?_ (State.setDslot_only.after rfl hu8)
      refine hx2 _ ?_
      exact hu8
    · exact Only.refl
  · refine State.dppSend_only rfl (fun u12 hu13 => ?_) ?_
    · refine hx2 _ ?_
      exact hu13
    · exact Only.refl
  · exact Only.refl

theorem execDppItemPush_only {a0 s} : Ends 2147746176 s (execDppItemPush a0 s) := by
  unfold execDppItemPush
  refine Ends.next ?_
  exact Only.ite (State.dppPush_only.mono rfl) Only.refl

theorem State.dppAbort_only {s a1} : Only 264066 s (State.dppAbort s a1) := by
  unfold State.dppAbort
  extract_lets x0 x1 x2 x3 x4
  clear_value x0
  have hx1 : Only 264066 s x1 := State.giveBack_only.after rfl (State.giveBack_only.mono rfl)
  clear_value x1
  have hx2 : Only 264066 s x2 := by
    unfold x2
    split
    · exact State.unwait_only.after rfl hx1
    · exact State.unwait_only.after rfl hx1
    · exact hx1
  clear_value x2
  have hx3 : Only 264066 s x3 := Only.ite (State.dropItem_only.after rfl hx2) hx2
  clear_value x3
  have hx4 : Only 264066 s x4 := State.setDslot_only.after rfl (State.slotEnd_only.after rfl hx3)
  clear_value x4
  exact Only.ite Only.refl (State.detWake_only.after rfl (State.raise_only.after rfl hx4))

theorem execDppSlotAbort_only {a0 s} : Ends 264066 s (execDppSlotAbort a0 s) := by
  unfold execDppSlotAbort
  refine Ends.next ?_
  exact Only.ite (State.dppAbort_only.mono rfl) Only.refl

theorem State.setDbind_only {s a1 a2} : Only 262144 s (State.setDbind s a1 a2) := by
  unfold State.setDbind
  exact Only.upd_dpp Only.refl rfl

theorem State.bindDrop_only {s a1} : Only 262400 s (State.bindDrop s a1) := by
  unfold State.bindDrop
  extract_lets x0
  clear_value x0
  exact State.unwait_only.after rfl (State.setDbind_only.after rfl (State.giveBack_only.after rfl (State.giveBack_only.mono rfl)))

theorem State.dppCtrlWrite_only {s a1} : Only 264066 s (State.dppCtrlWrite s a1) := by
  unfold State.dppCtrlWrite
  extract_lets x0 x1
  clear_value x0
  have hx1 : Only 264066 s x1 := State.putReg_only.mono rfl
  clear_value x1
  refine Only.ite ?_ hx1
  refine Only.forEach (fun i2 t3 h4 => ?_) ?_
  · exact State.bindDrop_only.after rfl h4
  · refine Only.forEach (fun i5 t6 h7 => ?_) hx1
    exact State.dppAbort_only.after rfl h7

theorem execDppDisable_only {s} : Ends 264066 s (execDppDisable s) := by
  unfold execDppDisable
  refine Ends.next ?_
  exact State.dppCtrlWrite_only.mono rfl

theorem State.dppSubmitWrite_only {s a1} : Only 262146 s (State.dppSubmitWrite s a1) := by
  unfold State.dppSubmitWrite
  extract_lets x0 x1 x2
  have hx0 : Only 262146 s x0.2 := (State.dppSubmitJob_only (p := x0) rfl).mono rfl
  clear_value x0 x1
  have hx2 : Only 262146 s x2 := hx0
  clear_value x2
  exact State.setReg_only.after rfl hx2

theorem execDppSubmit_only {a0 s} : Ends 262146 s (execDppSubmit a0 s) := by
  unfold execDppSubmit
  refine Ends.next ?_
  exact State.dppSubmitWrite_only.mono rfl

theorem State.bindBuf_only {s a1 a2 p} (e : State.bindBuf s a1 a2 = p) : Only 256 s p.2 := by
  subst e
  unfold State.bindBuf
  split
  · exact Only.snd (Only.refl)
  · split
    · rename_i y3 y4 y5 y6
      have hy5 : Only 256 s y5 := (State.alloc_only y6).mono rfl
      exact Only.snd (hy5)
    · rename_i y7 y8 y9
      have hy8 : Only 256 s y8 := (State.alloc_only y9).mono rfl
      exact Only.snd (hy8)

theorem State.bindPop_only {s a1} : Only 262530 s (State.bindPop s a1) := by
  unfold State.bindPop
  extract_lets x0 x1 x2 x3 x4 x5 x6 x7 x8 x9
  clear_value x0 x1 x2
  have hx3 : Only 262530 s x3.2 := (State.bindBuf_only (p := x3) rfl).mono rfl
  clear_value x3 x4
  have hx5 : Only 262530 s x5 := hx3
  clear_value x5
  have hx6 : Only 262530 s x6.2 := by
    unfold x6
    split
    · exact (State.bindBuf_only rfl).after rfl hx5
    · exact Only.snd (hx5)
  clear_value x6 x7
  have hx8 : Only 262530 s x8 := hx6
  clear_value x8
  have hx9 : Only 262530 s x9 := State.setDbind_only.after rfl hx8
  clear_value x9
  split
  · exact Only.refl
  · refine Only.ite hx9 ?_
    split
    · rename_i y17 y18 y19
      have hy18 : Only 262530 s y18 := (State.unitPop_only y19).after rfl hx9
      exact hy18
    · rename_i y20 y21 y22 y23
      have hy22 : Only 262530 s y22 := (State.unitPop_only y23).after rfl hx9
      exact Only.ite (State.raiseC_only.after rfl (State.bindDrop_only.after rfl hy22)) (State.takeDslot_only.after rfl
        (State.setDbind_only.after rfl hy22))

theorem execDppBindPop_only {a0 s} : Ends 262530 s (execDppBindPop a0 s) := by
  unfold execDppBindPop
  refine Ends.next ?_
  exact Only.ite (State.bindPop_only.mono rfl) Only.refl

theorem State.bindWrite_only {s a1 a2 a3} : Only 262530 s (State.bindWrite s a1 a2 a3) := by
  unfold State.bindWrite
  extract_lets x0 x1 x2 x3
  clear_value x0
  have hx1 : Only 262530 s x1 := State.noteRsvd_only.mono rfl
  clear_value x1 x2
  have hx3 : Only 262530 s x3 := State.setRf_only.after rfl (State.bindDrop_only.after rfl hx1)
  clear_value x3
  refine Only.ite (State.putReg_only.mono rfl) ?_
  exact Only.ite (Only.ite hx3 (State.cfgAt_only.after rfl hx3)) (Only.ite Only.refl (State.refuse_only.mono rfl))

end Sys2Proof.Machine
end

