-- ==== Sys2Proof/Laws/OnlyVenc.lean ====
section
/-! SUPPORT. The footprints of the video encoder (see `Only`): one lemma for each operation. -/

namespace Sys2Proof.Machine

open Sys2Proof

theorem State.setVsess_only {s a1 a2} : Only 524288 s (State.setVsess s a1 a2) := by
  unfold State.setVsess
  exact Only.upd_venc Only.refl rfl

theorem State.setVref_only {s a1 a2 a3} : Only 524290 s (State.setVref s a1 a2 a3) := by
  unfold State.setVref
  extract_lets x0 x1 x2
  clear_value x0
  have hx1 : Only 524290 s x1 := Only.upd_venc Only.refl rfl
  clear_value x1
  have hx2 : Only 524290 s x2 := State.setRf_only.after rfl hx1
  clear_value x2
  exact State.setRf_only.after rfl hx2

theorem State.setVcur_only {s a1 a2} : Only 524288 s (State.setVcur s a1 a2) := by
  unfold State.setVcur
  exact Only.upd_venc Only.refl rfl

theorem State.readSegs_only {s a1 a2 a3 p} (e : State.readSegs s a1 a2 a3 = p) : Only 10200547458 s p.2 := by
  subst e
  unfold State.readSegs
  refine Only.foldl2 (fun t1 i0 h2 => ?_) Only.refl
  split
  · rename_i y3 y4 y5 y6
    have hy5 : Only 10200547458 s y5 := (State.unitRead_only y6).after rfl h2
    exact Only.snd (hy5)

theorem State.writeSegs_only {s a1 a2 a3 a4} : Only 1610670210 s (State.writeSegs s a1 a2 a3 a4) := by
  unfold State.writeSegs
  refine Only.foldl2 (fun t1 i0 h2 => ?_) Only.refl
  exact Only.snd (State.unitWrite_only.after rfl h2)

theorem State.vRaise_only {s a1 a2 a3 a4} : Only 128 s (State.vRaise s a1 a2 a3 a4) := by
  unfold State.vRaise
  exact State.raiseC_only.mono rfl

theorem State.vTake_only {s a1 a2} : Only 524288 s (State.vTake s a1 a2) := by
  unfold State.vTake
  extract_lets x0 x1 x2
  clear_value x0
  have hx1 : Only 524288 s x1 := State.setVsess_only.mono rfl
  clear_value x1 x2
  exact Only.upd_venc hx1 rfl

theorem State.vPop_only {s a1 a2} : Only 524672 s (State.vPop s a1 a2) := by
  unfold State.vPop
  extract_lets x0
  clear_value x0
  split
  · rename_i y1 y2 y3
    have hy2 : Only 524672 s y2 := (State.unitPop_only y3).mono rfl
    exact hy2
  · rename_i y4 y5 y6 y7
    have hy6 : Only 524672 s y6 := (State.unitPop_only y7).mono rfl
    extract_lets x8 x9 x10 x11 x12 x13
    clear_value x8 x9 x10 x11 x12 x13
    refine Only.ite (State.raiseC_only.after rfl (State.dropItem_only.after rfl hy6)) ?_
    exact Only.ite (State.vRaise_only.after rfl (State.dropItem_only.after rfl hy6)) (State.vTake_only.after rfl hy6)

theorem execVencPicturePop_only {a0 a1 s} : Ends 524672 s (execVencPicturePop a0 a1 s) := by
  unfold execVencPicturePop
  extract_lets x0
  clear_value x0
  refine Ends.next ?_
  exact Only.ite (State.vPop_only.mono rfl) Only.refl

theorem State.vBegin_only {s a1 a2} : Only 524290 s (State.vBegin s a1 a2) := by
  unfold State.vBegin
  extract_lets x0
  have hx0 : Only 524290 s x0 := State.setVcur_only.mono rfl
  clear_value x0
  exact Only.ite (State.setRf_only.after rfl hx0) hx0

theorem State.vGo_only {s a1} : Only 524290 s (State.vGo s a1) := by
  unfold State.vGo
  extract_lets x0
  have hx0 : Only 524290 s x0 := State.setVcur_only.mono rfl
  clear_value x0
  split
  · exact Only.ite hx0 (State.vBegin_only.after rfl hx0)
  · exact hx0

theorem State.vFreeRefs_only {s a1 a2} : Only 524290 s (State.vFreeRefs s a1 a2) := by
  unfold State.vFreeRefs
  refine Only.forEach (fun i0 t1 h2 => ?_) Only.refl
  exact State.setVref_only.after rfl h2

theorem State.vMaps_only {s a1 a2 a3 a4} : Only 524672 s (State.vMaps s a1 a2 a3 a4) := by
  induction a4 generalizing s a1 a2 a3 with
  | zero =>
    unfold State.vMaps
    exact Only.refl
  | succ n ih =>
    unfold State.vMaps
    split
    · rename_i y0 y1 y2
      have hy1 : Only 524672 s y1 := (State.pop_only y2).mono rfl
      exact Only.refl
    · rename_i y3 y4 y5 y6
      have hy5 : Only 524672 s y5 := (State.pop_only y6).mono rfl
      extract_lets x7 x8 x9 x10 x11 x12
      clear_value x7 x8 x9 x10
      have hx11 : Only 524672 s x11 := State.dropItem_only.after rfl hy5
      clear_value x11
      have hx12 : Only 524672 s x12 := by
        unfold x12
        split
        · exact State.release_only.after rfl hy5
        · exact hy5
      clear_value x12
      refine Only.ite (Only.after (ih ..) rfl (State.raiseC_only.after rfl (State.dropItem_only.after rfl hy5))) ?_
      exact Only.ite (Only.after (ih ..) rfl (Only.ite hx11 (State.vRaise_only.after rfl hx11))) (Only.after (ih ..) rfl
        (State.setVsess_only.after rfl hx12))

theorem State.vEmit_only {s a1 a2 a3 a4 a5 p} (e : State.vEmit s a1 a2 a3 a4 a5 = p) : Only 1610670210 s p.2 := by
  subst e
  unfold State.vEmit
  extract_lets x0
  clear_value x0
  exact Only.snd (State.unitWrite_only.mono rfl)

theorem State.vFinish_only {s a1 a2 a3} : Only 1611194498 s (State.vFinish s a1 a2 a3) := by
  unfold State.vFinish
  extract_lets x0 x1 x2 x3 x4 x5
  clear_value x0 x1 x2
  have hx3 : Only 1611194498 s x3 := State.unitWrite_only.mono rfl
  clear_value x3
  have hx4 : Only 1611194498 s x4 := State.setReg_only.after rfl hx3
  clear_value x4
  have hx5 : Only 1611194498 s x5 := State.setStat_only.after rfl (State.setStat_only.after rfl (State.setStat_only.after rfl hx4))
  clear_value x5
  exact State.setVsess_only.after rfl hx5

theorem State.vLoad_only {s a1 a2} : Only 524672 s (State.vLoad s a1 a2) := by
  unfold State.vLoad
  extract_lets x0 x1 x2
  clear_value x0 x1
  have hx2 : Only 524672 s x2 := State.setVsess_only.mono rfl
  clear_value x2
  exact Only.ite (State.vMaps_only.after rfl hx2) hx2

theorem State.vClaim_only {s a1 a2 a3 a4 a5} : Only 524418 s (State.vClaim s a1 a2 a3 a4 a5) := by
  unfold State.vClaim
  split
  · exact State.setVref_only.mono rfl
  · exact Only.ite Only.refl (State.vRaise_only.mono rfl)

theorem State.vOpen_only {s a1 a2 a3 a4} : Only 1611194498 s (State.vOpen s a1 a2 a3 a4) := by
  unfold State.vOpen
  extract_lets x0 x1 x2 x3 x4 x5
  clear_value x0 x1
  have hx2 : Only 1611194498 s x2 := State.setVsess_only.mono rfl
  clear_value x2 x3
  have hx4 : Only 1611194498 s x4.2 := (State.vEmit_only (p := x4) rfl).after rfl hx2
  clear_value x4 x5
  exact State.vBegin_only.after rfl (State.setVsess_only.after rfl hx4)

theorem State.vStart_only {s a1 a2 a3 a4 a5 a6 a7} : Only 1611194754 s (State.vStart s a1 a2 a3 a4 a5 a6 a7) := by
  unfold State.vStart
  extract_lets x0 x1 x2 x3 x4 x5 x6 x7 x8 x9 x10
  clear_value x0
  have hx1 : Only 1611194754 s x1 := State.vLoad_only.mono rfl
  clear_value x1 x2 x3 x4 x5
  have hx6 : Only 1611194754 s x6 := Only.ite (State.vFreeRefs_only.after rfl hx1) hx1
  clear_value x6 x7 x8 x9 x10
  exact Only.ite (State.vFinish_only.after rfl hx1) (State.vOpen_only.after rfl (State.vClaim_only.after rfl hx6))

theorem State.vPicture_only {s a1 a2 a3} : Only 1611194754 s (State.vPicture s a1 a2 a3) := by
  unfold State.vPicture
  extract_lets x0 x1 x2 x3 x4 x5 x6
  clear_value x0 x1 x2 x3 x4
  have hx5 : ∀ t, Only 1611194754 s t → Only 1611194754 s (x5 t) := by
    intro t7 h8
    unfold x5
    exact State.dropItem_only.after rfl (State.setVsess_only.after rfl h8)
  clear_value x5 x6
  refine Only.ite (State.vRaise_only.after rfl (hx5 _ Only.refl)) ?_
  split
  · rename_i y9 y10 y11
    have hy10 : Only 1611194754 s y10 := (State.alloc_only y11).mono rfl
    exact State.vRaise_only.after rfl (State.inc_only.after rfl (hx5 _ hy10))
  · rename_i y12 y13 y14 y15
    have hy14 : Only 1611194754 s y14 := (State.alloc_only y15).mono rfl
    extract_lets x16
    have hx16 : Only 1611194754 s x16 := State.vStart_only.after rfl hy14
    clear_value x16
    exact Only.ite hx16 (State.dropItem_only.after rfl hx16)

theorem execVencPictureStart_only {a0 a1 s} : Ends 1611194754 s (execVencPictureStart a0 a1 s) := by
  unfold execVencPictureStart
  refine Ends.next ?_
  refine Only.ite ?_ Only.refl
  split
  · exact State.vPicture_only.mono rfl
  · exact Only.refl

theorem State.vQps_only {s a1 a2 a3 a4 a5 a6 p} (e : State.vQps s a1 a2 a3 a4 a5 a6 = p) : Only 10200547458 s p.2 := by
  subst e
  unfold State.vQps
  extract_lets x0 x1 x2 x3
  clear_value x0 x1 x2
  have hx3 : ∀ t a1, Only 10200547458 s t → Only 10200547458 s (x3 t a1).2 := by
    intro t4 b1 h5
    unfold x3
    split
    · extract_lets x14 x15 x16
      have hx14 : Only 10200547458 s x14.2 := (State.unitRead_only (p := x14) rfl).after rfl h5
      clear_value x14 x15
      have hx16 : Only 10200547458 s x16 := hx14
      clear_value x16
      exact Only.snd (hx16)
    · exact Only.snd (h5)
  clear_value x3
  refine Only.foldl2 (fun t21 i20 h22 => ?_) Only.refl
  split
  · rename_i y23 y24 y25 y26
    have hy25 : Only 10200547458 s y25 := Only.eq2 y26 (hx3 _ _ h22)
    exact Only.snd (hy25)

theorem State.vInput_only {s a1 a2 a3 a4 a5 p} (e : State.vInput s a1 a2 a3 a4 a5 = p) : Only 10200547458 s p.2 := by
  subst e
  unfold State.vInput
  extract_lets x0 x1 x2 x3 x4
  clear_value x0 x1 x2 x3 x4
  refine Only.foldl2 (fun t6 i5 h7 => ?_) Only.refl
  extract_lets x8 x9 x10
  have hx8 : Only 10200547458 s x8.2 := (State.readSegs_only (p := x8) rfl).after rfl h7
  clear_value x8 x9
  have hx10 : Only 10200547458 s x10 := hx8
  clear_value x10
  exact Only.snd (hx10)

theorem State.vWindows_only {s a1 a2 a3 a4 p} (e : State.vWindows s a1 a2 a3 a4 = p) : Only 10200547458 s p.2 := by
  subst e
  unfold State.vWindows
  extract_lets x0 x1 x2 x3
  clear_value x0 x1 x2 x3
  refine Only.foldl2 (fun t5 i4 h6 => ?_) Only.refl
  split
  · rename_i y7 y8 y9 y10
    have hy9 : Only 10200547458 s y9 := by
      refine Only.eq2 y10 ?_
      refine Only.foldl2 (fun t12 i11 h13 => ?_) h6
      split
      · rename_i y14 y15 y16 y17
        have hy16 : Only 10200547458 s y16 := (State.readSegs_only y17).after rfl h13
        exact hy16
    exact Only.snd (hy9)

theorem State.vRecon_only {s a1 a2 a3 a4 a5 a6} : Only 1610670210 s (State.vRecon s a1 a2 a3 a4 a5 a6) := by
  unfold State.vRecon
  split
  · exact Only.refl
  · extract_lets x3 x4 x5 x6 x7 x8 x9 x10
    clear_value x3 x4 x5 x6 x7 x8
    have hx9 : Only 1610670210 s x9 := by
      unfold x9
      refine Only.foldl (fun t12 i11 h13 => ?_) Only.refl
      exact State.writeSegs_only.after rfl h13
    clear_value x9 x10
    exact State.unitWrite_only.after rfl hx9

theorem State.vBusy_only {s a1 a2} : Only 524290 s (State.vBusy s a1 a2) := by
  unfold State.vBusy
  extract_lets x0 x1 x2
  clear_value x0
  have hx1 : Only 524290 s x1 := State.incWrap_only.mono rfl
  clear_value x1 x2
  exact Only.upd_venc hx1 rfl

theorem State.vRowIn_only {s a1 a2 a3 a4 a5 p} (e : State.vRowIn s a1 a2 a3 a4 a5 = p) : Only 10200547458 s p.2 := by
  subst e
  unfold State.vRowIn
  extract_lets x0 x1 x2 x3 x4 x5
  have hx0 : Only 10200547458 s x0.2 := (State.vQps_only (p := x0) rfl).mono rfl
  clear_value x0 x1
  have hx2 : Only 10200547458 s x2 := hx0
  clear_value x2
  have hx3 : Only 10200547458 s x3.2 := by
    unfold x3
    split
    · exact Only.snd (hx2)
    · exact (State.vInput_only rfl).after rfl hx2
  clear_value x3 x4
  have hx5 : Only 10200547458 s x5.2 := (State.vWindows_only (p := x5) rfl).after rfl hx3
  clear_value x5
  exact Only.snd (hx5)

theorem State.vRowOut_only {s a1 a2 a3 a4 a5 a6 a7 a8} : Only 1611194498 s (State.vRowOut s a1 a2 a3 a4 a5 a6 a7 a8) := by
  unfold State.vRowOut
  extract_lets x0 x1 x2 x3 x4 x5 x6 x7 x8 x9 x10 x11 x12 x13
  clear_value x0 x1 x2 x3 x4 x5 x6 x7
  have hx8 : Only 1611194498 s x8.2 := (State.vEmit_only (p := x8) rfl).mono rfl
  clear_value x8 x9
  have hx10 : Only 1611194498 s x10 := hx8
  clear_value x10 x11
  have hx12 : Only 1611194498 s x12 := State.vBusy_only.after rfl (State.vRecon_only.after rfl hx10)
  clear_value x12 x13
  exact State.setVsess_only.after rfl hx12

theorem State.vRow_only {s a1 a2 a3} : Only 10201129090 s (State.vRow s a1 a2 a3) := by
  unfold State.vRow
  extract_lets x0 x1 x2 x3
  clear_value x0 x1 x2
  have hx3 : Only 10201129090 s x3.2 := (State.vRowIn_only (p := x3) rfl).mono rfl
  clear_value x3
  exact State.vRowOut_only.after rfl hx3

theorem execVencRowBoundary_only {a0 s} : Ends 10201129090 s (execVencRowBoundary a0 s) := by
  unfold execVencRowBoundary
  refine Ends.next ?_
  refine Only.ite ?_ Only.refl
  split
  · exact State.vGo_only.mono rfl
  · split
    · exact State.vGo_only.mono rfl
    · extract_lets x10
      have hx10 : Only 10201129090 s x10 := State.vRow_only.mono rfl
      clear_value x10
      exact Only.ite Only.refl (Only.ite hx10 (State.vGo_only.after rfl hx10))

theorem State.vTrim_only {s a1 a2} : Only 524290 s (State.vTrim s a1 a2) := by
  unfold State.vTrim
  extract_lets x0
  clear_value x0
  refine Only.forEach (fun i1 t2 h3 => ?_) Only.refl
  exact State.setVref_only.after rfl h3

theorem State.vDisable_only {s a1 a2} : Only 524546 s (State.vDisable s a1 a2) := by
  unfold State.vDisable
  extract_lets x0 x1 x2 x3 x4 x5 x6 x7 x8
  have hx2 : Only 524546 s x2 := by
    unfold x2
    split
    · exact State.dropItem_only.mono rfl
    · exact Only.refl
  have hx3 : Only 524546 s x3 := by
    unfold x3
    split
    · extract_lets x17
      have hx17 : Only 524546 s x17 := State.release_only.after rfl (State.dropItem_only.after rfl hx2)
      clear_value x17
      split
      · exact State.setVref_only.after rfl hx17
      · exact hx17
    · exact hx2
  have hx4 : Only 524546 s x4 := by
    unfold x4
    split
    · exact State.unwait_only.after rfl (State.release_only.after rfl hx3)
    · exact hx3
  have hx5 : Only 524546 s x5 := by
    unfold x5
    split
    · exact State.release_only.after rfl hx4
    · exact hx4
  have hx6 : Only 524546 s x6 := State.unwait_only.after rfl (State.vFreeRefs_only.after rfl hx5)
  have hx7 : Only 524546 s x7 := State.setVsess_only.after rfl hx6
  have hx8 : Only 524546 s x8 := State.setRf_only.after rfl hx7
  exact Only.ite (State.vGo_only.after rfl hx8) hx8

theorem State.vPushed_only {g e ss : Nat} {d : VDone} {r : Pushed × State} {s : State} (hm : Only.sub 1074266498 g = true)
    (h : Only g s r.2) : Only g s (State.vPushed e ss d r) := by
  obtain ⟨c, t⟩ := r
  have h : Only g s t := h
  cases c
  · refine Only.ite (State.vDisable_only.after (Only.sub_trans (by rfl) hm) ?_) ?_ <;>
      exact State.setStat_only.after (Only.sub_trans (by rfl) hm) (State.incWrap_only.after (Only.sub_trans (by rfl) hm)
        (State.setVsess_only.after (Only.sub_trans (by rfl) hm) h))
  · exact State.waitPush_only.after (Only.sub_trans (by rfl) hm) h
  · exact h
  · exact State.setVsess_only.after (Only.sub_trans (by rfl) hm) (State.raiseC_only.after (Only.sub_trans (by rfl) hm) h)

theorem State.vPush_only {s a1 a2} : Only 3221750146 s (State.vPush s a1 a2) := by
  unfold State.vPush
  split
  · exact Only.refl
  · exact State.vPushed_only rfl ((State.push_only rfl).mono rfl)

theorem State.vEndItem_only {s a1 a2} : Only 10201129346 s (State.vEndItem s a1 a2) := by
  unfold State.vEndItem
  extract_lets x0 x1 x2
  clear_value x0 x1 x2
  refine Only.ite ?_ Only.refl
  split
  · rename_i y3 y4 y5
    have hy4 : Only 10201129346 s y4 := (State.alloc_only y5).mono rfl
    exact hy4
  · rename_i y6 y7 y8 y9
    have hy8 : Only 10201129346 s y8 := (State.alloc_only y9).mono rfl
    extract_lets x10 x11 x12 x13 x14 x15 x16 x17 x18 x19 x20 x21 x22
    have hx10 : Only 10201129346 s x10.2 := (State.draw_only (p := x10) rfl).after rfl hy8
    clear_value x10 x11
    have hx12 : Only 10201129346 s x12 := hx10
    clear_value x12
    have hx13 : Only 10201129346 s x13.2 := (State.draw_only (p := x13) rfl).after rfl hx12
    clear_value x13 x14
    have hx15 : Only 10201129346 s x15 := hx13
    clear_value x15
    have hx16 : Only 10201129346 s x16.2 := (State.draw_only (p := x16) rfl).after rfl hx15
    clear_value x16 x17
    have hx18 : Only 10201129346 s x18 := hx16
    clear_value x18
    have hx19 : Only 10201129346 s x19.2 := (State.draw_only (p := x19) rfl).after rfl hx18
    clear_value x19 x20
    have hx21 : Only 10201129346 s x21 := hx19
    clear_value x21 x22
    exact State.vFinish_only.after rfl hx21

theorem State.vComplete_only {s a1 a2 a3} : Only 1611194754 s (State.vComplete s a1 a2 a3) := by
  unfold State.vComplete
  extract_lets x0 x1 x2 x3 x4 x5
  clear_value x0
  have hx1 : Only 1611194754 s x1.2 := by
    unfold x1
    split
    · exact (State.vEmit_only rfl).mono rfl
    · exact Only.snd (Only.refl)
  clear_value x1 x2
  have hx3 : Only 1611194754 s x3 := hx1
  clear_value x3
  have hx4 : Only 1611194754 s x4 := by
    unfold x4
    split
    · exact State.vTrim_only.after rfl (State.setVref_only.after rfl hx3)
    · exact hx3
  clear_value x4
  have hx5 : Only 1611194754 s x5 := State.dropItem_only.after rfl (State.vFinish_only.after rfl hx4)
  clear_value x5
  exact State.vGo_only.after rfl (State.incWrap_only.after rfl hx5)

theorem execVencPictureComplete_only {a0 a1 s} : Ends 12348612994 s (execVencPictureComplete a0 a1 s) := by
  unfold execVencPictureComplete
  refine Ends.next ?_
  extract_lets x0
  have hx0 : Only 12348612994 s x0 := by
    unfold x0
    split
    · exact Only.ite (State.vComplete_only.mono rfl) Only.refl
    · exact State.vEndItem_only.mono rfl
  clear_value x0
  exact Only.ite (State.vPush_only.after rfl hx0) Only.refl

theorem execVencDeadline_only {a0 a1 s} : Ends 524416 s (execVencDeadline a0 a1 s) := by
  unfold execVencDeadline
  extract_lets x0 x1 x2
  clear_value x0 x1
  have hx2 : ∀ a0 a1, Only 524416 s (x2 a0 a1) := by
    intro b0 b1
    unfold x2
    exact State.setVsess_only.after rfl (State.vRaise_only.mono rfl)
  clear_value x2
  refine Ends.next ?_
  refine Only.ite ?_ Only.refl
  split
  · exact Only.ite (hx2 _ _) Only.refl
  · exact Only.ite (hx2 _ _) Only.refl
  · exact Only.refl

theorem State.vCtrlWrite_only {s a1 a2 a3} : Only 524674 s (State.vCtrlWrite s a1 a2 a3) := by
  unfold State.vCtrlWrite
  extract_lets x0 x1 x2 x3 x4 x5 x6 x7
  clear_value x0 x1
  have hx2 : Only 524674 s x2 := State.noteRsvd_only.mono rfl
  clear_value x2 x3 x4 x5
  have hx6 : Only 524674 s x6 := Only.ite (State.vDisable_only.after rfl hx2) hx2
  clear_value x6
  have hx7 : Only 524674 s x7 := State.putReg_only.mono rfl
  clear_value x7
  refine Only.ite (Only.ite (State.cfgErr_only.after rfl hx6) hx6) ?_
  refine Only.ite ?_ hx7
  exact Only.ite (State.setVsess_only.after rfl (State.setRf_only.after rfl hx7)) (State.cfgErr_only.after rfl hx7)

theorem execVencSessionEnable_only {a0 a1 a2 s} : Ends 524674 s (execVencSessionEnable a0 a1 a2 s) := by
  unfold execVencSessionEnable
  refine Ends.next ?_
  exact Only.ite (State.vCtrlWrite_only.mono rfl) Only.refl

theorem execVencSessionDisable_only {a0 a1 a2 s} : Ends 524674 s (execVencSessionDisable a0 a1 a2 s) := by
  unfold execVencSessionDisable
  refine Ends.next ?_
  exact Only.ite (State.vCtrlWrite_only.mono rfl) Only.refl

theorem State.vSessWrite_only {s a1 a2 a3 a4} : Only 130 s (State.vSessWrite s a1 a2 a3 a4) := by
  unfold State.vSessWrite
  exact Only.ite (Only.ite Only.refl (State.refuse_only.mono rfl)) (State.putReg_only.mono rfl)

theorem State.vRefWrite_only {s a1 a2 a3} : Only 130 s (State.vRefWrite s a1 a2 a3) := by
  unfold State.vRefWrite
  exact Only.ite (State.putReg_only.mono rfl) (State.refuse_only.mono rfl)

theorem State.vIdle_only {s a1 a2} : Only 524290 s (State.vIdle s a1 a2) := by
  unfold State.vIdle
  extract_lets x0 x1 x2
  clear_value x0 x1
  have hx2 : Only 524290 s x2 := by
    unfold x2
    split
    · split
      · exact State.setVref_only.mono rfl
      · exact Only.refl
    · exact Only.refl
  clear_value x2
  exact State.setVsess_only.after rfl hx2

theorem State.vEngineWrite_only {s a1 a2} : Only 524674 s (State.vEngineWrite s a1 a2) := by
  unfold State.vEngineWrite
  extract_lets x0 x1 x2
  clear_value x0
  have hx1 : Only 524674 s x1 := by
    unfold x1
    refine Only.forEach (fun i3 t4 h5 => ?_) (State.putReg_only.mono rfl)
    exact State.vIdle_only.after rfl h5
  clear_value x1
  have hx2 : Only 524674 s x2 := by
    unfold x2
    refine Only.forEach (fun i6 t7 h8 => ?_) hx1
    exact State.unwait_only.after rfl h8
  clear_value x2
  refine Only.ite ?_ (State.putReg_only.mono rfl)
  exact Only.ite (State.refuse_only.mono rfl) (State.setVcur_only.after rfl (State.releaseAll_only.after rfl hx2))

theorem State.vEntry_only {s a1 p} (e : State.vEntry s a1 = p) : Only 10200547458 s p.2 := by
  subst e
  unfold State.vEntry
  extract_lets x0
  have hx0 : Only 10200547458 s x0.2 := (State.unitRead_only (p := x0) rfl).mono rfl
  clear_value x0
  exact Only.snd (hx0)

theorem State.vAnswer_only {s a1 a2} : Only 1610670210 s (State.vAnswer s a1 a2) := by
  unfold State.vAnswer
  extract_lets x0
  have hx0 : Only 1610670210 s x0 := State.setRf_only.after rfl (State.unitWrite_only.mono rfl)
  clear_value x0
  exact Only.ite hx0 (State.raise_only.after rfl hx0)

theorem State.vSkip_only {s a1 a2} : Only 10200604802 s (State.vSkip s a1 a2) := by
  induction a2 generalizing s a1 with
  | zero =>
    unfold State.vSkip
    exact Only.refl
  | succ n ih =>
    unfold State.vSkip
    extract_lets x0
    have hx0 : Only 10200604802 s x0.2 := (State.vEntry_only (p := x0) rfl).mono rfl
    clear_value x0
    exact Only.ite (Only.ite Only.refl (Only.after (ih ..) rfl (State.vAnswer_only.after rfl hx0))) Only.refl

theorem State.vCommand_only {g e op : Nat} {f : State → Nat → Nat → Bytes → Option State} {s : State}
    (hm : Only.sub 10200604802 g = true) (hf : ∀ u a b l v, Only g s u → f u a b l = some v → Only g s v) :
    Only g s (s.vCommand e op f) := by
  have hk : ∀ {u : State} {n : Nat} {ok : Bool}, Only g s u → Only g s ((u.vAnswer e ok).vSkip e n) := fun hu =>
    State.vSkip_only.after (Only.sub_trans (by rfl) hm) (State.vAnswer_only.after (Only.sub_trans (by rfl) hm) hu)
  unfold State.vCommand
  refine Only.ite ?_ Only.refl
  extract_lets r l t ss buf buffer who waits
  have ht : Only g s t := (State.vEntry_only (p := r) rfl).mono (Only.sub_trans (by rfl) hm)
  clear_value waits who buffer buf ss t l
  refine Only.ite Only.refl (Only.ite (hk ht) (Only.ite Only.refl ?_))
  split
  · next h => exact hk (hf _ _ _ _ _ ht h)
  · exact hk ht

theorem vCmd_only {g e op : Nat} {f : State → Nat → Nat → Bytes → Option State} {s : State}
    (hm : Only.sub 10200604802 g = true) (hf : ∀ u a b l v, Only g s u → f u a b l = some v → Only g s v) :
    Ends g s (vCmd e op f s) :=
  Ends.next (Only.ite (State.vCommand_only hm hf) Only.refl)

theorem State.vTailWrite_only {s a1 a2} : Only 10200604802 s (State.vTailWrite s a1 a2) := by
  unfold State.vTailWrite
  extract_lets x0
  clear_value x0
  exact Only.ite (State.refuse_only.mono rfl) (State.vSkip_only.after rfl (State.putReg_only.mono rfl))

theorem execVencCmdTailWrite_only {a0 a1 s} : Ends 10200604802 s (execVencCmdTailWrite a0 a1 s) := by
  unfold execVencCmdTailWrite
  refine Ends.next ?_
  exact Only.ite (State.vTailWrite_only.mono rfl) Only.refl

theorem execForceIdr_only {a0 s} : Ends 10201129090 s (execForceIdr a0 s) := by
  unfold execForceIdr
  refine vCmd_only rfl (fun u0 a1 b2 l3 v4 hu5 hv6 => ?_)
  split at hv6
  · cases hv6
    exact State.setVsess_only.after rfl hu5
  · cases hv6

theorem execMarkLong_only {a0 s} : Ends 10201129090 s (execMarkLong a0 s) := by
  unfold execMarkLong
  refine vCmd_only rfl (fun u0 a1 b2 l3 v4 hu5 hv6 => ?_)
  dsimp only at hv6
  split at hv6
  · cases hv6
    exact State.setVref_only.after rfl hu5
  · cases hv6

theorem execUnmark_only {a0 s} : Ends 10201129090 s (execUnmark a0 s) := by
  unfold execUnmark
  refine vCmd_only rfl (fun u0 a1 b2 l3 v4 hu5 hv6 => ?_)
  split at hv6
  · cases hv6
    exact State.setVref_only.after rfl hu5
  · cases hv6

theorem execHoldCmd_only {a0 s} : Ends 10201129090 s (execHoldCmd a0 s) := by
  unfold execHoldCmd
  refine vCmd_only rfl (fun u0 a1 b2 l3 v4 hu5 hv6 => ?_)
  split at hv6
  · cases hv6
  · cases hv6
    exact State.setVref_only.after rfl hu5

theorem execReleaseCmd_only {a0 s} : Ends 10201129090 s (execReleaseCmd a0 s) := by
  unfold execReleaseCmd
  refine vCmd_only rfl (fun u0 a1 b2 l3 v4 hu5 hv6 => ?_)
  split at hv6
  · cases hv6
    exact State.setVref_only.after rfl hu5
  · cases hv6

theorem execSetRate_only {a0 s} : Ends 10200604802 s (execSetRate a0 s) := by
  unfold execSetRate
  refine vCmd_only rfl (fun u0 a1 b2 l3 v4 hu5 hv6 => ?_)
  dsimp only at hv6
  split at hv6
  · cases hv6
    exact State.setRf_only.after rfl hu5
  · cases hv6

theorem execSetQp_only {a0 s} : Ends 10200604802 s (execSetQp a0 s) := by
  unfold execSetQp
  refine vCmd_only rfl (fun u0 a1 b2 l3 v4 hu5 hv6 => ?_)
  dsimp only at hv6
  split at hv6
  · cases hv6
    exact State.setRf_only.after rfl (State.setRf_only.after rfl hu5)
  · cases hv6

theorem execEndSession_only {a0 s} : Ends 12348612994 s (execEndSession a0 s) := by
  unfold execEndSession
  refine vCmd_only rfl (fun u0 a1 b2 l3 v4 hu5 hv6 => ?_)
  split at hv6
  · dsimp only at hv6
    cases hv6
    exact State.vPush_only.after rfl (State.vEndItem_only.after rfl (State.setVsess_only.after rfl hu5))
  · cases hv6

end Sys2Proof.Machine
end

