-- ==== Sys2Proof/Laws/OnlyVdec.lean ====
section
/-! SUPPORT. The footprints of the video decoder (see `Only`): one lemma for each operation. -/

namespace Sys2Proof.Machine

open Sys2Proof

theorem State.setVd_only {s a1 a2} : Only 1048576 s (State.setVd s a1 a2) := by
  unfold State.setVd
  exact Only.upd_vdec Only.refl rfl

theorem State.setVb_only {s a1 a2} : Only 1048576 s (State.setVb s a1 a2) := by
  unfold State.setVb
  exact Only.upd_vdec Only.refl rfl

theorem State.setTaint_only {s a1 a2} : Only 1048576 s (State.setTaint s a1 a2) := by
  unfold State.setTaint
  exact State.setVb_only.mono rfl

theorem State.vdRaise_only {s a1 a2 a3 a4 a5 a6 a7} : Only 128 s (State.vdRaise s a1 a2 a3 a4 a5 a6 a7) := by
  unfold State.vdRaise
  exact State.raiseC_only.mono rfl

theorem State.vdRecords_only {s a1 a2 a3} : Only 128 s (State.vdRecords s a1 a2 a3) := by
  unfold State.vdRecords
  refine Only.foldl (fun t1 i0 h2 => ?_) Only.refl
  exact State.vdRaise_only.after rfl h2

theorem State.vdPop_only {s a1} : Only 10201596290 s (State.vdPop s a1) := by
  unfold State.vdPop
  split
  · rename_i y0 y1 y2
    have hy1 : Only 10201596290 s y1 := (State.unitPop_only y2).mono rfl
    exact hy1
  · rename_i y3 y4 y5 y6
    have hy5 : Only 10201596290 s y5 := (State.unitPop_only y6).mono rfl
    extract_lets x7 x8 x9 x10 x11 x12 x13 x14 x15 x16 x17 x18 x19 x20 x21
    clear_value x7 x8 x9 x10 x11 x12
    have hx13 : Only 10201596290 s x13 := Only.upd_vdec hy5 rfl
    clear_value x13 x14
    have hx15 : Only 10201596290 s x15.2 := (State.unitRead_only (p := x15) rfl).after rfl hx13
    clear_value x15 x16
    have hx17 : Only 10201596290 s x17 := hx15
    clear_value x17 x18 x19 x20
    have hx21 : Only 10201596290 s x21 := Only.ite (State.vdRaise_only.after rfl hx17) hx17
    clear_value x21
    refine Only.ite (State.vdRaise_only.after rfl (State.setVd_only.after rfl (State.dropItem_only.after rfl hx13))) ?_
    refine Only.ite (State.setVd_only.after rfl hx13) ?_
    exact Only.ite (State.setVd_only.after rfl (State.dropItem_only.after rfl hx21)) (State.setVd_only.after rfl hx21)

theorem execVdecInputPop_only {a0 s} : Ends 10201596290 s (execVdecInputPop a0 s) := by
  unfold execVdecInputPop
  refine Ends.next ?_
  exact Only.ite (State.vdPop_only.mono rfl) Only.refl

theorem State.vdRead_only {s a1 a2 p} (e : State.vdRead s a1 a2 = p) : Only 10200547458 s p.2 := by
  subst e
  induction a2 generalizing s a1 with
  | nil =>
    unfold State.vdRead
    exact Only.snd (Only.refl)
  | cons x l ih =>
    unfold State.vdRead
    extract_lets x0 x1 x2 x3 x4
    clear_value x0
    have hx1 : Only 10200547458 s x1.2 := (State.unitRead_only (p := x1) rfl).mono rfl
    clear_value x1 x2
    have hx3 : Only 10200547458 s x3 := hx1
    clear_value x3 x4
    split
    · exact Only.snd (hx3)
    · split
      · rename_i y7 y8 y9 y10
        have hy9 : Only 10200547458 s y9 := Only.eq2 y10 (Only.after (ih ..) rfl hx3)
        exact Only.snd (hy9)

theorem State.vdHoles_only {s a1 a2} : Only 2148532480 s (State.vdHoles s a1 a2) := by
  induction a2 generalizing s a1 with
  | zero =>
    unfold State.vdHoles
    exact Only.refl
  | succ n ih =>
    unfold State.vdHoles
    split
    · exact Only.refl
    · split
      · rename_i y6 y7 y8
        have hy7 : Only 2148532480 s y7 := (State.push_only y8).mono rfl
        exact Only.after (ih ..) rfl (State.setVd_only.after rfl hy7)
      · rename_i y9 y10 y11
        have hy10 : Only 2148532480 s y10 := (State.push_only y11).mono rfl
        exact State.waitPush_only.after rfl hy10
      · rename_i y12 y13 y14
        have hy13 : Only 2148532480 s y13 := (State.push_only y14).mono rfl
        exact hy13
      · rename_i y15 y16 y17
        have hy16 : Only 2148532480 s y16 := (State.push_only y17).mono rfl
        exact hy16

theorem State.vdHole_only {s a1 a2 a3} : Only 2148532480 s (State.vdHole s a1 a2 a3) := by
  unfold State.vdHole
  extract_lets x0 x1
  clear_value x0 x1
  exact State.vdHoles_only.after rfl (State.setVd_only.mono rfl)

theorem State.vdFree_only {s a1 a2} : Only 1048576 s (State.vdFree s a1 a2) := by
  unfold State.vdFree
  extract_lets x0 x1 x2
  clear_value x0 x1 x2
  exact Only.ite (State.setVb_only.mono rfl) Only.refl

theorem State.vdLost_only {s a1} : Only 2 s (State.vdLost s a1) := by
  unfold State.vdLost
  exact State.inc_only.mono rfl

theorem State.vdRest_only {s a1} : Only 1048576 s (State.vdRest s a1) := by
  unfold State.vdRest
  extract_lets x0 x1 x2
  clear_value x0
  have hx1 : Only 1048576 s x1 := State.setVd_only.mono rfl
  clear_value x1 x2
  exact Only.upd_vdec hx1 rfl

theorem State.vdAbandon_only {s a1 a2} : Only 2148532610 s (State.vdAbandon s a1 a2) := by
  unfold State.vdAbandon
  extract_lets x0 x1 x2 x3
  clear_value x0
  have hx1 : Only 2148532610 s x1 := State.vdLost_only.after rfl (State.vdRecords_only.mono rfl)
  clear_value x1 x2
  have hx3 : Only 2148532610 s x3 := State.setVb_only.after rfl (State.setVd_only.after rfl hx1)
  clear_value x3
  exact State.vdRest_only.after rfl (State.vdHole_only.after rfl hx3)

theorem execVdecPictureStart_only {s} : Ends 1048576 s (execVdecPictureStart s) := by
  unfold execVdecPictureStart
  refine Ends.next ?_
  extract_lets x0 x1 x2
  clear_value x0 x1 x2
  exact Only.ite Only.refl (Only.upd_vdec Only.refl rfl)

theorem State.vdGenerate_only {s a1 a2 a3 a4} : Only 1611718786 s (State.vdGenerate s a1 a2 a3 a4) := by
  unfold State.vdGenerate
  extract_lets x0
  have hx0 : Only 1611718786 s x0 := by
    unfold x0
    refine Only.foldl (fun t2 i1 h3 => ?_) Only.refl
    exact State.writeSegs_only.after rfl h3
  clear_value x0
  exact State.setVb_only.after rfl hx0

theorem State.vdRefs_only {s : State} {k : Nat} {i : SpsInfo} {l : List (Option Nat)} {p : List Nat × Nat × State}
    (e : s.vdRefs k i l = p) : Only 1611718786 s p.2.2 := by
  subst e
  induction l generalizing s with
  | nil => exact Only.refl
  | cons x l ih =>
    rcases x with _ | j
    · unfold State.vdRefs
      split
      · exact ih.after rfl (State.vdGenerate_only.mono rfl)
      · exact ih
    · exact ih

theorem State.vdDiscard_only {s a1 a2 a3 a4} : Only 2148532482 s (State.vdDiscard s a1 a2 a3 a4) := by
  unfold State.vdDiscard
  extract_lets x0
  have hx0 : Only 2148532482 s x0 := State.vdLost_only.mono rfl
  clear_value x0
  exact State.vdRest_only.after rfl (Only.ite (State.vdHole_only.after rfl hx0) hx0)

theorem State.vdUnsup_only {s a1 a2 a3 a4 a5 a6} : Only 2148532610 s (State.vdUnsup s a1 a2 a3 a4 a5 a6) := by
  unfold State.vdUnsup
  extract_lets x0 x1 x2 x3 x4
  clear_value x0 x1 x2
  have hx3 : Only 2148532610 s x3 := Only.ite Only.refl (State.vdRaise_only.mono rfl)
  clear_value x3
  have hx4 : Only 2148532610 s x4 := State.setVd_only.after rfl hx3
  clear_value x4
  exact State.vdDiscard_only.after rfl hx4

theorem State.vdBegin_only {s a1 a2 a3 a4 a5 p} (e : State.vdBegin s a1 a2 a3 a4 a5 = p) : Only 3759202690 s p.2 := by
  subst e
  unfold State.vdBegin
  extract_lets x0 x1 x2 x3 x4 x5 x6 x7
  clear_value x0 x1 x2 x3
  have hx4 : Only 3759202690 s x4 := State.setVd_only.mono rfl
  clear_value x4
  have hx5 : Only 3759202690 s x5 := by
    unfold x5
    refine Only.foldl (fun t9 i8 h10 => ?_) hx4
    exact Only.ite h10 (State.vdFree_only.after rfl (State.setVb_only.after rfl h10))
  clear_value x5 x6 x7
  split
  · exact Only.snd (State.vdUnsup_only.mono rfl)
  · split
    · exact Only.snd (State.vdUnsup_only.mono rfl)
    · split
      · exact Only.snd (State.vdDiscard_only.mono rfl)
      · split
        · exact Only.snd (State.vdDiscard_only.after rfl (State.setVd_only.after rfl (State.vdRaise_only.after rfl hx5)))
        · extract_lets x20 x21 x22 x23
          have hx20 : Only 3759202690 s x20.2.2 := (State.vdRefs_only (p := x20) rfl).after rfl hx5
          clear_value x20 x21 x22
          have hx23 : Only 3759202690 s x23 := hx20
          clear_value x23
          split
          · exact Only.snd (State.vdDiscard_only.after rfl (State.vdRaise_only.after rfl hx23))
          · extract_lets x29
            have hx29 : Only 3759202690 s x29 := State.setVb_only.after rfl hx23
            clear_value x29
            exact Only.snd (hx29)

theorem State.vdDecode_only {s a1 a2 a3 a4 p} (e : State.vdDecode s a1 a2 a3 a4 = p) : Only 10201653378 s p.2.2 := by
  subst e
  unfold State.vdDecode
  extract_lets x0 x1 x2 x3
  clear_value x0 x1 x2 x3
  split
  · rename_i y4 y5 y6 y7
    have hy6 : Only 10201653378 s y6 := by
      refine Only.eq2 y7 ?_
      refine Only.foldl2 (fun t9 i8 h10 => ?_) Only.refl
      split
      · split
        · split
          · rename_i y15 y16 y17 y18
            have hy17 : Only 10201653378 s y17 := (State.readSegs_only y18).after rfl h10
            exact hy17
        · exact h10
      · exact h10
    extract_lets x22 x23 x24
    clear_value x22
    have hx23 : Only 10201653378 s x23 := State.setVd_only.after rfl hy6
    clear_value x23
    have hx24 : Only 10201653378 s x24 := by
      unfold x24
      refine Only.foldl (fun t26 i25 h27 => ?_) hx23
      extract_lets x28
      have hx28 : Only 10201653378 s x28 := State.writeSegs_only.after rfl h27
      clear_value x28
      exact Only.ite (State.setTaint_only.after rfl hx28) hx28
    clear_value x24
    exact Only.snd2 (Only.snd (hx24))

theorem State.vdFail_only {s a1 a2 a3 a4 a5} : Only 2148532610 s (State.vdFail s a1 a2 a3 a4 a5) := by
  unfold State.vdFail
  extract_lets x0 x1
  clear_value x0 x1
  exact Only.ite (State.vdAbandon_only.mono rfl) (State.setVd_only.mono rfl)

theorem State.vdNal_only {s a1 a2} : Only 12349137282 s (State.vdNal s a1 a2) := by
  unfold State.vdNal
  extract_lets x0 x1 x2 x3 x4 x5 x6 x7 x8 x9 x10 x11 x12 x13 x14 x15
  clear_value x0 x1 x2 x3 x4
  have hx5 : Only 12349137282 s x5.2 := (State.vdRead_only (p := x5) rfl).mono rfl
  clear_value x5 x6
  have hx7 : Only 12349137282 s x7 := hx5
  clear_value x7 x8 x9 x10 x11
  have hx12 : Only 12349137282 s x12 := by
    unfold x12
    refine Only.foldl (fun t17 i16 h18 => ?_) (State.setVd_only.after rfl hx7)
    exact State.dropItem_only.after rfl h18
  clear_value x12 x13
  have hx14 : ∀ a0, Only 12349137282 s (x14 a0) := by
    intro b0
    unfold x14
    split
    · exact State.vdFail_only.after rfl hx12
    · exact State.vdRaise_only.after rfl hx12
  clear_value x14 x15
  split
  · split
    · exact hx14 _
    · exact hx12
  · split
    · exact hx14 _
    · exact State.setVd_only.after rfl hx12
  · extract_lets x44 x45 x46
    have hx44 : Only 12349137282 s x44.2 := by
      unfold x44
      split
      · exact (State.vdBegin_only rfl).after rfl hx12
      · exact Only.snd (hx12)
    clear_value x44 x45
    have hx46 : Only 12349137282 s x46 := hx44
    clear_value x46
    split
    · exact hx46
    · extract_lets x52 x53 x54 x55 x56 x57
      have hx52 : Only 12349137282 s x52.2.2 := (State.vdDecode_only (p := x52) rfl).after rfl hx46
      clear_value x52 x53 x54
      have hx55 : Only 12349137282 s x55 := hx52
      clear_value x55 x56
      have hx57 : Only 12349137282 s x57 := State.setVd_only.after rfl hx55
      clear_value x57
      refine Only.ite hx46 ?_
      refine Only.ite (State.vdAbandon_only.after rfl hx46) ?_
      split
      · exact State.vdFail_only.after rfl hx57
      · exact Only.ite (State.vdFail_only.after rfl hx57) hx57

theorem execVdecNalUnit_only {a0 a1 s} : Ends 12349137282 s (execVdecNalUnit a0 a1 s) := by
  unfold execVdecNalUnit
  refine Ends.next ?_
  exact Only.ite (State.vdNal_only.mono rfl) Only.refl

theorem execVdecBudgetExhausted_only {a0 a1 s} : Ends 2148532610 s (execVdecBudgetExhausted a0 a1 s) := by
  unfold execVdecBudgetExhausted
  refine Ends.next ?_
  refine Only.ite ?_ Only.refl
  split
  · exact Only.ite Only.refl (State.vdFail_only.mono rfl)
  · exact Only.refl

theorem State.vdConceal_only {s a1 a2 a3} : Only 10201653378 s (State.vdConceal s a1 a2 a3) := by
  unfold State.vdConceal
  extract_lets x0 x1
  clear_value x0
  have hx1 : Only 10201653378 s x1 := by
    unfold x1
    split
    · extract_lets x7 x8 x9
      have hx7 : Only 10201653378 s x7.2 := (State.readSegs_only (p := x7) rfl).mono rfl
      clear_value x7 x8
      have hx9 : Only 10201653378 s x9 := hx7
      clear_value x9
      exact State.writeSegs_only.after rfl hx9
    · exact State.writeSegs_only.mono rfl
  clear_value x1
  exact State.setTaint_only.after rfl hx1

theorem State.vdComplete_only {s a1 a2} : Only 12349137282 s (State.vdComplete s a1 a2) := by
  unfold State.vdComplete
  extract_lets x0 x1 x2 x3 x4 x5 x6 x7 x8 x9 x10 x11
  clear_value x0
  have hx1 : Only 12349137282 s x1 := by
    unfold x1
    refine Only.foldl (fun t13 i12 h14 => ?_) Only.refl
    exact State.vdConceal_only.after rfl h14
  clear_value x1
  have hx2 : Only 12349137282 s x2 := State.inc_only.after rfl hx1
  clear_value x2 x3
  have hx4 : Only 12349137282 s x4 := State.vdRecords_only.after rfl hx2
  clear_value x4
  have hx5 : Only 12349137282 s x5 := State.setVb_only.after rfl hx4
  clear_value x5 x6
  have hx7 : Only 12349137282 s x7.2 := (State.draw_only (p := x7) rfl).after rfl hx5
  clear_value x7 x8
  have hx9 : Only 12349137282 s x9 := hx7
  clear_value x9
  have hx10 : Only 12349137282 s x10 := State.incWrap_only.after rfl hx9
  clear_value x10
  have hx11 : Only 12349137282 s x11 := State.vdRest_only.after rfl hx10
  clear_value x11
  exact Only.ite (State.vdAbandon_only.mono rfl) (State.vdFree_only.after rfl hx11)

theorem State.vdLine_only {s a1 a2 a3 a4 a5 p} (e : State.vdLine s a1 a2 a3 a4 a5 = p) : Only 10200547458 s p.2 := by
  subst e
  unfold State.vdLine
  extract_lets x0 x1 x2 x3 x4 x5 x6 x7 x8 x9
  clear_value x0 x1 x2 x3 x4
  have hx5 : Only 10200547458 s x5.2 := (State.readSegs_only (p := x5) rfl).mono rfl
  clear_value x5 x6
  have hx7 : Only 10200547458 s x7 := hx5
  clear_value x7 x8 x9
  exact Only.snd (hx7)

theorem State.vdRgbRow_only {s a1 a2 a3 a4 a5 p} (e : State.vdRgbRow s a1 a2 a3 a4 a5 = p) : Only 10200547458 s p.2 := by
  subst e
  unfold State.vdRgbRow
  extract_lets x0 x1 x2 x3 x4 x5 x6 x7 x8 x9 x10 x11
  clear_value x0
  have hx1 : Only 10200547458 s x1.2 := (State.vdLine_only (p := x1) rfl).mono rfl
  clear_value x1 x2
  have hx3 : Only 10200547458 s x3 := hx1
  clear_value x3
  have hx4 : Only 10200547458 s x4.2 := (State.vdLine_only (p := x4) rfl).after rfl hx3
  clear_value x4 x5
  have hx6 : Only 10200547458 s x6 := hx4
  clear_value x6 x7 x8 x9 x10 x11
  exact Only.snd (hx6)

theorem State.vdTileRow_only {s a1 a2 a3 a4 p} (e : State.vdTileRow s a1 a2 a3 a4 = p) : Only 10200547458 s p.2 := by
  subst e
  unfold State.vdTileRow
  extract_lets x0 x1 x2 x3 x4 x5 x6 x7 x8 x9 x10
  clear_value x0 x1 x2
  have hx3 : Only 10200547458 s x3.2 := (State.vdLine_only (p := x3) rfl).mono rfl
  clear_value x3 x4
  have hx5 : Only 10200547458 s x5 := hx3
  clear_value x5 x6
  have hx7 : Only 10200547458 s x7.2 := (State.vdLine_only (p := x7) rfl).after rfl hx5
  clear_value x7 x8
  have hx9 : Only 10200547458 s x9 := hx7
  clear_value x9 x10
  split
  · exact Only.snd (hx9)
  · exact Only.snd (hx5)

theorem State.vdWrite_only {s a1 a2 a3 a4 a5 a6} : Only 10200604802 s (State.vdWrite s a1 a2 a3 a4 a5 a6) := by
  unfold State.vdWrite
  refine Only.foldl (fun t1 i0 h2 => ?_) Only.refl
  extract_lets x3 x4 x5
  have hx3 : Only 10200604802 s x3.2 := by
    unfold x3
    split
    · exact (State.vdTileRow_only rfl).after rfl h2
    · exact (State.vdRgbRow_only rfl).after rfl h2
  clear_value x3 x4
  have hx5 : Only 10200604802 s x5 := hx3
  clear_value x5
  exact State.putCells_only.after rfl hx5

theorem State.vdSent_only {g k n : Nat} {o : VdOut} {b : VdBuf} {last : Bool} {r : Pushed × State} {s : State}
    {p : Bool × State} (e : State.vdSent k o b n last r = p) (hm : Only.sub 1048962 g = true) (h : Only g s r.2) : Only g s p.2 := by
  subst e
  obtain ⟨c, t⟩ := r
  have h : Only g s t := h
  cases c
  · unfold State.vdSent
    cases last
    · exact State.setVd_only.after (Only.sub_trans (by rfl) hm) h
    · exact State.vdFree_only.after (Only.sub_trans (by rfl) hm) (State.setVb_only.after (Only.sub_trans (by rfl) hm) (State.incWrap_only.after (Only.sub_trans (by rfl) hm) (State.setVd_only.after (Only.sub_trans (by rfl) hm) h)))
  · exact State.waitPush_only.after (Only.sub_trans (by rfl) hm) h
  · exact h
  · exact State.setVd_only.after (Only.sub_trans (by rfl) hm) (State.raiseC_only.after (Only.sub_trans (by rfl) hm) h)

theorem State.vdOutGo_only {s a1 a2} : Only 12349137282 s (State.vdOutGo s a1 a2) := by
  induction a2 generalizing s a1 with
  | zero =>
    unfold State.vdOutGo
    exact Only.refl
  | succ n ih =>
    unfold State.vdOutGo
    extract_lets x0
    clear_value x0
    split
    · exact Only.refl
    · split
      · exact Only.refl
      · extract_lets x11 x12
        clear_value x11 x12
        split
        · split
          · rename_i y15 y16 y17
            have hy16 : Only 12349137282 s y16 := (State.alloc_only y17).mono rfl
            exact hy16
          · rename_i y18 y19 y20 y21
            have hy20 : Only 12349137282 s y20 := (State.alloc_only y21).mono rfl
            exact Only.after (ih ..) rfl (State.setVd_only.after rfl hy20)
        · extract_lets x25 x26 x27 x28 x29 x30
          have hx25 : Only 12349137282 s x25 := Only.ite Only.refl (State.vdWrite_only.mono rfl)
          clear_value x25 x26
          have hx27 : Only 12349137282 s x27 := State.setVd_only.after rfl hx25
          clear_value x27 x28 x29
          have hx30 : Only 12349137282 s x30.2 := State.vdSent_only (p := x30) rfl rfl ((State.push_only rfl).after rfl hx27)
          clear_value x30
          exact Only.ite (Only.after (ih ..) rfl hx30) hx30

theorem State.vdRelease_only {s a1 a2} : Only 12349137282 s (State.vdRelease s a1 a2) := by
  unfold State.vdRelease
  extract_lets x0
  clear_value x0
  split
  · rename_i y1 y2 y3
    have hy2 : Only 12349137282 s y2 := (State.alloc_only y3).mono rfl
    extract_lets x4 x5
    have hx4 : Only 12349137282 s x4 := State.vdRaise_only.after rfl hy2
    clear_value x4 x5
    exact State.vdFree_only.after rfl (State.setVb_only.after rfl hx4)
  · rename_i y6 y7 y8 y9
    have hy8 : Only 12349137282 s y8 := (State.alloc_only y9).mono rfl
    exact State.vdOutGo_only.after rfl (State.setVd_only.after rfl hy8)

theorem State.vdDrainGo_only {s a1 a2} : Only 12349137282 s (State.vdDrainGo s a1 a2) := by
  induction a2 generalizing s a1 with
  | zero =>
    unfold State.vdDrainGo
    exact Only.refl
  | succ n ih =>
    unfold State.vdDrainGo
    extract_lets x0 x1 x2 x3 x4
    clear_value x0
    have hx1 : Only 12349137282 s x1 := State.vdOutGo_only.mono rfl
    clear_value x1
    have hx2 : Only 12349137282 s x2 := by
      unfold x2
      refine Only.foldl (fun t6 i5 h7 => ?_) Only.refl
      exact State.setVb_only.after rfl h7
    clear_value x2
    have hx3 : Only 12349137282 s x3 := State.setVd_only.after rfl hx2
    clear_value x3 x4
    refine Only.ite ?_ Only.refl
    split
    · exact Only.after (ih ..) rfl (State.vdComplete_only.mono rfl)
    · exact Only.ite (Only.after (ih ..) rfl hx1) hx1
    · split
      · exact Only.after (ih ..) rfl (State.vdRelease_only.mono rfl)
      · exact Only.ite (Only.upd_vdec hx3 rfl) hx3

theorem State.vdPump_only {s a1} : Only 12349137282 s (State.vdPump s a1) := by
  unfold State.vdPump
  exact State.vdDrainGo_only.after rfl (State.vdOutGo_only.after rfl (State.vdHoles_only.mono rfl))

theorem execVdecPictureComplete_only {a0 s} : Ends 12349137282 s (execVdecPictureComplete a0 s) := by
  unfold execVdecPictureComplete
  refine Ends.next ?_
  refine Only.ite ?_ Only.refl
  split
  · exact State.vdPump_only.after rfl (State.vdComplete_only.mono rfl)
  · exact Only.refl

theorem execVdecOutput_only {a0 a1 s} : Ends 12349137282 s (execVdecOutput a0 a1 s) := by
  unfold execVdecOutput
  refine Ends.next ?_
  extract_lets x0
  have hx0 : Only 12349137282 s x0 := State.vdPump_only.mono rfl
  clear_value x0
  exact Only.ite (Only.ite (State.vdDrainGo_only.after rfl (State.vdRelease_only.after rfl hx0)) hx0) Only.refl

theorem State.vdEnd_only {s a1} : Only 1048834 s (State.vdEnd s a1) := by
  unfold State.vdEnd
  extract_lets x0 x1 x2 x3 x4 x5 x6
  clear_value x0
  have hx1 : Only 1048834 s x1 := by
    unfold x1
    refine Only.foldl (fun t8 i7 h9 => ?_) Only.refl
    exact State.dropItem_only.after rfl h9
  clear_value x1
  have hx2 : Only 1048834 s x2 := by
    unfold x2
    split
    · split
      · exact State.release_only.after rfl hx1
      · exact hx1
    · exact hx1
  clear_value x2
  have hx3 : Only 1048834 s x3 := by
    unfold x3
    refine Only.foldl (fun t21 i20 h22 => ?_) hx2
    exact State.setVb_only.after rfl h22
  clear_value x3
  have hx4 : Only 1048834 s x4 := State.unwait_only.after rfl (State.unwait_only.after rfl hx3)
  clear_value x4
  have hx5 : Only 1048834 s x5 := State.setRf_only.after rfl (State.setVd_only.after rfl hx4)
  clear_value x5 x6
  exact Only.ite (Only.upd_vdec hx5 rfl) hx5

theorem State.vdCtrlWrite_only {s a1 a2} : Only 12349137282 s (State.vdCtrlWrite s a1 a2) := by
  unfold State.vdCtrlWrite
  extract_lets x0 x1 x2 x3 x4 x5 x6 x7
  clear_value x0
  have hx1 : Only 12349137282 s x1 := State.noteRsvd_only.mono rfl
  clear_value x1 x2
  have hx3 : Only 12349137282 s x3 := Only.ite hx1 (State.cfgErr_only.after rfl hx1)
  clear_value x3 x4
  have hx5 : Only 12349137282 s x5 := State.putReg_only.mono rfl
  clear_value x5 x6 x7
  refine Only.ite ?_ ?_
  · exact Only.ite (State.vdEnd_only.after rfl hx3) (Only.ite (State.vdPump_only.after rfl (State.setVd_only.after rfl hx3)) hx3)
  · refine Only.ite ?_ hx5
    exact Only.ite (State.setVd_only.after rfl (State.setRf_only.after rfl hx5)) (State.cfgErr_only.after rfl hx5)

theorem execVdecDrain_only {a0 s} : Ends 12349137282 s (execVdecDrain a0 s) := by
  unfold execVdecDrain
  refine Ends.next ?_
  exact Only.ite (State.vdCtrlWrite_only.mono rfl) Only.refl

theorem execVdecSessionDisable_only {a0 a1 s} : Ends 12349137282 s (execVdecSessionDisable a0 a1 s) := by
  unfold execVdecSessionDisable
  refine Ends.next ?_
  exact Only.ite (State.vdCtrlWrite_only.mono rfl) Only.refl

theorem State.vdSessWrite_only {s a1 a2 a3} : Only 130 s (State.vdSessWrite s a1 a2 a3) := by
  unfold State.vdSessWrite
  exact Only.ite (Only.ite Only.refl (State.refuse_only.mono rfl)) (State.putReg_only.mono rfl)

theorem State.vdDpbWrite_only {s a1 a2} : Only 130 s (State.vdDpbWrite s a1 a2) := by
  unfold State.vdDpbWrite
  exact Only.ite (State.refuse_only.mono rfl) (State.putReg_only.mono rfl)

theorem State.vdEngineWrite_only {s a1} : Only 1048962 s (State.vdEngineWrite s a1) := by
  unfold State.vdEngineWrite
  extract_lets x0 x1
  clear_value x0
  have hx1 : Only 1048962 s x1 := State.putReg_only.mono rfl
  clear_value x1
  refine Only.ite ?_ hx1
  refine Only.forEach (fun i2 t3 h4 => ?_) hx1
  exact Only.ite (State.vdEnd_only.after rfl h4) h4

end Sys2Proof.Machine
end

