-- ==== Sys2Proof/Laws/OnlyMemory.lean ====
section
/-! SUPPORT. The footprints of coherence and the memory slices (see `Only`): one lemma for each operation. -/

namespace Sys2Proof.Machine

open Sys2Proof

theorem State.setCl_only {s a1 a2 a3} : Only 2097152 s (State.setCl s a1 a2 a3) := by
  unfold State.setCl
  exact Only.upd_coh Only.refl rfl

theorem State.unreserve_only {s a1 a2} : Only 2097152 s (State.unreserve s a1 a2) := by
  unfold State.unreserve
  exact Only.ite (Only.upd_coh Only.refl rfl) Only.refl

theorem State.clDrop_only {s a1 a2} : Only 2097152 s (State.clDrop s a1 a2) := by
  unfold State.clDrop
  exact State.unreserve_only.after rfl (State.setCl_only.mono rfl)

theorem State.clFill_only {s a1 a2 a3} : Only 2097152 s (State.clFill s a1 a2 a3) := by
  unfold State.clFill
  extract_lets x0 x1 x2
  clear_value x0
  have hx1 : Only 2097152 s x1 := State.setCl_only.mono rfl
  clear_value x1 x2
  exact Only.upd_coh hx1 rfl

theorem State.takeBufs_only {s a1} : Only 2097152 s (State.takeBufs s a1) := by
  unfold State.takeBufs
  exact Only.upd_coh Only.refl rfl

theorem State.dropAll_only {s a1 a2} : Only 2097152 s (State.dropAll s a1 a2) := by
  unfold State.dropAll
  refine Only.forEach (fun i0 t1 h2 => ?_) Only.refl
  exact State.clDrop_only.after rfl h2

theorem State.lineOut_only {s a1 a2 a3 a4} : Only 1610670210 s (State.lineOut s a1 a2 a3 a4) := by
  unfold State.lineOut
  extract_lets x0
  clear_value x0
  exact State.writeLine_only.after rfl (State.writeLine_only.mono rfl)

theorem State.lineIn_only {s a1 a2 p} (e : State.lineIn s a1 a2 = p) : Only 10200547458 s p.2.2 := by
  subst e
  unfold State.lineIn
  extract_lets x0 x1 x2
  have hx0 : Only 10200547458 s x0.2 := (State.readLine_only (p := x0) rfl).mono rfl
  clear_value x0 x1
  have hx2 : Only 10200547458 s x2 := hx0
  clear_value x2
  exact Only.snd2 (Only.snd (hx2))

theorem State.tracked_only {s a1} : Only 2 s (State.tracked s a1) := by
  unfold State.tracked
  extract_lets x0
  clear_value x0
  exact State.setRf_only.mono rfl

theorem State.cohFw_only {g cpu line : Nat} {w : Bool} {f : State → State} {s t : State} (hm : Only.sub 12884902018 g = true)
    (hf : ∀ u, Only g s u → Only g s (f u)) (h : Only g s t) : Only g s (t.cohFw cpu line w f) :=
  Only.ite (hf _ (State.tracked_only.after (Only.sub_trans (by rfl) hm) h)) (State.denied_only.after (Only.sub_trans (by rfl) hm) h)

theorem State.getSAt_only {s a1 a2} : Only 10202644610 s (State.getSAt s a1 a2) := by
  unfold State.getSAt
  extract_lets x0 x1 x2 x3 x4 x5 x6
  clear_value x0 x1
  have hx2 : Only 10202644610 s x2 := by
    unfold x2
    refine Only.forEach (fun i7 t8 h9 => ?_) Only.refl
    split
    · exact Only.ite (State.unreserve_only.after rfl (State.setCl_only.after rfl h9)) (Only.ite (State.unreserve_only.after rfl (State.setCl_only.after rfl h9)) h9)
    · exact h9
  clear_value x2
  have hx3 : Only 10202644610 s x3.2.2 := (State.lineIn_only (p := x3) rfl).mono rfl
  clear_value x3 x4 x5
  have hx6 : Only 10202644610 s x6 := hx3
  clear_value x6
  split
  · extract_lets x21
    have hx21 : Only 10202644610 s x21 := Only.ite (State.takeBufs_only.after rfl hx2) hx2
    clear_value x21
    exact State.clFill_only.after rfl hx21
  · exact State.clFill_only.after rfl hx6

theorem State.getMAt_only {s a1 a2} : Only 10202644610 s (State.getMAt s a1 a2) := by
  unfold State.getMAt
  extract_lets x0 x1 x2 x3 x4
  clear_value x0
  have hx1 : Only 10202644610 s x1.2.2 := (State.lineIn_only (p := x1) rfl).mono rfl
  clear_value x1 x2 x3
  have hx4 : Only 10202644610 s x4 := hx1
  clear_value x4
  split
  · exact State.clFill_only.after rfl (State.dropAll_only.after rfl (State.takeBufs_only.mono rfl))
  · exact State.clFill_only.after rfl (State.dropAll_only.after rfl hx4)

theorem execGetS_only {a0 a1 s} : Ends 14497611906 s (execGetS a0 a1 s) := by
  unfold execGetS
  refine Ends.next ?_
  refine Only.ite ?_ Only.refl
  refine State.cohFw_only rfl (fun u0 hu1 => ?_) ?_
  · exact State.getSAt_only.after rfl hu1
  · exact Only.refl

theorem execGetM_only {a0 a1 a2 s} : Ends 14497611906 s (execGetM a0 a1 a2 s) := by
  unfold execGetM
  refine Ends.next ?_
  refine Only.ite ?_ Only.refl
  refine State.cohFw_only rfl (fun u0 hu1 => ?_) ?_
  · extract_lets x2 x3
    have hx2 : Only 14497611906 s x2 := State.getMAt_only.after rfl hu1
    clear_value x2 x3
    exact Only.ite (Only.upd_coh hx2 rfl) hx2
  · exact Only.refl

theorem execUpgrade_only {a0 a1 s} : Ends 14497611906 s (execUpgrade a0 a1 s) := by
  unfold execUpgrade
  refine Ends.next ?_
  refine Only.ite ?_ Only.refl
  split
  · refine State.cohFw_only rfl (fun u2 hu3 => ?_) Only.refl
    exact State.getMAt_only.after rfl hu3
  · refine Only.ite ?_ Only.refl
    refine State.cohFw_only rfl (fun u7 hu8 => ?_) ?_
    · exact State.setCl_only.after rfl (State.dropAll_only.after rfl (State.takeBufs_only.after rfl hu8))
    · exact Only.refl

theorem execPutDirty_only {a0 a1 s} : Ends 1612767362 s (execPutDirty a0 a1 s) := by
  unfold execPutDirty
  refine Ends.next ?_
  split
  · extract_lets x3 x4 x5
    clear_value x3
    have hx4 : Only 1612767362 s x4 := Only.upd_coh Only.refl rfl
    clear_value x4
    have hx5 : Only 1612767362 s x5 := State.tracked_only.after rfl hx4
    clear_value x5
    exact Only.ite (Only.ite hx5 (State.lineOut_only.after rfl hx5)) Only.refl
  · exact Only.refl

theorem State.syncKeepAt_only {s a1 a2} : Only 1612767362 s (State.syncKeepAt s a1 a2) := by
  unfold State.syncKeepAt
  extract_lets x0 x1 x2
  clear_value x0 x1
  have hx2 : Only 1612767362 s x2 := by
    unfold x2
    refine Only.forEach (fun i3 t4 h5 => ?_) Only.refl
    split
    · exact Only.ite (State.unreserve_only.after rfl (State.setCl_only.after rfl h5)) (Only.ite (State.setCl_only.after rfl h5) h5)
    · exact h5
  clear_value x2
  split
  · exact State.lineOut_only.after rfl (State.takeBufs_only.after rfl hx2)
  · exact hx2

theorem State.syncDropAt_only {s a1 a2} : Only 1612767362 s (State.syncDropAt s a1 a2) := by
  unfold State.syncDropAt
  extract_lets x0 x1 x2
  clear_value x0 x1
  have hx2 : Only 1612767362 s x2 := State.dropAll_only.mono rfl
  clear_value x2
  split
  · exact State.lineOut_only.after rfl (State.takeBufs_only.after rfl hx2)
  · exact hx2

theorem State.dropAt_only {s a1 a2} : Only 2097152 s (State.dropAt s a1 a2) := by
  unfold State.dropAt
  exact State.dropAll_only.after rfl (State.takeBufs_only.mono rfl)

theorem State.cboFw_only {g cpu line : Nat} {f : State → State} {s t : State} (hm : Only.sub 12884902018 g = true)
    (hf : ∀ u, Only g s u → Only g s (f u)) (h : Only g s t) : Only g s (t.cboFw cpu line f) :=
  Only.ite (hf _ (State.tracked_only.after (Only.sub_trans (by rfl) hm) h)) (State.denied_only.after (Only.sub_trans (by rfl) hm) h)

theorem execSyncKeep_only {a0 a1 s} : Ends 14497669250 s (execSyncKeep a0 a1 s) := by
  unfold execSyncKeep
  refine Ends.next ?_
  refine Only.ite ?_ Only.refl
  refine State.cboFw_only rfl (fun u0 hu1 => ?_) ?_
  · exact State.syncKeepAt_only.after rfl hu1
  · exact Only.refl

theorem execSyncDrop_only {a0 a1 s} : Ends 14497669250 s (execSyncDrop a0 a1 s) := by
  unfold execSyncDrop
  refine Ends.next ?_
  refine Only.ite ?_ Only.refl
  refine State.cboFw_only rfl (fun u0 hu1 => ?_) ?_
  · exact State.syncDropAt_only.after rfl hu1
  · exact Only.refl

theorem execDropLine_only {a0 a1 s} : Ends 12886999170 s (execDropLine a0 a1 s) := by
  unfold execDropLine
  refine Ends.next ?_
  refine Only.ite ?_ Only.refl
  refine State.cboFw_only rfl (fun u0 hu1 => ?_) ?_
  · exact State.dropAt_only.after rfl hu1
  · exact Only.refl

theorem execCboClean_only {a0 a1 s} : Ends 14497669250 s (execCboClean a0 a1 s) := by
  unfold execCboClean
  refine Ends.next ?_
  refine Only.ite ?_ Only.refl
  refine State.cboFw_only rfl (fun u0 hu1 => ?_) ?_
  · exact State.syncKeepAt_only.after rfl hu1
  · exact Only.refl

theorem execCboFlush_only {a0 a1 s} : Ends 14497669250 s (execCboFlush a0 a1 s) := by
  unfold execCboFlush
  refine Ends.next ?_
  refine Only.ite ?_ Only.refl
  refine State.cboFw_only rfl (fun u0 hu1 => ?_) ?_
  · exact State.syncDropAt_only.after rfl hu1
  · exact Only.refl

theorem execCboInval_only {a0 a1 a2 s} : Ends 14497669250 s (execCboInval a0 a1 a2 s) := by
  unfold execCboInval
  refine Ends.next ?_
  refine Only.ite (Only.upd_resp Only.refl rfl) ?_
  refine Only.ite ?_ Only.refl
  refine State.cboFw_only rfl (fun u0 hu1 => ?_) ?_
  · exact Only.ite (State.dropAt_only.after rfl hu1) (State.syncDropAt_only.after rfl hu1)
  · exact Only.refl

theorem execCacheLineEviction_only {a0 a1 s} : Ends 2097152 s (execCacheLineEviction a0 a1 s) := by
  unfold execCacheLineEviction
  refine Ends.next ?_
  split
  · extract_lets x3 x4
    have hx3 : Only 2097152 s x3 := State.clDrop_only.mono rfl
    clear_value x3 x4
    exact Only.ite (Only.upd_coh hx3 rfl) hx3
  · exact Only.refl

theorem execCpuStoreHit_only {a0 a1 a2 s} : Ends 12886999168 s (execCpuStoreHit a0 a1 a2 s) := by
  unfold execCpuStoreHit
  refine Ends.next ?_
  split
  · extract_lets x3
    clear_value x3
    exact Only.ite Only.refl (Only.ite (State.setCl_only.mono rfl) (State.denied_only.mono rfl))
  · exact Only.refl

theorem execCpuPoisonAccess_only {a0 a1 a2 s} : Ends 4297064578 s (execCpuPoisonAccess a0 a1 a2 s) := by
  unfold execCpuPoisonAccess
  refine Ends.next ?_
  split
  · extract_lets x3 x4
    clear_value x3
    have hx4 : Only 4297064578 s x4 := by
      unfold x4
      refine Only.multi Only.refl (fun p => by cases p <;> first | exact .inl rfl | exact .inr ⟨rfl, fun _ => trivial⟩) (Nat.le_refl _)
        (.inr (Nat.le_refl _))
    clear_value x4
    exact Only.ite (State.raise_only.after rfl (State.inc_only.after rfl hx4)) Only.refl
  · exact Only.refl

theorem State.isolate_only {s a1} : Only 2097154 s (State.isolate s a1) := by
  unfold State.isolate
  extract_lets x0 x1 x2
  have hx0 : Only 2097154 s x0 := State.setRf_only.after rfl (State.setRf_only.mono rfl)
  clear_value x0
  have hx1 : Only 2097154 s x1 := State.setRf_only.after rfl (State.setRf_only.after rfl hx0)
  clear_value x1 x2
  exact Only.upd_coh hx1 rfl

theorem State.scrubAt_only {s a1} : Only 1612767362 s (State.scrubAt s a1) := by
  unfold State.scrubAt
  extract_lets x0 x1
  have hx0 : Only 1612767362 s x0 := State.dropAll_only.after rfl (State.takeBufs_only.mono rfl)
  clear_value x0
  have hx1 : Only 1612767362 s x1 := Only.ite (State.dramPut_only.after rfl hx0) (State.rangeErr_only.after rfl hx0)
  clear_value x1
  exact State.setRf_only.after rfl hx1

theorem State.cohFinish_only {s a1 a2 a3 a4} : Only 1612767362 s (State.cohFinish s a1 a2 a3 a4) := by
  unfold State.cohFinish
  split
  · extract_lets x1 x2
    clear_value x1 x2
    refine State.clFill_only.after rfl ?_
    refine Only.forEach (fun i3 t4 h5 => ?_) Only.refl
    split
    · exact Only.ite (State.setCl_only.after rfl h5) (Only.ite (State.setCl_only.after rfl h5) h5)
    · exact h5
  · exact State.clFill_only.after rfl (State.dropAll_only.mono rfl)
  · exact State.clFill_only.after rfl (State.dropAll_only.mono rfl)
  · refine Only.forEach (fun i14 t15 h16 => ?_) Only.refl
    split
    · exact Only.ite (State.setCl_only.after rfl h16) (Only.ite (State.setCl_only.after rfl h16) h16)
    · exact h16
  · exact State.dropAll_only.mono rfl
  · exact State.dropAll_only.mono rfl
  · exact State.scrubAt_only.mono rfl

theorem State.snoopToWrite_only {s a1 a2} : Only 2097282 s (State.snoopToWrite s a1 a2) := by
  unfold State.snoopToWrite
  extract_lets x0 x1
  have hx0 : Only 2097282 s x0 := State.putReg_only.mono rfl
  clear_value x0 x1
  exact Only.ite hx0 (Only.upd_coh hx0 rfl)

theorem execSnoopTimeout_only {a0 a1 a2 a3 a4 s} : Ends 10202701954 s (execSnoopTimeout a0 a1 a2 a3 a4 s) := by
  unfold execSnoopTimeout
  refine Ends.next ?_
  extract_lets x0 x1 x2 x3 x4 x5 x6 x7
  clear_value x0
  have hx1 : Only 10202701954 s x1 := State.isolate_only.mono rfl
  clear_value x1 x2
  have hx3 : Only 10202701954 s x3 := Only.upd_fresh hx1 rfl (Nat.le_succ _)
  clear_value x3
  have hx4 : Only 10202701954 s x4 := State.tracked_only.after rfl (State.takeBufs_only.after rfl hx3)
  clear_value x4
  have hx5 : Only 10202701954 s x5 := Only.ite (State.dramPut_only.after rfl hx4) (State.rangeErr_only.after rfl hx4)
  clear_value x5
  have hx6 : Only 10202701954 s x6 := State.cohFinish_only.after rfl hx5
  clear_value x6
  have hx7 : Only 10202701954 s x7 := State.inc_only.after rfl (State.setReg_only.after rfl (State.setReg_only.after rfl hx6))
  clear_value x7
  exact Only.ite (State.raise_only.after rfl hx7) Only.refl

theorem State.scrubWrite_only {s a1} : Only 1612767362 s (State.scrubWrite s a1) := by
  unfold State.scrubWrite
  extract_lets x0 x1
  clear_value x0 x1
  exact Only.ite (State.refuse_only.mono rfl) (State.scrubAt_only.after rfl (State.tracked_only.after rfl (State.putReg_only.mono rfl)))

theorem execCohScrub_only {a0 s} : Ends 1612767362 s (execCohScrub a0 s) := by
  unfold execCohScrub
  refine Ends.next ?_
  exact State.scrubWrite_only.mono rfl

theorem State.flushAllCmd_only {s a1} : Only 2097282 s (State.flushAllCmd s a1) := by
  unfold State.flushAllCmd
  extract_lets x0 x1
  clear_value x0
  have hx1 : Only 2097282 s x1 := Only.upd_coh Only.refl rfl
  clear_value x1
  exact Only.ite (State.cfgErr_only.mono rfl) (Only.ite Only.refl (State.setRf_only.after rfl hx1))

theorem execFlushAll_only {a0 s} : Ends 2097282 s (execFlushAll a0 s) := by
  unfold execFlushAll
  refine Ends.next ?_
  exact Only.ite (State.flushAllCmd_only.mono rfl) Only.refl

theorem execFlushAllDone_only {a0 s} : Ends 1612767362 s (execFlushAllDone a0 s) := by
  unfold execFlushAllDone
  refine Ends.next ?_
  extract_lets x0 x1 x2 x3 x4
  have hx0 : Only 1612767362 s x0 := by
    unfold x0
    refine Only.foldl (fun t6 i5 h7 => ?_) Only.refl
    split
    · extract_lets x11
      have hx11 : Only 1612767362 s x11 := State.clDrop_only.after rfl h7
      clear_value x11
      exact Only.ite (State.lineOut_only.after rfl hx11) hx11
    · exact h7
  clear_value x0 x1
  have hx2 : Only 1612767362 s x2 := by
    unfold x2
    refine Only.foldl (fun t15 i14 h16 => ?_) hx0
    exact Only.ite h16 (State.lineOut_only.after rfl h16)
  clear_value x2 x3
  have hx4 : Only 1612767362 s x4 := Only.upd_coh hx2 rfl
  clear_value x4
  exact Only.ite (State.setRf_only.after rfl hx4) Only.refl

theorem State.cohReset_only {s a1} : Only 2097154 s (State.cohReset s a1) := by
  unfold State.cohReset
  extract_lets x0 x1 x2
  have hx0 : Only 2097154 s x0 := by
    unfold x0
    refine Only.foldl (fun t4 i3 h5 => ?_) Only.refl
    exact State.clDrop_only.after rfl h5
  clear_value x0 x1
  have hx2 : Only 2097154 s x2 := Only.upd_coh hx0 rfl
  clear_value x2
  exact State.setReg_only.after rfl (State.setRf_only.after rfl hx2)

theorem State.cohJoin_only {s a1} : Only 2 s (State.cohJoin s a1) := by
  unfold State.cohJoin
  exact State.setReg_only.after rfl (State.setRf_only.after rfl (State.setRf_only.mono rfl))

theorem State.memInitCmd_only {s} : Only 536871040 s (State.memInitCmd s) := by
  unfold State.memInitCmd
  exact Only.ite (State.cfgErr_only.mono rfl) (Only.upd_ms Only.refl rfl)

theorem execMemInit_only {s} : Ends 536871040 s (execMemInit s) := by
  unfold execMemInit
  refine Ends.next ?_
  exact State.memInitCmd_only.mono rfl

theorem State.memCtrlWrite_only {s a1} : Only 536871042 s (State.memCtrlWrite s a1) := by
  unfold State.memCtrlWrite
  extract_lets x0 x1 x2 x3 x4 x5
  clear_value x0
  have hx1 : Only 536871042 s x1 := State.noteRsvd_only.mono rfl
  clear_value x1 x2 x3
  have hx4 : Only 536871042 s x4 := Only.ite (State.cfgErr_only.after rfl hx1) (State.setRf_only.after rfl hx1)
  clear_value x4
  have hx5 : Only 536871042 s x5 := Only.ite (State.setRf_only.after rfl hx4) hx4
  clear_value x5
  exact Only.ite (State.memInitCmd_only.after rfl hx5) hx5

theorem State.memCfgWrite_only {s a1} : Only 130 s (State.memCfgWrite s a1) := by
  unfold State.memCfgWrite
  extract_lets x0
  clear_value x0
  exact Only.ite (State.refuse_only.mono rfl) (State.putReg_only.mono rfl)

theorem State.dramLost_only {s} : Only 57344 s (State.dramLost s) := by
  unfold State.dramLost
  refine Only.multi Only.refl (fun p => by cases p <;> first | exact .inl rfl | exact .inr ⟨rfl, fun _ => trivial⟩ | exact .inr ⟨rfl,
    (fun _ => rfl)⟩) (Nat.le_refl _) (.inr (Nat.le_refl _))

theorem State.memTrained_only {s} : Only 536928258 s (State.memTrained s) := by
  unfold State.memTrained
  extract_lets x0 x1 x2 x3 x4 x5 x6
  clear_value x0
  have hx1 : Only 536928258 s x1 := Only.ite Only.refl (State.dramLost_only.mono rfl)
  clear_value x1 x2
  have hx3 : Only 536928258 s x3 := Only.upd_ms hx1 rfl
  clear_value x3
  have hx4 : Only 536928258 s x4 := State.setReg_only.after rfl hx3
  clear_value x4 x5
  have hx6 : Only 536928258 s x6 := State.setReg_only.after rfl (State.setReg_only.after rfl hx4)
  clear_value x6
  refine Only.forEach (fun i7 t8 h9 => ?_) hx6
  extract_lets x10
  clear_value x10
  exact State.setRf_only.after rfl (State.setChan_only.after rfl h9)

theorem execMemInitDone_only {s} : Ends 536928258 s (execMemInitDone s) := by
  unfold execMemInitDone
  refine Ends.next ?_
  exact Only.ite (State.memTrained_only.mono rfl) Only.refl

theorem State.showCredits_only {s a1} : Only 1073741826 s (State.showCredits s a1) := by
  unfold State.showCredits
  extract_lets x0 x1 x2
  clear_value x0 x1
  have hx2 : Only 1073741826 s x2 := State.setStat_only.mono rfl
  clear_value x2
  exact State.setReg_only.after rfl hx2

theorem State.setUe_only {s a1} : Only 32768 s (State.setUe s a1) := by
  unfold State.setUe
  refine Only.foldl (fun t1 i0 h2 => ?_) Only.refl
  exact Only.ite h2 (Only.upd_memUe h2 rfl (twf_tset _ _ _ _))

theorem State.corrected_only {s a1 a2 a3} : Only 1073741954 s (State.corrected s a1 a2 a3) := by
  unfold State.corrected
  extract_lets x0
  have hx0 : Only 1073741954 s x0 := State.setStat_only.after rfl (State.inc_only.mono rfl)
  clear_value x0
  refine Only.ite ?_ hx0
  refine Only.foldl (fun t2 i1 h3 => ?_) hx0
  exact State.raiseKeyed_only.after rfl h3

theorem State.serveRead_only {s a1 a2 a3} : Only 5905612930 s (State.serveRead s a1 a2 a3) := by
  unfold State.serveRead
  extract_lets x0 x1 x2 x3 x4 x5 x6 x7 x8 x9
  clear_value x0 x1
  have hx2 : Only 5905612930 s x2 := Only.ite (State.setUe_only.mono rfl) Only.refl
  clear_value x2 x3 x4
  have hx5 : Only 5905612930 s x5 := State.corrected_only.after rfl hx2
  clear_value x5 x6
  have hx7 : Only 5905612930 s x7 := Only.ite hx2 (Only.upd_ms hx5 rfl)
  clear_value x7 x8
  have hx9 : Only 5905612930 s x9 := State.setStat_only.after rfl (State.ueRead_only.after rfl hx7)
  clear_value x9
  exact Only.upd_resp hx9 rfl

theorem State.rangeAnswer_only {s a1 a2} : Only 4294967424 s (State.rangeAnswer s a1 a2) := by
  unfold State.rangeAnswer
  extract_lets x0
  have hx0 : Only 4294967424 s x0 := State.rangeErr_only.mono rfl
  clear_value x0
  exact Only.upd_resp hx0 rfl

theorem execMemRead_only {a0 a1 a2 a3 a4 s} : Ends 14495547522 s (execMemRead a0 a1 a2 a3 a4 s) := by
  unfold execMemRead
  extract_lets x0 x1 x2 x3
  clear_value x0 x1
  have hx2 : Only 14495547522 s x2 := State.lineUse_only.mono rfl
  clear_value x2 x3
  refine Ends.next ?_
  refine Only.ite (State.denied_only.mono rfl) ?_
  refine Only.ite (State.denied_only.mono rfl) ?_
  refine Only.ite (State.rangeAnswer_only.mono rfl) ?_
  refine Only.ite Only.refl ?_
  exact Only.ite (State.showCredits_only.after rfl (State.setSlice_only.after rfl hx2)) (State.serveRead_only.after rfl hx2)

theorem State.drainReads_only {s a1} : Only 5905612930 s (State.drainReads s a1) := by
  unfold State.drainReads
  extract_lets x0 x1 x2 x3
  clear_value x0 x1 x2
  have hx3 : Only 5905612930 s x3 := State.setSlice_only.mono rfl
  clear_value x3
  refine State.showCredits_only.after rfl ?_
  refine Only.foldl (fun t5 i4 h6 => ?_) hx3
  exact State.serveRead_only.after rfl h6

theorem State.acceptBeats_only {s a1 a2 a3 a4 a5} : Only 1610670210 s (State.acceptBeats s a1 a2 a3 a4 a5) := by
  unfold State.acceptBeats
  extract_lets x0 x1 x2 x3 x4 x5 x6
  clear_value x0 x1
  have hx2 : Only 1610670210 s x2 := State.setUe_only.mono rfl
  clear_value x2 x3
  have hx4 : Only 1610670210 s x4 := State.corrected_only.after rfl hx2
  clear_value x4 x5
  have hx6 : Only 1610670210 s x6 := Only.upd_ms hx4 rfl
  clear_value x6
  exact State.dramBeats_only.after rfl hx6

theorem State.memTake_only {s a1 a2 a3 a4 a5 a6 a7 a8} : Only 5905637506 s (State.memTake s a1 a2 a3 a4 a5 a6 a7 a8) := by
  unfold State.memTake
  extract_lets x0 x1 x2 x3 x4 x5
  clear_value x0 x1
  have hx2 : Only 5905637506 s x2 := State.showCredits_only.after rfl (State.lineUse_only.after rfl (State.setSlice_only.mono rfl))
  clear_value x2 x3
  have hx4 : Only 5905637506 s x4 := Only.ite (Only.upd_ms hx2 rfl) hx2
  clear_value x4
  have hx5 : Only 5905637506 s x5 := State.acceptBeats_only.after rfl hx4
  clear_value x5
  exact Only.ite Only.refl (Only.upd_resp hx5 rfl)

theorem execMemWrite_only {a0 a1 a2 a3 a4 a5 a6 a7 s} : Ends 14495572098 s (execMemWrite a0 a1 a2 a3 a4 a5 a6 a7 s) := by
  unfold execMemWrite
  extract_lets x0 x1
  clear_value x0 x1
  refine Ends.next ?_
  refine Only.ite Only.refl ?_
  refine Only.ite (State.denied_only.mono rfl) ?_
  refine Only.ite (State.denied_only.mono rfl) ?_
  refine Only.ite (State.rangeAnswer_only.mono rfl) ?_
  split
  · extract_lets x5 x6 x7 x8
    clear_value x5
    have hx6 : Only 14495572098 s x6 := Only.upd_ms Only.refl rfl
    clear_value x6
    have hx7 : Only 14495572098 s x7 := State.acceptBeats_only.after rfl hx6
    clear_value x7
    have hx8 : Only 14495572098 s x8 := Only.upd_resp hx7 rfl
    clear_value x8
    exact Only.ite hx8 (State.drainReads_only.after rfl hx8)
  · exact State.memTake_only.mono rfl

theorem execDramWriteComplete_only {a0 s} : Ends 1610612738 s (execDramWriteComplete a0 s) := by
  unfold execDramWriteComplete
  refine Ends.next ?_
  extract_lets x0
  clear_value x0
  exact Only.ite (State.showCredits_only.after rfl (State.setSlice_only.mono rfl)) Only.refl

theorem execMemCeWriteback_only {a0 s} : Ends 536870912 s (execMemCeWriteback a0 s) := by
  unfold execMemCeWriteback
  refine Ends.next ?_
  exact Only.upd_ms Only.refl rfl

theorem State.cutTraffic_only {s a1} : Only 5905629314 s (State.cutTraffic s a1) := by
  unfold State.cutTraffic
  extract_lets x0 x1 x2 x3
  clear_value x0 x1
  have hx2 : Only 5905629314 s x2 := Only.upd_ms Only.refl rfl
  clear_value x2
  have hx3 : Only 5905629314 s x3 := by
    unfold x3
    refine Only.forEach (fun i4 t5 h6 => ?_) hx2
    extract_lets x7
    clear_value x7
    exact Only.ite (State.showCredits_only.after rfl (State.setSlice_only.after rfl h6)) h6
  clear_value x3
  refine Only.foldl (fun t9 i8 h10 => ?_) hx3
  extract_lets x11 x12 x13 x14
  clear_value x11
  have hx12 : Only 5905629314 s x12 := by
    unfold x12
    split
    · exact State.setSecPoison_only.after rfl (State.setSecPoison_only.after rfl h10)
    · exact h10
  clear_value x12
  have hx13 : Only 5905629314 s x13 := State.inc_only.after rfl hx12
  clear_value x13
  have hx14 : Only 5905629314 s x14 := State.setReg_only.after rfl (State.setReg_only.after rfl hx13)
  clear_value x14
  exact State.drainReads_only.after rfl (State.raise_only.after rfl hx14)

theorem execMemStarve_only {a0 s} : Ends 536870912 s (execMemStarve a0 s) := by
  unfold execMemStarve
  refine Ends.next ?_
  extract_lets x0
  clear_value x0
  exact Only.ite (State.setSlice_only.mono rfl) Only.refl

theorem execMemLineWindow_only {a0 s} : Ends 1610612738 s (execMemLineWindow a0 s) := by
  unfold execMemLineWindow
  refine Ends.next ?_
  extract_lets x0 x1 x2 x3 x4
  clear_value x0 x1 x2
  have hx3 : Only 1610612738 s x3 := State.setStat_only.after rfl (State.setRf_only.mono rfl)
  clear_value x3
  have hx4 : Only 1610612738 s x4 := Only.ite (State.setRf_only.after rfl hx3) hx3
  clear_value x4
  exact Only.ite (State.setSlice_only.after rfl hx4) Only.refl

theorem State.setOwed_only {s a1 a2 a3} : Only 536870914 s (State.setOwed s a1 a2 a3) := by
  unfold State.setOwed
  extract_lets x0 x1 x2
  clear_value x0
  have hx1 : Only 536870914 s x1 := State.setChan_only.mono rfl
  clear_value x1 x2
  exact State.setRf_only.after rfl hx1

theorem State.catchUp_only {s} : Only 536870914 s (State.catchUp s) := by
  unfold State.catchUp
  refine Only.forEach (fun i0 t1 h2 => ?_) Only.refl
  refine Only.foldl (fun t4 i3 h5 => ?_) h2
  exact State.setOwed_only.after rfl h5

theorem execRefreshDue_only {a0 a1 a2 s} : Ends 536870914 s (execRefreshDue a0 a1 a2 s) := by
  unfold execRefreshDue
  refine Ends.next ?_
  refine Only.ite ?_ Only.refl
  exact Only.ite (State.setOwed_only.mono rfl) (Only.ite (State.catchUp_only.mono rfl) Only.refl)

theorem execRefreshForced_only {a0 a1 s} : Ends 536870914 s (execRefreshForced a0 a1 s) := by
  unfold execRefreshForced
  refine Ends.next ?_
  exact Only.ite (State.setOwed_only.mono rfl) Only.refl

theorem State.chDue_only {s a1} : Only 536870914 s (State.chDue s a1) := by
  unfold State.chDue
  extract_lets x0
  clear_value x0
  split
  · exact Only.refl
  · exact State.setRf_only.after rfl (State.setChan_only.mono rfl)

theorem State.trainStart_only {s a1} : Only 536870914 s (State.trainStart s a1) := by
  unfold State.trainStart
  extract_lets x0 x1 x2
  clear_value x0 x1
  have hx2 : Only 536870914 s x2 := Only.upd_ms Only.refl rfl
  clear_value x2
  split
  · exact State.setRf_only.after rfl hx2
  · exact hx2

theorem State.chFallsDue_only {s a1} : Only 536870914 s (State.chFallsDue s a1) := by
  unfold State.chFallsDue
  extract_lets x0
  have hx0 : Only 536870914 s x0 := State.chDue_only.mono rfl
  clear_value x0
  exact Only.ite (State.trainStart_only.after rfl hx0) hx0

theorem execMr4Poll_only {a0 a1 a2 s} : Ends 536870914 s (execMr4Poll a0 a1 a2 s) := by
  unfold execMr4Poll
  refine Ends.next ?_
  extract_lets x0 x1 x2
  clear_value x0
  have hx1 : Only 536870914 s x1 := State.setRf_only.after rfl (State.setChan_only.mono rfl)
  clear_value x1 x2
  exact Only.ite (Only.ite (State.chFallsDue_only.after rfl hx1) hx1) Only.refl

theorem execRetrainDue_only {a0 s} : Ends 536870914 s (execRetrainDue a0 s) := by
  unfold execRetrainDue
  refine Ends.next ?_
  extract_lets x0 x1
  clear_value x0 x1
  exact Only.ite (Only.ite (State.chFallsDue_only.mono rfl) Only.refl) Only.refl

theorem State.trainOff_only {s a1} : Only 2 s (State.trainOff s a1) := by
  unfold State.trainOff
  extract_lets x0 x1
  clear_value x0
  have hx1 : Only 2 s x1 := State.incWrap_only.after rfl (State.setRf_only.after rfl (State.setRf_only.mono rfl))
  clear_value x1
  exact Only.ite (State.inc_only.after rfl hx1) hx1

theorem State.trainOut_only {s a1 a2 a3} : Only 536871042 s (State.trainOut s a1 a2 a3) := by
  unfold State.trainOut
  exact Only.ite (State.setRf_only.after rfl (State.setChan_only.mono rfl)) (State.raise_only.after rfl (State.setChan_only.mono rfl))

theorem State.trainNext_only {s} : Only 536870914 s (State.trainNext s) := by
  unfold State.trainNext
  extract_lets x0 x1 x2
  clear_value x0 x1
  have hx2 : Only 536870914 s x2 := Only.upd_ms Only.refl rfl
  clear_value x2
  split
  · exact State.setRf_only.after rfl hx2
  · exact hx2

theorem State.trainAgain_only {s} : Only 536870914 s (State.trainAgain s) := by
  unfold State.trainAgain
  exact Only.ite (State.trainStart_only.mono rfl) Only.refl

theorem execRetrainComplete_only {a0 a1 s} : Ends 5905612930 s (execRetrainComplete a0 a1 s) := by
  unfold execRetrainComplete
  refine Ends.next ?_
  exact Only.ite (State.trainAgain_only.after rfl (State.drainReads_only.after rfl (State.trainNext_only.after rfl
    (State.trainOut_only.after rfl (State.trainOff_only.mono rfl))))) Only.refl

end Sys2Proof.Machine
end

