-- ==== Sys2Proof/Laws/OnlyIo.lean ====
section
/-! SUPPORT. The footprints of network, peripherals, the supervisor and PCIe (see `Only`): one lemma for each operation. -/

namespace Sys2Proof.Machine

open Sys2Proof

theorem State.ioErr_only {s a1 a2 a3} : Only 128 s (State.ioErr s a1 a2 a3) := by
  unfold State.ioErr
  exact State.raiseKeyed_only.mono rfl

theorem State.ethTail_only {s a1 a2 a3} : Only 130 s (State.ethTail s a1 a2 a3) := by
  unfold State.ethTail
  extract_lets x0
  clear_value x0
  exact Only.ite (State.refuse_only.mono rfl) (State.putReg_only.mono rfl)

theorem execEthTailWrite_only {a0 a1 a2 s} : Ends 130 s (execEthTailWrite a0 a1 a2 s) := by
  unfold execEthTailWrite
  refine Ends.next ?_
  exact Only.ite (State.ethTail_only.mono rfl) Only.refl

theorem State.ethFrame_only {s a1 a2 a3 a4 p} (e : State.ethFrame s a1 a2 a3 a4 = p) : Only 10200547458 s p.2 := by
  subst e
  induction a4 generalizing s a1 a2 a3 with
  | zero =>
    unfold State.ethFrame
    exact Only.snd (Only.refl)
  | succ n ih =>
    unfold State.ethFrame
    extract_lets x0 x1 x2 x3 x4 x5 x6
    clear_value x0 x1 x2
    have hx3 : Only 10200547458 s x3.2 := (State.unitRead_only (p := x3) rfl).mono rfl
    clear_value x3 x4
    have hx5 : Only 10200547458 s x5 := hx3
    clear_value x5 x6
    split
    · exact Only.snd (Only.refl)
    · split
      · exact Only.snd (hx5)
      · split
        · exact Only.snd (hx5)
        · split
          · rename_i y13 y14 y15 y16
            have hy15 : Only 10200547458 s y15 := Only.eq2 y16 (Only.after (ih ..) rfl hx5)
            exact Only.snd (hy15)
          · rename_i y17 y18 y19
            have hy18 : Only 10200547458 s y18 := Only.eq2 y19 (Only.after (ih ..) rfl hx5)
            exact Only.snd (hy18)

theorem State.ethGather_only {s a1 a2 p} (e : State.ethGather s a1 a2 = p) : Only 10200547458 s p.2.2 := by
  subst e
  induction a2 generalizing s a1 with
  | nil =>
    unfold State.ethGather
    exact Only.snd2 (Only.snd (Only.refl))
  | cons x l ih =>
    unfold State.ethGather
    extract_lets x0 x1 x2 x3 x4 x5 x6
    have hx0 : Only 10200547458 s x0.2 := (State.unitRead_only (p := x0) rfl).mono rfl
    clear_value x0 x1
    have hx2 : Only 10200547458 s x2 := hx0
    clear_value x2
    have hx3 : Only 10200547458 s x3.2.2 := Only.after (ih ..) rfl hx2
    clear_value x3 x4 x5
    have hx6 : Only 10200547458 s x6 := hx3
    clear_value x6
    exact Only.snd2 (Only.snd (hx6))

theorem State.ethSend_only {s a1 a2 a3} : Only 10204799106 s (State.ethSend s a1 a2 a3) := by
  unfold State.ethSend
  extract_lets x0 x1 x2 x3 x4 x5 x6 x7 x8 x9 x10 x11 x12 x13 x14 x15 x16 x17 x18 x19 x20 x21 x22 x23 x24
  have hx0 : Only 10204799106 s x0.2.2 := (State.ethGather_only (p := x0) rfl).mono rfl
  clear_value x0 x1 x2
  have hx3 : Only 10204799106 s x3 := hx0
  clear_value x3 x4 x5 x6 x7 x8 x9 x10 x11 x12 x13 x14
  have hx15 : Only 10204799106 s x15 := Only.ite (State.cfgErr_only.after rfl hx3) hx3
  clear_value x15 x16
  have hx17 : Only 10204799106 s x17 := Only.ite hx15 (Only.upd_eth hx15 rfl)
  clear_value x17
  have hx18 : Only 10204799106 s x18 := Only.ite (State.ioErr_only.after rfl hx17) hx17
  clear_value x18 x19 x20
  have hx21 : Only 10204799106 s x21 := by
    unfold x21
    refine Only.foldl (fun t26 i25 h27 => ?_) hx18
    exact State.unitWrite_only.after rfl h27
  clear_value x21 x22 x23 x24
  exact State.setRf_only.after rfl hx21

theorem execEthTxFrame_only {a0 s} : Ends 10204799106 s (execEthTxFrame a0 s) := by
  unfold execEthTxFrame
  refine Ends.next ?_
  refine Only.ite ?_ Only.refl
  split
  · rename_i y0 y1 y2 y3
    have hy2 : Only 10204799106 s y2 := (State.ethFrame_only y3).mono rfl
    exact State.ethSend_only.after rfl hy2
  · rename_i y4 y5 y6
    have hy5 : Only 10204799106 s y5 := (State.ethFrame_only y6).mono rfl
    split
    · rename_i y7 y8 y9 y10
      have hy9 : Only 10204799106 s y9 := (State.ethFrame_only y10).after rfl hy5
      exact State.ethSend_only.after rfl hy9
    · rename_i y11 y12 y13
      have hy12 : Only 10204799106 s y12 := (State.ethFrame_only y13).after rfl hy5
      exact hy12

theorem State.ethPlace_only {s a1 a2 a3 a4 a5 a6 a7 p} (e : State.ethPlace s a1 a2 a3 a4 a5 a6 a7 = p) : Only 10200604802 s p.2 := by
  subst e
  induction a7 generalizing s a1 a2 a3 a4 a5 a6 with
  | zero =>
    unfold State.ethPlace
    exact Only.snd (Only.refl)
  | succ n ih =>
    unfold State.ethPlace
    extract_lets x0 x1 x2 x3 x4 x5 x6 x7 x8 x9 x10 x11 x12 x13
    clear_value x0 x1 x2 x3
    have hx4 : Only 10200604802 s x4.2 := (State.unitRead_only (p := x4) rfl).mono rfl
    clear_value x4 x5
    have hx6 : Only 10200604802 s x6 := hx4
    clear_value x6 x7 x8 x9 x10
    have hx11 : Only 10200604802 s x11 := State.unitWrite_only.after rfl hx6
    clear_value x11
    have hx12 : Only 10200604802 s x12 := State.setRf_only.after rfl hx11
    clear_value x12 x13
    split
    · exact Only.snd (Only.ite Only.refl hx6)
    · split
      · exact Only.snd (State.unitWrite_only.after rfl hx12)
      · split
        · rename_i y18 y19 y20
          have hy19 : Only 10200604802 s y19 := Only.eq2 y20 (Only.after (ih ..) rfl hx12)
          exact Only.snd (State.unitWrite_only.after rfl hy19)
        · rename_i y21 y22 y23
          have hy22 : Only 10200604802 s y22 := Only.eq2 y23 (Only.after (ih ..) rfl hx12)
          exact Only.snd (State.unitWrite_only.after rfl hy22)

theorem execEthRxFrame_only {a0 a1 s} : Ends 10204799106 s (execEthRxFrame a0 a1 s) := by
  unfold execEthRxFrame
  refine Ends.next ?_
  extract_lets x0 x1 x2 x3 x4
  have hx0 : Only 10204799106 s x0 := State.inc_only.mono rfl
  clear_value x0 x1 x2 x3 x4
  refine Only.ite ?_ Only.refl
  refine Only.ite hx0 ?_
  refine Only.ite (Only.upd_eth Only.refl rfl) ?_
  refine Only.ite Only.refl ?_
  split
  · rename_i y5 y6 y7
    have hy6 : Only 10204799106 s y6 := (State.ethPlace_only y7).mono rfl
    exact hy6
  · rename_i y8 y9 y10
    have hy9 : Only 10204799106 s y9 := (State.ethPlace_only y10).mono rfl
    exact State.ioErr_only.after rfl (State.inc_only.after rfl hy9)

theorem execEthLinkChange_only {a0 a1 a2 a3 s} : Ends 2 s (execEthLinkChange a0 a1 a2 a3 s) := by
  unfold execEthLinkChange
  refine Ends.next ?_
  exact Only.ite (State.setReg_only.mono rfl) Only.refl

theorem State.mdioWrite_only {s a1 a2} : Only 8589934722 s (State.mdioWrite s a1 a2) := by
  unfold State.mdioWrite
  extract_lets x0 x1 x2 x3 x4
  clear_value x0
  have hx1 : Only 8589934722 s x1 := State.putReg_only.mono rfl
  clear_value x1
  have hx2 : Only 8589934722 s x2.2 := (State.draw_only (p := x2) rfl).after rfl hx1
  clear_value x2 x3
  have hx4 : Only 8589934722 s x4 := hx2
  clear_value x4
  exact Only.ite (State.setRf_only.after rfl (State.setRf_only.after rfl hx4)) hx1

theorem execMdioGo_only {a0 a1 s} : Ends 8589934722 s (execMdioGo a0 a1 s) := by
  unfold execMdioGo
  refine Ends.next ?_
  exact Only.ite (State.mdioWrite_only.mono rfl) Only.refl

theorem State.setI3c_only {s a1 a2} : Only 8388610 s (State.setI3c s a1 a2) := by
  unfold State.setI3c
  extract_lets x0 x1 x2
  clear_value x0
  have hx1 : Only 8388610 s x1 := Only.upd_per Only.refl rfl
  clear_value x1 x2
  exact State.setReg_only.after rfl hx1

theorem State.i3cEnter_only {s a1 a2} : Only 8388738 s (State.i3cEnter s a1 a2) := by
  unfold State.i3cEnter
  extract_lets x0 x1 x2
  clear_value x0
  have hx1 : Only 8388738 s x1 := State.noteRsvd_only.mono rfl
  clear_value x1 x2
  exact Only.ite (State.cfgErr_only.after rfl hx1) (State.setI3c_only.after rfl hx1)

theorem execI3cCommand_only {a0 a1 s} : Ends 8388738 s (execI3cCommand a0 a1 s) := by
  unfold execI3cCommand
  refine Ends.next ?_
  exact Only.ite (State.i3cEnter_only.mono rfl) Only.refl

theorem execI3cWaitRelease_only {a0 s} : Ends 8388610 s (execI3cWaitRelease a0 s) := by
  unfold execI3cWaitRelease
  refine Ends.next ?_
  extract_lets x0
  clear_value x0
  refine Only.ite ?_ Only.refl
  split
  · split
    · exact Only.ite (State.setI3c_only.mono rfl) Only.refl
    · exact Only.refl
  · exact Only.refl

theorem execI3cTransferComplete_only {a0 a1 a2 a3 s} : Ends 8388738 s (execI3cTransferComplete a0 a1 a2 a3 s) := by
  unfold execI3cTransferComplete
  refine Ends.next ?_
  extract_lets x0 x1
  clear_value x0 x1
  refine Only.ite ?_ Only.refl
  split
  · extract_lets x6 x7 x8 x9 x10 x11
    clear_value x6 x7 x8 x9
    have hx10 : Only 8388738 s x10 := State.setI3c_only.mono rfl
    clear_value x10
    have hx11 : Only 8388738 s x11 := Only.ite (State.setRf_only.after rfl hx10) hx10
    clear_value x11
    exact Only.ite Only.refl (Only.ite hx11 (State.ioErr_only.after rfl hx11))
  · exact Only.refl

theorem execI3cIbi_only {a0 a1 s} : Ends 8388610 s (execI3cIbi a0 a1 s) := by
  unfold execI3cIbi
  refine Ends.next ?_
  extract_lets x0 x1
  clear_value x0 x1
  exact Only.ite (Only.ite (State.setRf_only.mono rfl) (State.setI3c_only.mono rfl)) Only.refl

theorem State.i3cAbortCmd_only {s a1} : Only 8598323202 s (State.i3cAbortCmd s a1) := by
  unfold State.i3cAbortCmd
  extract_lets x0 x1 x2 x3
  clear_value x0
  have hx1 : Only 8598323202 s x1.2 := (State.draw_only (p := x1) rfl).mono rfl
  clear_value x1 x2
  have hx3 : Only 8598323202 s x3 := hx1
  clear_value x3
  split
  · exact Only.refl
  · extract_lets x10
    clear_value x10
    exact State.setI3c_only.after rfl hx3

theorem execI3cAbort_only {a0 s} : Ends 8598323202 s (execI3cAbort a0 s) := by
  unfold execI3cAbort
  refine Ends.next ?_
  exact Only.ite (State.i3cAbortCmd_only.mono rfl) Only.refl

theorem State.i3cCtrlWrite_only {s a1 a2} : Only 8598323330 s (State.i3cCtrlWrite s a1 a2) := by
  unfold State.i3cCtrlWrite
  extract_lets x0
  have hx0 : Only 8598323330 s x0 := State.putReg_only.mono rfl
  clear_value x0
  exact Only.ite (State.i3cAbortCmd_only.after rfl hx0) hx0

theorem State.answer_only {s a1} : Only 4294967296 s (State.answer s a1) := by
  unfold State.answer
  exact Only.upd_resp Only.refl rfl

theorem State.i3cRespRead_only {s a1} : Only 4303355906 s (State.i3cRespRead s a1) := by
  unfold State.i3cRespRead
  extract_lets x0
  clear_value x0
  split
  · exact State.answer_only.after rfl (State.setI3c_only.mono rfl)
  · exact State.answer_only.mono rfl

theorem execI3cRespRead_only {a0 s} : Ends 4303355906 s (execI3cRespRead a0 s) := by
  unfold execI3cRespRead
  refine Ends.next ?_
  exact Only.ite (State.i3cRespRead_only.mono rfl) Only.refl

theorem State.i3cIbiRead_only {s a1} : Only 4303355906 s (State.i3cIbiRead s a1) := by
  unfold State.i3cIbiRead
  extract_lets x0
  clear_value x0
  split
  · exact State.answer_only.after rfl (State.setI3c_only.mono rfl)
  · exact State.answer_only.mono rfl

theorem execI3cIbiRead_only {a0 s} : Ends 4303355906 s (execI3cIbiRead a0 s) := by
  unfold execI3cIbiRead
  refine Ends.next ?_
  exact Only.ite (State.i3cIbiRead_only.mono rfl) Only.refl

theorem State.i3cDataWrite_only {s a1 a2} : Only 8388610 s (State.i3cDataWrite s a1 a2) := by
  unfold State.i3cDataWrite
  extract_lets x0
  clear_value x0
  exact State.setI3c_only.mono rfl

theorem State.i3cDataRead_only {s a1} : Only 4303355906 s (State.i3cDataRead s a1) := by
  unfold State.i3cDataRead
  extract_lets x0
  clear_value x0
  exact State.answer_only.after rfl (State.setI3c_only.mono rfl)

theorem State.setUart_only {s a1 a2} : Only 8388610 s (State.setUart s a1 a2) := by
  unfold State.setUart
  exact State.setRf_only.after rfl (Only.upd_per Only.refl rfl)

theorem State.uartPut_only {s a1 a2} : Only 8388608 s (State.uartPut s a1 a2) := by
  unfold State.uartPut
  extract_lets x0 x1 x2
  clear_value x0 x1 x2
  exact Only.ite Only.refl (Only.upd_per Only.refl rfl)

theorem State.uartWrite_only {s a1 a2 a3} : Only 8388610 s (State.uartWrite s a1 a2 a3) := by
  unfold State.uartWrite
  extract_lets x0
  have hx0 : Only 8388610 s x0 := State.noteRsvd_only.mono rfl
  clear_value x0
  exact Only.ite (State.uartPut_only.after rfl hx0) hx0

theorem execUartRxByte_only {a0 a1 s} : Ends 8388738 s (execUartRxByte a0 a1 s) := by
  unfold execUartRxByte
  refine Ends.next ?_
  exact Only.ite (Only.ite (State.ioErr_only.mono rfl) (State.setUart_only.mono rfl)) Only.refl

theorem State.uartRead_only {s a1} : Only 4303355906 s (State.uartRead s a1) := by
  unfold State.uartRead
  split
  · exact State.answer_only.after rfl (State.setUart_only.mono rfl)
  · exact State.answer_only.mono rfl

theorem State.gpioCapture_only {s a1} : Only 130 s (State.gpioCapture s a1) := by
  unfold State.gpioCapture
  extract_lets x0 x1 x2 x3 x4
  clear_value x0 x1 x2
  have hx3 : Only 130 s x3 := State.setRf_only.after rfl (State.setReg_only.mono rfl)
  clear_value x3
  have hx4 : Only 130 s x4 := State.setReg_only.after rfl (State.setRf_only.after rfl hx3)
  clear_value x4
  exact Only.ite (State.ioErr_only.after rfl (State.setRf_only.mono rfl)) (State.setReg_only.after rfl (State.setReg_only.after rfl hx4))

theorem execGpioEdge_only {a0 a1 s} : Ends 2147483778 s (execGpioEdge a0 a1 s) := by
  unfold execGpioEdge
  refine Ends.next ?_
  extract_lets x0 x1 x2 x3
  clear_value x0 x1
  have hx2 : Only 2147483778 s x2 := State.setRf_only.mono rfl
  clear_value x2
  have hx3 : Only 2147483778 s x3 := Only.ite (State.irq_only.after rfl (State.setRf_only.after rfl hx2)) hx2
  clear_value x3
  refine Only.ite ?_ Only.refl
  refine Only.forEach (fun i4 t5 h6 => ?_) hx3
  extract_lets x7
  clear_value x7
  exact Only.ite (State.gpioCapture_only.after rfl h6) h6

theorem State.capFrameRead_only {s a1} : Only 4294967298 s (State.capFrameRead s a1) := by
  unfold State.capFrameRead
  extract_lets x0
  clear_value x0
  exact State.answer_only.after rfl (State.setRf_only.after rfl (State.setRf_only.mono rfl))

theorem execGpioCapFrameRead_only {a0 s} : Ends 4294967298 s (execGpioCapFrameRead a0 s) := by
  unfold execGpioCapFrameRead
  refine Ends.next ?_
  exact Only.ite (State.capFrameRead_only.mono rfl) Only.refl

theorem State.setPba_only {s a1 a2} : Only 33554432 s (State.setPba s a1 a2) := by
  unfold State.setPba
  exact Only.upd_pcie Only.refl rfl

theorem State.msix_only {s a1} : Only 2181038080 s (State.msix s a1) := by
  unfold State.msix
  exact Only.ite Only.refl (Only.ite (State.setPba_only.mono rfl) (State.irq_only.mono rfl))

theorem State.supWrite_only {s a1 a2 a3} : Only 1610670210 s (State.supWrite s a1 a2 a3) := by
  unfold State.supWrite
  refine Only.foldl (fun t1 i0 h2 => ?_) Only.refl
  exact Only.ite (State.dramWrite_only.after rfl (State.lineUse_only.after rfl h2)) (Only.ite (State.rangeErr_only.after rfl h2) h2)

theorem State.supRead_only {s a1 a2 a3 p} (e : State.supRead s a1 a2 a3 = p) : Only 10200547458 s p.2 := by
  subst e
  unfold State.supRead
  refine Only.foldl2 (fun t1 i0 h2 => ?_) Only.refl
  extract_lets x3
  have hx3 : Only 10200547458 s x3 := h2
  clear_value x3
  split
  · exact Only.snd (State.ueRead_only.after rfl (State.lineUse_only.after rfl hx3))
  · split
    · exact Only.snd (State.rangeErr_only.after rfl hx3)
    · exact Only.snd (Only.upd_fresh hx3 rfl (Nat.le_succ _))

theorem State.powerReq_only {s a1} : Only 2214592514 s (State.powerReq s a1) := by
  unfold State.powerReq
  extract_lets x0 x1 x2 x3
  clear_value x0 x1
  have hx2 : Only 2214592514 s x2 := State.setRf_only.mono rfl
  clear_value x2 x3
  refine Only.ite Only.refl ?_
  refine Only.ite (State.setRf_only.after rfl (Only.upd_pwr Only.refl rfl)) ?_
  refine Only.ite (State.setRf_only.mono rfl) ?_
  exact Only.ite Only.refl (Only.ite (State.irq_only.after rfl (Only.upd_pwr hx2 rfl)) hx2)

theorem State.takeCmd_only {s a1} : Only 16777216 s (State.takeCmd s a1) := by
  unfold State.takeCmd
  extract_lets x0 x1
  clear_value x0 x1
  exact Only.upd_dsv Only.refl rfl

theorem State.putWords_only {s a1 a2} : Only 2 s (State.putWords s a1 a2) := by
  unfold State.putWords
  refine Only.foldl2 (fun t1 i0 h2 => ?_) Only.refl
  exact Only.snd (State.setReg_only.after rfl h2)

theorem State.putResp_only {s a1 a2 a3 a4 a5} : Only 2 s (State.putResp s a1 a2 a3 a4 a5) := by
  unfold State.putResp
  exact State.putWords_only.mono rfl

theorem State.mailSignal_only {s a1} : Only 2181038082 s (State.mailSignal s a1) := by
  unfold State.mailSignal
  extract_lets x0
  have hx0 : Only 2181038082 s x0 := State.setRf_only.mono rfl
  clear_value x0
  split
  · exact State.msix_only.after rfl hx0
  · exact State.irq_only.after rfl hx0

theorem State.reply_only {s a1 a2 a3} : Only 2197815298 s (State.reply s a1 a2 a3) := by
  unfold State.reply
  extract_lets x0 x1
  have hx0 : Only 2197815298 s x0 := State.setRf_only.after rfl (State.putResp_only.mono rfl)
  clear_value x0 x1
  exact State.mailSignal_only.after rfl (Only.upd_dsv hx0 rfl)

theorem State.doorbell_only {s a1} : Only 2197815298 s (State.doorbell s a1) := by
  unfold State.doorbell
  extract_lets x0 x1 x2
  clear_value x0
  have hx1 : Only 2197815298 s x1 := State.setRf_only.after rfl (State.takeCmd_only.mono rfl)
  clear_value x1 x2
  exact Only.ite (State.mailSignal_only.after rfl (State.putResp_only.mono rfl)) (Only.upd_dsv hx1 rfl)

theorem State.serve_only {g cmd : Nat} {p : Page} {both : Bool} {lens : Nat → Bool} {f : Bytes → State → Nat × Bytes × State}
    {s t : State} (hm : Only.sub 2197815298 g = true) (hf : ∀ l u, Only g s u → Only g s (f l u).2.2) (h : Only g s t) :
    Only g s (t.serve p cmd both lens f) := by
  have hr : ∀ {u st out}, Only g s u → Only g s (u.reply p st out) := State.reply_only.after (Only.sub_trans (by rfl) hm)
  exact Only.ite h (Only.ite (hr h) (Only.ite (hr h) (hr (hf _ _ h))))

theorem State.setChainNext_only {s a1} : Only 2 s (State.setChainNext s a1) := by
  unfold State.setChainNext
  exact State.setReg_only.after rfl (State.setReg_only.mono rfl)

theorem State.chainCheckpoint_only {s} : Only 16777216 s (State.chainCheckpoint s) := by
  unfold State.chainCheckpoint
  exact Only.upd_dsv Only.refl rfl

theorem State.chainTake_only {s p} (e : State.chainTake s = p) : Only 16777218 s p.2 := by
  subst e
  unfold State.chainTake
  extract_lets x0 x1
  clear_value x0
  have hx1 : Only 16777218 s x1 := State.setChainNext_only.mono rfl
  clear_value x1
  exact Only.snd (Only.ite (State.chainCheckpoint_only.after rfl hx1) hx1)

theorem State.chainDrain_only {s a1} : Only 1627447426 s (State.chainDrain s a1) := by
  induction a1 generalizing s with
  | zero =>
    unfold State.chainDrain
    exact Only.refl
  | succ n ih =>
    unfold State.chainDrain
    split
    · exact Only.refl
    · extract_lets x6 x7 x8 x9
      clear_value x6 x7
      have hx8 : Only 1627447426 s x8 := State.setReg_only.after rfl (State.supWrite_only.mono rfl)
      clear_value x8 x9
      exact Only.ite Only.refl (Only.after (ih ..) rfl (Only.upd_dsv hx8 rfl))

theorem State.chainRecord_only {s a1 a2 a3 a4} : Only 10217382018 s (State.chainRecord s a1 a2 a3 a4) := by
  unfold State.chainRecord
  extract_lets x0 x1 x2 x3
  clear_value x0 x1 x2
  have hx3 : Only 10217382018 s x3 := by
    unfold x3
    refine Only.multi Only.refl (fun p => by cases p <;> first | exact .inl rfl | exact .inr ⟨rfl, fun _ => trivial⟩) (Nat.le_succ _)
      (.inr (Nat.le_refl _))
  clear_value x3
  exact State.chainDrain_only.after rfl hx3

theorem State.setSeg_only {s a1 a2} : Only 16777216 s (State.setSeg s a1 a2) := by
  unfold State.setSeg
  exact Only.upd_dsv Only.refl rfl

theorem State.segClose_only {s a1} : Only 10217382018 s (State.segClose s a1) := by
  unfold State.segClose
  split
  · exact Only.refl
  · extract_lets x5
    clear_value x5
    exact State.chainRecord_only.after rfl (State.setSeg_only.mono rfl)

theorem State.closeSegments_only {s} : Only 10217382018 s (State.closeSegments s) := by
  unfold State.closeSegments
  refine Only.forEach (fun i0 t1 h2 => ?_) Only.refl
  exact State.segClose_only.after rfl h2

theorem State.chainAppend_only {s a1 a2 a3} : Only 10217382018 s (State.chainAppend s a1 a2 a3) := by
  unfold State.chainAppend
  extract_lets x0 x1 x2
  have hx0 : Only 10217382018 s x0.2 := (State.chainTake_only (p := x0) rfl).after rfl (State.closeSegments_only.mono rfl)
  clear_value x0 x1
  have hx2 : Only 10217382018 s x2 := hx0
  clear_value x2
  exact State.chainRecord_only.after rfl hx2

theorem State.timeCorrection_only {s a1 a2 a3 a4 a5 a6 a7} : Only 10217382018 s (State.timeCorrection s a1 a2 a3 a4 a5 a6 a7) := by
  unfold State.timeCorrection
  exact Only.ite Only.refl (State.chainCheckpoint_only.after rfl (State.chainAppend_only.mono rfl))

theorem State.putRwd_only {s a1 a2} : Only 130 s (State.putRwd s a1 a2) := by
  unfold State.putRwd
  split
  · exact Only.refl
  · extract_lets x5 x6 x7 x8 x9
    have hx5 : Only 130 s x5 := State.noteRsvd_only.mono rfl
    clear_value x5 x6 x7 x8
    have hx9 : Only 130 s x9 := State.setReg_only.after rfl hx5
    clear_value x9
    exact Only.ite (State.cfgErr_only.after rfl hx9) hx9

theorem State.setKey_only {s a1 a2 a3} : Only 16777218 s (State.setKey s a1 a2 a3) := by
  unfold State.setKey
  exact State.setReg_only.after rfl (Only.upd_dsv Only.refl rfl)

theorem State.applyProt_only {s} : Only 16777218 s (State.applyProt s) := by
  unfold State.applyProt
  extract_lets x0 x1 x2 x3
  clear_value x0
  have hx1 : Only 16777218 s x1 := by
    unfold x1
    refine Only.foldl (fun t5 i4 h6 => ?_) Only.refl
    exact State.setReg_only.after rfl h6
  clear_value x1 x2
  have hx3 : Only 16777218 s x3 := Only.upd_dsv hx1 rfl
  clear_value x3
  refine State.setReg_only.after rfl ?_
  refine Only.forEach (fun i7 t8 h9 => ?_) hx3
  exact State.setReg_only.after rfl h9

theorem State.storeProt_only {s a1} : Only 16777216 s (State.storeProt s a1) := by
  unfold State.storeProt
  extract_lets x0 x1 x2
  clear_value x0 x1 x2
  exact Only.upd_dsv Only.refl rfl

theorem State.otpSet_only {s a1 a2} : Only 16777216 s (State.otpSet s a1 a2) := by
  unfold State.otpSet
  extract_lets x0 x1
  clear_value x0 x1
  exact Only.upd_dsv Only.refl rfl

theorem State.commitSv_only {s a1} : Only 16777216 s (State.commitSv s a1) := by
  unfold State.commitSv
  refine Only.forEach (fun i0 t1 h2 => ?_) Only.refl
  exact Only.ite (State.otpSet_only.after rfl h2) h2

theorem State.startImage_only {s a1 a2} : Only 2231369730 s (State.startImage s a1 a2) := by
  unfold State.startImage
  extract_lets x0 x1 x2
  have hx0 : Only 2231369730 s x0 := State.setReg_only.mono rfl
  clear_value x1
  have hx2 : Only 2231369730 s x2 := Only.upd_dsv hx0 rfl
  exact Only.ite (State.powerReq_only.after rfl hx2) hx2

theorem execBootRom_only {a0 a1 s} : Ends 2239758466 s (execBootRom a0 a1 s) := by
  unfold execBootRom
  refine Ends.next ?_
  extract_lets x0
  clear_value x0
  refine Only.ite Only.refl ?_
  refine Only.ite (State.startImage_only.mono rfl) ?_
  exact Only.ite (State.raiseC_only.after rfl (State.startImage_only.mono rfl)) (State.uartPut_only.after rfl (State.setReg_only.mono rfl))

theorem State.bringUpDram_only {s} : Only 536928386 s (State.bringUpDram s) := by
  unfold State.bringUpDram
  extract_lets x0
  have hx0 : Only 536928386 s x0 := State.memCfgWrite_only.mono rfl
  clear_value x0
  exact Only.ite Only.refl (State.memTrained_only.after rfl (State.memCtrlWrite_only.after rfl hx0))

theorem State.bootRecord_only {s a1} : Only 10217382018 s (State.bootRecord s a1) := by
  unfold State.bootRecord
  extract_lets x0 x1 x2
  clear_value x0 x1
  have hx2 : Only 10217382018 s x2 := State.setChainNext_only.after rfl (Only.upd_dsv Only.refl rfl)
  clear_value x2
  exact State.chainAppend_only.after rfl hx2

theorem State.releaseCpu0_only {s a1} : Only 2 s (State.releaseCpu0 s a1) := by
  unfold State.releaseCpu0
  extract_lets x0 x1
  clear_value x0
  have hx1 : Only 2 s x1 := State.setReg_only.after rfl (State.setReg_only.mono rfl)
  clear_value x1
  exact State.cohJoin_only.after rfl hx1

theorem execSupervisorBoot_only {a0 a1 a2 s} : Ends 10217382018 s (execSupervisorBoot a0 a1 a2 s) := by
  unfold execSupervisorBoot
  refine Ends.next ?_
  split
  · exact Only.refl
  · extract_lets x5 x6 x7 x8 x9 x10
    have hx5 : Only 10217382018 s x5 := State.applyProt_only.after rfl (State.bringUpDram_only.mono rfl)
    clear_value x5 x6
    have hx7 : Only 10217382018 s x7 := Only.upd_dsv hx5 rfl
    clear_value x7 x8
    have hx9 : Only 10217382018 s x9 := Only.ite hx7 (State.raise_only.after rfl (Only.upd_dsv hx7 rfl))
    clear_value x9
    have hx10 : Only 10217382018 s x10 := State.bootRecord_only.after rfl hx9
    clear_value x10
    refine Only.ite Only.refl ?_
    exact Only.ite (State.releaseCpu0_only.after rfl (State.supWrite_only.after rfl hx10)) (State.raiseC_only.after rfl hx10)

theorem execDebugLock_only {s} : Ends 10217382018 s (execDebugLock s) := by
  unfold execDebugLock
  refine Ends.next ?_
  split
  · extract_lets x5 x6
    have hx5 : Only 10217382018 s x5 := State.closeSegments_only.mono rfl
    clear_value x5 x6
    exact Only.ite Only.refl (State.chainAppend_only.after rfl (Only.upd_dsv hx5 rfl))
  · exact Only.refl

theorem State.supersede_only {s} : Only 16777216 s (State.supersede s) := by
  unfold State.supersede
  split
  · exact Only.upd_dsv Only.refl rfl
  · exact Only.refl

theorem State.proposeWith_only {s a1 p} (e : State.proposeWith s a1 = p) : Only 8606711808 s p.2.2 := by
  subst e
  unfold State.proposeWith
  split
  · extract_lets x1 x2 x3 x4 x5 x6
    have hx1 : Only 8606711808 s x1 := State.supersede_only.mono rfl
    clear_value x1 x2 x3 x4 x5 x6
    refine Only.snd2 (Only.snd (Only.multi hx1 (fun p => by cases p <;> first | exact .inl rfl | exact .inr ⟨rfl, fun _ => trivial⟩)
      (Nat.le_succ _) (.inr (Nat.le_refl _))))
  · exact Only.snd2 (Only.snd (Only.refl))

theorem execPropose_only {a0 s} : Ends 10787749890 s (execPropose a0 s) := by
  unfold execPropose
  refine Ends.next ?_
  refine State.serve_only rfl (fun _ u0 hu1 => ?_) ?_
  · exact (State.proposeWith_only rfl).after rfl hu1
  · exact Only.refl

theorem execCancelProposal_only {a0 s} : Ends 2197815298 s (execCancelProposal a0 s) := by
  unfold execCancelProposal
  refine Ends.next ?_
  refine State.serve_only rfl (fun _ u0 hu1 => ?_) ?_
  · exact Only.snd2 (Only.snd (Only.upd_dsv hu1 rfl))
  · exact Only.refl

theorem State.dcReject_only {s a1 a2 p} (e : State.dcReject s a1 a2 = p) : Only 16777346 s p.2.2 := by
  subst e
  unfold State.dcReject
  extract_lets x0 x1 x2
  have hx0 : Only 16777346 s x0 := State.raise_only.after rfl (State.inc_only.mono rfl)
  clear_value x0 x1 x2
  exact Only.snd2 (Only.snd (Only.upd_dsv hx0 rfl))

theorem State.countBad_only {s a1} : Only 16777216 s (State.countBad s a1) := by
  unfold State.countBad
  exact Only.ite (Only.upd_dsv Only.refl rfl) (Only.upd_dsv Only.refl rfl)

theorem State.badSignature_only {s a1 p} (e : State.badSignature s a1 = p) : Only 16777346 s p.2.2 := by
  subst e
  unfold State.badSignature
  extract_lets x0
  have hx0 : Only 16777346 s x0.2.2 := (State.dcReject_only (p := x0) rfl).mono rfl
  clear_value x0
  exact Only.snd2 (Only.snd (State.countBad_only.after rfl hx0))

theorem State.applyOp_only {s a1 a2 a3 p} (e : State.applyOp s a1 a2 a3 = p) : Only 16777346 s p.2 := by
  subst e
  unfold State.applyOp
  split
  · extract_lets x2 x3 x4
    clear_value x2 x3
    have hx4 : Only 16777346 s x4 := State.putRwd_only.mono rfl
    clear_value x4
    exact Only.snd (hx4)
  · extract_lets x7
    clear_value x7
    exact Only.snd (State.setKey_only.mono rfl)
  · exact Only.snd (State.setKey_only.mono rfl)
  · exact Only.snd (Only.upd_dsv Only.refl rfl)
  · exact Only.snd (State.commitSv_only.mono rfl)

theorem State.applyOps_only {s a1 a2 a3 p} (e : State.applyOps s a1 a2 a3 = p) : Only 16777346 s p.2 := by
  subst e
  induction a3 generalizing s a1 a2 with
  | nil =>
    unfold State.applyOps
    exact Only.snd (Only.refl)
  | cons x l ih =>
    unfold State.applyOps
    extract_lets x0 x1 x2 x3 x4 x5
    have hx0 : Only 16777346 s x0.2 := (State.applyOp_only (p := x0) rfl).mono rfl
    clear_value x0 x1
    have hx2 : Only 16777346 s x2 := hx0
    clear_value x2
    have hx3 : Only 16777346 s x3.2 := Only.after (ih ..) rfl hx2
    clear_value x3 x4
    have hx5 : Only 16777346 s x5 := hx3
    clear_value x5
    exact Only.snd (hx5)

theorem State.proposalDone_only {s} : Only 16777216 s (State.proposalDone s) := by
  unfold State.proposalDone
  exact Only.upd_dsv Only.refl rfl

theorem State.applyProposal_only {s a1 p} (e : State.applyProposal s a1 = p) : Only 10217382018 s p.2.2 := by
  subst e
  unfold State.applyProposal
  extract_lets x0 x1 x2 x3 x4
  clear_value x0 x1
  have hx2 : Only 10217382018 s x2.2 := (State.applyOps_only (p := x2) rfl).after rfl (State.setReg_only.mono rfl)
  clear_value x2
  have hx3 : Only 10217382018 s x3 := State.proposalDone_only.after rfl (State.storeProt_only.after rfl hx2)
  clear_value x3
  have hx4 : Only 10217382018 s x4 := State.chainCheckpoint_only.after rfl (State.chainAppend_only.after rfl hx3)
  clear_value x4
  exact Only.snd2 (Only.snd (hx4))

theorem State.endorseWith_only {s a1 a2 p} (e : State.endorseWith s a1 a2 = p) : Only 10217382018 s p.2.2 := by
  subst e
  unfold State.endorseWith
  extract_lets x0 x1
  clear_value x0 x1
  iterate 9
    split
    · exact (State.dcReject_only rfl).mono rfl
  split
  all_goals
    split
    · exact (State.badSignature_only rfl).mono rfl
    · split
      · exact (State.dcReject_only rfl).mono rfl
      · exact (State.applyProposal_only rfl).mono rfl

theorem execEndorse_only {a0 a1 s} : Ends 12398420098 s (execEndorse a0 a1 s) := by
  unfold execEndorse
  refine Ends.next ?_
  refine State.serve_only rfl (fun _ u0 hu1 => ?_) ?_
  · exact (State.endorseWith_only rfl).after rfl hu1
  · exact Only.refl

theorem execEndorseLockoutEnd_only {s} : Ends 16777216 s (execEndorseLockoutEnd s) := by
  unfold execEndorseLockoutEnd
  refine Ends.next ?_
  split
  · exact Only.ite Only.refl (Only.upd_dsv Only.refl rfl)
  · exact Only.refl

theorem execGetInfo_only {a0 s} : Ends 2197815298 s (execGetInfo a0 s) := by
  unfold execGetInfo
  refine Ends.next ?_
  refine State.serve_only rfl (fun _ u0 hu1 => ?_) ?_
  · extract_lets x2
    clear_value x2
    exact Only.snd2 (Only.snd (hu1))
  · exact Only.refl

theorem execGetDeviceCert_only {a0 s} : Ends 2197815298 s (execGetDeviceCert a0 s) := by
  unfold execGetDeviceCert
  refine Ends.next ?_
  refine State.serve_only rfl (fun _ u0 hu1 => ?_) ?_
  · exact Only.snd2 (Only.snd (hu1))
  · exact Only.refl

theorem execAttest_only {a0 s} : Ends 10787749890 s (execAttest a0 s) := by
  unfold execAttest
  refine Ends.next ?_
  refine State.serve_only rfl (fun _ u0 hu1 => ?_) ?_
  · extract_lets x2 x3 x4
    clear_value x2 x3 x4
    exact Only.snd2 (Only.snd (Only.upd_fresh hu1 rfl (Nat.le_succ _)))
  · exact Only.refl

theorem execGetProtection_only {a0 s} : Ends 2197815298 s (execGetProtection a0 s) := by
  unfold execGetProtection
  refine Ends.next ?_
  refine State.serve_only rfl (fun _ u0 hu1 => ?_) ?_
  · extract_lets x2 x3
    clear_value x2 x3
    exact Only.snd2 (Only.snd (hu1))
  · exact Only.refl

theorem execChainFlush_only {a0 s} : Ends 12398420098 s (execChainFlush a0 s) := by
  unfold execChainFlush
  refine Ends.next ?_
  refine State.serve_only rfl (fun _ u0 hu1 => ?_) ?_
  · extract_lets x2
    have hx2 : Only 12398420098 s x2 := State.closeSegments_only.after rfl hu1
    clear_value x2
    exact Only.snd2 (Only.snd (hx2))
  · exact Only.refl

theorem execGetDeviceTag_only {a0 s} : Ends 2197815298 s (execGetDeviceTag a0 s) := by
  unfold execGetDeviceTag
  refine Ends.next ?_
  refine State.serve_only rfl (fun _ u0 hu1 => ?_) ?_
  · exact Only.snd2 (Only.snd (hu1))
  · exact Only.refl

theorem execSetDeviceTag_only {a0 s} : Ends 2197815298 s (execSetDeviceTag a0 s) := by
  unfold execSetDeviceTag
  refine Ends.next ?_
  refine State.serve_only rfl (fun _ u0 hu1 => ?_) ?_
  · exact Only.snd2 (Only.snd (Only.upd_dsv hu1 rfl))
  · exact Only.refl

theorem execFlashRead_only {a0 s} : Ends 2197815298 s (execFlashRead a0 s) := by
  unfold execFlashRead
  refine Ends.next ?_
  refine State.serve_only rfl (fun _ u0 hu1 => ?_) ?_
  · extract_lets x2 x3
    clear_value x2 x3
    split
    · exact Only.snd2 (Only.snd (hu1))
    · split
      · exact Only.snd2 (Only.snd (hu1))
      · exact Only.snd2 (Only.snd (hu1))
  · exact Only.refl

theorem execFlashWrite_only {a0 s} : Ends 2197815298 s (execFlashWrite a0 s) := by
  unfold execFlashWrite
  refine Ends.next ?_
  refine State.serve_only rfl (fun _ u0 hu1 => ?_) ?_
  · extract_lets x2 x3 x4 x5 x6
    clear_value x2 x3 x4 x5 x6
    split
    · exact Only.snd2 (Only.snd (Only.upd_dsv hu1 rfl))
    · exact Only.snd2 (Only.snd (hu1))
  · exact Only.refl

theorem execMailboxMalformed_only {a0 s} : Ends 2197815298 s (execMailboxMalformed a0 s) := by
  unfold execMailboxMalformed
  extract_lets x0
  clear_value x0
  refine Ends.next ?_
  exact Only.ite (State.reply_only.mono rfl) Only.refl

theorem execDoorbellWhileBusy_only {a0 s} : Ends 2197815298 s (execDoorbellWhileBusy a0 s) := by
  unfold execDoorbellWhileBusy
  refine Ends.next ?_
  exact Only.ite (State.doorbell_only.mono rfl) Only.refl

theorem State.forwardTry_only {s} : Only 2164261248 s (State.forwardTry s) := by
  unfold State.forwardTry
  split
  · exact Only.refl
  · extract_lets x5 x6
    clear_value x5
    have hx6 : ∀ t, Only 2164261248 s t → Only 2164261248 s (x6 t) := by
      intro t7 h8
      unfold x6
      exact Only.upd_dsv h8 rfl
    clear_value x6
    split
    · rename_i y9 y10 y11
      have hy10 : Only 2164261248 s y10 := (State.push_only y11).mono rfl
      exact hx6 _ hy10
    · rename_i y12 y13 y14
      have hy13 : Only 2164261248 s y13 := (State.push_only y14).mono rfl
      exact State.waitPush_only.after rfl hy13
    · rename_i y15 y16 y17
      have hy16 : Only 2164261248 s y16 := (State.push_only y17).mono rfl
      exact hy16
    · rename_i y18 y19 y20
      have hy19 : Only 2164261248 s y19 := (State.push_only y20).mono rfl
      exact State.raiseC_only.after rfl (hx6 _ hy19)

theorem State.segFor_only {s a1 a2 p} (e : State.segFor s a1 a2 = p) : Only 16777218 s p.2 := by
  subst e
  unfold State.segFor
  split
  · exact Only.snd (Only.refl)
  · extract_lets x5 x6 x7
    have hx5 : Only 16777218 s x5.2 := (State.chainTake_only (p := x5) rfl).mono rfl
    clear_value x5 x6
    have hx7 : Only 16777218 s x7 := hx5
    clear_value x7
    exact Only.snd (hx7)

theorem State.evidSeal_only {s a1 a2 a3 a4} : Only 12364865922 s (State.evidSeal s a1 a2 a3 a4) := by
  unfold State.evidSeal
  extract_lets x0 x1 x2 x3 x4 x5 x6 x7 x8 x9 x10 x11 x12 x13 x14 x15 x16 x17 x18 x19
  clear_value x0
  have hx1 : Only 12364865922 s x1.2 := (State.supRead_only (p := x1) rfl).mono rfl
  clear_value x1 x2
  have hx3 : Only 12364865922 s x3 := hx1
  clear_value x3
  have hx4 : Only 12364865922 s x4.2 := (State.supRead_only (p := x4) rfl).after rfl hx3
  clear_value x4 x5
  have hx6 : Only 12364865922 s x6 := hx4
  clear_value x6 x7 x8 x9
  have hx10 : Only 12364865922 s x10 := Only.ite (State.segClose_only.after rfl hx6) hx6
  clear_value x10
  have hx11 : Only 12364865922 s x11.2 := (State.segFor_only (p := x11) rfl).after rfl hx10
  clear_value x11 x12
  have hx13 : Only 12364865922 s x13 := hx11
  clear_value x13 x14
  have hx15 : Only 12364865922 s x15 := State.supWrite_only.after rfl hx13
  clear_value x15 x16
  have hx17 : Only 12364865922 s x17 := State.dropItem_only.after rfl (State.setSeg_only.after rfl hx15)
  clear_value x17 x18
  have hx19 : Only 12364865922 s x19 := State.forwardTry_only.after rfl (Only.upd_dsv hx17 rfl)
  clear_value x19
  exact Only.ite (State.segClose_only.after rfl hx19) hx19

theorem execEvidItemPop_only {a0 s} : Ends 12364865922 s (execEvidItemPop a0 s) := by
  unfold execEvidItemPop
  refine Ends.next ?_
  extract_lets x0 x1 x2
  have hx0 : Only 12364865922 s x0 := State.forwardTry_only.mono rfl
  clear_value x0 x1 x2
  refine Only.ite hx0 ?_
  refine Only.ite (State.waitPop_only.after rfl hx0) ?_
  refine Only.ite ((State.alloc_only rfl).after rfl hx0) ?_
  split
  · rename_i y3 y4 y5
    have hy4 : Only 12364865922 s y4 := (State.pop_only y5).after rfl hx0
    exact hy4
  · rename_i y6 y7 y8 y9
    have hy8 : Only 12364865922 s y8 := (State.pop_only y9).after rfl hx0
    extract_lets x10
    clear_value x10
    refine Only.ite hy8 ?_
    refine Only.ite (State.raiseC_only.after rfl (State.dropItem_only.after rfl hy8)) ?_
    refine Only.ite (State.raise_only.after rfl (State.dropItem_only.after rfl hy8)) ?_
    split
    · rename_i y11 y12 y13
      have hy12 : Only 12364865922 s y12 := (State.alloc_only y13).after rfl hy8
      exact hy12
    · rename_i y14 y15 y16 y17
      have hy16 : Only 12364865922 s y16 := (State.alloc_only y17).after rfl hy8
      exact State.evidSeal_only.after rfl hy16

theorem execSegmentTimeout_only {a0 a1 s} : Ends 10217382018 s (execSegmentTimeout a0 a1 s) := by
  unfold execSegmentTimeout
  refine Ends.next ?_
  split
  · exact Only.ite (State.segClose_only.mono rfl) Only.refl
  · exact Only.refl

theorem State.setTrains_only {s a1 a2} : Only 33554432 s (State.setTrains s a1 a2) := by
  unfold State.setTrains
  exact Only.upd_pcie Only.refl rfl

theorem State.pcieErr_only {s a1 a2} : Only 128 s (State.pcieErr s a1 a2) := by
  unfold State.pcieErr
  exact State.ioErr_only.mono rfl

theorem execPcieLinkTrain_only {a0 s} : Ends 33554432 s (execPcieLinkTrain a0 s) := by
  unfold execPcieLinkTrain
  refine Ends.next ?_
  exact Only.ite (State.setTrains_only.mono rfl) Only.refl

theorem execPcieLinkUp_only {a0 a1 a2 s} : Ends 33554434 s (execPcieLinkUp a0 a1 a2 s) := by
  unfold execPcieLinkUp
  refine Ends.next ?_
  exact Only.ite (State.setRf_only.after rfl (State.setTrains_only.mono rfl)) Only.refl

theorem State.failOut_only {s a1} : Only 4328521728 s (State.failOut s a1) := by
  unfold State.failOut
  extract_lets x0 x1 x2
  clear_value x0 x1
  have hx2 : Only 4328521728 s x2 := Only.upd_pcie Only.refl rfl
  clear_value x2
  exact Only.ite hx2 (Only.upd_resp hx2 rfl)

theorem execPcieLinkDown_only {a0 a1 s} : Ends 5939183746 s (execPcieLinkDown a0 a1 s) := by
  unfold execPcieLinkDown
  refine Ends.next ?_
  extract_lets x0
  have hx0 : Only 5939183746 s x0 := State.setRf_only.mono rfl
  clear_value x0
  exact Only.ite (State.pcieErr_only.after rfl (State.cutTraffic_only.after rfl (State.inc_only.after rfl
    (State.failOut_only.after rfl hx0)))) Only.refl

theorem State.resetRegs_only {s a1} : Only 2 s (State.resetRegs s a1) := by
  unfold State.resetRegs
  exact Only.upd_regs Only.refl rfl (twf_filter _ _ _)

theorem State.pcieHotReset_only {s} : Only 5939183746 s (State.pcieHotReset s) := by
  unfold State.pcieHotReset
  extract_lets x0 x1 x2
  clear_value x0
  have hx1 : Only 5939183746 s x1 := State.cutTraffic_only.after rfl (State.failOut_only.after rfl (State.failOut_only.mono rfl))
  clear_value x1
  have hx2 : Only 5939183746 s x2 := State.resetRegs_only.after rfl hx1
  clear_value x2
  exact State.setReg_only.after rfl (Only.upd_pcie hx2 rfl)

theorem execPciePerst_only {s} : Ends 5939183746 s (execPciePerst s) := by
  unfold execPciePerst
  refine Ends.next ?_
  exact Only.ite (State.pcieHotReset_only.mono rfl) Only.refl

theorem State.epIrqWrite_only {s a1} : Only 2181038210 s (State.epIrqWrite s a1) := by
  unfold State.epIrqWrite
  extract_lets x0
  clear_value x0
  exact Only.ite (State.refuse_only.mono rfl) (State.msix_only.after rfl (State.noteRsvd_only.mono rfl))

theorem execPcieEpIrq_only {a0 s} : Ends 2181038210 s (execPcieEpIrq a0 s) := by
  unfold execPcieEpIrq
  refine Ends.next ?_
  exact State.epIrqWrite_only.mono rfl

theorem State.msixDeliver_only {s a1} : Only 2181038080 s (State.msixDeliver s a1) := by
  unfold State.msixDeliver
  exact Only.ite (State.irq_only.after rfl (State.setPba_only.mono rfl)) Only.refl

theorem State.setMsixWord_only {s a1 a2} : Only 33554432 s (State.setMsixWord s a1 a2) := by
  unfold State.setMsixWord
  exact Only.upd_pcie Only.refl rfl

theorem execMsixUnmask_only {a0 s} : Ends 2181038080 s (execMsixUnmask a0 s) := by
  unfold execMsixUnmask
  refine Ends.next ?_
  exact Only.ite (State.msixDeliver_only.after rfl (State.setMsixWord_only.mono rfl)) Only.refl

theorem execPcieInterruptReceived_only {a0 a1 s} : Ends 2147483650 s (execPcieInterruptReceived a0 a1 s) := by
  unfold execPcieInterruptReceived
  refine Ends.next ?_
  refine Only.ite ?_ Only.refl
  exact Only.ite (Only.ite (State.irq_only.after rfl (State.setRf_only.mono rfl)) Only.refl) (Only.ite (State.irq_only.after rfl
    (State.setRf_only.mono rfl)) Only.refl)

theorem State.outbound_only {s a1 a2 a3} : Only 12918456450 s (State.outbound s a1 a2 a3) := by
  unfold State.outbound
  split
  · exact State.denied_only.mono rfl
  · extract_lets x6 x7 x8 x9 x10
    clear_value x6 x7 x8
    have hx9 : Only 12918456450 s x9 := Only.ite (State.inc_only.mono rfl) Only.refl
    clear_value x9 x10
    refine Only.ite ?_ ?_
    · refine Only.multi Only.refl (fun p => by cases p <;> first | exact .inl rfl | exact .inr ⟨rfl, fun _ => trivial⟩) (Nat.le_succ _) (.inr (Nat.le_refl _))
    · refine Only.ite (Only.upd_resp hx9 rfl) ?_
      refine Only.ite (Only.upd_resp Only.refl rfl) ?_
      split
      · exact Only.refl
      · extract_lets x16
        clear_value x16
        exact Only.upd_pcie Only.refl rfl

theorem execPcieOutboundRequest_only {a0 a1 a2 s} : Ends 12918456450 s (execPcieOutboundRequest a0 a1 a2 s) := by
  unfold execPcieOutboundRequest
  refine Ends.next ?_
  refine Only.ite Only.refl ?_
  split
  · exact State.outbound_only.mono rfl
  · exact Only.ite (State.outbound_only.mono rfl) (State.denied_only.mono rfl)
  · exact State.denied_only.mono rfl

theorem execPcieCompletionTimeout_only {a0 a1 s} : Ends 4328521856 s (execPcieCompletionTimeout a0 a1 s) := by
  unfold execPcieCompletionTimeout
  refine Ends.next ?_
  split
  · exact Only.refl
  · extract_lets x5 x6
    clear_value x5
    have hx6 : Only 4328521856 s x6 := by
      unfold x6
      refine Only.multi Only.refl (fun p => by cases p <;> first | exact .inl rfl | exact .inr ⟨rfl, fun _ => trivial⟩) (Nat.le_refl _)
        (.inr (Nat.le_refl _))
    clear_value x6
    exact Only.ite Only.refl (State.pcieErr_only.after rfl hx6)

theorem execPcieCompletionReceived_only {a0 a1 a2 s} : Ends 12918456320 s (execPcieCompletionReceived a0 a1 a2 s) := by
  unfold execPcieCompletionReceived
  refine Ends.next ?_
  split
  · exact Only.refl
  · refine Only.multi Only.refl (fun p => by cases p <;> first | exact .inl rfl | exact .inr ⟨rfl, fun _ => trivial⟩) (Nat.le_succ _) (.inr (Nat.le_refl _))

theorem State.bar2CfgWrite_only {s a1} : Only 130 s (State.bar2CfgWrite s a1) := by
  unfold State.bar2CfgWrite
  extract_lets x0 x1
  clear_value x0 x1
  exact Only.ite (Only.ite Only.refl (State.refuse_only.mono rfl)) (Only.ite (State.refuse_only.mono rfl) (State.putReg_only.mono rfl))

theorem State.bar2TgtWrite_only {s a1 a2} : Only 130 s (State.bar2TgtWrite s a1 a2) := by
  unfold State.bar2TgtWrite
  exact Only.ite (State.refuse_only.mono rfl) (State.putReg_only.mono rfl)

end Sys2Proof.Machine
end

