-- ==== Sys2Proof/Laws/OnlyErrors.lean ====
section
/-! SUPPORT. The footprints of the time of day, records, telemetry and background work (see `Only`): one lemma for each operation. -/

namespace Sys2Proof.Machine

open Sys2Proof

theorem State.holdEnter_only {s} : Only 10 s (State.holdEnter s) := by
  unfold State.holdEnter
  exact Only.ite Only.refl (State.setRf_only.after rfl (Only.upd_tod Only.refl rfl id))

theorem State.holdExit_only {s} : Only 10217382026 s (State.holdExit s) := by
  unfold State.holdExit
  extract_lets x0 x1 x2
  clear_value x0
  have hx2 : Only 10217382026 s x2 := State.setRf_only.after rfl (Only.upd_tod Only.refl rfl id)
  clear_value x2
  exact Only.ite Only.refl (State.timeCorrection_only.after rfl hx2)

theorem State.todStep_only {s} : Only 10217382026 s (State.todStep s) := by
  unfold State.todStep
  extract_lets x0 x1 x2 x3 x4 x5 x6
  clear_value x0 x1 x2 x3 x4
  have hx6 : Only 10217382026 s x6 := Only.upd_tod Only.refl rfl (fun _ => Nat.mod_lt _ (by decide))
  clear_value x6
  exact State.timeCorrection_only.after rfl hx6

theorem execTodStepGo_only {s} : Ends 10217382026 s (execTodStepGo s) := by
  unfold execTodStepGo
  refine Ends.next ?_
  exact State.todStep_only.mono rfl

theorem State.todSrcWrite_only {s a1} : Only 10217382026 s (State.todSrcWrite s a1) := by
  unfold State.todSrcWrite
  extract_lets x0 x1 x2 x3 x4
  clear_value x0
  have hx1 : Only 10217382026 s x1 := State.noteRsvd_only.mono rfl
  clear_value x1 x2
  have hx3 : Only 10217382026 s x3 := State.setRf_only.after rfl (State.setRf_only.after rfl hx1)
  clear_value x3
  split
  · exact State.holdEnter_only.after rfl hx3
  · exact Only.ite hx3 (Only.upd_tod hx3 rfl id)
  · exact Only.ite (State.holdExit_only.after rfl hx3) (State.holdEnter_only.after rfl hx3)

theorem execTodSrcWrite_only {a0 s} : Ends 10217382026 s (execTodSrcWrite a0 s) := by
  unfold execTodSrcWrite
  refine Ends.next ?_
  exact State.todSrcWrite_only.mono rfl

theorem State.ppsMissed_only {s} : Only 10 s (State.ppsMissed s) := by
  unfold State.ppsMissed
  extract_lets x0 x1 x2
  clear_value x0
  have hx2 : Only 10 s x2 := by
    unfold x2
    refine Only.upd_tod Only.refl rfl ?_
    intro h; split <;> exact h
  clear_value x2
  exact Only.ite (State.holdEnter_only.after rfl hx2) hx2

theorem State.ppsCatchUp_only {s a1} : Only 10 s (State.ppsCatchUp s a1) := by
  induction a1 generalizing s with
  | zero =>
    unfold State.ppsCatchUp
    exact Only.refl
  | succ n ih =>
    unfold State.ppsCatchUp
    exact Only.ite (Only.after (ih ..) rfl (State.ppsMissed_only.mono rfl)) Only.refl

theorem execPpsMiss_only {s} : Ends 10 s (execPpsMiss s) := by
  unfold execPpsMiss
  refine Ends.next ?_
  exact Only.ite (State.ppsMissed_only.mono rfl) Only.refl

theorem State.ppsJudge_only {s} : Only 10217382026 s (State.ppsJudge s) := by
  unfold State.ppsJudge
  extract_lets x0 x1 x2 x3 x4 x5 x6
  have hx0 : Only 10217382026 s x0 := State.ppsCatchUp_only.mono rfl
  clear_value x0 x1
  have hx3 : Only 10217382026 s x3 := Only.ite (Only.upd_tod hx0 rfl id) hx0
  clear_value x3 x4
  have hx6 : Only 10217382026 s x6 := Only.upd_tod hx3 rfl id
  clear_value x6
  exact Only.ite (Only.ite (State.holdExit_only.after rfl hx6) hx6) hx3

theorem execPpsInEdge_only {s} : Ends 10217382026 s (execPpsInEdge s) := by
  unfold execPpsInEdge
  refine Ends.next ?_
  extract_lets x0 x1
  have hx0 : Only 10217382026 s x0 := State.setReg_only.after rfl (State.setReg_only.mono rfl)
  clear_value x0
  have hx1 : Only 10217382026 s x1 := State.setReg_only.after rfl hx0
  clear_value x1
  exact Only.ite (State.ppsJudge_only.after rfl hx1) hx1

theorem execPpsOutRise_only {s} : Ends 9 s (execPpsOutRise s) := by
  unfold execPpsOutRise
  refine Ends.next ?_
  extract_lets x0 x1
  have hx0 : Only 9 s x0 := State.ticks_only.mono rfl
  clear_value x0
  exact Only.ite (Only.upd_tod hx0 rfl id) Only.refl

theorem execPpsOutFall_only {s} : Ends 9 s (execPpsOutFall s) := by
  unfold execPpsOutFall
  refine Ends.next ?_
  extract_lets x0 x1
  have hx0 : Only 9 s x0 := State.goto_only.mono rfl
  clear_value x0
  exact Only.ite (Only.upd_tod hx0 rfl id) Only.refl

theorem State.ppsOutWrite_only {s a1} : Only 138 s (State.ppsOutWrite s a1) := by
  unfold State.ppsOutWrite
  extract_lets x0 x1
  have hx0 : Only 138 s x0 := State.putReg_only.mono rfl
  clear_value x0
  exact Only.ite hx0 (Only.upd_tod hx0 rfl id)

theorem State.todRateWrite_only {s a1} : Only 130 s (State.todRateWrite s a1) := by
  unfold State.todRateWrite
  exact Only.ite Only.refl (State.putReg_only.mono rfl)

theorem State.setFifo_only {s a1} : Only 130 s (State.setFifo s a1) := by
  unfold State.setFifo
  exact State.setReg_only.after rfl (Only.upd_coll Only.refl rfl)

theorem State.accept_only {s a1} : Only 130 s (State.accept s a1) := by
  unfold State.accept
  extract_lets x0 x1
  clear_value x0 x1
  exact State.setFifo_only.after rfl (State.inc_only.mono rfl)

theorem State.lose_only {s a1} : Only 130 s (State.lose s a1) := by
  unfold State.lose
  extract_lets x0 x1 x2
  clear_value x0
  have hx1 : Only 130 s x1 := State.inc_only.mono rfl
  clear_value x1 x2
  exact Only.upd_coll hx1 rfl

theorem State.tellLost_only {s} : Only 130 s (State.tellLost s) := by
  unfold State.tellLost
  extract_lets x0 x1 x2
  clear_value x1 x2
  exact Only.ite (State.accept_only.after rfl (Only.upd_coll Only.refl rfl)) Only.refl

theorem execErrorRecordPost_only {s} : Ends 130 s (execErrorRecordPost s) := by
  unfold execErrorRecordPost
  refine Ends.next ?_
  extract_lets x0
  clear_value x0
  refine Only.ite Only.refl ?_
  split
  · exact Only.refl
  · extract_lets x7
    have hx7 : Only 130 s x7 := Only.upd_coll Only.refl rfl
    clear_value x7
    exact Only.ite (State.accept_only.after rfl hx7) (State.lose_only.after rfl hx7)

theorem State.ringPut_only {s a1 a2 a3} : Only 1610670210 s (State.ringPut s a1 a2 a3) := by
  unfold State.ringPut
  extract_lets x0
  clear_value x0
  exact State.setReg_only.after rfl (State.supWrite_only.mono rfl)

theorem State.driverRing_only {s} : Only 3758153858 s (State.driverRing s) := by
  unfold State.driverRing
  split
  · exact Only.refl
  · exact Only.ite (State.irq_only.after rfl (State.setFifo_only.after rfl (State.ringPut_only.mono rfl))) Only.refl

theorem State.hostRing_only {s} : Only 3791708290 s (State.hostRing s) := by
  unfold State.hostRing
  split
  · exact Only.refl
  · exact Only.ite (State.msix_only.after rfl (State.setFifo_only.after rfl (State.ringPut_only.mono rfl))) Only.refl

theorem execErrorRingWrite_only {s} : Ends 3791708290 s (execErrorRingWrite s) := by
  unfold execErrorRingWrite
  refine Ends.next ?_
  extract_lets x0
  have hx0 : Only 3791708290 s x0 := State.hostRing_only.after rfl (State.driverRing_only.mono rfl)
  clear_value x0
  exact Only.ite Only.refl (State.tellLost_only.after rfl (State.setFifo_only.after rfl hx0))

theorem State.ringStart_only {s a1} : Only 2 s (State.ringStart s a1) := by
  unfold State.ringStart
  exact State.setReg_only.after rfl (State.setReg_only.mono rfl)

theorem State.errCtrlWrite_only {s a1} : Only 130 s (State.errCtrlWrite s a1) := by
  unfold State.errCtrlWrite
  extract_lets x0 x1 x2 x3 x4 x5
  clear_value x0 x1 x2
  have hx3 : Only 130 s x3 := State.putReg_only.mono rfl
  clear_value x3
  have hx4 : Only 130 s x4 := Only.ite (State.ringStart_only.after rfl hx3) hx3
  clear_value x4
  have hx5 : Only 130 s x5 := Only.ite (State.ringStart_only.after rfl hx4) hx4
  clear_value x5
  exact Only.ite (State.tellLost_only.after rfl (State.setFifo_only.after rfl hx5)) hx5

theorem State.ringCfgWrite_only {s a1 a2 a3} : Only 130 s (State.ringCfgWrite s a1 a2 a3) := by
  unfold State.ringCfgWrite
  exact Only.ite (State.refuse_only.mono rfl) (State.putReg_only.mono rfl)

theorem State.ringTailWrite_only {s a1 a2 a3} : Only 130 s (State.ringTailWrite s a1 a2 a3) := by
  unfold State.ringTailWrite
  exact Only.ite (State.refuse_only.mono rfl) (State.putReg_only.mono rfl)

theorem State.chainRegWrite_only {s a1 a2} : Only 1627447426 s (State.chainRegWrite s a1 a2) := by
  unfold State.chainRegWrite
  extract_lets x0 x1
  clear_value x0
  have hx1 : Only 1627447426 s x1 := Only.ite (State.ringTailWrite_only.mono rfl) (State.ringCfgWrite_only.mono rfl)
  clear_value x1
  exact State.chainDrain_only.after rfl hx1

theorem execRateLimitIntervalEnd_only {a0 s} : Ends 128 s (execRateLimitIntervalEnd a0 s) := by
  unfold execRateLimitIntervalEnd
  extract_lets x0
  clear_value x0
  refine Ends.next ?_
  split
  · exact Only.refl
  · refine Only.ite Only.refl ?_
    split
    · exact State.setRate_only.mono rfl
    · exact State.postRec_only.after rfl (State.setRate_only.mono rfl)

theorem State.peaksAnew_only {s} : Only 1073742080 s (State.peaksAnew s) := by
  unfold State.peaksAnew
  extract_lets x0 x1 x2
  have hx0 : Only 1073742080 s x0 := by
    unfold x0
    refine Only.forEach (fun i3 t4 h5 => ?_) Only.refl
    exact Only.ite (State.pqStat_only.after rfl h5) h5
  clear_value x0
  have hx1 : Only 1073742080 s x1 := by
    unfold x1
    refine Only.forEach (fun i6 t7 h8 => ?_) hx0
    exact Only.ite (State.plStat_only.after rfl h8) h8
  clear_value x1
  have hx2 : Only 1073742080 s x2 := by
    unfold x2
    refine Only.forEach (fun i9 t10 h11 => ?_) hx1
    exact State.setStat_only.after rfl h11
  clear_value x2
  refine Only.forEach (fun i12 t13 h14 => ?_) hx2
  exact State.setStat_only.after rfl (State.setStat_only.after rfl h14)

theorem State.telArm_only {s} : Only 128 s (State.telArm s) := by
  unfold State.telArm
  exact Only.upd_coll Only.refl rfl

theorem State.snapshot_only {s} : Only 9663676802 s (State.snapshot s) := by
  unfold State.snapshot
  extract_lets x0 x1 x2 x3 x4 x5
  have hx0 : Only 9663676802 s x0 := State.telArm_only.mono rfl
  clear_value x0
  have hx1 : Only 9663676802 s x1 := State.inc_only.after rfl hx0
  clear_value x1 x2 x3 x4 x5
  refine Only.ite (Only.upd_coll hx1 rfl) ?_
  refine State.peaksAnew_only.after rfl ?_
  refine Only.multi hx0 (fun p => by cases p <;> first | exact .inl rfl | exact .inr ⟨rfl, fun _ => trivial⟩) (Nat.le_add_right _ _) (.inr
    (Nat.le_refl _))

theorem State.telPut_only {s a1 p} (e : State.telPut s a1 = p) : Only 1610670210 s p.2 := by
  subst e
  induction a1 generalizing s with
  | nil =>
    unfold State.telPut
    exact Only.snd (Only.refl)
  | cons x l ih =>
    unfold State.telPut
    split
    · exact Only.after (ih ..) rfl (State.ringPut_only.mono rfl)
    · exact Only.snd (Only.refl)

theorem State.telWrite_only {s} : Only 1610670210 s (State.telWrite s) := by
  unfold State.telWrite
  split
  · exact Only.refl
  · extract_lets x6 x7 x8 x9
    have hx6 : Only 1610670210 s x6.2 := (State.telPut_only (p := x6) rfl).mono rfl
    clear_value x6 x7
    have hx8 : Only 1610670210 s x8 := hx6
    clear_value x8 x9
    exact Only.upd_coll hx8 rfl

theorem execTelemetrySnapshot_only {s} : Ends 10200605058 s (execTelemetrySnapshot s) := by
  unfold execTelemetrySnapshot
  refine Ends.next ?_
  refine Only.ite ?_ Only.refl
  exact Only.ite (State.telWrite_only.after rfl (State.snapshot_only.mono rfl)) (State.snapshot_only.mono rfl)

theorem State.telTailWrite_only {s a1} : Only 1610670210 s (State.telTailWrite s a1) := by
  unfold State.telTailWrite
  extract_lets x0
  have hx0 : Only 1610670210 s x0 := State.ringTailWrite_only.mono rfl
  clear_value x0
  exact Only.ite (State.telWrite_only.after rfl hx0) hx0

theorem execTelemetryUnplaced_only {s} : Ends 1610670210 s (execTelemetryUnplaced s) := by
  unfold execTelemetryUnplaced
  refine Ends.next ?_
  split
  · exact Only.ite (State.telWrite_only.mono rfl) Only.refl
  · exact Only.refl

theorem State.telCtrlWrite_only {s a1} : Only 130 s (State.telCtrlWrite s a1) := by
  unfold State.telCtrlWrite
  extract_lets x0 x1 x2
  clear_value x0 x1
  have hx2 : Only 130 s x2 := State.putReg_only.mono rfl
  clear_value x2
  exact Only.ite (State.ringStart_only.after rfl (State.telArm_only.after rfl hx2)) hx2

theorem State.calStart_only {s} : Only 268435456 s (State.calStart s) := by
  unfold State.calStart
  exact Only.upd_thm Only.refl rfl

theorem State.doMaint_only {s a1} : Only 1879105730 s (State.doMaint s a1) := by
  unfold State.doMaint
  extract_lets x0 x1
  clear_value x0
  have hx1 : Only 1879105730 s x1 := Only.upd_sched Only.refl rfl
  clear_value x1
  split
  · exact State.trainStart_only.after rfl hx1
  · exact State.catchUp_only.after rfl hx1
  · exact State.calStart_only.after rfl hx1
  · exact State.telWrite_only.after rfl hx1

theorem execMaintJobGrant_only {s} : Ends 1879105730 s (execMaintJobGrant s) := by
  unfold execMaintJobGrant
  extract_lets x0
  clear_value x0
  refine Ends.next ?_
  refine Only.ite Only.refl ?_
  split
  · exact State.doMaint_only.mono rfl
  · exact Only.refl

theorem execRetrainForce_only {s} : Ends 536871042 s (execRetrainForce s) := by
  unfold execRetrainForce
  extract_lets x0 x1 x2
  clear_value x0 x1 x2
  refine Ends.next ?_
  exact Only.ite (State.raise_only.after rfl (State.trainStart_only.mono rfl)) Only.refl

end Sys2Proof.Machine
end

