-- ==== Sys2Proof/Laws/OnlyPower.lean ====
section
/-! SUPPORT. The footprints of power, resets, clocks and thermal control (see `Only`): one lemma for each operation. -/

namespace Sys2Proof.Machine

open Sys2Proof

theorem State.mainReset_only {s} : Only 1744772986 s (State.mainReset s) := by
  unfold State.mainReset
  extract_lets x0 x1 x2 x3 x4
  have hx0 : Only 1744772986 s x0 := State.resetRegs_only.mono rfl
  clear_value x0 x1 x2
  have hx3 : Only 1744772986 s x3 := by
    unfold x3
    refine Only.multi hx0 (fun p => by cases p <;> first | exact .inl rfl | exact .inr ⟨rfl, fun _ => trivial⟩ | exact .inr ⟨rfl,
      (fun _ => rfl)⟩) (Nat.le_refl _) (.inr (Nat.le_refl _))
  clear_value x3
  have hx4 : Only 1744772986 s x4 := State.setReg_only.after rfl (State.setReg_only.after rfl hx3)
  clear_value x4
  exact State.holdEnter_only.after rfl (State.setReg_only.after rfl hx4)

theorem State.selfRefresh_only {s} : Only 536870912 s (State.selfRefresh s) := by
  unfold State.selfRefresh
  exact Only.ite (Only.upd_ms Only.refl rfl) Only.refl

theorem State.dramOff_only {s} : Only 536928256 s (State.dramOff s) := by
  unfold State.dramOff
  extract_lets x0 x1
  have hx0 : Only 536928256 s x0 := State.dramLost_only.mono rfl
  clear_value x0 x1
  exact Only.upd_ms hx0 rfl

theorem State.setPwr_only {s a1 a2} : Only 2 s (State.setPwr s a1 a2) := by
  unfold State.setPwr
  exact State.setRf_only.after rfl (State.setRf_only.mono rfl)

theorem State.setRails_only {s a1 a2} : Only 2 s (State.setRails s a1 a2) := by
  unfold State.setRails
  refine Only.forEach (fun i0 t1 h2 => ?_) Only.refl
  exact State.setRf_only.after rfl h2

theorem State.noBallast_only {s} : Only 2 s (State.noBallast s) := by
  unfold State.noBallast
  exact State.setRf_only.after rfl (State.setRf_only.mono rfl)

theorem State.mainsOff_only {s a1 a2} : Only 1879048058 s (State.mainsOff s a1 a2) := by
  unfold State.mainsOff
  extract_lets x0 x1 x2 x3
  have hx0 : Only 1879048058 s x0 := State.noBallast_only.after rfl (State.dramOff_only.after rfl (State.mainReset_only.mono rfl))
  clear_value x0
  have hx1 : Only 1879048058 s x1 := State.setRf_only.after rfl (State.setReg_only.after rfl (State.setReg_only.after rfl hx0))
  clear_value x1
  have hx2 : Only 1879048058 s x2 := State.setPwr_only.after rfl (State.setRf_only.after rfl hx1)
  clear_value x2 x3
  refine Only.multi hx2 (fun p => by cases p <;> first | exact .inl rfl | exact .inr ⟨rfl, fun _ => trivial⟩) (Nat.le_refl _) (.inr (Nat.le_refl _))

theorem State.enterActive_only {s} : Only 2013208442 s (State.enterActive s) := by
  unfold State.enterActive
  extract_lets x0 x1 x2 x3 x4 x5
  clear_value x0
  have hx1 : Only 2013208442 s x1 := State.mainReset_only.mono rfl
  clear_value x1
  have hx2 : Only 2013208442 s x2 := State.setReg_only.after rfl (State.setReg_only.after rfl hx1)
  clear_value x2
  have hx3 : Only 2013208442 s x3 := State.setReg_only.after rfl (State.setRf_only.after rfl hx2)
  clear_value x3 x4 x5
  exact Only.upd_thm hx3 rfl

theorem State.upStep_only {s a1} : Only 2147426170 s (State.upStep s a1) := by
  unfold State.upStep
  extract_lets x0 x1 x2 x3
  have hx0 : Only 2147426170 s x0 := State.setRails_only.mono rfl
  clear_value x0 x1
  have hx2 : Only 2147426170 s x2 := Only.upd_pwr hx0 rfl
  clear_value x2 x3
  refine Only.ite (Only.upd_clk hx2 rfl) ?_
  exact Only.ite (State.setReg_only.after rfl (State.setReg_only.after rfl (State.setReg_only.after rfl hx2))) (Only.ite
    (State.enterActive_only.after rfl hx2) hx2)

theorem execPowerUpStep_only {s} : Ends 2147426170 s (execPowerUpStep s) := by
  unfold execPowerUpStep
  extract_lets x0 x1
  clear_value x0 x1
  refine Ends.next ?_
  refine Only.ite Only.refl ?_
  refine Only.ite (State.upStep_only.mono rfl) ?_
  exact Only.ite (State.upStep_only.after rfl (State.setRf_only.after rfl (Only.upd_pwr Only.refl rfl))) Only.refl

theorem State.beginDown_only {s a1} : Only 67108866 s (State.beginDown s a1) := by
  unfold State.beginDown
  extract_lets x0 x1
  clear_value x0 x1
  exact State.setRf_only.after rfl (Only.upd_pwr Only.refl rfl)

theorem State.endDown_only {s} : Only 67108866 s (State.endDown s) := by
  unfold State.endDown
  extract_lets x0 x1 x2
  clear_value x0
  have hx1 : Only 67108866 s x1 := State.setPwr_only.mono rfl
  clear_value x1 x2
  exact Only.upd_pwr hx1 rfl

theorem State.downStep_only {s a1} : Only 1879048058 s (State.downStep s a1) := by
  unfold State.downStep
  extract_lets x0 x1 x2
  have hx0 : Only 1879048058 s x0 := State.setRf_only.after rfl (State.setRf_only.after rfl (State.setReg_only.mono rfl))
  clear_value x0
  have hx1 : Only 1879048058 s x1 := by
    unfold x1
    refine Only.ite (State.setRf_only.after rfl (State.noBallast_only.after rfl (State.mainReset_only.after rfl
      (State.selfRefresh_only.mono rfl)))) ?_
    refine Only.ite (Only.upd_clk hx0 rfl) ?_
    exact Only.ite (Only.ite (State.dramOff_only.after rfl (State.setRails_only.mono rfl)) Only.refl) (State.setRails_only.mono rfl)
  clear_value x1 x2
  exact Only.upd_pwr hx1 rfl

theorem execPowerDownStep_only {s} : Ends 1879048058 s (execPowerDownStep s) := by
  unfold execPowerDownStep
  extract_lets x0 x1
  have hx0 : Only 1879048058 s x0 := by
    unfold x0
    exact Only.ite (State.beginDown_only.mono rfl) (Only.ite (State.beginDown_only.mono rfl) Only.refl)
  clear_value x0
  have hx1 : Only 1879048058 s x1 := State.downStep_only.after rfl hx0
  clear_value x1
  refine Ends.next ?_
  exact Only.ite (Only.ite (State.endDown_only.after rfl hx1) hx1) hx0

theorem execPowerGraceEnd_only {s} : Ends 10284490882 s (execPowerGraceEnd s) := by
  unfold execPowerGraceEnd
  refine Ends.next ?_
  split
  · extract_lets x3
    clear_value x3
    refine Only.ite Only.refl ?_
    exact Only.ite (State.beginDown_only.after rfl (State.closeSegments_only.mono rfl)) (Only.upd_pwr Only.refl rfl)
  · exact Only.refl

theorem execPgTimeout_only {a0 s} : Ends 67108994 s (execPgTimeout a0 s) := by
  unfold execPgTimeout
  extract_lets x0 x1 x2 x3
  clear_value x0
  have hx1 : Only 67108994 s x1 := State.raise_only.mono rfl
  clear_value x1 x2
  have hx3 : Only 67108994 s x3 := Only.upd_pwr hx1 rfl
  clear_value x3
  refine Ends.next ?_
  exact Only.ite (State.beginDown_only.after rfl (State.setRf_only.after rfl hx3)) Only.refl

theorem execPgFall_only {a0 s} : Ends 1879048186 s (execPgFall a0 s) := by
  unfold execPgFall
  refine Ends.next ?_
  exact Only.ite (State.raise_only.after rfl (State.mainsOff_only.mono rfl)) Only.refl

theorem execHardwareTrip_only {a0 s} : Ends 2147483642 s (execHardwareTrip a0 s) := by
  unfold execHardwareTrip
  refine Ends.next ?_
  extract_lets x0 x1 x2 x3 x4
  clear_value x0
  have hx1 : Only 2147483642 s x1 := State.setRf_only.after rfl (State.mainsOff_only.mono rfl)
  clear_value x1
  have hx2 : Only 2147483642 s x2 := State.inc_only.after rfl (State.setReg_only.after rfl (State.setReg_only.after rfl hx1))
  clear_value x2 x3
  have hx4 : Only 2147483642 s x4 := Only.upd_thm hx2 rfl
  clear_value x4
  exact Only.ite (State.raise_only.after rfl hx4) Only.refl

theorem execRefclkLoss_only {s} : Ends 1879048186 s (execRefclkLoss s) := by
  unfold execRefclkLoss
  refine Ends.next ?_
  extract_lets x0 x1
  have hx0 : Only 1879048186 s x0 := State.mainsOff_only.mono rfl
  clear_value x0 x1
  exact Only.ite Only.refl (State.raise_only.after rfl (Only.upd_pwr hx0 rfl))

theorem execRefclkResume_only {a0 s} : Ends 10284490890 s (execRefclkResume a0 s) := by
  unfold execRefclkResume
  refine Ends.next ?_
  split
  · exact Only.refl
  · extract_lets x5 x6 x7 x8
    clear_value x5 x7
    have hx8 : Only 10284490890 s x8 := by
      unfold x8
      refine State.holdEnter_only.after rfl ?_
      refine Only.multi Only.refl (fun p => by cases p <;> first | exact .inl rfl | exact .inr ⟨rfl, fun _ => trivial⟩ | exact .inr ⟨rfl,
        (fun _ => Nat.mod_lt _ (by decide))⟩) (Nat.le_refl _) (.inr (Nat.le_refl _))
    clear_value x8
    exact State.timeCorrection_only.after rfl hx8

theorem execWakeNFall_only {s} : Ends 2214592514 s (execWakeNFall s) := by
  unfold execWakeNFall
  refine Ends.next ?_
  exact State.powerReq_only.mono rfl

theorem execWakeAlarm_only {s} : Ends 2214592514 s (execWakeAlarm s) := by
  unfold execWakeAlarm
  refine Ends.next ?_
  exact Only.ite (State.powerReq_only.after rfl (Only.upd_pwr Only.refl rfl)) Only.refl

theorem execGetPower_only {a0 s} : Ends 2197815298 s (execGetPower a0 s) := by
  unfold execGetPower
  refine Ends.next ?_
  refine State.serve_only rfl (fun _ u0 hu1 => ?_) ?_
  · exact Only.snd2 (Only.snd (hu1))
  · exact Only.refl

theorem execSetPower_only {a0 s} : Ends 2264924162 s (execSetPower a0 s) := by
  unfold execSetPower
  refine Ends.next ?_
  refine State.serve_only rfl (fun _ u0 hu1 => ?_) ?_
  · extract_lets x2 x3
    clear_value x2 x3
    split
    · exact Only.snd2 (Only.snd (hu1))
    · exact Only.snd2 (Only.snd (State.powerReq_only.after rfl (Only.upd_pwr hu1 rfl)))
  · exact Only.refl

theorem execGetRails_only {a0 s} : Ends 10787749890 s (execGetRails a0 s) := by
  unfold execGetRails
  refine Ends.next ?_
  refine State.serve_only rfl (fun _ u0 hu1 => ?_) ?_
  · extract_lets x2 x3
    clear_value x2 x3
    exact Only.snd2 (Only.snd (Only.upd_fresh hu1 rfl (Nat.le_succ _)))
  · exact Only.refl

theorem execPowerOnReset_only {s} : Ends 1108101562367 s (execPowerOnReset s) := by
  refine Ends.next { same := fun p hp => ?_, sound := fun p _ => ?_, fresh := Nat.le_refl _, time := fun h => absurd h (by decide) }
  · cases p <;> first | rfl | exact absurd hp (by decide)
  · cases p <;> first | trivial | exact (by decide : 0 < tickHz)

theorem execWarmReset_only {s} : Ends 1744772986 s (execWarmReset s) := by
  unfold execWarmReset
  refine Ends.next ?_
  extract_lets x0 x1 x2 x3
  have hx0 : Only 1744772986 s x0 := State.setReg_only.after rfl (State.mainReset_only.after rfl (State.selfRefresh_only.mono rfl))
  have hx1 : Only 1744772986 s x1 := State.setReg_only.after rfl (State.setReg_only.after rfl hx0)
  clear_value x2
  have hx3 : Only 1744772986 s x3 := Only.upd_dsv hx1 rfl
  exact Only.ite (State.setReg_only.after rfl (State.setReg_only.after rfl hx3)) hx3

theorem State.resetBlock_only {s a1} : Only 2 s (State.resetBlock s a1) := by
  unfold State.resetBlock
  exact State.resetRegs_only.mono rfl

theorem State.unwaitAll_only {s a1} : Only 256 s (State.unwaitAll s a1) := by
  unfold State.unwaitAll
  refine Only.forEach (fun i0 t1 h2 => ?_) Only.refl
  exact State.unwait_only.after rfl h2

theorem State.inActive_only {g : Nat} {f : State → State} {s t : State} (hm : Only.sub 128 g = true)
    (hf : ∀ u, Only g s u → Only g s (f u)) (h : Only g s t) : Only g s (t.inActive f) :=
  Only.ite (hf _ h) (Only.ite (State.cfgErr_only.after (Only.sub_trans (by rfl) hm) h) h)

theorem State.heldReset_only {g b : Nat} {f : State → State} {s t : State} (hm : Only.sub 67108994 g = true)
    (hf : ∀ u, Only g s u → Only g s (f u)) (h : Only g s t) : Only g s (t.heldReset b f) := by
  have hp : g.testBit 26 = true := by
    cases e : g.testBit 26
    · exact absurd (Only.testBit_sub hm e) (by decide)
    · rfl
  exact State.inActive_only (Only.sub_trans (by rfl) hm) (fun u hu => Only.ite hu (Only.upd_pwr (State.setRf_only.after (Only.sub_trans
    (by rfl) hm) (hf _ hu)) hp)) h

theorem State.barLeave_only {s a1} : Only 256 s (State.barLeave s a1) := by
  unfold State.barLeave
  refine Only.forEach (fun i0 t1 h2 => ?_) Only.refl
  split
  · extract_lets x6 x7
    clear_value x6 x7
    exact Only.ite (Only.upd_pass h2 rfl) h2
  · exact h2

theorem State.tcDrop_only {s a1} : Only 3968 s (State.tcDrop s a1) := by
  unfold State.tcDrop
  extract_lets x0 x1 x2 x3 x4
  clear_value x0
  have hx1 : Only 3968 s x1 := State.setCore_only.mono rfl
  clear_value x1 x2
  have hx3 : Only 3968 s x3 := Only.upd_wch hx1 rfl
  clear_value x3
  have hx4 : Only 3968 s x4 := by
    unfold x4
    refine Only.forEach (fun i5 t6 h7 => ?_) hx3
    exact State.setCtx_only.after rfl (State.barLeave_only.after rfl (State.unwaitAll_only.after rfl h7))
  clear_value x4
  exact State.barAll_only.after rfl hx4

theorem State.resetTc_only {s a1} : Only 5972742018 s (State.resetTc s a1) := by
  unfold State.resetTc
  refine State.heldReset_only rfl (fun u0 hu1 => ?_) Only.refl
  exact State.resetRegs_only.after rfl (State.tcDrop_only.after rfl (State.cutTraffic_only.after rfl hu1))

theorem State.resetCpu_only {s a1} : Only 5974835330 s (State.resetCpu s a1) := by
  unfold State.resetCpu
  refine State.heldReset_only rfl (fun u0 hu1 => ?_) Only.refl
  extract_lets x2 x3 x4
  have hx2 : Only 5974835330 s x2 := State.setReg_only.after rfl (State.cohReset_only.after rfl (State.cutTraffic_only.after rfl hu1))
  clear_value x2
  have hx3 : Only 5974835330 s x3 := State.setRf_only.after rfl hx2
  clear_value x3 x4
  exact Only.upd_coh hx3 rfl

theorem State.resetSfe_only {s} : Only 5972803970 s (State.resetSfe s) := by
  unfold State.resetSfe
  refine State.heldReset_only rfl (fun u0 hu1 => ?_) Only.refl
  extract_lets x2 x3
  have hx2 : Only 5972803970 s x2 := by
    unfold x2
    refine Only.forEach (fun i4 t5 h6 => ?_) (State.cutTraffic_only.after rfl hu1)
    exact State.scOff_only.after rfl h6
  clear_value x2
  have hx3 : Only 5972803970 s x3 := State.resetBlock_only.after rfl (State.resetBlock_only.after rfl hx2)
  clear_value x3
  exact Only.upd_sfe hx3 rfl

theorem State.resetFmt_only {s} : Only 5972869506 s (State.resetFmt s) := by
  unfold State.resetFmt
  refine State.heldReset_only rfl (fun u0 hu1 => ?_) Only.refl
  extract_lets x2 x3 x4
  have hx2 : Only 5972869506 s x2 := by
    unfold x2
    refine Only.forEach (fun i5 t6 h7 => ?_) (State.cutTraffic_only.after rfl hu1)
    exact State.releaseAll_only.after rfl (State.fmtSrcOff_only.after rfl h7)
  clear_value x2
  have hx3 : Only 5972869506 s x3 := by
    unfold x3
    refine Only.forEach (fun i8 t9 h10 => ?_) hx2
    exact State.unwaitAll_only.after rfl (State.releaseAll_only.after rfl h10)
  clear_value x3
  have hx4 : Only 5972869506 s x4 := State.resetBlock_only.after rfl hx3
  clear_value x4
  exact Only.upd_fmt hx4 rfl

theorem State.resetDpp_only {s} : Only 5973002114 s (State.resetDpp s) := by
  unfold State.resetDpp
  refine State.heldReset_only rfl (fun u0 hu1 => ?_) Only.refl
  extract_lets x2 x3
  have hx2 : Only 5973002114 s x2 := by
    unfold x2
    refine Only.forEach (fun i4 t5 h6 => ?_) (State.cutTraffic_only.after rfl hu1)
    exact State.dppAbort_only.after rfl h6
  clear_value x2
  have hx3 : Only 5973002114 s x3 := State.resetBlock_only.after rfl (State.unwaitAll_only.after rfl (State.releaseAll_only.after rfl hx2))
  clear_value x3
  exact Only.upd_dpp hx3 rfl

theorem State.resetVenc_only {s a1} : Only 5973262722 s (State.resetVenc s a1) := by
  unfold State.resetVenc
  refine Only.ite (State.cfgErr_only.mono rfl) ?_
  refine State.heldReset_only rfl (fun u0 hu1 => ?_) ?_
  · extract_lets x2 x3
    have hx2 : Only 5973262722 s x2 := by
      unfold x2
      refine Only.forEach (fun i4 t5 h6 => ?_) (State.cutTraffic_only.after rfl hu1)
      exact Only.ite (State.vDisable_only.after rfl h6) h6
    clear_value x2
    have hx3 : Only 5973262722 s x3 := by
      unfold x3
      refine Only.forEach (fun i7 t8 h9 => ?_) hx2
      exact State.setVref_only.after rfl h9
    clear_value x3
    exact State.resetBlock_only.after rfl (State.unwaitAll_only.after rfl (State.releaseAll_only.after rfl hx3))
  · exact Only.refl

theorem State.resetVdec_only {s} : Only 5973787010 s (State.resetVdec s) := by
  unfold State.resetVdec
  refine State.heldReset_only rfl (fun u0 hu1 => ?_) Only.refl
  extract_lets x2
  have hx2 : Only 5973787010 s x2 := by
    unfold x2
    refine Only.forEach (fun i3 t4 h5 => ?_) (State.cutTraffic_only.after rfl hu1)
    exact Only.ite (State.vdEnd_only.after rfl h5) h5
  clear_value x2
  exact State.resetBlock_only.after rfl (State.unwaitAll_only.after rfl (State.releaseAll_only.after rfl hx2))

theorem State.resetPcie_only {s} : Only 6006292610 s (State.resetPcie s) := by
  unfold State.resetPcie
  refine State.heldReset_only rfl (fun u0 hu1 => ?_) Only.refl
  exact State.pcieHotReset_only.after rfl hu1

theorem State.resetEth_only {s a1} : Only 5976932482 s (State.resetEth s a1) := by
  unfold State.resetEth
  refine State.heldReset_only rfl (fun u0 hu1 => ?_) Only.refl
  extract_lets x2 x3
  have hx2 : Only 5976932482 s x2 := State.resetBlock_only.after rfl (State.cutTraffic_only.after rfl hu1)
  clear_value x2 x3
  exact Only.upd_eth hx2 rfl

theorem State.resetI3c_only {s} : Only 8665432194 s (State.resetI3c s) := by
  unfold State.resetI3c
  refine State.heldReset_only rfl (fun u0 hu1 => ?_) Only.refl
  refine State.resetBlock_only.after rfl ?_
  refine Only.forEach (fun i2 t3 h4 => ?_) hu1
  exact State.i3cAbortCmd_only.after rfl h4

theorem State.resetBit_only {s a1} : Only 14612942722 s (State.resetBit s a1) := by
  unfold State.resetBit
  refine Only.ite (State.resetTc_only.mono rfl) ?_
  refine Only.ite (State.resetCpu_only.mono rfl) ?_
  refine Only.ite (State.resetSfe_only.mono rfl) ?_
  refine Only.ite (State.resetFmt_only.mono rfl) ?_
  refine Only.ite (State.resetDpp_only.mono rfl) ?_
  refine Only.ite (State.resetVenc_only.mono rfl) ?_
  refine Only.ite (State.resetVdec_only.mono rfl) ?_
  exact Only.ite (State.resetPcie_only.mono rfl) (Only.ite (State.resetEth_only.mono rfl) (State.resetI3c_only.mono rfl))

theorem State.rstWrite_only {s a1} : Only 14612942722 s (State.rstWrite s a1) := by
  unfold State.rstWrite
  extract_lets x0
  have hx0 : Only 14612942722 s x0 := State.noteRsvd_only.mono rfl
  clear_value x0
  refine Only.ite ?_ ?_
  · refine Only.forEach (fun i1 t2 h3 => ?_) hx0
    exact State.resetBit_only.after rfl h3
  · refine State.inActive_only rfl (fun u4 hu5 => ?_) hx0
    exact hu5

theorem State.releaseUnit_only {s a1} : Only 67108866 s (State.releaseUnit s a1) := by
  unfold State.releaseUnit
  split
  · extract_lets x3 x4 x5
    have hx3 : Only 67108866 s x3 := State.setRf_only.mono rfl
    clear_value x4
    have hx5 : Only 67108866 s x5 := Only.upd_pwr hx3 rfl
    exact Only.ite Only.refl (Only.ite (State.cohJoin_only.after rfl hx5) hx5)
  · exact Only.refl

theorem execUnitResetTc_only {a0 s} : Ends 5972742018 s (execUnitResetTc a0 s) := by
  unfold execUnitResetTc
  refine Ends.next ?_
  exact Only.ite (State.resetTc_only.mono rfl) Only.refl

theorem execUnitResetCpu_only {a0 s} : Ends 5974835330 s (execUnitResetCpu a0 s) := by
  unfold execUnitResetCpu
  refine Ends.next ?_
  exact Only.ite (State.resetCpu_only.mono rfl) Only.refl

theorem execUnitResetSfe_only {s} : Ends 5972803970 s (execUnitResetSfe s) := by
  unfold execUnitResetSfe
  refine Ends.next ?_
  exact State.resetSfe_only.mono rfl

theorem execUnitResetFmt_only {s} : Ends 5972869506 s (execUnitResetFmt s) := by
  unfold execUnitResetFmt
  refine Ends.next ?_
  exact State.resetFmt_only.mono rfl

theorem execUnitResetDpp_only {s} : Ends 5973002114 s (execUnitResetDpp s) := by
  unfold execUnitResetDpp
  refine Ends.next ?_
  exact State.resetDpp_only.mono rfl

theorem execUnitResetVenc_only {a0 s} : Ends 5973262722 s (execUnitResetVenc a0 s) := by
  unfold execUnitResetVenc
  refine Ends.next ?_
  exact Only.ite (State.resetVenc_only.mono rfl) Only.refl

theorem execUnitResetVdec_only {s} : Ends 5973787010 s (execUnitResetVdec s) := by
  unfold execUnitResetVdec
  refine Ends.next ?_
  exact State.resetVdec_only.mono rfl

theorem execUnitResetPcie_only {s} : Ends 6006292610 s (execUnitResetPcie s) := by
  unfold execUnitResetPcie
  refine Ends.next ?_
  exact State.resetPcie_only.mono rfl

theorem execUnitResetEth_only {a0 s} : Ends 5976932482 s (execUnitResetEth a0 s) := by
  unfold execUnitResetEth
  refine Ends.next ?_
  exact Only.ite (State.resetEth_only.mono rfl) Only.refl

theorem execUnitResetI3c_only {s} : Ends 8665432194 s (execUnitResetI3c s) := by
  unfold execUnitResetI3c
  refine Ends.next ?_
  exact State.resetI3c_only.mono rfl

theorem execUnitResetRelease_only {a0 s} : Ends 67108866 s (execUnitResetRelease a0 s) := by
  unfold execUnitResetRelease
  refine Ends.next ?_
  exact Only.ite (State.releaseUnit_only.mono rfl) Only.refl

theorem State.tcOff_only {s a1} : Only 3970 s (State.tcOff s a1) := by
  unfold State.tcOff
  extract_lets x0
  have hx0 : Only 3970 s x0 := State.resetRegs_only.after rfl (State.setCore_only.after rfl (State.tcDrop_only.mono rfl))
  clear_value x0
  exact State.setRf_only.after rfl (State.setRf_only.after rfl hx0)

theorem State.tcGateBit_only {s a1 a2} : Only 3970 s (State.tcGateBit s a1 a2) := by
  unfold State.tcGateBit
  refine Only.ite ?_ (State.setRf_only.mono rfl)
  exact Only.ite (State.tcOff_only.after rfl (State.setRf_only.mono rfl)) (State.cfgErr_only.mono rfl)

theorem State.tcGateWrite_only {s a1} : Only 3970 s (State.tcGateWrite s a1) := by
  unfold State.tcGateWrite
  refine State.inActive_only rfl (fun u0 hu1 => ?_) (State.noteRsvd_only.mono rfl)
  refine Only.forEach (fun i2 t3 h4 => ?_) hu1
  exact State.tcGateBit_only.after rfl h4

theorem execTcGate_only {a0 s} : Ends 3970 s (execTcGate a0 s) := by
  unfold execTcGate
  refine Ends.next ?_
  exact State.tcGateWrite_only.mono rfl

theorem execTcPowerUp_only {a0 s} : Ends 3970 s (execTcPowerUp a0 s) := by
  unfold execTcPowerUp
  refine Ends.next ?_
  extract_lets x0
  have hx0 : Only 3970 s x0 := State.setCore_only.after rfl (State.tcOff_only.mono rfl)
  clear_value x0
  exact Only.ite (State.setRf_only.after rfl (State.setRf_only.after rfl hx0)) Only.refl

theorem State.cpuOff_only {s a1} : Only 5907726466 s (State.cpuOff s a1) := by
  unfold State.cpuOff
  extract_lets x0 x1 x2
  have hx0 : Only 5907726466 s x0 := State.cohReset_only.after rfl (State.cutTraffic_only.mono rfl)
  clear_value x0
  have hx1 : Only 5907726466 s x1 := State.setRf_only.after rfl (State.setRf_only.after rfl hx0)
  clear_value x1 x2
  exact Only.upd_coh hx1 rfl

theorem State.cpuGateBit_only {s a1 a2} : Only 5974835330 s (State.cpuGateBit s a1 a2) := by
  unfold State.cpuGateBit
  extract_lets x0 x1 x2 x3 x4 x5
  clear_value x0
  have hx1 : Only 5974835330 s x1 := State.setRf_only.mono rfl
  clear_value x1 x2
  have hx3 : Only 5974835330 s x3 := State.setRf_only.mono rfl
  clear_value x3 x4
  have hx5 : Only 5974835330 s x5 := Only.upd_coh hx3 rfl
  clear_value x5
  refine Only.ite ?_ ?_
  · exact Only.ite (Only.ite (State.cpuOff_only.after rfl hx1) (Only.upd_coh hx1 rfl)) (State.cfgErr_only.mono rfl)
  · exact Only.ite (Only.ite hx5 (State.resetCpu_only.after rfl (State.setRf_only.after rfl hx5))) Only.refl

theorem State.cpuGateWrite_only {s a1} : Only 5974835330 s (State.cpuGateWrite s a1) := by
  unfold State.cpuGateWrite
  refine State.inActive_only rfl (fun u0 hu1 => ?_) (State.noteRsvd_only.mono rfl)
  refine Only.forEach (fun i2 t3 h4 => ?_) hu1
  exact State.cpuGateBit_only.after rfl h4

theorem execCpuGate_only {a0 s} : Ends 5974835330 s (execCpuGate a0 s) := by
  unfold execCpuGate
  refine Ends.next ?_
  exact State.cpuGateWrite_only.mono rfl

theorem execCpuGateTimeout_only {a0 s} : Ends 2097282 s (execCpuGateTimeout a0 s) := by
  unfold execCpuGateTimeout
  refine Ends.next ?_
  split
  · extract_lets x3 x4
    have hx3 : Only 2097282 s x3 := State.setRf_only.mono rfl
    clear_value x3 x4
    exact Only.ite Only.refl (State.cfgErr_only.after rfl (Only.upd_coh hx3 rfl))
  · exact Only.refl

theorem execWfiEntry_only {a0 s} : Ends 5907726466 s (execWfiEntry a0 s) := by
  unfold execWfiEntry
  refine Ends.next ?_
  extract_lets x0 x1 x2
  have hx0 : Only 5907726466 s x0 := State.setRf_only.mono rfl
  clear_value x0 x1
  have hx2 : Only 5907726466 s x2 := Only.upd_coh hx0 rfl
  clear_value x2
  refine Only.ite ?_ Only.refl
  split
  · exact Only.ite hx2 (State.cpuOff_only.after rfl hx2)
  · exact hx2

theorem State.tclkReqWrite_only {s a1} : Only 130 s (State.tclkReqWrite s a1) := by
  unfold State.tclkReqWrite
  refine State.inActive_only rfl (fun u0 hu1 => ?_) (State.noteRsvd_only.mono rfl)
  extract_lets x2
  clear_value x2
  exact Only.ite (State.refuse_only.after rfl hu1) (State.putReg_only.after rfl hu1)

theorem State.cpuReqWrite_only {s a1} : Only 130 s (State.cpuReqWrite s a1) := by
  unfold State.cpuReqWrite
  refine State.inActive_only rfl (fun u0 hu1 => ?_) (State.noteRsvd_only.mono rfl)
  exact Only.ite (State.refuse_only.after rfl hu1) (State.putReg_only.after rfl hu1)

theorem execTclkRequest_only {a0 s} : Ends 130 s (execTclkRequest a0 s) := by
  unfold execTclkRequest
  refine Ends.next ?_
  exact State.tclkReqWrite_only.mono rfl

theorem execCpuClockRequest_only {a0 s} : Ends 130 s (execCpuClockRequest a0 s) := by
  unfold execCpuClockRequest
  refine Ends.next ?_
  exact State.cpuReqWrite_only.mono rfl

theorem execClockStep_only {a0 s} : Ends 2 s (execClockStep a0 s) := by
  unfold execClockStep
  refine Ends.next ?_
  extract_lets x0 x1
  clear_value x0 x1
  refine Only.ite Only.refl ?_
  exact Only.ite (State.setRf_only.mono rfl) (Only.ite (State.setRf_only.mono rfl) Only.refl)

theorem State.setAvs_only {s a1 a2} : Only 134217728 s (State.setAvs s a1 a2) := by
  unfold State.setAvs
  exact Only.upd_clk Only.refl rfl

theorem State.avsIssue_only {s} : Only 134217728 s (State.avsIssue s) := by
  unfold State.avsIssue
  refine Only.ite Only.refl ?_
  split
  · extract_lets x3 x4 x5
    clear_value x3
    have hx4 : Only 134217728 s x4 := State.setAvs_only.mono rfl
    clear_value x4 x5
    exact Only.upd_clk hx4 rfl
  · exact Only.refl

theorem execAvsEvaluate_only {a0 a1 s} : Ends 134217730 s (execAvsEvaluate a0 a1 s) := by
  unfold execAvsEvaluate
  refine Ends.next ?_
  extract_lets x0 x1 x2 x3
  clear_value x0 x1
  have hx2 : Only 134217730 s x2 := State.setRf_only.mono rfl
  clear_value x2 x3
  exact Only.ite Only.refl (State.avsIssue_only.after rfl (State.setAvs_only.after rfl hx2))

theorem execPmbusTransactionDone_only {a0 a1 s} : Ends 134217856 s (execPmbusTransactionDone a0 a1 s) := by
  unfold execPmbusTransactionDone
  refine Ends.next ?_
  split
  · extract_lets x4 x5 x6 x7
    clear_value x4
    have hx5 : ∀ t, Only 134217856 s t → Only 134217856 s (x5 t) := by
      intro t8 h9
      unfold x5
      exact State.avsIssue_only.after rfl (Only.upd_clk h9 rfl)
    clear_value x5 x6 x7
    refine Only.ite Only.refl ?_
    refine Only.ite (hx5 _ (State.setAvs_only.mono rfl)) ?_
    exact Only.ite (State.setAvs_only.mono rfl) (hx5 _ (State.raise_only.after rfl (State.setAvs_only.mono rfl)))
  · exact Only.refl

theorem execRailSettled_only {a0 s} : Ends 134217728 s (execRailSettled a0 s) := by
  unfold execRailSettled
  refine Ends.next ?_
  extract_lets x0 x1
  clear_value x0 x1
  exact Only.ite Only.refl (State.setAvs_only.mono rfl)

theorem State.setThm_only {s a1} : Only 268435456 s (State.setThm s a1) := by
  unfold State.setThm
  exact Only.upd_thm Only.refl rfl

theorem State.freeze_only {s} : Only 268435456 s (State.freeze s) := by
  unfold State.freeze
  exact Only.ite (Only.ite (State.setThm_only.mono rfl) Only.refl) (State.setThm_only.mono rfl)

theorem State.tjSecond_only {s} : Only 268435458 s (State.tjSecond s) := by
  unfold State.tjSecond
  extract_lets x0 x1 x2 x3 x4 x5
  clear_value x0 x1
  have hx2 : Only 268435458 s x2 := State.setThm_only.mono rfl
  clear_value x2 x3 x4 x5
  exact Only.ite (State.inc_only.after rfl hx2) hx2

theorem State.showSensors_only {s a1 a2} : Only 2 s (State.showSensors s a1 a2) := by
  unfold State.showSensors
  refine Only.forEach (fun i0 t1 h2 => ?_) Only.refl
  exact State.setReg_only.after rfl h2

theorem State.tellSensors_only {s a1} : Only 128 s (State.tellSensors s a1) := by
  unfold State.tellSensors
  refine Only.forEach (fun i0 t1 h2 => ?_) Only.refl
  exact State.raise_only.after rfl h2

theorem State.showTj_only {s a1 a2} : Only 2 s (State.showTj s a1 a2) := by
  unfold State.showTj
  split
  · exact State.setRf_only.after rfl (State.setReg_only.mono rfl)
  · exact Only.refl

theorem State.keepSensors_only {s a1 a2} : Only 268435456 s (State.keepSensors s a1 a2) := by
  unfold State.keepSensors
  exact State.setThm_only.mono rfl

theorem State.judgeSensors_only {s a1} : Only 268435586 s (State.judgeSensors s a1) := by
  unfold State.judgeSensors
  extract_lets x0 x1 x2
  clear_value x0 x1
  have hx2 : Only 268435586 s x2 := State.showTj_only.after rfl (State.tellSensors_only.after rfl (State.showSensors_only.mono rfl))
  clear_value x2
  exact State.keepSensors_only.after rfl (State.setRf_only.after rfl hx2)

theorem State.capsOut_only {s} : Only 2 s (State.capsOut s) := by
  unfold State.capsOut
  extract_lets x0 x1 x2 x3 x4 x5
  clear_value x0 x1 x2 x3
  have hx4 : Only 2 s x4 := State.setRf_only.after rfl (State.setRf_only.mono rfl)
  clear_value x4
  have hx5 : Only 2 s x5 := State.setRf_only.after rfl (State.setRf_only.after rfl hx4)
  clear_value x5
  exact State.setRf_only.after rfl hx5

theorem State.softEnter_only {s} : Only 268435584 s (State.softEnter s) := by
  unfold State.softEnter
  extract_lets x0 x1
  clear_value x0
  have hx1 : Only 268435584 s x1 := State.setThm_only.mono rfl
  clear_value x1
  exact State.raise_only.after rfl hx1

theorem State.softStep_only {s} : Only 268435584 s (State.softStep s) := by
  unfold State.softStep
  extract_lets x0 x1 x2
  clear_value x0
  have hx1 : Only 268435584 s x1 := Only.ite (State.softEnter_only.mono rfl) Only.refl
  clear_value x1 x2
  refine Only.ite hx1 ?_
  refine Only.ite ?_ ?_
  · exact Only.ite (Only.ite (State.setThm_only.after rfl hx1) hx1) (Only.ite (State.setThm_only.after rfl hx1) hx1)
  · split
    · exact State.setThm_only.after rfl hx1

theorem State.lossStep_only {s} : Only 268435456 s (State.lossStep s) := by
  unfold State.lossStep
  extract_lets x0
  clear_value x0
  refine Only.ite Only.refl ?_
  split
  · exact State.setThm_only.mono rfl

theorem State.setBeyond_only {s a1} : Only 268435456 s (State.setBeyond s a1) := by
  unfold State.setBeyond
  exact State.setThm_only.mono rfl

theorem State.lossBudget_only {s} : Only 2483028098 s (State.lossBudget s) := by
  unfold State.lossBudget
  exact Only.ite (State.powerReq_only.after rfl (State.raise_only.after rfl (State.setBeyond_only.mono rfl))) (State.setBeyond_only.mono rfl)

theorem State.govShow_only {s a1 a2} : Only 2 s (State.govShow s a1 a2) := by
  unfold State.govShow
  exact State.setReg_only.after rfl (State.setRf_only.after rfl (State.setRf_only.mono rfl))

theorem State.governor_only {s} : Only 268435458 s (State.governor s) := by
  unfold State.governor
  extract_lets x0 x1
  clear_value x0 x1
  exact State.govShow_only.after rfl (State.setThm_only.mono rfl)

theorem State.govLoad_only {s a1} : Only 268435456 s (State.govLoad s a1) := by
  unfold State.govLoad
  exact State.setThm_only.mono rfl

theorem State.govTake_only {s a1} : Only 268435586 s (State.govTake s a1) := by
  unfold State.govTake
  extract_lets x0
  have hx0 : Only 268435586 s x0 := State.govLoad_only.after rfl (Only.ite Only.refl (State.judgeSensors_only.mono rfl))
  clear_value x0
  exact Only.ite (State.tjSecond_only.after rfl hx0) hx0

theorem State.govLoops_only {s} : Only 2483028098 s (State.govLoops s) := by
  unfold State.govLoops
  exact State.capsOut_only.after rfl (State.freeze_only.after rfl (State.governor_only.after rfl (State.lossBudget_only.after rfl
    (State.lossStep_only.after rfl (State.softStep_only.mono rfl)))))

theorem execGovernorSample_only {a0 s} : Ends 2483028098 s (execGovernorSample a0 s) := by
  unfold execGovernorSample
  refine Ends.next ?_
  exact Only.ite (State.govLoops_only.after rfl (State.govTake_only.mono rfl)) (State.govTake_only.mono rfl)

theorem execThmCalDue_only {s} : Ends 268435456 s (execThmCalDue s) := by
  unfold execThmCalDue
  refine Ends.next ?_
  extract_lets x0 x1
  clear_value x0
  have hx1 : Only 268435456 s x1 := State.setThm_only.mono rfl
  clear_value x1
  exact Only.ite (Only.ite (State.calStart_only.after rfl hx1) hx1) Only.refl

theorem execThmCalUnplaced_only {s} : Ends 268435456 s (execThmCalUnplaced s) := by
  unfold execThmCalUnplaced
  refine Ends.next ?_
  split
  · exact Only.ite (State.calStart_only.mono rfl) Only.refl
  · exact Only.refl

theorem execThmCalEnd_only {s} : Ends 268435456 s (execThmCalEnd s) := by
  unfold execThmCalEnd
  refine Ends.next ?_
  split
  · exact Only.ite (State.setThm_only.mono rfl) Only.refl
  · exact Only.refl

theorem State.lossDeclare_only {s} : Only 268435586 s (State.lossDeclare s) := by
  unfold State.lossDeclare
  extract_lets x0 x1 x2
  have hx0 : Only 268435586 s x0 := State.raise_only.mono rfl
  clear_value x0 x1
  have hx2 : Only 268435586 s x2 := State.setThm_only.after rfl hx0
  clear_value x2
  exact State.capsOut_only.after rfl (State.freeze_only.after rfl (State.noBallast_only.after rfl hx2))

theorem State.lossEnd_only {s} : Only 268435458 s (State.lossEnd s) := by
  unfold State.lossEnd
  exact State.capsOut_only.after rfl (State.setThm_only.mono rfl)

theorem State.takeFlow_only {s a1} : Only 268435458 s (State.takeFlow s a1) := by
  unfold State.takeFlow
  exact State.setThm_only.after rfl (State.setReg_only.mono rfl)

theorem State.judgeFlow_only {s a1} : Only 268435586 s (State.judgeFlow s a1) := by
  unfold State.judgeFlow
  exact Only.ite (State.lossDeclare_only.mono rfl) (Only.ite (State.lossEnd_only.mono rfl) Only.refl)

theorem State.pumpStep_only {s a1} : Only 2 s (State.pumpStep s a1) := by
  unfold State.pumpStep
  extract_lets x0 x1 x2
  clear_value x0 x1 x2
  refine Only.ite Only.refl ?_
  exact Only.ite (State.setRf_only.mono rfl) (Only.ite (State.setRf_only.mono rfl) Only.refl)

theorem execFlowWindow_only {a0 s} : Ends 268435586 s (execFlowWindow a0 s) := by
  unfold execFlowWindow
  refine Ends.next ?_
  exact Only.ite Only.refl (State.pumpStep_only.after rfl (State.judgeFlow_only.after rfl (State.takeFlow_only.mono rfl)))

theorem State.ntc_only {s a1 a2 a3} : Only 268435586 s (State.ntc s a1 a2 a3) := by
  unfold State.ntc
  extract_lets x0 x1 x2 x3
  have hx0 : Only 268435586 s x0 := State.setReg_only.mono rfl
  clear_value x0
  have hx1 : Only 268435586 s x1 := Only.ite (State.raise_only.after rfl hx0) hx0
  clear_value x1 x2 x3
  exact State.setThm_only.after rfl hx1

theorem State.judgeInlet_only {s a1} : Only 268435584 s (State.judgeInlet s a1) := by
  unfold State.judgeInlet
  extract_lets x0
  clear_value x0
  refine Only.ite (State.setThm_only.mono rfl) ?_
  refine Only.ite (State.setThm_only.mono rfl) ?_
  refine Only.ite (State.setThm_only.mono rfl) ?_
  split
  · exact State.setThm_only.mono rfl
  · exact Only.ite (State.raise_only.after rfl (State.setThm_only.mono rfl)) Only.refl

theorem execNtcSample_only {a0 a1 s} : Ends 268435586 s (execNtcSample a0 a1 s) := by
  unfold execNtcSample
  refine Ends.next ?_
  exact State.judgeInlet_only.after rfl (State.ntc_only.after rfl (State.ntc_only.mono rfl))

theorem execPumpStall_only {s} : Ends 130 s (execPumpStall s) := by
  unfold execPumpStall
  refine Ends.next ?_
  exact Only.ite (State.raise_only.after rfl (State.setReg_only.mono rfl)) Only.refl

theorem execGetThermal_only {a0 s} : Ends 2197815298 s (execGetThermal a0 s) := by
  unfold execGetThermal
  refine Ends.next ?_
  refine State.serve_only rfl (fun _ u0 hu1 => ?_) ?_
  · extract_lets x2
    clear_value x2
    exact Only.snd2 (Only.snd (hu1))
  · exact Only.refl

theorem execGetTripLog_only {a0 s} : Ends 2197815298 s (execGetTripLog a0 s) := by
  unfold execGetTripLog
  refine Ends.next ?_
  refine State.serve_only rfl (fun _ u0 hu1 => ?_) ?_
  · exact Only.snd2 (Only.snd (hu1))
  · exact Only.refl

end Sys2Proof.Machine
end

