-- ==== Sys2Proof/Laws/OnlyRegister.lean ====
section
/-! SUPPORT. The footprints of register accesses and inbound requests (see `Only`): one lemma for each operation. -/

namespace Sys2Proof.Machine

open Sys2Proof

theorem State.waitUnit_only {s a1} : Only 67108875 s (State.waitUnit s a1) := by
  unfold State.waitUnit
  split
  · split
    · exact State.releaseUnit_only.after rfl (State.goto_only.mono rfl)
    · exact Only.refl
  · exact Only.refl

theorem State.dbgErr_only {s a1} : Only 128 s (State.dbgErr s a1) := by
  unfold State.dbgErr
  exact State.raise_only.mono rfl

theorem State.dbgReject_only {s a1 a2 a3} : Only 4294967424 s (State.dbgReject s a1 a2 a3) := by
  unfold State.dbgReject
  extract_lets x0
  have hx0 : Only 4294967424 s x0 := State.dbgErr_only.mono rfl
  clear_value x0
  exact Only.upd_resp hx0 rfl

theorem State.dbgLast_only {s a1 a2 a3} : Only 2 s (State.dbgLast s a1 a2 a3) := by
  unfold State.dbgLast
  exact State.setReg_only.mono rfl

theorem State.dbgWait_only {s a1} : Only 67108875 s (State.dbgWait s a1) := by
  unfold State.dbgWait
  exact Only.ite (State.waitUnit_only.mono rfl) Only.refl

theorem State.dbgRead_only {s a1 a2 a3} : Only 4294967426 s (State.dbgRead s a1 a2 a3) := by
  unfold State.dbgRead
  extract_lets x0 x1 x2 x3
  clear_value x0 x1
  have hx2 : Only 4294967426 s x2 := by
    unfold x2
    refine Only.foldl (fun t5 i4 h6 => ?_) Only.refl
    exact State.dbgLast_only.after rfl (State.inc_only.after rfl h6)
  clear_value x2 x3
  exact Only.ite (State.dbgReject_only.mono rfl) (Only.upd_resp hx2 rfl)

theorem State.dbgWrite_only {s a1 a2 a3} : Only 4294967938 s (State.dbgWrite s a1 a2 a3) := by
  unfold State.dbgWrite
  extract_lets x0 x1 x2 x3 x4
  have hx0 : Only 4294967938 s x0 := State.dbgLast_only.after rfl (State.dbgErr_only.mono rfl)
  clear_value x0
  have hx1 : Only 4294967938 s x1 := State.dissolveAt_only.mono rfl
  clear_value x1 x2
  have hx3 : Only 4294967938 s x3 := State.setCore_only.after rfl hx1
  clear_value x3
  have hx4 : Only 4294967938 s x4 := State.perf_only.after rfl hx3
  clear_value x4
  exact Only.ite (State.dbgReject_only.mono rfl) (Only.ite (Only.upd_resp hx0 rfl) (Only.upd_resp hx4 rfl))

theorem execDebugWindowRead_only {a0 a1 a2 s} : Ends 12952010891 s (execDebugWindowRead a0 a1 a2 s) := by
  unfold execDebugWindowRead
  refine Ends.next ?_
  refine Only.ite Only.refl ?_
  exact Only.ite (State.denied_only.mono rfl) (State.dbgRead_only.after rfl (State.dbgWait_only.mono rfl))

theorem execDebugWindowWrite_only {a0 a1 a2 s} : Ends 12952011403 s (execDebugWindowWrite a0 a1 a2 s) := by
  unfold execDebugWindowWrite
  refine Ends.next ?_
  refine Only.ite Only.refl ?_
  exact Only.ite (State.denied_only.mono rfl) (State.dbgWrite_only.after rfl (State.dbgWait_only.mono rfl))

theorem State.tcCtrlWrite_only {s a1 a2} : Only 3970 s (State.tcCtrlWrite s a1 a2) := by
  unfold State.tcCtrlWrite
  extract_lets x0 x1
  clear_value x0
  have hx1 : Only 3970 s x1 := State.putReg_only.mono rfl
  clear_value x1
  exact Only.ite (State.haltReq_only.after rfl hx1) (Only.ite (State.haltReqClear_only.after rfl hx1) hx1)

theorem State.cxCtrlWrite_only {s a1 a2 a3} : Only 12348092290 s (State.cxCtrlWrite s a1 a2 a3) := by
  unfold State.cxCtrlWrite
  extract_lets x0
  have hx0 : Only 12348092290 s x0 := State.noteRsvd_only.mono rfl
  clear_value x0
  split
  · exact hx0
  · exact State.goContext_only.after rfl hx0
  · exact State.stopCmd_only.after rfl hx0
  · exact State.resumeContext_only.after rfl hx0
  · exact State.resetContext_only.after rfl hx0
  · exact State.cfgErr_only.after rfl hx0

theorem State.winWrite_only {s a1 a2} : Only 130 s (State.winWrite s a1 a2) := by
  unfold State.winWrite
  extract_lets x0 x1
  exact Only.ite (State.putReg_only.mono rfl) (State.refuse_only.mono rfl)

theorem State.scalarWrite_only {s a1 a2 a3 a4} : Only 130 s (State.scalarWrite s a1 a2 a3 a4) := by
  unfold State.scalarWrite
  split
  · exact State.putReg_only.mono rfl
  · exact State.putReg_only.mono rfl
  · exact State.refuse_only.mono rfl

theorem State.resWrite_only {s a1 a2 a3 a4} : Only 130 s (State.resWrite s a1 a2 a3 a4) := by
  unfold State.resWrite
  exact Only.ite (State.refuse_only.mono rfl) (State.putReg_only.mono rfl)

theorem State.stageWrite_only {s a1 a2 a3} : Only 386 s (State.stageWrite s a1 a2 a3) := by
  unfold State.stageWrite
  extract_lets x0 x1
  have hx0 : Only 386 s x0 := State.putReg_only.mono rfl
  clear_value x0 x1
  exact Only.upd_pass hx0 rfl

theorem State.swCmdWrite_only {s a1 a2} : Only 8589934978 s (State.swCmdWrite s a1 a2) := by
  unfold State.swCmdWrite
  extract_lets x0
  have hx0 : Only 8589934978 s x0 := State.noteRsvd_only.mono rfl
  clear_value x0
  split
  · exact State.swPopCmd_only.after rfl hx0
  · exact State.swAllocCmd_only.after rfl hx0
  · exact State.swReleaseCmd_only.after rfl hx0
  · exact State.cfgErr_only.after rfl hx0

theorem State.illCtrlWrite_only {s a1} : Only 4226 s (State.illCtrlWrite s a1) := by
  unfold State.illCtrlWrite
  extract_lets x0
  have hx0 : Only 4226 s x0 := State.putReg_only.mono rfl
  clear_value x0
  refine Only.ite hx0 ?_
  refine Only.forEach (fun i1 t2 h3 => ?_) hx0
  exact State.illRampDown_only.after rfl h3

theorem State.floorWrite_only {s a1} : Only 130 s (State.floorWrite s a1) := by
  unfold State.floorWrite
  exact Only.ite (State.putReg_only.mono rfl) (State.refuse_only.mono rfl)

theorem State.supOnly_only {s a1 a2 a3} : Only 130 s (State.supOnly s a1 a2 a3) := by
  unfold State.supOnly
  extract_lets x0
  have hx0 : Only 130 s x0 := State.noteRsvd_only.mono rfl
  clear_value x0
  refine Only.ite hx0 ?_
  refine Only.ite (State.cfgAt_only.after rfl hx0) ?_
  split
  · extract_lets x4
    clear_value x4
    exact Only.ite (State.cfgAt_only.after rfl (State.setReg_only.after rfl hx0)) (State.setReg_only.after rfl hx0)
  · exact hx0

theorem State.onBit0_only {g a : Nat} {v : Word} {f : State → State} {s t : State} (hm : Only.sub 2 g = true)
    (hf : ∀ u, Only g s u → Only g s (f u)) (h : Only g s t) : Only g s (t.onBit0 a v f) := by
  have hn : Only g s (t.noteRsvd a v) := State.noteRsvd_only.after (Only.sub_trans (by rfl) hm) h
  exact Only.ite (hf _ hn) hn

theorem State.writeAs_only {s a1 a2 a3 a4 a5 a6 a7} : Only 16777215994 s (State.writeAs s a1 a2 a3 a4 a5 a6 a7) := by
  cases a2
  case sfePhyCfg => exact State.phyCfgWrite_only.mono (by rfl)
  case sfePhyLanemap => exact State.laneMapWrite_only.mono (by rfl)
  case sfeCtxCtrl => exact State.scCtrlWrite_only.mono (by rfl)
  case sfeCtxSrc => exact State.scSrcWrite_only.mono (by rfl)
  case sfeCtxFmt => exact State.scFmtWrite_only.mono (by rfl)
  case sfePwl => exact State.scTabWrite_only.mono (by rfl)
  case sfeLsctab => exact State.scTabWrite_only.mono (by rfl)
  case sfeDfl => exact State.scTabWrite_only.mono (by rfl)
  case lptCtrl => exact State.lptCtrlWrite_only.mono (by rfl)
  case lptTodSrc => exact State.todSrcWrite_only.mono (by rfl)
  case lptTodRate => exact State.todRateWrite_only.mono (by rfl)
  case lptTodStepGo => exact State.onBit0_only rfl (fun _ h => State.todStep_only.after rfl h) Only.refl
  case lptPpsOutCtrl => exact State.ppsOutWrite_only.mono (by rfl)
  case lptLdPeriod => exact State.ldPeriodWrite_only.mono (by rfl)
  case lptLdFlen => exact State.ldFlenWrite_only.mono (by rfl)
  case lptLdCtrl => exact State.ldCtrlWrite_only.mono (by rfl)
  case lptFsync => exact State.fsyncWrite_only.mono (by rfl)
  case lptSchedCtrl => exact State.schedCtrlWrite_only.mono (by rfl)
  case lptSchedEnt => exact State.entWrite_only.mono (by rfl)
  case tcCtrl => exact State.tcCtrlWrite_only.mono (by rfl)
  case tcWin => exact State.winWrite_only.mono (by rfl)
  case tcCxCtrl => exact State.cxCtrlWrite_only.mono (by rfl)
  case tcCxS => exact State.scalarWrite_only.mono (by rfl)
  case spmCtrl => exact Only.ite (State.spmInitCmd_only.after rfl (State.putReg_only.mono (by rfl))) (State.putReg_only.mono (by rfl))
  case spmResCtrl => exact State.resCtrl_only.mono (by rfl)
  case spmResSize => exact State.resWrite_only.mono (by rfl)
  case spmResOrgLo => exact State.resWrite_only.mono (by rfl)
  case spmResOrgHi => exact State.resWrite_only.mono (by rfl)
  case tcActtab => exact State.actTab_only.mono (by rfl)
  case passCtrl => exact State.passCtrlSet_only.mono (by rfl)
  case passAuditCtrl => exact State.onBit0_only rfl (fun _ h => State.passAuditCmd_only.after rfl h) Only.refl
  case passSwHandle => exact State.stageWrite_only.mono (by rfl)
  case passSwMetaLo => exact State.stageWrite_only.mono (by rfl)
  case passSwMetaHi => exact State.swPushCmd_only.mono (by rfl)
  case passSwVreg => exact State.stageWrite_only.mono (by rfl)
  case passSwCmd => exact State.swCmdWrite_only.mono (by rfl)
  case passPqCfg => exact State.pqCfgWrite_only.mono (by rfl)
  case passPqFlush => exact State.onBit0_only rfl (fun _ h => State.pqFlushCmd_only.after rfl h) Only.refl
  case passPlBaseLo => exact State.plWrite_only.mono (by rfl)
  case passPlBaseHi => exact State.plWrite_only.mono (by rfl)
  case passPlSize => exact State.plWrite_only.mono (by rfl)
  case passPlCfg => exact State.plWrite_only.mono (by rfl)
  case passPlRevokeLo => exact State.revoke_only.mono (by rfl)
  case passPlRevokeHi => exact (State.revoke_only (s := s) (a1 := a3) (a2 := true) (a3 := a7)).mono rfl
  case wchCtrl => exact State.wchCtrlWrite_only.mono (by rfl)
  case wchAuditCtrl => exact State.onBit0_only rfl (fun _ h => State.wchAuditCmd_only.after rfl h) Only.refl
  case fmtSrcCfg => exact State.fmtSrcWrite_only.mono (by rfl)
  case fmtOsCtrl => exact State.fmtOsWrite_only.mono (by rfl)
  case fmtOsDest => exact State.fmtDestWrite_only.mono (by rfl)
  case fmtCoef => exact State.fmtCoefPut_only.mono (by rfl)
  case dppCtrl => exact State.dppCtrlWrite_only.mono (by rfl)
  case dppSubmitLo => exact State.dppSubmitWrite_only.mono (by rfl)
  case dppSlotAbort => exact State.onBit0_only rfl (fun _ h => State.dppAbort_only.after rfl h) Only.refl
  case dppBindCfg => exact State.bindWrite_only.mono (by rfl)
  case dppBindMap => exact State.bindWrite_only.mono (by rfl)
  case dppBindTmplLo => exact State.bindWrite_only.mono (by rfl)
  case dppBindTmplHi => exact State.bindWrite_only.mono (by rfl)
  case vencCtrl => exact State.vEngineWrite_only.mono (by rfl)
  case vencCmdTail => exact State.vTailWrite_only.mono (by rfl)
  case vencRefBaseLo => exact State.vRefWrite_only.mono (by rfl)
  case vencRefBaseHi => exact State.vRefWrite_only.mono (by rfl)
  case vencRefSize => exact State.vRefWrite_only.mono (by rfl)
  case vencRefCfg => exact State.vRefWrite_only.mono (by rfl)
  case vencSCtrl => exact State.vCtrlWrite_only.mono (by rfl)
  case vencSSize => exact State.vSessWrite_only.mono (by rfl)
  case vencSFps => exact State.vSessWrite_only.mono (by rfl)
  case vencSIo => exact State.vSessWrite_only.mono (by rfl)
  case vdecCtrl => exact State.vdEngineWrite_only.mono (by rfl)
  case vdecDpbBaseLo => exact State.vdDpbWrite_only.mono (by rfl)
  case vdecDpbBaseHi => exact State.vdDpbWrite_only.mono (by rfl)
  case vdecDpbSize => exact State.vdDpbWrite_only.mono (by rfl)
  case vdecDpbCfg => exact State.vdDpbWrite_only.mono (by rfl)
  case vdecSCtrl => exact State.vdCtrlWrite_only.mono (by rfl)
  case vdecSMaxsize => exact State.vdSessWrite_only.mono (by rfl)
  case vdecSIo => exact State.vdSessWrite_only.mono (by rfl)
  case vdecSDpb => exact State.vdSessWrite_only.mono (by rfl)
  case vdecSStride => exact State.vdSessWrite_only.mono (by rfl)
  case vdecSBudget => exact State.vdSessWrite_only.mono (by rfl)
  case memCtrl => exact State.memCtrlWrite_only.mono (by rfl)
  case memCfg => exact State.memCfgWrite_only.mono (by rfl)
  case memAuditCtrl => exact State.onBit0_only rfl (fun _ h => State.memAuditCmd_only.after rfl h) Only.refl
  case cohSnoopTo => exact State.snoopToWrite_only.mono (by rfl)
  case cohScrubHi => exact State.scrubWrite_only.mono (by rfl)
  case cohCpuCtrl => exact State.onBit0_only rfl (fun _ h => State.flushAllCmd_only.after rfl h) Only.refl
  case pcieBar2Cfg => exact State.bar2CfgWrite_only.mono (by rfl)
  case pcieBar2TgtLo => exact State.bar2TgtWrite_only.mono (by rfl)
  case pcieBar2TgtHi => exact State.bar2TgtWrite_only.mono (by rfl)
  case pcieEpIrq => exact State.epIrqWrite_only.mono (by rfl)
  case ethMdio => exact State.mdioWrite_only.mono (by rfl)
  case ethQTail => exact State.ethTail_only.mono (by rfl)
  case i3cCtrl => exact State.i3cCtrlWrite_only.mono (by rfl)
  case i3cCmdHi => exact State.i3cEnter_only.mono (by rfl)
  case i3cData => exact State.i3cDataWrite_only.mono (by rfl)
  case uartData => exact State.uartWrite_only.mono (by rfl)
  case illCtrl => exact State.illCtrlWrite_only.mono (by rfl)
  case illCfg => exact State.illCfgWrite_only.mono (by rfl)
  case illChStatus => exact State.illStatusWrite_only.mono (by rfl)
  case dsvDoorbell => exact State.onBit0_only rfl (fun _ h => State.doorbell_only.after rfl h) Only.refl
  case dsvChainBase => exact State.chainRegWrite_only.mono (by rfl)
  case dsvChainSize => exact State.chainRegWrite_only.mono (by rfl)
  case dsvChainTail => exact State.chainRegWrite_only.mono (by rfl)
  case dsvErrCtrl => exact State.errCtrlWrite_only.mono (by rfl)
  case dsvErrDBase => exact State.ringCfgWrite_only.mono (by rfl)
  case dsvErrDSize => exact State.ringCfgWrite_only.mono (by rfl)
  case dsvErrDTail => exact State.ringTailWrite_only.mono (by rfl)
  case dsvErrHBase => exact State.ringCfgWrite_only.mono (by rfl)
  case dsvErrHSize => exact State.ringCfgWrite_only.mono (by rfl)
  case dsvErrHTail => exact State.ringTailWrite_only.mono (by rfl)
  case dsvTelCtrl => exact State.telCtrlWrite_only.mono (by rfl)
  case dsvTelBase => exact State.ringCfgWrite_only.mono (by rfl)
  case dsvTelSize => exact State.ringCfgWrite_only.mono (by rfl)
  case dsvTelTail => exact State.telTailWrite_only.mono (by rfl)
  case thmRampFloor => exact State.floorWrite_only.mono (by rfl)
  case pwrTcGate => exact State.tcGateWrite_only.mono (by rfl)
  case pwrCpuGate => exact State.cpuGateWrite_only.mono (by rfl)
  case pwrRst => exact State.rstWrite_only.mono (by rfl)
  case pwrAvsCfg => exact State.supOnly_only.mono (by rfl)
  case pwrPmbus => exact State.supOnly_only.mono (by rfl)
  case clkTclkReq => exact State.tclkReqWrite_only.mono (by rfl)
  case clkCpuReq => exact State.cpuReqWrite_only.mono (by rfl)
  all_goals exact State.putReg_only.mono rfl

theorem State.writeReg_only {s a1 a2 a3 a4} : Only 16777215994 s (State.writeReg s a1 a2 a3 a4) := by
  unfold State.writeReg
  split
  · exact State.markRsvd_only.mono rfl
  · extract_lets x5
    have hx5 : Only 16777215994 s x5 := State.noteRsvd_only.mono rfl
    clear_value x5
    exact Only.ite (State.cfgErr_only.after rfl hx5) (State.writeAs_only.after rfl hx5)

theorem State.captureRead_only {s a1 a2 a3} : Only 4294967300 s (State.captureRead s a1 a2 a3) := by
  unfold State.captureRead
  extract_lets x0
  have hx0 : Only 4294967300 s x0 := Only.upd_capture Only.refl rfl (twf_foldl_tset _ _ _)
  clear_value x0
  exact Only.ite (State.answer_only.after rfl hx0) (State.answer_only.mono rfl)

theorem State.readReg_only {s a1 a2} : Only 12893290630 s (State.readReg s a1 a2) := by
  unfold State.readReg
  split
  · exact State.answer_only.mono rfl
  · extract_lets x5
    clear_value x5
    refine Only.ite (State.answer_only.after rfl (State.cfgErr_only.mono rfl)) ?_
    split
    · exact State.captureRead_only.mono rfl
    · split
      · exact State.i3cRespRead_only.mono rfl
      · exact State.i3cIbiRead_only.mono rfl
      · exact State.i3cDataRead_only.mono rfl
      · exact State.uartRead_only.mono rfl
      · exact State.capFrameRead_only.mono rfl
      · split
        · rename_i y24 y25 y26 y27
          have hy26 : Only 12893290630 s y26 := (State.draw_only y27).mono rfl
          exact State.answer_only.after rfl hy26
      · split
        · rename_i y30 y31 y32 y33
          have hy32 : Only 12893290630 s y32 := (State.draw_only y33).mono rfl
          exact State.answer_only.after rfl hy32
      · exact State.answer_only.mono rfl

theorem State.awake_only {s a1} : Only 2097154 s (State.awake s a1) := by
  unfold State.awake
  split
  · extract_lets x2 x3
    have hx2 : Only 2097154 s x2 := State.setRf_only.mono rfl
    clear_value x2 x3
    exact Only.ite (Only.upd_coh hx2 rfl) Only.refl
  · exact Only.refl

theorem State.pageWrite_only {s a1 a2 a3 a4} : Only 16777215994 s (State.pageWrite s a1 a2 a3 a4) := by
  unfold State.pageWrite
  split
  · exact State.writeReg_only.mono rfl
  · refine Only.ite ?_ (State.writeReg_only.mono rfl)
    split
    · exact State.markRsvd_only.mono rfl
    · exact Only.ite (State.writeReg_only.mono rfl) (State.cfgErr_only.after rfl (State.noteRsvd_only.mono rfl))

theorem State.pageRead_only {s a1 a2 a3} : Only 12893290630 s (State.pageRead s a1 a2 a3) := by
  unfold State.pageRead
  split
  · exact State.readReg_only.mono rfl
  · refine Only.ite ?_ (State.readReg_only.mono rfl)
    split
    · exact State.answer_only.mono rfl
    · exact Only.ite (State.readReg_only.mono rfl) (State.answer_only.mono rfl)

theorem State.access4_only {g0 a : Nat} {who : Initiator} {w : Bool} {f g off : State → State} {s t : State}
    (hm : Only.sub 12954108043 g0 = true) (hf : ∀ u, Only g0 s u → Only g0 s (f u)) (hg : ∀ u, Only g0 s u → Only g0 s (g u))
    (ho : ∀ u, Only g0 s u → Only g0 s (off u)) (h : Only g0 s t) : Only g0 s (t.access4 who a w f g off) := by
  have hd : ∀ {u win n w hole}, Only g0 s u → Only g0 s (u.denied who win a n w hole) := State.denied_only.after (Only.sub_trans (by rfl) hm)
  have ha : Only g0 s (t.awake who) := State.awake_only.after (Only.sub_trans (by rfl) hm) h
  have hw : Only g0 s ((t.awake who).waitUnit a) := State.waitUnit_only.after (Only.sub_trans (by rfl) hm) ha
  unfold State.access4
  refine Only.ite (Only.ite (Only.ite (ho _ h) (hd h)) (Only.ite (ho _ h) (hd h))) (Only.ite (hd h) (Only.ite (hd h)
    (Only.ite (hd h) (Only.ite (ho _ ha) ?_))))
  dsimp only
  split
  · exact hf _ hw
  · exact hf _ hw
  · exact hg _ hw

theorem State.write4_only {s a1 a2 a3} : Only 16777215995 s (State.write4 s a1 a2 a3) := by
  unfold State.write4
  refine State.access4_only rfl (fun u0 hu1 => ?_) (fun u2 hu3 => ?_) (fun u4 hu5 => ?_) (Only.upd_resp Only.refl rfl)
  · exact State.pageWrite_only.after rfl hu1
  · exact State.writeReg_only.after rfl hu3
  · exact hu5

theorem State.read4_only {s a1 a2} : Only 12962496655 s (State.read4 s a1 a2) := by
  unfold State.read4
  refine State.access4_only rfl (fun u0 hu1 => ?_) (fun u2 hu3 => ?_) (fun u4 hu5 => ?_) (Only.upd_resp Only.refl rfl)
  · exact State.pageRead_only.after rfl hu1
  · exact State.readReg_only.after rfl hu3
  · exact State.answer_only.after rfl hu5

theorem execRegisterWrite_only {a0 a1 a2 a3 s} : Ends 16777215995 s (execRegisterWrite a0 a1 a2 a3 s) := by
  unfold execRegisterWrite
  refine Ends.next ?_
  extract_lets x0 x1 x2 x3
  clear_value x0
  have hx1 : Only 16777215995 s x1 := State.write4_only.mono rfl
  clear_value x1 x2
  have hx3 : Only 16777215995 s x3 := State.write4_only.after rfl hx1
  clear_value x3
  refine Only.ite (State.write4_only.mono rfl) ?_
  exact Only.ite (Only.ite (Only.upd_resp hx3 rfl) hx3) (Only.upd_resp Only.refl rfl)

theorem execMultiwordCaptureRead_only {a0 a1 s} : Ends 12962496655 s (execMultiwordCaptureRead a0 a1 s) := by
  unfold execMultiwordCaptureRead
  refine Ends.next ?_
  exact Only.ite (State.read4_only.mono rfl) (Only.upd_resp Only.refl rfl)

theorem State.inboundUr_only {s a1} : Only 4294967424 s (State.inboundUr s a1) := by
  unfold State.inboundUr
  extract_lets x0
  have hx0 : Only 4294967424 s x0 := State.pcieErr_only.mono rfl
  clear_value x0
  exact Only.upd_resp hx0 rfl

theorem State.inboundDram_only {s a1 a2 a3 a4 a5} : Only 14495572098 s (State.inboundDram s a1 a2 a3 a4 a5) := by
  unfold State.inboundDram
  extract_lets x0 x1 x2 x3 x4 x5 x6
  clear_value x0
  have hx1 : Only 14495572098 s x1 := State.unitWrite_only.mono rfl
  clear_value x1
  have hx2 : Only 14495572098 s x2 := Only.ite (State.pcieErr_only.after rfl hx1) hx1
  clear_value x2
  have hx3 : Only 14495572098 s x3.2 := (State.unitRead_only (p := x3) rfl).mono rfl
  clear_value x3 x4
  have hx5 : Only 14495572098 s x5 := hx3
  clear_value x5
  have hx6 : Only 14495572098 s x6 := Only.upd_resp hx5 rfl
  clear_value x6
  refine Only.ite (Only.ite (State.pcieErr_only.after rfl hx2) hx2) ?_
  split
  · exact State.inboundUr_only.after rfl (State.fwDeny_only.mono rfl)
  · exact Only.ite (State.pcieErr_only.after rfl hx6) hx6

theorem State.msixTableWrite_only {s a1 a2} : Only 2181038080 s (State.msixTableWrite s a1 a2) := by
  unfold State.msixTableWrite
  extract_lets x0
  have hx0 : Only 2181038080 s x0 := by
    unfold x0
    refine Only.forEach (fun i1 t2 h3 => ?_) Only.refl
    exact State.setMsixWord_only.after rfl h3
  clear_value x0
  refine Only.ite Only.refl ?_
  refine Only.forEach (fun i4 t5 h6 => ?_) hx0
  exact Only.ite h6 (State.msixDeliver_only.after rfl h6)

theorem State.inboundBar0_only {s a1 a2 a3 a4} : Only 16777215999 s (State.inboundBar0 s a1 a2 a3 a4) := by
  unfold State.inboundBar0
  extract_lets x0 x1 x2
  clear_value x0 x1
  have hx2 : Only 16777215999 s x2 := by
    unfold x2
    refine Only.ite ?_ (Only.upd_resp Only.refl rfl)
    refine Only.foldl2 (fun t4 i3 h5 => ?_) Only.refl
    extract_lets x6 x7 x8
    clear_value x6
    have hx7 : Only 16777215999 s x7 := Only.ite (State.write4_only.after rfl h5) (State.read4_only.after rfl h5)
    clear_value x7 x8
    exact Only.snd (Only.upd_resp hx7 rfl)
  clear_value x2
  refine Only.ite (Only.ite (State.pcieErr_only.after rfl hx2) hx2) ?_
  exact Only.ite (State.inboundUr_only.mono rfl) (Only.ite (State.msixTableWrite_only.mono rfl) (Only.upd_resp Only.refl rfl))

theorem execPcieInboundRequest_only {a0 a1 a2 a3 a4 a5 s} : Ends 16777215999 s (execPcieInboundRequest a0 a1 a2 a3 a4 a5 s) := by
  unfold execPcieInboundRequest
  refine Ends.next ?_
  extract_lets x0 x1 x2
  have hx0 : Only 16777215999 s x0 := Only.upd_resp Only.refl rfl
  clear_value x0 x1 x2
  refine Only.ite hx0 ?_
  refine Only.ite ?_ ?_
  · exact Only.ite (State.inboundBar0_only.after rfl hx0) (Only.ite (State.inboundDram_only.after rfl hx0) (State.inboundUr_only.after rfl hx0))
  · exact Only.ite (State.irq_only.after rfl (State.setRf_only.after rfl hx0)) (Only.ite (State.inboundDram_only.after rfl hx0) (State.inboundUr_only.after rfl hx0))

theorem State.withFetchWord_only {s a1 a2} : Only 17179869184 s (State.withFetchWord s a1 a2) := by
  unfold State.withFetchWord
  split
  · exact Only.upd_pending Only.refl rfl
  · exact Only.refl

end Sys2Proof.Machine
end

