-- ==== Sys2Proof/Laws/Exec.lean ====
section
/-! SUPPORT. The footprint of every command, and that every command answers a next state within it. -/

namespace Sys2Proof.Machine

open Sys2Proof

/-- The parts of the state a command may change, as a mask. -/
def footprint : Instr → Nat
  | .registerWrite _ _ _ _ => 16777215995
  | .multiwordCaptureRead _ _ => 12962496655
  | .lineBoundary _ => 5883
  | .domainStart _ | .predictedFrameStart _ => 251
  | .domainEnable _ _ | .domainDisable _ _ | .lptEnable | .lptDisable => 5810
  | .fsWindowEnd _ => 1073747643
  | .frameStart _ _ _ | .countedLine _ => 3221428219
  | .frameEndPacket _ _ _ | .uncorrectableHeader _ => 1073807746
  | .embeddedDataPacket _ _ _ _ _ | .unmatchedPacket _ _ _ _ => 65666
  | .genericShortPacket _ _ _ _ => 1073807490
  | .deskewCalibration _ _ _ | .ethLinkChange _ _ _ _ | .illGateUvRecover | .clockStep _ => 2
  | .ulpsEntryExit _ _ _ => 65538
  | .groupFsBoundExpiry _ => 1073807755
  | .conditioningBurst => 1610736002
  | .stripePush _ => 2147549568
  | .statsPush _ => 3758219650
  | .sfeCtxEnable _ _ => 65922
  | .schedNone _ | .fsyncSet _ | .fsyncClr _ | .illOn _ | .illOff _ | .ctxWake _ | .fmtStart _ | .vencSlice _ | .irq _ | .maintOpen _ | .maintClose _
    => 2147620603
  | .fsyncTrimEdge _ | .fsyncAutoPulseEnd _ => 41
  | .fsyncDomainWrite _ _ => 162
  | .schedEntryWrite _ _ _ | .schedCommit => 194
  | .maintJobGrant => 1879105730
  | .retrainForce | .memAudit => 536871042
  | .todStepGo | .todSrcWrite _ | .ppsInEdge => 10217382026
  | .ppsMiss => 10
  | .ppsOutRise | .ppsOutFall => 9
  | .goCtx _ _ => 10200548482
  | .stopCtx _ _ => 3968
  | .contextStopped _ _ | .nopI _ _ _ | .yieldI _ _ _ | .fenceI _ _ _ | .depmarkI _ _ _ | .waitlineI _ _ _ | .waitlineSetpfx _ _ _
  | .waitlineRelease _ _ => 1536
  | .resumeCtx _ _ => 12348090242
  | .resetCtx _ _ | .haltI _ _ _ | .barrierI _ _ _ | .drainI _ _ _ | .nestImpliedSync _ _ | .deadlineI _ _ _ | .signalI _ _ _ | .loopI _ _ _
  | .endloopI _ _ _ | .jumpI _ _ _ | .brzI _ _ _ | .brnzI _ _ _ | .bucketI _ _ _ => 1922
  | .haltReq _ => 3842
  | .haltReqClear _ | .spmPowerupInitDone _ => 514
  | .instructionFetch _ _ => 10200549250
  | .yieldTimeout _ _ => 1024
  | .deadlineMiss _ _ => 1154
  | .loadI _ _ _ | .storeI _ _ _ | .copyI _ _ _ | .fillI _ _ _ | .mmulI _ _ _ | .convI _ _ _ | .dwconvI _ _ _ | .vopI _ _ _ | .actI _ _ _
  | .reqI _ _ _ | .reduceI _ _ _ | .shufI _ _ _ | .poolmaxI _ _ _ | .poolavgI _ _ _ | .hallocI _ _ _ | .hrelI _ _ _ => 1610672002
  | .loadDataReturn _ _ _ => 10200547970
  | .loadwI _ _ _ | .operationRetire _ _ => 1610674050
  | .cx0PreemptStart _ _ => 512
  | .pqpopI _ _ _ => 10200606594
  | .pqpushI _ _ _ => 3758155650
  | .detsubI _ _ _ => 1610933890
  | .detwaitI _ _ _ => 1610671746
  | .contextWakePass _ _ => 10737420162
  | .setsI _ _ _ | .addsI _ _ _ => 1538
  | .parityError _ _ _ | .wchPacketHop _ _ => 1610673794
  | .parityReplayReissue _ _ => 10200606338
  | .accParityError _ _ _ | .spmInit _ => 642
  | .debugWindowRead _ _ _ => 12952010891
  | .debugWindowWrite _ _ _ => 12952011403
  | .spmResValidWrite _ _ _ | .acttabWrite _ _ _ _ | .passCtrlWrite _ | .fmtCoefWrite _ _ _ | .ethTailWrite _ _ _ | .tclkRequest _
  | .cpuClockRequest _ | .pumpStall | .errorRecordPost => 130
  | .wchGroupFetch _ _ | .wchBypassSwitch _ => 10200608386
  | .wchMatchTimeout _ _ => 2176
  | .wchSplitWrite _ | .wchAudit => 2178
  | .pqEnable _ _ | .pqDisable _ _ | .pqFlushComplete _ | .poolRevoke _ _ _ | .swAlloc _ _ | .swRelease _ _ | .passAudit => 386
  | .pqFlush _ => 384
  | .poolBumpComplete _ => 256
  | .swPop _ _ => 8589934978
  | .swPush _ _ _ => 2147484034
  | .auditComplete _ => 536873346
  | .fmtSourcePop _ => 10200736130
  | .fmtStreamPush _ => 3221356802
  | .fmtDeadline _ => 1073873024
  | .fmtSourceEnable _ _ | .fmtSourceDisable _ _ => 131458
  | .fmtStreamEnable _ _ | .fmtStreamDisable _ _ => 3221356930
  | .dppSubmit _ => 262146
  | .dppBindPop _ => 262530
  | .dppJobStart => 10200867202
  | .dppJobComplete => 263682
  | .dppItemPush _ => 2147746176
  | .dppSlotAbort _ | .dppDisable => 264066
  | .vencPicturePop _ _ => 524672
  | .vencPictureStart _ _ => 1611194754
  | .vencRowBoundary _ | .forceIdr _ | .markLong _ | .unmark _ | .holdCmd _ | .releaseCmd _ => 10201129090
  | .vencPictureComplete _ _ | .endSession _ => 12348612994
  | .vencDeadline _ _ => 524416
  | .vencSessionEnable _ _ _ | .vencSessionDisable _ _ _ => 524674
  | .vencCmdTailWrite _ _ | .setRate _ | .setQp _ => 10200604802
  | .vdecInputPop _ => 10201596290
  | .vdecPictureStart => 1048576
  | .vdecNalUnit _ _ | .vdecPictureComplete _ | .vdecOutput _ _ | .vdecDrain _ | .vdecSessionDisable _ _ => 12349137282
  | .vdecBudgetExhausted _ _ => 2148532610
  | .getS _ _ | .getM _ _ _ | .upgrade _ _ => 14497611906
  | .putDirty _ _ | .cohScrub _ | .flushAllDone _ => 1612767362
  | .syncKeep _ _ | .syncDrop _ _ | .cboClean _ _ | .cboFlush _ _ | .cboInval _ _ _ => 14497669250
  | .dropLine _ _ => 12886999170
  | .cpuPoisonAccess _ _ _ => 4297064578
  | .snoopTimeout _ _ _ _ _ => 10202701954
  | .flushAll _ | .cpuGateTimeout _ => 2097282
  | .cpuStoreHit _ _ _ => 12886999168
  | .cacheLineEviction _ _ => 2097152
  | .memInit => 536871040
  | .memInitDone => 536928258
  | .memRead _ _ _ _ _ => 14495547522
  | .memWrite _ _ _ _ _ _ _ _ => 14495572098
  | .memCeWriteback _ | .memStarve _ => 536870912
  | .memLineWindow _ | .dramWriteComplete _ => 1610612738
  | .mr4Poll _ _ _ | .refreshDue _ _ _ | .refreshForced _ _ | .retrainDue _ => 536870914
  | .retrainComplete _ _ => 5905612930
  | .pcieLinkTrain _ => 33554432
  | .pcieInboundRequest _ _ _ _ _ _ => 16777215999
  | .pcieCompletionTimeout _ _ => 4328521856
  | .pcieLinkDown _ _ | .pciePerst => 5939183746
  | .pcieEpIrq _ => 2181038210
  | .msixUnmask _ => 2181038080
  | .pcieOutboundRequest _ _ _ => 12918456450
  | .pcieCompletionReceived _ _ _ => 12918456320
  | .pcieLinkUp _ _ _ => 33554434
  | .pcieInterruptReceived _ _ => 2147483650
  | .ethTxFrame _ | .ethRxFrame _ _ => 10204799106
  | .mdioGo _ _ => 8589934722
  | .i3cCommand _ _ | .i3cTransferComplete _ _ _ _ | .uartRxByte _ _ => 8388738
  | .i3cWaitRelease _ | .i3cIbi _ _ => 8388610
  | .i3cAbort _ => 8598323202
  | .i3cRespRead _ | .i3cIbiRead _ => 4303355906
  | .gpioEdge _ _ => 2147483778
  | .gpioCapFrameRead _ => 4294967298
  | .illBlankEnd _ => 4105
  | .illFastTrip _ | .illNormalTrip _ | .illGateUv | .illFaultClear _ _ | .illChannelDisable _ _ => 4226
  | .illMaxonExpiry _ => 4233
  | .bootRom _ _ => 2239758466
  | .supervisorBoot _ _ _ | .debugLock | .segmentTimeout _ _ => 10217382018
  | .getInfo _ | .getDeviceCert _ | .cancelProposal _ | .getProtection _ | .getDeviceTag _ | .setDeviceTag _ | .flashRead _ | .flashWrite _
  | .mailboxMalformed _ | .doorbellWhileBusy _ | .getPower _ | .getThermal _ | .getTripLog _ => 2197815298
  | .attest _ | .propose _ | .getRails _ => 10787749890
  | .endorse _ _ | .chainFlush _ => 12398420098
  | .endorseLockoutEnd => 16777216
  | .evidItemPop _ => 12364865922
  | .setPower _ => 2264924162
  | .wakeNFall | .wakeAlarm => 2214592514
  | .powerGraceEnd => 10284490882
  | .powerUpStep => 2147426170
  | .powerDownStep => 1879048058
  | .pgTimeout _ => 67108994
  | .pgFall _ | .refclkLoss => 1879048186
  | .hardwareTrip _ => 2147483642
  | .refclkResume _ => 10284490890
  | .powerOnReset => 1108101562367
  | .warmReset => 1744772986
  | .unitResetTc _ => 5972742018
  | .unitResetCpu _ | .cpuGate _ => 5974835330
  | .unitResetSfe => 5972803970
  | .unitResetFmt => 5972869506
  | .unitResetDpp => 5973002114
  | .unitResetVenc _ => 5973262722
  | .unitResetVdec => 5973787010
  | .unitResetPcie => 6006292610
  | .unitResetEth _ => 5976932482
  | .unitResetI3c => 8665432194
  | .unitResetRelease _ => 67108866
  | .tcGate _ | .tcPowerUp _ => 3970
  | .wfiEntry _ => 5907726466
  | .avsEvaluate _ _ => 134217730
  | .pmbusTransactionDone _ _ => 134217856
  | .railSettled _ => 134217728
  | .governorSample _ => 2483028098
  | .thmCalUnplaced | .thmCalDue | .thmCalEnd => 268435456
  | .flowWindow _ | .ntcSample _ _ => 268435586
  | .errorRingWrite => 3791708290
  | .rateLimitIntervalEnd _ => 128
  | .telemetrySnapshot => 10200605058
  | .telemetryUnplaced => 1610670210

/-- Every command answers a next state within its footprint. -/
theorem exec_only (c : Instr) (s : State) : Ends (footprint c) s (exec c s) := by
  cases c
  · exact execRegisterWrite_only
  · exact execMultiwordCaptureRead_only
  · exact execLineBoundary_only
  · exact execDomainStart_only
  · exact execDomainEnable_only
  · exact execDomainDisable_only
  · exact execLptEnable_only
  · exact execLptDisable_only
  · exact execPredictedFrameStart_only
  · exact execFsWindowEnd_only
  · exact execFrameStart_only
  · exact execCountedLine_only
  · exact execFrameEndPacket_only
  · exact execEmbeddedDataPacket_only
  · exact execGenericShortPacket_only
  · exact execDeskewCalibration_only
  · exact execUlpsEntryExit_only
  · exact execGroupFsBoundExpiry_only
  · exact execConditioningBurst_only
  · exact execStripePush_only
  · exact execStatsPush_only
  · exact execSfeCtxEnable_only
  · exact execUncorrectableHeader_only
  · exact execUnmatchedPacket_only
  · exact execSchedNone_only
  · exact execFsyncSet_only
  · exact execFsyncClr_only
  · exact execFsyncTrimEdge_only
  · exact execFsyncAutoPulseEnd_only
  · exact execFsyncDomainWrite_only
  · exact execIllOn_only
  · exact execIllOff_only
  · exact execCtxWake_only
  · exact execFmtStart_only
  · exact execVencSlice_only
  · exact execIrq_only
  · exact execMaintOpen_only
  · exact execMaintClose_only
  · exact execSchedEntryWrite_only
  · exact execSchedCommit_only
  · exact execMaintJobGrant_only
  · exact execRetrainForce_only
  · exact execTodStepGo_only
  · exact execTodSrcWrite_only
  · exact execPpsInEdge_only
  · exact execPpsMiss_only
  · exact execPpsOutRise_only
  · exact execPpsOutFall_only
  · exact execGoCtx_only
  · exact execStopCtx_only
  · exact execContextStopped_only
  · exact execResumeCtx_only
  · exact execResetCtx_only
  · exact execHaltReq_only
  · exact execHaltReqClear_only
  · exact execInstructionFetch_only
  · exact execNopI_only
  · exact execHaltI_only
  · exact execYieldI_only
  · exact execYieldTimeout_only
  · exact execFenceI_only
  · exact execDepmarkI_only
  · exact execBarrierI_only
  · exact execDrainI_only
  · exact execNestImpliedSync_only
  · exact execWaitlineI_only
  · exact execWaitlineSetpfx_only
  · exact execWaitlineRelease_only
  · exact execDeadlineI_only
  · exact execDeadlineMiss_only
  · exact execSignalI_only
  · exact execLoadI_only
  · exact execLoadDataReturn_only
  · exact execStoreI_only
  · exact execLoadwI_only
  · exact execCopyI_only
  · exact execFillI_only
  · exact execMmulI_only
  · exact execConvI_only
  · exact execDwconvI_only
  · exact execCx0PreemptStart_only
  · exact execVopI_only
  · exact execActI_only
  · exact execReqI_only
  · exact execReduceI_only
  · exact execShufI_only
  · exact execPoolmaxI_only
  · exact execPoolavgI_only
  · exact execPqpopI_only
  · exact execPqpushI_only
  · exact execHallocI_only
  · exact execHrelI_only
  · exact execDetsubI_only
  · exact execDetwaitI_only
  · exact execContextWakePass_only
  · exact execLoopI_only
  · exact execEndloopI_only
  · exact execJumpI_only
  · exact execBrzI_only
  · exact execBrnzI_only
  · exact execSetsI_only
  · exact execAddsI_only
  · exact execBucketI_only
  · exact execOperationRetire_only
  · exact execParityError_only
  · exact execParityReplayReissue_only
  · exact execAccParityError_only
  · exact execDebugWindowRead_only
  · exact execDebugWindowWrite_only
  · exact execSpmInit_only
  · exact execSpmPowerupInitDone_only
  · exact execSpmResValidWrite_only
  · exact execActtabWrite_only
  · exact execWchGroupFetch_only
  · exact execWchMatchTimeout_only
  · exact execWchPacketHop_only
  · exact execWchBypassSwitch_only
  · exact execWchSplitWrite_only
  · exact execPqEnable_only
  · exact execPqDisable_only
  · exact execPqFlush_only
  · exact execPqFlushComplete_only
  · exact execPoolRevoke_only
  · exact execPoolBumpComplete_only
  · exact execPassCtrlWrite_only
  · exact execSwPop_only
  · exact execSwAlloc_only
  · exact execSwRelease_only
  · exact execSwPush_only
  · exact execPassAudit_only
  · exact execWchAudit_only
  · exact execMemAudit_only
  · exact execAuditComplete_only
  · exact execFmtSourcePop_only
  · exact execFmtStreamPush_only
  · exact execFmtDeadline_only
  · exact execFmtSourceEnable_only
  · exact execFmtStreamEnable_only
  · exact execFmtStreamDisable_only
  · exact execFmtSourceDisable_only
  · exact execFmtCoefWrite_only
  · exact execDppSubmit_only
  · exact execDppBindPop_only
  · exact execDppJobStart_only
  · exact execDppJobComplete_only
  · exact execDppItemPush_only
  · exact execDppSlotAbort_only
  · exact execDppDisable_only
  · exact execVencPicturePop_only
  · exact execVencPictureStart_only
  · exact execVencRowBoundary_only
  · exact execVencPictureComplete_only
  · exact execVencDeadline_only
  · exact execVencSessionEnable_only
  · exact execVencSessionDisable_only
  · exact execVencCmdTailWrite_only
  · exact execForceIdr_only
  · exact execMarkLong_only
  · exact execUnmark_only
  · exact execHoldCmd_only
  · exact execReleaseCmd_only
  · exact execSetRate_only
  · exact execSetQp_only
  · exact execEndSession_only
  · exact execVdecInputPop_only
  · exact execVdecPictureStart_only
  · exact execVdecNalUnit_only
  · exact execVdecBudgetExhausted_only
  · exact execVdecPictureComplete_only
  · exact execVdecOutput_only
  · exact execVdecDrain_only
  · exact execVdecSessionDisable_only
  · exact execGetS_only
  · exact execGetM_only
  · exact execUpgrade_only
  · exact execPutDirty_only
  · exact execSyncKeep_only
  · exact execSyncDrop_only
  · exact execDropLine_only
  · exact execCboClean_only
  · exact execCboFlush_only
  · exact execCboInval_only
  · exact execCpuPoisonAccess_only (a2 := ‹AccessKind›)
  · exact execSnoopTimeout_only
  · exact execCohScrub_only
  · exact execFlushAll_only
  · exact execFlushAllDone_only
  · exact execCpuStoreHit_only
  · exact execCacheLineEviction_only
  · exact execMemInit_only
  · exact execMemInitDone_only
  · exact execMemRead_only
  · exact execMemWrite_only
  · exact execMemCeWriteback_only
  · exact execMemStarve_only
  · exact execMemLineWindow_only
  · exact execMr4Poll_only
  · exact execRefreshDue_only
  · exact execRefreshForced_only
  · exact execRetrainDue_only
  · exact execRetrainComplete_only
  · exact execDramWriteComplete_only
  · exact execPcieLinkTrain_only
  · exact execPcieInboundRequest_only
  · exact execPcieCompletionTimeout_only
  · exact execPcieLinkDown_only
  · exact execPciePerst_only
  · exact execPcieEpIrq_only
  · exact execMsixUnmask_only
  · exact execPcieOutboundRequest_only
  · exact execPcieCompletionReceived_only
  · exact execPcieLinkUp_only
  · exact execPcieInterruptReceived_only
  · exact execEthTailWrite_only
  · exact execEthTxFrame_only
  · exact execEthRxFrame_only
  · exact execMdioGo_only
  · exact execEthLinkChange_only
  · exact execI3cCommand_only
  · exact execI3cWaitRelease_only
  · exact execI3cTransferComplete_only
  · exact execI3cIbi_only
  · exact execI3cAbort_only
  · exact execI3cRespRead_only
  · exact execI3cIbiRead_only
  · exact execUartRxByte_only
  · exact execGpioEdge_only
  · exact execGpioCapFrameRead_only
  · exact execIllBlankEnd_only
  · exact execIllFastTrip_only
  · exact execIllNormalTrip_only
  · exact execIllMaxonExpiry_only
  · exact execIllGateUv_only
  · exact execIllGateUvRecover_only
  · exact execIllFaultClear_only
  · exact execIllChannelDisable_only
  · exact execBootRom_only
  · exact execSupervisorBoot_only
  · exact execGetInfo_only
  · exact execGetDeviceCert_only
  · exact execAttest_only
  · exact execPropose_only
  · exact execEndorse_only
  · exact execCancelProposal_only
  · exact execGetProtection_only
  · exact execChainFlush_only
  · exact execGetDeviceTag_only
  · exact execSetDeviceTag_only
  · exact execFlashRead_only
  · exact execFlashWrite_only
  · exact execMailboxMalformed_only
  · exact execEndorseLockoutEnd_only
  · exact execDebugLock_only
  · exact execEvidItemPop_only
  · exact execSegmentTimeout_only
  · exact execDoorbellWhileBusy_only
  · exact execGetPower_only
  · exact execSetPower_only
  · exact execGetRails_only
  · exact execWakeNFall_only
  · exact execWakeAlarm_only
  · exact execPowerGraceEnd_only
  · exact execPowerUpStep_only
  · exact execPowerDownStep_only
  · exact execPgTimeout_only
  · exact execPgFall_only
  · exact execHardwareTrip_only
  · exact execRefclkLoss_only
  · exact execRefclkResume_only
  · exact execPowerOnReset_only
  · exact execWarmReset_only
  · exact execUnitResetTc_only
  · exact execUnitResetCpu_only
  · exact execUnitResetSfe_only
  · exact execUnitResetFmt_only
  · exact execUnitResetDpp_only
  · exact execUnitResetVenc_only
  · exact execUnitResetVdec_only
  · exact execUnitResetPcie_only
  · exact execUnitResetEth_only
  · exact execUnitResetI3c_only
  · exact execUnitResetRelease_only
  · exact execTcGate_only
  · exact execTcPowerUp_only
  · exact execCpuGate_only
  · exact execCpuGateTimeout_only
  · exact execWfiEntry_only
  · exact execTclkRequest_only
  · exact execCpuClockRequest_only
  · exact execClockStep_only
  · exact execAvsEvaluate_only
  · exact execPmbusTransactionDone_only
  · exact execRailSettled_only
  · exact execGovernorSample_only
  · exact execThmCalUnplaced_only
  · exact execFlowWindow_only
  · exact execNtcSample_only
  · exact execPumpStall_only
  · exact execThmCalDue_only
  · exact execThmCalEnd_only
  · exact execGetThermal_only
  · exact execGetTripLog_only
  · exact execErrorRecordPost_only
  · exact execErrorRingWrite_only
  · exact execRateLimitIntervalEnd_only
  · exact execTelemetrySnapshot_only
  · exact execTelemetryUnplaced_only

end Sys2Proof.Machine
end

