-- ==== Sys2Proof/Laws/Frame.lean ====
section
/-! SUPPORT. What a footprint leaves alone, through the readers of the state: outside its mask every part reads as before. -/

namespace Sys2Proof.Machine

open Sys2Proof

namespace Only

variable {m : Nat} {s t : State}

theorem at_now (h : Only m s t) (hm : m.testBit 0 = false) : t.now = s.now := h.same .now hm
theorem at_regs (h : Only m s t) (hm : m.testBit 1 = false) : t.regs = s.regs := h.same .regs hm
theorem at_capture (h : Only m s t) (hm : m.testBit 2 = false) : t.capture = s.capture := h.same .capture hm
theorem at_tod (h : Only m s t) (hm : m.testBit 3 = false) : t.tod = s.tod := h.same .tod hm
theorem at_doms (h : Only m s t) (hm : m.testBit 4 = false) : t.doms = s.doms := h.same .doms hm
theorem at_pins (h : Only m s t) (hm : m.testBit 5 = false) : t.pins = s.pins := h.same .pins hm
theorem at_sched (h : Only m s t) (hm : m.testBit 6 = false) : t.sched = s.sched := h.same .sched hm
theorem at_coll (h : Only m s t) (hm : m.testBit 7 = false) : t.coll = s.coll := h.same .coll hm
theorem at_pass (h : Only m s t) (hm : m.testBit 8 = false) : t.pass = s.pass := h.same .pass hm
theorem at_cores (h : Only m s t) (hm : m.testBit 9 = false) : t.cores = s.cores := h.same .cores hm
theorem at_ctxs (h : Only m s t) (hm : m.testBit 10 = false) : t.ctxs = s.ctxs := h.same .ctxs hm
theorem at_wch (h : Only m s t) (hm : m.testBit 11 = false) : t.wch = s.wch := h.same .wch hm
theorem at_ills (h : Only m s t) (hm : m.testBit 12 = false) : t.ills = s.ills := h.same .ills hm
theorem at_mem (h : Only m s t) (hm : m.testBit 13 = false) : t.mem = s.mem := h.same .mem hm
theorem at_memPoison (h : Only m s t) (hm : m.testBit 14 = false) : t.memPoison = s.memPoison := h.same .memPoison hm
theorem at_memUe (h : Only m s t) (hm : m.testBit 15 = false) : t.memUe = s.memUe := h.same .memUe hm
theorem at_sfe (h : Only m s t) (hm : m.testBit 16 = false) : t.sfe = s.sfe := h.same .sfe hm
theorem at_fmt (h : Only m s t) (hm : m.testBit 17 = false) : t.fmt = s.fmt := h.same .fmt hm
theorem at_dpp (h : Only m s t) (hm : m.testBit 18 = false) : t.dpp = s.dpp := h.same .dpp hm
theorem at_venc (h : Only m s t) (hm : m.testBit 19 = false) : t.venc = s.venc := h.same .venc hm
theorem at_vdec (h : Only m s t) (hm : m.testBit 20 = false) : t.vdec = s.vdec := h.same .vdec hm
theorem at_coh (h : Only m s t) (hm : m.testBit 21 = false) : t.coh = s.coh := h.same .coh hm
theorem at_eth (h : Only m s t) (hm : m.testBit 22 = false) : t.eth = s.eth := h.same .eth hm
theorem at_per (h : Only m s t) (hm : m.testBit 23 = false) : t.per = s.per := h.same .per hm
theorem at_dsv (h : Only m s t) (hm : m.testBit 24 = false) : t.dsv = s.dsv := h.same .dsv hm
theorem at_pcie (h : Only m s t) (hm : m.testBit 25 = false) : t.pcie = s.pcie := h.same .pcie hm
theorem at_pwr (h : Only m s t) (hm : m.testBit 26 = false) : t.pwr = s.pwr := h.same .pwr hm
theorem at_clk (h : Only m s t) (hm : m.testBit 27 = false) : t.clk = s.clk := h.same .clk hm
theorem at_thm (h : Only m s t) (hm : m.testBit 28 = false) : t.thm = s.thm := h.same .thm hm
theorem at_ms (h : Only m s t) (hm : m.testBit 29 = false) : t.ms = s.ms := h.same .ms hm
theorem at_stats (h : Only m s t) (hm : m.testBit 30 = false) : t.stats = s.stats := h.same .stats hm
theorem at_irqs (h : Only m s t) (hm : m.testBit 31 = false) : t.irqs = s.irqs := h.same .irqs hm
theorem at_resp (h : Only m s t) (hm : m.testBit 32 = false) : t.resp = s.resp := h.same .resp hm
theorem at_fresh (h : Only m s t) (hm : m.testBit 33 = false) : t.fresh = s.fresh := h.same .fresh hm
theorem at_pending (h : Only m s t) (hm : m.testBit 34 = false) : t.pending = s.pending := h.same .pending hm

theorem reg (h : Only m s t) (hm : m.testBit 1 = false) (a : Nat) : t.reg a = s.reg a := by
  simp only [State.reg, h.at_regs hm]
theorem rf (h : Only m s t) (hm : m.testBit 1 = false) (a hi lo : Nat) : t.rf a hi lo = s.rf a hi lo := by
  simp only [State.rf, State.reg, h.at_regs hm]
theorem rb (h : Only m s t) (hm : m.testBit 1 = false) (a i : Nat) : t.rb a i = s.rb a i := by
  simp only [State.rb, State.reg, h.at_regs hm]
theorem dom (h : Only m s t) (hm : m.testBit 4 = false) (d : Nat) : t.dom d = s.dom d := by
  simp only [State.dom, h.at_doms hm]
theorem pin (h : Only m s t) (hm : m.testBit 5 = false) (i : Nat) : t.pin i = s.pin i := by
  simp only [State.pin, h.at_pins hm]
theorem queue (h : Only m s t) (hm : m.testBit 8 = false) (n : Nat) : t.queue n = s.queue n := by
  simp only [State.queue, h.at_pass hm]
theorem pool (h : Only m s t) (hm : m.testBit 8 = false) (n : Nat) : t.pool n = s.pool n := by
  simp only [State.pool, h.at_pass hm]
theorem core (h : Only m s t) (hm : m.testBit 9 = false) (n : Nat) : t.core n = s.core n := by
  simp only [State.core, h.at_cores hm]
theorem ctx (h : Only m s t) (hm : m.testBit 10 = false) (k : Nat) : t.ctx k = s.ctx k := by
  simp only [State.ctx, h.at_ctxs hm]
theorem ill (h : Only m s t) (hm : m.testBit 12 = false) (n : Nat) : t.ill n = s.ill n := by
  simp only [State.ill, h.at_ills hm]
theorem byte (h : Only m s t) (hm : m.testBit 13 = false) (a : Nat) : t.byte a = s.byte a := by
  simp only [State.byte, h.at_mem hm]
theorem secPoison (h : Only m s t) (hm : m.testBit 14 = false) (k : Nat) : t.secPoison k = s.secPoison k := by
  simp only [State.secPoison, h.at_memPoison hm]
theorem slice (h : Only m s t) (hm : m.testBit 29 = false) (i : Nat) : t.slice i = s.slice i := by
  simp only [State.slice, h.at_ms hm]
theorem chan (h : Only m s t) (hm : m.testBit 29 = false) (i : Nat) : t.chan i = s.chan i := by
  simp only [State.chan, h.at_ms hm]
theorem stat (h : Only m s t) (hm : m.testBit 30 = false) (k u i : Nat) : t.stat k u i = s.stat k u i := by
  simp only [State.stat, h.at_stats hm]

end Only

end Sys2Proof.Machine
end

