-- ==== Sys2Proof/Laws/State.lean ====
section
/-! SUPPORT. The state after each of its updates, field by field and through its readers: what an update leaves alone, and that
the reader of what it writes gives what was written. -/

namespace Sys2Proof.Machine

open Sys2Proof

variable (s : State)

/-! ## `setReg` -/

@[simp] theorem State.setReg_now (a : Nat) (v : Word) : (s.setReg a v).now = s.now := rfl
@[simp] theorem State.setReg_capture (a : Nat) (v : Word) : (s.setReg a v).capture = s.capture := rfl
@[simp] theorem State.setReg_tod (a : Nat) (v : Word) : (s.setReg a v).tod = s.tod := rfl
@[simp] theorem State.setReg_doms (a : Nat) (v : Word) : (s.setReg a v).doms = s.doms := rfl
@[simp] theorem State.setReg_pins (a : Nat) (v : Word) : (s.setReg a v).pins = s.pins := rfl
@[simp] theorem State.setReg_sched (a : Nat) (v : Word) : (s.setReg a v).sched = s.sched := rfl
@[simp] theorem State.setReg_coll (a : Nat) (v : Word) : (s.setReg a v).coll = s.coll := rfl
@[simp] theorem State.setReg_pass (a : Nat) (v : Word) : (s.setReg a v).pass = s.pass := rfl
@[simp] theorem State.setReg_cores (a : Nat) (v : Word) : (s.setReg a v).cores = s.cores := rfl
@[simp] theorem State.setReg_ctxs (a : Nat) (v : Word) : (s.setReg a v).ctxs = s.ctxs := rfl
@[simp] theorem State.setReg_wch (a : Nat) (v : Word) : (s.setReg a v).wch = s.wch := rfl
@[simp] theorem State.setReg_ills (a : Nat) (v : Word) : (s.setReg a v).ills = s.ills := rfl
@[simp] theorem State.setReg_mem (a : Nat) (v : Word) : (s.setReg a v).mem = s.mem := rfl
@[simp] theorem State.setReg_memPoison (a : Nat) (v : Word) : (s.setReg a v).memPoison = s.memPoison := rfl
@[simp] theorem State.setReg_memUe (a : Nat) (v : Word) : (s.setReg a v).memUe = s.memUe := rfl
@[simp] theorem State.setReg_sfe (a : Nat) (v : Word) : (s.setReg a v).sfe = s.sfe := rfl
@[simp] theorem State.setReg_fmt (a : Nat) (v : Word) : (s.setReg a v).fmt = s.fmt := rfl
@[simp] theorem State.setReg_dpp (a : Nat) (v : Word) : (s.setReg a v).dpp = s.dpp := rfl
@[simp] theorem State.setReg_venc (a : Nat) (v : Word) : (s.setReg a v).venc = s.venc := rfl
@[simp] theorem State.setReg_vdec (a : Nat) (v : Word) : (s.setReg a v).vdec = s.vdec := rfl
@[simp] theorem State.setReg_coh (a : Nat) (v : Word) : (s.setReg a v).coh = s.coh := rfl
@[simp] theorem State.setReg_eth (a : Nat) (v : Word) : (s.setReg a v).eth = s.eth := rfl
@[simp] theorem State.setReg_per (a : Nat) (v : Word) : (s.setReg a v).per = s.per := rfl
@[simp] theorem State.setReg_dsv (a : Nat) (v : Word) : (s.setReg a v).dsv = s.dsv := rfl
@[simp] theorem State.setReg_pcie (a : Nat) (v : Word) : (s.setReg a v).pcie = s.pcie := rfl
@[simp] theorem State.setReg_pwr (a : Nat) (v : Word) : (s.setReg a v).pwr = s.pwr := rfl
@[simp] theorem State.setReg_clk (a : Nat) (v : Word) : (s.setReg a v).clk = s.clk := rfl
@[simp] theorem State.setReg_thm (a : Nat) (v : Word) : (s.setReg a v).thm = s.thm := rfl
@[simp] theorem State.setReg_ms (a : Nat) (v : Word) : (s.setReg a v).ms = s.ms := rfl
@[simp] theorem State.setReg_stats (a : Nat) (v : Word) : (s.setReg a v).stats = s.stats := rfl
@[simp] theorem State.setReg_irqs (a : Nat) (v : Word) : (s.setReg a v).irqs = s.irqs := rfl
@[simp] theorem State.setReg_resp (a : Nat) (v : Word) : (s.setReg a v).resp = s.resp := rfl
@[simp] theorem State.setReg_fresh (a : Nat) (v : Word) : (s.setReg a v).fresh = s.fresh := rfl
@[simp] theorem State.setReg_pending (a : Nat) (v : Word) : (s.setReg a v).pending = s.pending := rfl
@[simp] theorem State.setReg_dom (a : Nat) (v : Word) (b : Nat) : (s.setReg a v).dom b = s.dom b := rfl
@[simp] theorem State.setReg_pin (a : Nat) (v : Word) (b : Nat) : (s.setReg a v).pin b = s.pin b := rfl
@[simp] theorem State.setReg_queue (a : Nat) (v : Word) (b : Nat) : (s.setReg a v).queue b = s.queue b := rfl
@[simp] theorem State.setReg_pool (a : Nat) (v : Word) (b : Nat) : (s.setReg a v).pool b = s.pool b := rfl
@[simp] theorem State.setReg_core (a : Nat) (v : Word) (b : Nat) : (s.setReg a v).core b = s.core b := rfl
@[simp] theorem State.setReg_ctx (a : Nat) (v : Word) (b : Nat) : (s.setReg a v).ctx b = s.ctx b := rfl
@[simp] theorem State.setReg_ill (a : Nat) (v : Word) (b : Nat) : (s.setReg a v).ill b = s.ill b := rfl
@[simp] theorem State.setReg_stat (a : Nat) (v : Word) (p q r : Nat) : (s.setReg a v).stat p q r = s.stat p q r := rfl
@[simp] theorem State.setReg_byte (a : Nat) (v : Word) (b : Nat) : (s.setReg a v).byte b = s.byte b := rfl
@[simp] theorem State.setReg_secPoison (a : Nat) (v : Word) (b : Nat) : (s.setReg a v).secPoison b = s.secPoison b := rfl
@[simp] theorem State.setReg_slice (a : Nat) (v : Word) (b : Nat) : (s.setReg a v).slice b = s.slice b := rfl
@[simp] theorem State.setReg_chan (a : Nat) (v : Word) (b : Nat) : (s.setReg a v).chan b = s.chan b := rfl

/-! ## `setRf` -/

@[simp] theorem State.setRf_now (a hi lo v : Nat) : (s.setRf a hi lo v).now = s.now := rfl
@[simp] theorem State.setRf_capture (a hi lo v : Nat) : (s.setRf a hi lo v).capture = s.capture := rfl
@[simp] theorem State.setRf_tod (a hi lo v : Nat) : (s.setRf a hi lo v).tod = s.tod := rfl
@[simp] theorem State.setRf_doms (a hi lo v : Nat) : (s.setRf a hi lo v).doms = s.doms := rfl
@[simp] theorem State.setRf_pins (a hi lo v : Nat) : (s.setRf a hi lo v).pins = s.pins := rfl
@[simp] theorem State.setRf_sched (a hi lo v : Nat) : (s.setRf a hi lo v).sched = s.sched := rfl
@[simp] theorem State.setRf_coll (a hi lo v : Nat) : (s.setRf a hi lo v).coll = s.coll := rfl
@[simp] theorem State.setRf_pass (a hi lo v : Nat) : (s.setRf a hi lo v).pass = s.pass := rfl
@[simp] theorem State.setRf_cores (a hi lo v : Nat) : (s.setRf a hi lo v).cores = s.cores := rfl
@[simp] theorem State.setRf_ctxs (a hi lo v : Nat) : (s.setRf a hi lo v).ctxs = s.ctxs := rfl
@[simp] theorem State.setRf_wch (a hi lo v : Nat) : (s.setRf a hi lo v).wch = s.wch := rfl
@[simp] theorem State.setRf_ills (a hi lo v : Nat) : (s.setRf a hi lo v).ills = s.ills := rfl
@[simp] theorem State.setRf_mem (a hi lo v : Nat) : (s.setRf a hi lo v).mem = s.mem := rfl
@[simp] theorem State.setRf_memPoison (a hi lo v : Nat) : (s.setRf a hi lo v).memPoison = s.memPoison := rfl
@[simp] theorem State.setRf_memUe (a hi lo v : Nat) : (s.setRf a hi lo v).memUe = s.memUe := rfl
@[simp] theorem State.setRf_sfe (a hi lo v : Nat) : (s.setRf a hi lo v).sfe = s.sfe := rfl
@[simp] theorem State.setRf_fmt (a hi lo v : Nat) : (s.setRf a hi lo v).fmt = s.fmt := rfl
@[simp] theorem State.setRf_dpp (a hi lo v : Nat) : (s.setRf a hi lo v).dpp = s.dpp := rfl
@[simp] theorem State.setRf_venc (a hi lo v : Nat) : (s.setRf a hi lo v).venc = s.venc := rfl
@[simp] theorem State.setRf_vdec (a hi lo v : Nat) : (s.setRf a hi lo v).vdec = s.vdec := rfl
@[simp] theorem State.setRf_coh (a hi lo v : Nat) : (s.setRf a hi lo v).coh = s.coh := rfl
@[simp] theorem State.setRf_eth (a hi lo v : Nat) : (s.setRf a hi lo v).eth = s.eth := rfl
@[simp] theorem State.setRf_per (a hi lo v : Nat) : (s.setRf a hi lo v).per = s.per := rfl
@[simp] theorem State.setRf_dsv (a hi lo v : Nat) : (s.setRf a hi lo v).dsv = s.dsv := rfl
@[simp] theorem State.setRf_pcie (a hi lo v : Nat) : (s.setRf a hi lo v).pcie = s.pcie := rfl
@[simp] theorem State.setRf_pwr (a hi lo v : Nat) : (s.setRf a hi lo v).pwr = s.pwr := rfl
@[simp] theorem State.setRf_clk (a hi lo v : Nat) : (s.setRf a hi lo v).clk = s.clk := rfl
@[simp] theorem State.setRf_thm (a hi lo v : Nat) : (s.setRf a hi lo v).thm = s.thm := rfl
@[simp] theorem State.setRf_ms (a hi lo v : Nat) : (s.setRf a hi lo v).ms = s.ms := rfl
@[simp] theorem State.setRf_stats (a hi lo v : Nat) : (s.setRf a hi lo v).stats = s.stats := rfl
@[simp] theorem State.setRf_irqs (a hi lo v : Nat) : (s.setRf a hi lo v).irqs = s.irqs := rfl
@[simp] theorem State.setRf_resp (a hi lo v : Nat) : (s.setRf a hi lo v).resp = s.resp := rfl
@[simp] theorem State.setRf_fresh (a hi lo v : Nat) : (s.setRf a hi lo v).fresh = s.fresh := rfl
@[simp] theorem State.setRf_pending (a hi lo v : Nat) : (s.setRf a hi lo v).pending = s.pending := rfl
@[simp] theorem State.setRf_dom (a hi lo v : Nat) (b : Nat) : (s.setRf a hi lo v).dom b = s.dom b := rfl
@[simp] theorem State.setRf_pin (a hi lo v : Nat) (b : Nat) : (s.setRf a hi lo v).pin b = s.pin b := rfl
@[simp] theorem State.setRf_queue (a hi lo v : Nat) (b : Nat) : (s.setRf a hi lo v).queue b = s.queue b := rfl
@[simp] theorem State.setRf_pool (a hi lo v : Nat) (b : Nat) : (s.setRf a hi lo v).pool b = s.pool b := rfl
@[simp] theorem State.setRf_core (a hi lo v : Nat) (b : Nat) : (s.setRf a hi lo v).core b = s.core b := rfl
@[simp] theorem State.setRf_ctx (a hi lo v : Nat) (b : Nat) : (s.setRf a hi lo v).ctx b = s.ctx b := rfl
@[simp] theorem State.setRf_ill (a hi lo v : Nat) (b : Nat) : (s.setRf a hi lo v).ill b = s.ill b := rfl
@[simp] theorem State.setRf_stat (a hi lo v : Nat) (p q r : Nat) : (s.setRf a hi lo v).stat p q r = s.stat p q r := rfl
@[simp] theorem State.setRf_byte (a hi lo v : Nat) (b : Nat) : (s.setRf a hi lo v).byte b = s.byte b := rfl
@[simp] theorem State.setRf_secPoison (a hi lo v : Nat) (b : Nat) : (s.setRf a hi lo v).secPoison b = s.secPoison b := rfl
@[simp] theorem State.setRf_slice (a hi lo v : Nat) (b : Nat) : (s.setRf a hi lo v).slice b = s.slice b := rfl
@[simp] theorem State.setRf_chan (a hi lo v : Nat) (b : Nat) : (s.setRf a hi lo v).chan b = s.chan b := rfl

/-! ## `inc` -/

@[simp] theorem State.inc_now (a n : Nat) : (s.inc a n).now = s.now := rfl
@[simp] theorem State.inc_capture (a n : Nat) : (s.inc a n).capture = s.capture := rfl
@[simp] theorem State.inc_tod (a n : Nat) : (s.inc a n).tod = s.tod := rfl
@[simp] theorem State.inc_doms (a n : Nat) : (s.inc a n).doms = s.doms := rfl
@[simp] theorem State.inc_pins (a n : Nat) : (s.inc a n).pins = s.pins := rfl
@[simp] theorem State.inc_sched (a n : Nat) : (s.inc a n).sched = s.sched := rfl
@[simp] theorem State.inc_coll (a n : Nat) : (s.inc a n).coll = s.coll := rfl
@[simp] theorem State.inc_pass (a n : Nat) : (s.inc a n).pass = s.pass := rfl
@[simp] theorem State.inc_cores (a n : Nat) : (s.inc a n).cores = s.cores := rfl
@[simp] theorem State.inc_ctxs (a n : Nat) : (s.inc a n).ctxs = s.ctxs := rfl
@[simp] theorem State.inc_wch (a n : Nat) : (s.inc a n).wch = s.wch := rfl
@[simp] theorem State.inc_ills (a n : Nat) : (s.inc a n).ills = s.ills := rfl
@[simp] theorem State.inc_mem (a n : Nat) : (s.inc a n).mem = s.mem := rfl
@[simp] theorem State.inc_memPoison (a n : Nat) : (s.inc a n).memPoison = s.memPoison := rfl
@[simp] theorem State.inc_memUe (a n : Nat) : (s.inc a n).memUe = s.memUe := rfl
@[simp] theorem State.inc_sfe (a n : Nat) : (s.inc a n).sfe = s.sfe := rfl
@[simp] theorem State.inc_fmt (a n : Nat) : (s.inc a n).fmt = s.fmt := rfl
@[simp] theorem State.inc_dpp (a n : Nat) : (s.inc a n).dpp = s.dpp := rfl
@[simp] theorem State.inc_venc (a n : Nat) : (s.inc a n).venc = s.venc := rfl
@[simp] theorem State.inc_vdec (a n : Nat) : (s.inc a n).vdec = s.vdec := rfl
@[simp] theorem State.inc_coh (a n : Nat) : (s.inc a n).coh = s.coh := rfl
@[simp] theorem State.inc_eth (a n : Nat) : (s.inc a n).eth = s.eth := rfl
@[simp] theorem State.inc_per (a n : Nat) : (s.inc a n).per = s.per := rfl
@[simp] theorem State.inc_dsv (a n : Nat) : (s.inc a n).dsv = s.dsv := rfl
@[simp] theorem State.inc_pcie (a n : Nat) : (s.inc a n).pcie = s.pcie := rfl
@[simp] theorem State.inc_pwr (a n : Nat) : (s.inc a n).pwr = s.pwr := rfl
@[simp] theorem State.inc_clk (a n : Nat) : (s.inc a n).clk = s.clk := rfl
@[simp] theorem State.inc_thm (a n : Nat) : (s.inc a n).thm = s.thm := rfl
@[simp] theorem State.inc_ms (a n : Nat) : (s.inc a n).ms = s.ms := rfl
@[simp] theorem State.inc_stats (a n : Nat) : (s.inc a n).stats = s.stats := rfl
@[simp] theorem State.inc_irqs (a n : Nat) : (s.inc a n).irqs = s.irqs := rfl
@[simp] theorem State.inc_resp (a n : Nat) : (s.inc a n).resp = s.resp := rfl
@[simp] theorem State.inc_fresh (a n : Nat) : (s.inc a n).fresh = s.fresh := rfl
@[simp] theorem State.inc_pending (a n : Nat) : (s.inc a n).pending = s.pending := rfl
@[simp] theorem State.inc_dom (a n : Nat) (b : Nat) : (s.inc a n).dom b = s.dom b := rfl
@[simp] theorem State.inc_pin (a n : Nat) (b : Nat) : (s.inc a n).pin b = s.pin b := rfl
@[simp] theorem State.inc_queue (a n : Nat) (b : Nat) : (s.inc a n).queue b = s.queue b := rfl
@[simp] theorem State.inc_pool (a n : Nat) (b : Nat) : (s.inc a n).pool b = s.pool b := rfl
@[simp] theorem State.inc_core (a n : Nat) (b : Nat) : (s.inc a n).core b = s.core b := rfl
@[simp] theorem State.inc_ctx (a n : Nat) (b : Nat) : (s.inc a n).ctx b = s.ctx b := rfl
@[simp] theorem State.inc_ill (a n : Nat) (b : Nat) : (s.inc a n).ill b = s.ill b := rfl
@[simp] theorem State.inc_stat (a n : Nat) (p q r : Nat) : (s.inc a n).stat p q r = s.stat p q r := rfl
@[simp] theorem State.inc_byte (a n : Nat) (b : Nat) : (s.inc a n).byte b = s.byte b := rfl
@[simp] theorem State.inc_secPoison (a n : Nat) (b : Nat) : (s.inc a n).secPoison b = s.secPoison b := rfl
@[simp] theorem State.inc_slice (a n : Nat) (b : Nat) : (s.inc a n).slice b = s.slice b := rfl
@[simp] theorem State.inc_chan (a n : Nat) (b : Nat) : (s.inc a n).chan b = s.chan b := rfl

/-! ## `incWrap` -/

@[simp] theorem State.incWrap_now (a n : Nat) : (s.incWrap a n).now = s.now := rfl
@[simp] theorem State.incWrap_capture (a n : Nat) : (s.incWrap a n).capture = s.capture := rfl
@[simp] theorem State.incWrap_tod (a n : Nat) : (s.incWrap a n).tod = s.tod := rfl
@[simp] theorem State.incWrap_doms (a n : Nat) : (s.incWrap a n).doms = s.doms := rfl
@[simp] theorem State.incWrap_pins (a n : Nat) : (s.incWrap a n).pins = s.pins := rfl
@[simp] theorem State.incWrap_sched (a n : Nat) : (s.incWrap a n).sched = s.sched := rfl
@[simp] theorem State.incWrap_coll (a n : Nat) : (s.incWrap a n).coll = s.coll := rfl
@[simp] theorem State.incWrap_pass (a n : Nat) : (s.incWrap a n).pass = s.pass := rfl
@[simp] theorem State.incWrap_cores (a n : Nat) : (s.incWrap a n).cores = s.cores := rfl
@[simp] theorem State.incWrap_ctxs (a n : Nat) : (s.incWrap a n).ctxs = s.ctxs := rfl
@[simp] theorem State.incWrap_wch (a n : Nat) : (s.incWrap a n).wch = s.wch := rfl
@[simp] theorem State.incWrap_ills (a n : Nat) : (s.incWrap a n).ills = s.ills := rfl
@[simp] theorem State.incWrap_mem (a n : Nat) : (s.incWrap a n).mem = s.mem := rfl
@[simp] theorem State.incWrap_memPoison (a n : Nat) : (s.incWrap a n).memPoison = s.memPoison := rfl
@[simp] theorem State.incWrap_memUe (a n : Nat) : (s.incWrap a n).memUe = s.memUe := rfl
@[simp] theorem State.incWrap_sfe (a n : Nat) : (s.incWrap a n).sfe = s.sfe := rfl
@[simp] theorem State.incWrap_fmt (a n : Nat) : (s.incWrap a n).fmt = s.fmt := rfl
@[simp] theorem State.incWrap_dpp (a n : Nat) : (s.incWrap a n).dpp = s.dpp := rfl
@[simp] theorem State.incWrap_venc (a n : Nat) : (s.incWrap a n).venc = s.venc := rfl
@[simp] theorem State.incWrap_vdec (a n : Nat) : (s.incWrap a n).vdec = s.vdec := rfl
@[simp] theorem State.incWrap_coh (a n : Nat) : (s.incWrap a n).coh = s.coh := rfl
@[simp] theorem State.incWrap_eth (a n : Nat) : (s.incWrap a n).eth = s.eth := rfl
@[simp] theorem State.incWrap_per (a n : Nat) : (s.incWrap a n).per = s.per := rfl
@[simp] theorem State.incWrap_dsv (a n : Nat) : (s.incWrap a n).dsv = s.dsv := rfl
@[simp] theorem State.incWrap_pcie (a n : Nat) : (s.incWrap a n).pcie = s.pcie := rfl
@[simp] theorem State.incWrap_pwr (a n : Nat) : (s.incWrap a n).pwr = s.pwr := rfl
@[simp] theorem State.incWrap_clk (a n : Nat) : (s.incWrap a n).clk = s.clk := rfl
@[simp] theorem State.incWrap_thm (a n : Nat) : (s.incWrap a n).thm = s.thm := rfl
@[simp] theorem State.incWrap_ms (a n : Nat) : (s.incWrap a n).ms = s.ms := rfl
@[simp] theorem State.incWrap_stats (a n : Nat) : (s.incWrap a n).stats = s.stats := rfl
@[simp] theorem State.incWrap_irqs (a n : Nat) : (s.incWrap a n).irqs = s.irqs := rfl
@[simp] theorem State.incWrap_resp (a n : Nat) : (s.incWrap a n).resp = s.resp := rfl
@[simp] theorem State.incWrap_fresh (a n : Nat) : (s.incWrap a n).fresh = s.fresh := rfl
@[simp] theorem State.incWrap_pending (a n : Nat) : (s.incWrap a n).pending = s.pending := rfl
@[simp] theorem State.incWrap_dom (a n : Nat) (b : Nat) : (s.incWrap a n).dom b = s.dom b := rfl
@[simp] theorem State.incWrap_pin (a n : Nat) (b : Nat) : (s.incWrap a n).pin b = s.pin b := rfl
@[simp] theorem State.incWrap_queue (a n : Nat) (b : Nat) : (s.incWrap a n).queue b = s.queue b := rfl
@[simp] theorem State.incWrap_pool (a n : Nat) (b : Nat) : (s.incWrap a n).pool b = s.pool b := rfl
@[simp] theorem State.incWrap_core (a n : Nat) (b : Nat) : (s.incWrap a n).core b = s.core b := rfl
@[simp] theorem State.incWrap_ctx (a n : Nat) (b : Nat) : (s.incWrap a n).ctx b = s.ctx b := rfl
@[simp] theorem State.incWrap_ill (a n : Nat) (b : Nat) : (s.incWrap a n).ill b = s.ill b := rfl
@[simp] theorem State.incWrap_stat (a n : Nat) (p q r : Nat) : (s.incWrap a n).stat p q r = s.stat p q r := rfl
@[simp] theorem State.incWrap_byte (a n : Nat) (b : Nat) : (s.incWrap a n).byte b = s.byte b := rfl
@[simp] theorem State.incWrap_secPoison (a n : Nat) (b : Nat) : (s.incWrap a n).secPoison b = s.secPoison b := rfl
@[simp] theorem State.incWrap_slice (a n : Nat) (b : Nat) : (s.incWrap a n).slice b = s.slice b := rfl
@[simp] theorem State.incWrap_chan (a n : Nat) (b : Nat) : (s.incWrap a n).chan b = s.chan b := rfl

/-! ## `setDom` -/

@[simp] theorem State.setDom_now (d : Nat) (x : Dom) : (s.setDom d x).now = s.now := rfl
@[simp] theorem State.setDom_regs (d : Nat) (x : Dom) : (s.setDom d x).regs = s.regs := rfl
@[simp] theorem State.setDom_capture (d : Nat) (x : Dom) : (s.setDom d x).capture = s.capture := rfl
@[simp] theorem State.setDom_tod (d : Nat) (x : Dom) : (s.setDom d x).tod = s.tod := rfl
@[simp] theorem State.setDom_pins (d : Nat) (x : Dom) : (s.setDom d x).pins = s.pins := rfl
@[simp] theorem State.setDom_sched (d : Nat) (x : Dom) : (s.setDom d x).sched = s.sched := rfl
@[simp] theorem State.setDom_coll (d : Nat) (x : Dom) : (s.setDom d x).coll = s.coll := rfl
@[simp] theorem State.setDom_pass (d : Nat) (x : Dom) : (s.setDom d x).pass = s.pass := rfl
@[simp] theorem State.setDom_cores (d : Nat) (x : Dom) : (s.setDom d x).cores = s.cores := rfl
@[simp] theorem State.setDom_ctxs (d : Nat) (x : Dom) : (s.setDom d x).ctxs = s.ctxs := rfl
@[simp] theorem State.setDom_wch (d : Nat) (x : Dom) : (s.setDom d x).wch = s.wch := rfl
@[simp] theorem State.setDom_ills (d : Nat) (x : Dom) : (s.setDom d x).ills = s.ills := rfl
@[simp] theorem State.setDom_mem (d : Nat) (x : Dom) : (s.setDom d x).mem = s.mem := rfl
@[simp] theorem State.setDom_memPoison (d : Nat) (x : Dom) : (s.setDom d x).memPoison = s.memPoison := rfl
@[simp] theorem State.setDom_memUe (d : Nat) (x : Dom) : (s.setDom d x).memUe = s.memUe := rfl
@[simp] theorem State.setDom_sfe (d : Nat) (x : Dom) : (s.setDom d x).sfe = s.sfe := rfl
@[simp] theorem State.setDom_fmt (d : Nat) (x : Dom) : (s.setDom d x).fmt = s.fmt := rfl
@[simp] theorem State.setDom_dpp (d : Nat) (x : Dom) : (s.setDom d x).dpp = s.dpp := rfl
@[simp] theorem State.setDom_venc (d : Nat) (x : Dom) : (s.setDom d x).venc = s.venc := rfl
@[simp] theorem State.setDom_vdec (d : Nat) (x : Dom) : (s.setDom d x).vdec = s.vdec := rfl
@[simp] theorem State.setDom_coh (d : Nat) (x : Dom) : (s.setDom d x).coh = s.coh := rfl
@[simp] theorem State.setDom_eth (d : Nat) (x : Dom) : (s.setDom d x).eth = s.eth := rfl
@[simp] theorem State.setDom_per (d : Nat) (x : Dom) : (s.setDom d x).per = s.per := rfl
@[simp] theorem State.setDom_dsv (d : Nat) (x : Dom) : (s.setDom d x).dsv = s.dsv := rfl
@[simp] theorem State.setDom_pcie (d : Nat) (x : Dom) : (s.setDom d x).pcie = s.pcie := rfl
@[simp] theorem State.setDom_pwr (d : Nat) (x : Dom) : (s.setDom d x).pwr = s.pwr := rfl
@[simp] theorem State.setDom_clk (d : Nat) (x : Dom) : (s.setDom d x).clk = s.clk := rfl
@[simp] theorem State.setDom_thm (d : Nat) (x : Dom) : (s.setDom d x).thm = s.thm := rfl
@[simp] theorem State.setDom_ms (d : Nat) (x : Dom) : (s.setDom d x).ms = s.ms := rfl
@[simp] theorem State.setDom_stats (d : Nat) (x : Dom) : (s.setDom d x).stats = s.stats := rfl
@[simp] theorem State.setDom_irqs (d : Nat) (x : Dom) : (s.setDom d x).irqs = s.irqs := rfl
@[simp] theorem State.setDom_resp (d : Nat) (x : Dom) : (s.setDom d x).resp = s.resp := rfl
@[simp] theorem State.setDom_fresh (d : Nat) (x : Dom) : (s.setDom d x).fresh = s.fresh := rfl
@[simp] theorem State.setDom_pending (d : Nat) (x : Dom) : (s.setDom d x).pending = s.pending := rfl
@[simp] theorem State.setDom_reg (d : Nat) (x : Dom) (b : Nat) : (s.setDom d x).reg b = s.reg b := rfl
@[simp] theorem State.setDom_pin (d : Nat) (x : Dom) (b : Nat) : (s.setDom d x).pin b = s.pin b := rfl
@[simp] theorem State.setDom_queue (d : Nat) (x : Dom) (b : Nat) : (s.setDom d x).queue b = s.queue b := rfl
@[simp] theorem State.setDom_pool (d : Nat) (x : Dom) (b : Nat) : (s.setDom d x).pool b = s.pool b := rfl
@[simp] theorem State.setDom_core (d : Nat) (x : Dom) (b : Nat) : (s.setDom d x).core b = s.core b := rfl
@[simp] theorem State.setDom_ctx (d : Nat) (x : Dom) (b : Nat) : (s.setDom d x).ctx b = s.ctx b := rfl
@[simp] theorem State.setDom_ill (d : Nat) (x : Dom) (b : Nat) : (s.setDom d x).ill b = s.ill b := rfl
@[simp] theorem State.setDom_stat (d : Nat) (x : Dom) (p q r : Nat) : (s.setDom d x).stat p q r = s.stat p q r := rfl
@[simp] theorem State.setDom_byte (d : Nat) (x : Dom) (b : Nat) : (s.setDom d x).byte b = s.byte b := rfl
@[simp] theorem State.setDom_secPoison (d : Nat) (x : Dom) (b : Nat) : (s.setDom d x).secPoison b = s.secPoison b := rfl
@[simp] theorem State.setDom_slice (d : Nat) (x : Dom) (b : Nat) : (s.setDom d x).slice b = s.slice b := rfl
@[simp] theorem State.setDom_chan (d : Nat) (x : Dom) (b : Nat) : (s.setDom d x).chan b = s.chan b := rfl

/-! ## `setPin` -/

@[simp] theorem State.setPin_now (i : Nat) (x : Pin) : (s.setPin i x).now = s.now := rfl
@[simp] theorem State.setPin_regs (i : Nat) (x : Pin) : (s.setPin i x).regs = s.regs := rfl
@[simp] theorem State.setPin_capture (i : Nat) (x : Pin) : (s.setPin i x).capture = s.capture := rfl
@[simp] theorem State.setPin_tod (i : Nat) (x : Pin) : (s.setPin i x).tod = s.tod := rfl
@[simp] theorem State.setPin_doms (i : Nat) (x : Pin) : (s.setPin i x).doms = s.doms := rfl
@[simp] theorem State.setPin_sched (i : Nat) (x : Pin) : (s.setPin i x).sched = s.sched := rfl
@[simp] theorem State.setPin_coll (i : Nat) (x : Pin) : (s.setPin i x).coll = s.coll := rfl
@[simp] theorem State.setPin_pass (i : Nat) (x : Pin) : (s.setPin i x).pass = s.pass := rfl
@[simp] theorem State.setPin_cores (i : Nat) (x : Pin) : (s.setPin i x).cores = s.cores := rfl
@[simp] theorem State.setPin_ctxs (i : Nat) (x : Pin) : (s.setPin i x).ctxs = s.ctxs := rfl
@[simp] theorem State.setPin_wch (i : Nat) (x : Pin) : (s.setPin i x).wch = s.wch := rfl
@[simp] theorem State.setPin_ills (i : Nat) (x : Pin) : (s.setPin i x).ills = s.ills := rfl
@[simp] theorem State.setPin_mem (i : Nat) (x : Pin) : (s.setPin i x).mem = s.mem := rfl
@[simp] theorem State.setPin_memPoison (i : Nat) (x : Pin) : (s.setPin i x).memPoison = s.memPoison := rfl
@[simp] theorem State.setPin_memUe (i : Nat) (x : Pin) : (s.setPin i x).memUe = s.memUe := rfl
@[simp] theorem State.setPin_sfe (i : Nat) (x : Pin) : (s.setPin i x).sfe = s.sfe := rfl
@[simp] theorem State.setPin_fmt (i : Nat) (x : Pin) : (s.setPin i x).fmt = s.fmt := rfl
@[simp] theorem State.setPin_dpp (i : Nat) (x : Pin) : (s.setPin i x).dpp = s.dpp := rfl
@[simp] theorem State.setPin_venc (i : Nat) (x : Pin) : (s.setPin i x).venc = s.venc := rfl
@[simp] theorem State.setPin_vdec (i : Nat) (x : Pin) : (s.setPin i x).vdec = s.vdec := rfl
@[simp] theorem State.setPin_coh (i : Nat) (x : Pin) : (s.setPin i x).coh = s.coh := rfl
@[simp] theorem State.setPin_eth (i : Nat) (x : Pin) : (s.setPin i x).eth = s.eth := rfl
@[simp] theorem State.setPin_per (i : Nat) (x : Pin) : (s.setPin i x).per = s.per := rfl
@[simp] theorem State.setPin_dsv (i : Nat) (x : Pin) : (s.setPin i x).dsv = s.dsv := rfl
@[simp] theorem State.setPin_pcie (i : Nat) (x : Pin) : (s.setPin i x).pcie = s.pcie := rfl
@[simp] theorem State.setPin_pwr (i : Nat) (x : Pin) : (s.setPin i x).pwr = s.pwr := rfl
@[simp] theorem State.setPin_clk (i : Nat) (x : Pin) : (s.setPin i x).clk = s.clk := rfl
@[simp] theorem State.setPin_thm (i : Nat) (x : Pin) : (s.setPin i x).thm = s.thm := rfl
@[simp] theorem State.setPin_ms (i : Nat) (x : Pin) : (s.setPin i x).ms = s.ms := rfl
@[simp] theorem State.setPin_stats (i : Nat) (x : Pin) : (s.setPin i x).stats = s.stats := rfl
@[simp] theorem State.setPin_irqs (i : Nat) (x : Pin) : (s.setPin i x).irqs = s.irqs := rfl
@[simp] theorem State.setPin_resp (i : Nat) (x : Pin) : (s.setPin i x).resp = s.resp := rfl
@[simp] theorem State.setPin_fresh (i : Nat) (x : Pin) : (s.setPin i x).fresh = s.fresh := rfl
@[simp] theorem State.setPin_pending (i : Nat) (x : Pin) : (s.setPin i x).pending = s.pending := rfl
@[simp] theorem State.setPin_reg (i : Nat) (x : Pin) (b : Nat) : (s.setPin i x).reg b = s.reg b := rfl
@[simp] theorem State.setPin_dom (i : Nat) (x : Pin) (b : Nat) : (s.setPin i x).dom b = s.dom b := rfl
@[simp] theorem State.setPin_queue (i : Nat) (x : Pin) (b : Nat) : (s.setPin i x).queue b = s.queue b := rfl
@[simp] theorem State.setPin_pool (i : Nat) (x : Pin) (b : Nat) : (s.setPin i x).pool b = s.pool b := rfl
@[simp] theorem State.setPin_core (i : Nat) (x : Pin) (b : Nat) : (s.setPin i x).core b = s.core b := rfl
@[simp] theorem State.setPin_ctx (i : Nat) (x : Pin) (b : Nat) : (s.setPin i x).ctx b = s.ctx b := rfl
@[simp] theorem State.setPin_ill (i : Nat) (x : Pin) (b : Nat) : (s.setPin i x).ill b = s.ill b := rfl
@[simp] theorem State.setPin_stat (i : Nat) (x : Pin) (p q r : Nat) : (s.setPin i x).stat p q r = s.stat p q r := rfl
@[simp] theorem State.setPin_byte (i : Nat) (x : Pin) (b : Nat) : (s.setPin i x).byte b = s.byte b := rfl
@[simp] theorem State.setPin_secPoison (i : Nat) (x : Pin) (b : Nat) : (s.setPin i x).secPoison b = s.secPoison b := rfl
@[simp] theorem State.setPin_slice (i : Nat) (x : Pin) (b : Nat) : (s.setPin i x).slice b = s.slice b := rfl
@[simp] theorem State.setPin_chan (i : Nat) (x : Pin) (b : Nat) : (s.setPin i x).chan b = s.chan b := rfl

/-! ## `setQueue` -/

@[simp] theorem State.setQueue_now (n : Nat) (x : Queue) : (s.setQueue n x).now = s.now := rfl
@[simp] theorem State.setQueue_regs (n : Nat) (x : Queue) : (s.setQueue n x).regs = s.regs := rfl
@[simp] theorem State.setQueue_capture (n : Nat) (x : Queue) : (s.setQueue n x).capture = s.capture := rfl
@[simp] theorem State.setQueue_tod (n : Nat) (x : Queue) : (s.setQueue n x).tod = s.tod := rfl
@[simp] theorem State.setQueue_doms (n : Nat) (x : Queue) : (s.setQueue n x).doms = s.doms := rfl
@[simp] theorem State.setQueue_pins (n : Nat) (x : Queue) : (s.setQueue n x).pins = s.pins := rfl
@[simp] theorem State.setQueue_sched (n : Nat) (x : Queue) : (s.setQueue n x).sched = s.sched := rfl
@[simp] theorem State.setQueue_coll (n : Nat) (x : Queue) : (s.setQueue n x).coll = s.coll := rfl
@[simp] theorem State.setQueue_cores (n : Nat) (x : Queue) : (s.setQueue n x).cores = s.cores := rfl
@[simp] theorem State.setQueue_ctxs (n : Nat) (x : Queue) : (s.setQueue n x).ctxs = s.ctxs := rfl
@[simp] theorem State.setQueue_wch (n : Nat) (x : Queue) : (s.setQueue n x).wch = s.wch := rfl
@[simp] theorem State.setQueue_ills (n : Nat) (x : Queue) : (s.setQueue n x).ills = s.ills := rfl
@[simp] theorem State.setQueue_mem (n : Nat) (x : Queue) : (s.setQueue n x).mem = s.mem := rfl
@[simp] theorem State.setQueue_memPoison (n : Nat) (x : Queue) : (s.setQueue n x).memPoison = s.memPoison := rfl
@[simp] theorem State.setQueue_memUe (n : Nat) (x : Queue) : (s.setQueue n x).memUe = s.memUe := rfl
@[simp] theorem State.setQueue_sfe (n : Nat) (x : Queue) : (s.setQueue n x).sfe = s.sfe := rfl
@[simp] theorem State.setQueue_fmt (n : Nat) (x : Queue) : (s.setQueue n x).fmt = s.fmt := rfl
@[simp] theorem State.setQueue_dpp (n : Nat) (x : Queue) : (s.setQueue n x).dpp = s.dpp := rfl
@[simp] theorem State.setQueue_venc (n : Nat) (x : Queue) : (s.setQueue n x).venc = s.venc := rfl
@[simp] theorem State.setQueue_vdec (n : Nat) (x : Queue) : (s.setQueue n x).vdec = s.vdec := rfl
@[simp] theorem State.setQueue_coh (n : Nat) (x : Queue) : (s.setQueue n x).coh = s.coh := rfl
@[simp] theorem State.setQueue_eth (n : Nat) (x : Queue) : (s.setQueue n x).eth = s.eth := rfl
@[simp] theorem State.setQueue_per (n : Nat) (x : Queue) : (s.setQueue n x).per = s.per := rfl
@[simp] theorem State.setQueue_dsv (n : Nat) (x : Queue) : (s.setQueue n x).dsv = s.dsv := rfl
@[simp] theorem State.setQueue_pcie (n : Nat) (x : Queue) : (s.setQueue n x).pcie = s.pcie := rfl
@[simp] theorem State.setQueue_pwr (n : Nat) (x : Queue) : (s.setQueue n x).pwr = s.pwr := rfl
@[simp] theorem State.setQueue_clk (n : Nat) (x : Queue) : (s.setQueue n x).clk = s.clk := rfl
@[simp] theorem State.setQueue_thm (n : Nat) (x : Queue) : (s.setQueue n x).thm = s.thm := rfl
@[simp] theorem State.setQueue_ms (n : Nat) (x : Queue) : (s.setQueue n x).ms = s.ms := rfl
@[simp] theorem State.setQueue_stats (n : Nat) (x : Queue) : (s.setQueue n x).stats = s.stats := rfl
@[simp] theorem State.setQueue_irqs (n : Nat) (x : Queue) : (s.setQueue n x).irqs = s.irqs := rfl
@[simp] theorem State.setQueue_resp (n : Nat) (x : Queue) : (s.setQueue n x).resp = s.resp := rfl
@[simp] theorem State.setQueue_fresh (n : Nat) (x : Queue) : (s.setQueue n x).fresh = s.fresh := rfl
@[simp] theorem State.setQueue_pending (n : Nat) (x : Queue) : (s.setQueue n x).pending = s.pending := rfl
@[simp] theorem State.setQueue_reg (n : Nat) (x : Queue) (b : Nat) : (s.setQueue n x).reg b = s.reg b := rfl
@[simp] theorem State.setQueue_dom (n : Nat) (x : Queue) (b : Nat) : (s.setQueue n x).dom b = s.dom b := rfl
@[simp] theorem State.setQueue_pin (n : Nat) (x : Queue) (b : Nat) : (s.setQueue n x).pin b = s.pin b := rfl
@[simp] theorem State.setQueue_core (n : Nat) (x : Queue) (b : Nat) : (s.setQueue n x).core b = s.core b := rfl
@[simp] theorem State.setQueue_ctx (n : Nat) (x : Queue) (b : Nat) : (s.setQueue n x).ctx b = s.ctx b := rfl
@[simp] theorem State.setQueue_ill (n : Nat) (x : Queue) (b : Nat) : (s.setQueue n x).ill b = s.ill b := rfl
@[simp] theorem State.setQueue_stat (n : Nat) (x : Queue) (p q r : Nat) : (s.setQueue n x).stat p q r = s.stat p q r := rfl
@[simp] theorem State.setQueue_byte (n : Nat) (x : Queue) (b : Nat) : (s.setQueue n x).byte b = s.byte b := rfl
@[simp] theorem State.setQueue_secPoison (n : Nat) (x : Queue) (b : Nat) : (s.setQueue n x).secPoison b = s.secPoison b := rfl
@[simp] theorem State.setQueue_slice (n : Nat) (x : Queue) (b : Nat) : (s.setQueue n x).slice b = s.slice b := rfl
@[simp] theorem State.setQueue_chan (n : Nat) (x : Queue) (b : Nat) : (s.setQueue n x).chan b = s.chan b := rfl

/-! ## `setPool` -/

@[simp] theorem State.setPool_now (n : Nat) (x : Pool) : (s.setPool n x).now = s.now := rfl
@[simp] theorem State.setPool_regs (n : Nat) (x : Pool) : (s.setPool n x).regs = s.regs := rfl
@[simp] theorem State.setPool_capture (n : Nat) (x : Pool) : (s.setPool n x).capture = s.capture := rfl
@[simp] theorem State.setPool_tod (n : Nat) (x : Pool) : (s.setPool n x).tod = s.tod := rfl
@[simp] theorem State.setPool_doms (n : Nat) (x : Pool) : (s.setPool n x).doms = s.doms := rfl
@[simp] theorem State.setPool_pins (n : Nat) (x : Pool) : (s.setPool n x).pins = s.pins := rfl
@[simp] theorem State.setPool_sched (n : Nat) (x : Pool) : (s.setPool n x).sched = s.sched := rfl
@[simp] theorem State.setPool_coll (n : Nat) (x : Pool) : (s.setPool n x).coll = s.coll := rfl
@[simp] theorem State.setPool_cores (n : Nat) (x : Pool) : (s.setPool n x).cores = s.cores := rfl
@[simp] theorem State.setPool_ctxs (n : Nat) (x : Pool) : (s.setPool n x).ctxs = s.ctxs := rfl
@[simp] theorem State.setPool_wch (n : Nat) (x : Pool) : (s.setPool n x).wch = s.wch := rfl
@[simp] theorem State.setPool_ills (n : Nat) (x : Pool) : (s.setPool n x).ills = s.ills := rfl
@[simp] theorem State.setPool_mem (n : Nat) (x : Pool) : (s.setPool n x).mem = s.mem := rfl
@[simp] theorem State.setPool_memPoison (n : Nat) (x : Pool) : (s.setPool n x).memPoison = s.memPoison := rfl
@[simp] theorem State.setPool_memUe (n : Nat) (x : Pool) : (s.setPool n x).memUe = s.memUe := rfl
@[simp] theorem State.setPool_sfe (n : Nat) (x : Pool) : (s.setPool n x).sfe = s.sfe := rfl
@[simp] theorem State.setPool_fmt (n : Nat) (x : Pool) : (s.setPool n x).fmt = s.fmt := rfl
@[simp] theorem State.setPool_dpp (n : Nat) (x : Pool) : (s.setPool n x).dpp = s.dpp := rfl
@[simp] theorem State.setPool_venc (n : Nat) (x : Pool) : (s.setPool n x).venc = s.venc := rfl
@[simp] theorem State.setPool_vdec (n : Nat) (x : Pool) : (s.setPool n x).vdec = s.vdec := rfl
@[simp] theorem State.setPool_coh (n : Nat) (x : Pool) : (s.setPool n x).coh = s.coh := rfl
@[simp] theorem State.setPool_eth (n : Nat) (x : Pool) : (s.setPool n x).eth = s.eth := rfl
@[simp] theorem State.setPool_per (n : Nat) (x : Pool) : (s.setPool n x).per = s.per := rfl
@[simp] theorem State.setPool_dsv (n : Nat) (x : Pool) : (s.setPool n x).dsv = s.dsv := rfl
@[simp] theorem State.setPool_pcie (n : Nat) (x : Pool) : (s.setPool n x).pcie = s.pcie := rfl
@[simp] theorem State.setPool_pwr (n : Nat) (x : Pool) : (s.setPool n x).pwr = s.pwr := rfl
@[simp] theorem State.setPool_clk (n : Nat) (x : Pool) : (s.setPool n x).clk = s.clk := rfl
@[simp] theorem State.setPool_thm (n : Nat) (x : Pool) : (s.setPool n x).thm = s.thm := rfl
@[simp] theorem State.setPool_ms (n : Nat) (x : Pool) : (s.setPool n x).ms = s.ms := rfl
@[simp] theorem State.setPool_stats (n : Nat) (x : Pool) : (s.setPool n x).stats = s.stats := rfl
@[simp] theorem State.setPool_irqs (n : Nat) (x : Pool) : (s.setPool n x).irqs = s.irqs := rfl
@[simp] theorem State.setPool_resp (n : Nat) (x : Pool) : (s.setPool n x).resp = s.resp := rfl
@[simp] theorem State.setPool_fresh (n : Nat) (x : Pool) : (s.setPool n x).fresh = s.fresh := rfl
@[simp] theorem State.setPool_pending (n : Nat) (x : Pool) : (s.setPool n x).pending = s.pending := rfl
@[simp] theorem State.setPool_reg (n : Nat) (x : Pool) (b : Nat) : (s.setPool n x).reg b = s.reg b := rfl
@[simp] theorem State.setPool_dom (n : Nat) (x : Pool) (b : Nat) : (s.setPool n x).dom b = s.dom b := rfl
@[simp] theorem State.setPool_pin (n : Nat) (x : Pool) (b : Nat) : (s.setPool n x).pin b = s.pin b := rfl
@[simp] theorem State.setPool_core (n : Nat) (x : Pool) (b : Nat) : (s.setPool n x).core b = s.core b := rfl
@[simp] theorem State.setPool_ctx (n : Nat) (x : Pool) (b : Nat) : (s.setPool n x).ctx b = s.ctx b := rfl
@[simp] theorem State.setPool_ill (n : Nat) (x : Pool) (b : Nat) : (s.setPool n x).ill b = s.ill b := rfl
@[simp] theorem State.setPool_stat (n : Nat) (x : Pool) (p q r : Nat) : (s.setPool n x).stat p q r = s.stat p q r := rfl
@[simp] theorem State.setPool_byte (n : Nat) (x : Pool) (b : Nat) : (s.setPool n x).byte b = s.byte b := rfl
@[simp] theorem State.setPool_secPoison (n : Nat) (x : Pool) (b : Nat) : (s.setPool n x).secPoison b = s.secPoison b := rfl
@[simp] theorem State.setPool_slice (n : Nat) (x : Pool) (b : Nat) : (s.setPool n x).slice b = s.slice b := rfl
@[simp] theorem State.setPool_chan (n : Nat) (x : Pool) (b : Nat) : (s.setPool n x).chan b = s.chan b := rfl

/-! ## `setCore` -/

@[simp] theorem State.setCore_now (n : Nat) (x : Core) : (s.setCore n x).now = s.now := rfl
@[simp] theorem State.setCore_regs (n : Nat) (x : Core) : (s.setCore n x).regs = s.regs := rfl
@[simp] theorem State.setCore_capture (n : Nat) (x : Core) : (s.setCore n x).capture = s.capture := rfl
@[simp] theorem State.setCore_tod (n : Nat) (x : Core) : (s.setCore n x).tod = s.tod := rfl
@[simp] theorem State.setCore_doms (n : Nat) (x : Core) : (s.setCore n x).doms = s.doms := rfl
@[simp] theorem State.setCore_pins (n : Nat) (x : Core) : (s.setCore n x).pins = s.pins := rfl
@[simp] theorem State.setCore_sched (n : Nat) (x : Core) : (s.setCore n x).sched = s.sched := rfl
@[simp] theorem State.setCore_coll (n : Nat) (x : Core) : (s.setCore n x).coll = s.coll := rfl
@[simp] theorem State.setCore_pass (n : Nat) (x : Core) : (s.setCore n x).pass = s.pass := rfl
@[simp] theorem State.setCore_ctxs (n : Nat) (x : Core) : (s.setCore n x).ctxs = s.ctxs := rfl
@[simp] theorem State.setCore_wch (n : Nat) (x : Core) : (s.setCore n x).wch = s.wch := rfl
@[simp] theorem State.setCore_ills (n : Nat) (x : Core) : (s.setCore n x).ills = s.ills := rfl
@[simp] theorem State.setCore_mem (n : Nat) (x : Core) : (s.setCore n x).mem = s.mem := rfl
@[simp] theorem State.setCore_memPoison (n : Nat) (x : Core) : (s.setCore n x).memPoison = s.memPoison := rfl
@[simp] theorem State.setCore_memUe (n : Nat) (x : Core) : (s.setCore n x).memUe = s.memUe := rfl
@[simp] theorem State.setCore_sfe (n : Nat) (x : Core) : (s.setCore n x).sfe = s.sfe := rfl
@[simp] theorem State.setCore_fmt (n : Nat) (x : Core) : (s.setCore n x).fmt = s.fmt := rfl
@[simp] theorem State.setCore_dpp (n : Nat) (x : Core) : (s.setCore n x).dpp = s.dpp := rfl
@[simp] theorem State.setCore_venc (n : Nat) (x : Core) : (s.setCore n x).venc = s.venc := rfl
@[simp] theorem State.setCore_vdec (n : Nat) (x : Core) : (s.setCore n x).vdec = s.vdec := rfl
@[simp] theorem State.setCore_coh (n : Nat) (x : Core) : (s.setCore n x).coh = s.coh := rfl
@[simp] theorem State.setCore_eth (n : Nat) (x : Core) : (s.setCore n x).eth = s.eth := rfl
@[simp] theorem State.setCore_per (n : Nat) (x : Core) : (s.setCore n x).per = s.per := rfl
@[simp] theorem State.setCore_dsv (n : Nat) (x : Core) : (s.setCore n x).dsv = s.dsv := rfl
@[simp] theorem State.setCore_pcie (n : Nat) (x : Core) : (s.setCore n x).pcie = s.pcie := rfl
@[simp] theorem State.setCore_pwr (n : Nat) (x : Core) : (s.setCore n x).pwr = s.pwr := rfl
@[simp] theorem State.setCore_clk (n : Nat) (x : Core) : (s.setCore n x).clk = s.clk := rfl
@[simp] theorem State.setCore_thm (n : Nat) (x : Core) : (s.setCore n x).thm = s.thm := rfl
@[simp] theorem State.setCore_ms (n : Nat) (x : Core) : (s.setCore n x).ms = s.ms := rfl
@[simp] theorem State.setCore_stats (n : Nat) (x : Core) : (s.setCore n x).stats = s.stats := rfl
@[simp] theorem State.setCore_irqs (n : Nat) (x : Core) : (s.setCore n x).irqs = s.irqs := rfl
@[simp] theorem State.setCore_resp (n : Nat) (x : Core) : (s.setCore n x).resp = s.resp := rfl
@[simp] theorem State.setCore_fresh (n : Nat) (x : Core) : (s.setCore n x).fresh = s.fresh := rfl
@[simp] theorem State.setCore_pending (n : Nat) (x : Core) : (s.setCore n x).pending = s.pending := rfl
@[simp] theorem State.setCore_reg (n : Nat) (x : Core) (b : Nat) : (s.setCore n x).reg b = s.reg b := rfl
@[simp] theorem State.setCore_dom (n : Nat) (x : Core) (b : Nat) : (s.setCore n x).dom b = s.dom b := rfl
@[simp] theorem State.setCore_pin (n : Nat) (x : Core) (b : Nat) : (s.setCore n x).pin b = s.pin b := rfl
@[simp] theorem State.setCore_queue (n : Nat) (x : Core) (b : Nat) : (s.setCore n x).queue b = s.queue b := rfl
@[simp] theorem State.setCore_pool (n : Nat) (x : Core) (b : Nat) : (s.setCore n x).pool b = s.pool b := rfl
@[simp] theorem State.setCore_ctx (n : Nat) (x : Core) (b : Nat) : (s.setCore n x).ctx b = s.ctx b := rfl
@[simp] theorem State.setCore_ill (n : Nat) (x : Core) (b : Nat) : (s.setCore n x).ill b = s.ill b := rfl
@[simp] theorem State.setCore_stat (n : Nat) (x : Core) (p q r : Nat) : (s.setCore n x).stat p q r = s.stat p q r := rfl
@[simp] theorem State.setCore_byte (n : Nat) (x : Core) (b : Nat) : (s.setCore n x).byte b = s.byte b := rfl
@[simp] theorem State.setCore_secPoison (n : Nat) (x : Core) (b : Nat) : (s.setCore n x).secPoison b = s.secPoison b := rfl
@[simp] theorem State.setCore_slice (n : Nat) (x : Core) (b : Nat) : (s.setCore n x).slice b = s.slice b := rfl
@[simp] theorem State.setCore_chan (n : Nat) (x : Core) (b : Nat) : (s.setCore n x).chan b = s.chan b := rfl

/-! ## `setCtx` -/

@[simp] theorem State.setCtx_now (k : Nat) (x : Ctx) : (s.setCtx k x).now = s.now := rfl
@[simp] theorem State.setCtx_regs (k : Nat) (x : Ctx) : (s.setCtx k x).regs = s.regs := rfl
@[simp] theorem State.setCtx_capture (k : Nat) (x : Ctx) : (s.setCtx k x).capture = s.capture := rfl
@[simp] theorem State.setCtx_tod (k : Nat) (x : Ctx) : (s.setCtx k x).tod = s.tod := rfl
@[simp] theorem State.setCtx_doms (k : Nat) (x : Ctx) : (s.setCtx k x).doms = s.doms := rfl
@[simp] theorem State.setCtx_pins (k : Nat) (x : Ctx) : (s.setCtx k x).pins = s.pins := rfl
@[simp] theorem State.setCtx_sched (k : Nat) (x : Ctx) : (s.setCtx k x).sched = s.sched := rfl
@[simp] theorem State.setCtx_coll (k : Nat) (x : Ctx) : (s.setCtx k x).coll = s.coll := rfl
@[simp] theorem State.setCtx_pass (k : Nat) (x : Ctx) : (s.setCtx k x).pass = s.pass := rfl
@[simp] theorem State.setCtx_cores (k : Nat) (x : Ctx) : (s.setCtx k x).cores = s.cores := rfl
@[simp] theorem State.setCtx_wch (k : Nat) (x : Ctx) : (s.setCtx k x).wch = s.wch := rfl
@[simp] theorem State.setCtx_ills (k : Nat) (x : Ctx) : (s.setCtx k x).ills = s.ills := rfl
@[simp] theorem State.setCtx_mem (k : Nat) (x : Ctx) : (s.setCtx k x).mem = s.mem := rfl
@[simp] theorem State.setCtx_memPoison (k : Nat) (x : Ctx) : (s.setCtx k x).memPoison = s.memPoison := rfl
@[simp] theorem State.setCtx_memUe (k : Nat) (x : Ctx) : (s.setCtx k x).memUe = s.memUe := rfl
@[simp] theorem State.setCtx_sfe (k : Nat) (x : Ctx) : (s.setCtx k x).sfe = s.sfe := rfl
@[simp] theorem State.setCtx_fmt (k : Nat) (x : Ctx) : (s.setCtx k x).fmt = s.fmt := rfl
@[simp] theorem State.setCtx_dpp (k : Nat) (x : Ctx) : (s.setCtx k x).dpp = s.dpp := rfl
@[simp] theorem State.setCtx_venc (k : Nat) (x : Ctx) : (s.setCtx k x).venc = s.venc := rfl
@[simp] theorem State.setCtx_vdec (k : Nat) (x : Ctx) : (s.setCtx k x).vdec = s.vdec := rfl
@[simp] theorem State.setCtx_coh (k : Nat) (x : Ctx) : (s.setCtx k x).coh = s.coh := rfl
@[simp] theorem State.setCtx_eth (k : Nat) (x : Ctx) : (s.setCtx k x).eth = s.eth := rfl
@[simp] theorem State.setCtx_per (k : Nat) (x : Ctx) : (s.setCtx k x).per = s.per := rfl
@[simp] theorem State.setCtx_dsv (k : Nat) (x : Ctx) : (s.setCtx k x).dsv = s.dsv := rfl
@[simp] theorem State.setCtx_pcie (k : Nat) (x : Ctx) : (s.setCtx k x).pcie = s.pcie := rfl
@[simp] theorem State.setCtx_pwr (k : Nat) (x : Ctx) : (s.setCtx k x).pwr = s.pwr := rfl
@[simp] theorem State.setCtx_clk (k : Nat) (x : Ctx) : (s.setCtx k x).clk = s.clk := rfl
@[simp] theorem State.setCtx_thm (k : Nat) (x : Ctx) : (s.setCtx k x).thm = s.thm := rfl
@[simp] theorem State.setCtx_ms (k : Nat) (x : Ctx) : (s.setCtx k x).ms = s.ms := rfl
@[simp] theorem State.setCtx_stats (k : Nat) (x : Ctx) : (s.setCtx k x).stats = s.stats := rfl
@[simp] theorem State.setCtx_irqs (k : Nat) (x : Ctx) : (s.setCtx k x).irqs = s.irqs := rfl
@[simp] theorem State.setCtx_resp (k : Nat) (x : Ctx) : (s.setCtx k x).resp = s.resp := rfl
@[simp] theorem State.setCtx_fresh (k : Nat) (x : Ctx) : (s.setCtx k x).fresh = s.fresh := rfl
@[simp] theorem State.setCtx_pending (k : Nat) (x : Ctx) : (s.setCtx k x).pending = s.pending := rfl
@[simp] theorem State.setCtx_reg (k : Nat) (x : Ctx) (b : Nat) : (s.setCtx k x).reg b = s.reg b := rfl
@[simp] theorem State.setCtx_dom (k : Nat) (x : Ctx) (b : Nat) : (s.setCtx k x).dom b = s.dom b := rfl
@[simp] theorem State.setCtx_pin (k : Nat) (x : Ctx) (b : Nat) : (s.setCtx k x).pin b = s.pin b := rfl
@[simp] theorem State.setCtx_queue (k : Nat) (x : Ctx) (b : Nat) : (s.setCtx k x).queue b = s.queue b := rfl
@[simp] theorem State.setCtx_pool (k : Nat) (x : Ctx) (b : Nat) : (s.setCtx k x).pool b = s.pool b := rfl
@[simp] theorem State.setCtx_core (k : Nat) (x : Ctx) (b : Nat) : (s.setCtx k x).core b = s.core b := rfl
@[simp] theorem State.setCtx_ill (k : Nat) (x : Ctx) (b : Nat) : (s.setCtx k x).ill b = s.ill b := rfl
@[simp] theorem State.setCtx_stat (k : Nat) (x : Ctx) (p q r : Nat) : (s.setCtx k x).stat p q r = s.stat p q r := rfl
@[simp] theorem State.setCtx_byte (k : Nat) (x : Ctx) (b : Nat) : (s.setCtx k x).byte b = s.byte b := rfl
@[simp] theorem State.setCtx_secPoison (k : Nat) (x : Ctx) (b : Nat) : (s.setCtx k x).secPoison b = s.secPoison b := rfl
@[simp] theorem State.setCtx_slice (k : Nat) (x : Ctx) (b : Nat) : (s.setCtx k x).slice b = s.slice b := rfl
@[simp] theorem State.setCtx_chan (k : Nat) (x : Ctx) (b : Nat) : (s.setCtx k x).chan b = s.chan b := rfl

/-! ## `setIll` -/

@[simp] theorem State.setIll_now (n : Nat) (x : Illum) : (s.setIll n x).now = s.now := rfl
@[simp] theorem State.setIll_regs (n : Nat) (x : Illum) : (s.setIll n x).regs = s.regs := rfl
@[simp] theorem State.setIll_capture (n : Nat) (x : Illum) : (s.setIll n x).capture = s.capture := rfl
@[simp] theorem State.setIll_tod (n : Nat) (x : Illum) : (s.setIll n x).tod = s.tod := rfl
@[simp] theorem State.setIll_doms (n : Nat) (x : Illum) : (s.setIll n x).doms = s.doms := rfl
@[simp] theorem State.setIll_pins (n : Nat) (x : Illum) : (s.setIll n x).pins = s.pins := rfl
@[simp] theorem State.setIll_sched (n : Nat) (x : Illum) : (s.setIll n x).sched = s.sched := rfl
@[simp] theorem State.setIll_coll (n : Nat) (x : Illum) : (s.setIll n x).coll = s.coll := rfl
@[simp] theorem State.setIll_pass (n : Nat) (x : Illum) : (s.setIll n x).pass = s.pass := rfl
@[simp] theorem State.setIll_cores (n : Nat) (x : Illum) : (s.setIll n x).cores = s.cores := rfl
@[simp] theorem State.setIll_ctxs (n : Nat) (x : Illum) : (s.setIll n x).ctxs = s.ctxs := rfl
@[simp] theorem State.setIll_wch (n : Nat) (x : Illum) : (s.setIll n x).wch = s.wch := rfl
@[simp] theorem State.setIll_mem (n : Nat) (x : Illum) : (s.setIll n x).mem = s.mem := rfl
@[simp] theorem State.setIll_memPoison (n : Nat) (x : Illum) : (s.setIll n x).memPoison = s.memPoison := rfl
@[simp] theorem State.setIll_memUe (n : Nat) (x : Illum) : (s.setIll n x).memUe = s.memUe := rfl
@[simp] theorem State.setIll_sfe (n : Nat) (x : Illum) : (s.setIll n x).sfe = s.sfe := rfl
@[simp] theorem State.setIll_fmt (n : Nat) (x : Illum) : (s.setIll n x).fmt = s.fmt := rfl
@[simp] theorem State.setIll_dpp (n : Nat) (x : Illum) : (s.setIll n x).dpp = s.dpp := rfl
@[simp] theorem State.setIll_venc (n : Nat) (x : Illum) : (s.setIll n x).venc = s.venc := rfl
@[simp] theorem State.setIll_vdec (n : Nat) (x : Illum) : (s.setIll n x).vdec = s.vdec := rfl
@[simp] theorem State.setIll_coh (n : Nat) (x : Illum) : (s.setIll n x).coh = s.coh := rfl
@[simp] theorem State.setIll_eth (n : Nat) (x : Illum) : (s.setIll n x).eth = s.eth := rfl
@[simp] theorem State.setIll_per (n : Nat) (x : Illum) : (s.setIll n x).per = s.per := rfl
@[simp] theorem State.setIll_dsv (n : Nat) (x : Illum) : (s.setIll n x).dsv = s.dsv := rfl
@[simp] theorem State.setIll_pcie (n : Nat) (x : Illum) : (s.setIll n x).pcie = s.pcie := rfl
@[simp] theorem State.setIll_pwr (n : Nat) (x : Illum) : (s.setIll n x).pwr = s.pwr := rfl
@[simp] theorem State.setIll_clk (n : Nat) (x : Illum) : (s.setIll n x).clk = s.clk := rfl
@[simp] theorem State.setIll_thm (n : Nat) (x : Illum) : (s.setIll n x).thm = s.thm := rfl
@[simp] theorem State.setIll_ms (n : Nat) (x : Illum) : (s.setIll n x).ms = s.ms := rfl
@[simp] theorem State.setIll_stats (n : Nat) (x : Illum) : (s.setIll n x).stats = s.stats := rfl
@[simp] theorem State.setIll_irqs (n : Nat) (x : Illum) : (s.setIll n x).irqs = s.irqs := rfl
@[simp] theorem State.setIll_resp (n : Nat) (x : Illum) : (s.setIll n x).resp = s.resp := rfl
@[simp] theorem State.setIll_fresh (n : Nat) (x : Illum) : (s.setIll n x).fresh = s.fresh := rfl
@[simp] theorem State.setIll_pending (n : Nat) (x : Illum) : (s.setIll n x).pending = s.pending := rfl
@[simp] theorem State.setIll_reg (n : Nat) (x : Illum) (b : Nat) : (s.setIll n x).reg b = s.reg b := rfl
@[simp] theorem State.setIll_dom (n : Nat) (x : Illum) (b : Nat) : (s.setIll n x).dom b = s.dom b := rfl
@[simp] theorem State.setIll_pin (n : Nat) (x : Illum) (b : Nat) : (s.setIll n x).pin b = s.pin b := rfl
@[simp] theorem State.setIll_queue (n : Nat) (x : Illum) (b : Nat) : (s.setIll n x).queue b = s.queue b := rfl
@[simp] theorem State.setIll_pool (n : Nat) (x : Illum) (b : Nat) : (s.setIll n x).pool b = s.pool b := rfl
@[simp] theorem State.setIll_core (n : Nat) (x : Illum) (b : Nat) : (s.setIll n x).core b = s.core b := rfl
@[simp] theorem State.setIll_ctx (n : Nat) (x : Illum) (b : Nat) : (s.setIll n x).ctx b = s.ctx b := rfl
@[simp] theorem State.setIll_stat (n : Nat) (x : Illum) (p q r : Nat) : (s.setIll n x).stat p q r = s.stat p q r := rfl
@[simp] theorem State.setIll_byte (n : Nat) (x : Illum) (b : Nat) : (s.setIll n x).byte b = s.byte b := rfl
@[simp] theorem State.setIll_secPoison (n : Nat) (x : Illum) (b : Nat) : (s.setIll n x).secPoison b = s.secPoison b := rfl
@[simp] theorem State.setIll_slice (n : Nat) (x : Illum) (b : Nat) : (s.setIll n x).slice b = s.slice b := rfl
@[simp] theorem State.setIll_chan (n : Nat) (x : Illum) (b : Nat) : (s.setIll n x).chan b = s.chan b := rfl

/-! ## `setStat` -/

@[simp] theorem State.setStat_now (k u i : Nat) (f : Nat → Nat) : (s.setStat k u i f).now = s.now := rfl
@[simp] theorem State.setStat_regs (k u i : Nat) (f : Nat → Nat) : (s.setStat k u i f).regs = s.regs := rfl
@[simp] theorem State.setStat_capture (k u i : Nat) (f : Nat → Nat) : (s.setStat k u i f).capture = s.capture := rfl
@[simp] theorem State.setStat_tod (k u i : Nat) (f : Nat → Nat) : (s.setStat k u i f).tod = s.tod := rfl
@[simp] theorem State.setStat_doms (k u i : Nat) (f : Nat → Nat) : (s.setStat k u i f).doms = s.doms := rfl
@[simp] theorem State.setStat_pins (k u i : Nat) (f : Nat → Nat) : (s.setStat k u i f).pins = s.pins := rfl
@[simp] theorem State.setStat_sched (k u i : Nat) (f : Nat → Nat) : (s.setStat k u i f).sched = s.sched := rfl
@[simp] theorem State.setStat_coll (k u i : Nat) (f : Nat → Nat) : (s.setStat k u i f).coll = s.coll := rfl
@[simp] theorem State.setStat_pass (k u i : Nat) (f : Nat → Nat) : (s.setStat k u i f).pass = s.pass := rfl
@[simp] theorem State.setStat_cores (k u i : Nat) (f : Nat → Nat) : (s.setStat k u i f).cores = s.cores := rfl
@[simp] theorem State.setStat_ctxs (k u i : Nat) (f : Nat → Nat) : (s.setStat k u i f).ctxs = s.ctxs := rfl
@[simp] theorem State.setStat_wch (k u i : Nat) (f : Nat → Nat) : (s.setStat k u i f).wch = s.wch := rfl
@[simp] theorem State.setStat_ills (k u i : Nat) (f : Nat → Nat) : (s.setStat k u i f).ills = s.ills := rfl
@[simp] theorem State.setStat_mem (k u i : Nat) (f : Nat → Nat) : (s.setStat k u i f).mem = s.mem := rfl
@[simp] theorem State.setStat_memPoison (k u i : Nat) (f : Nat → Nat) : (s.setStat k u i f).memPoison = s.memPoison := rfl
@[simp] theorem State.setStat_memUe (k u i : Nat) (f : Nat → Nat) : (s.setStat k u i f).memUe = s.memUe := rfl
@[simp] theorem State.setStat_sfe (k u i : Nat) (f : Nat → Nat) : (s.setStat k u i f).sfe = s.sfe := rfl
@[simp] theorem State.setStat_fmt (k u i : Nat) (f : Nat → Nat) : (s.setStat k u i f).fmt = s.fmt := rfl
@[simp] theorem State.setStat_dpp (k u i : Nat) (f : Nat → Nat) : (s.setStat k u i f).dpp = s.dpp := rfl
@[simp] theorem State.setStat_venc (k u i : Nat) (f : Nat → Nat) : (s.setStat k u i f).venc = s.venc := rfl
@[simp] theorem State.setStat_vdec (k u i : Nat) (f : Nat → Nat) : (s.setStat k u i f).vdec = s.vdec := rfl
@[simp] theorem State.setStat_coh (k u i : Nat) (f : Nat → Nat) : (s.setStat k u i f).coh = s.coh := rfl
@[simp] theorem State.setStat_eth (k u i : Nat) (f : Nat → Nat) : (s.setStat k u i f).eth = s.eth := rfl
@[simp] theorem State.setStat_per (k u i : Nat) (f : Nat → Nat) : (s.setStat k u i f).per = s.per := rfl
@[simp] theorem State.setStat_dsv (k u i : Nat) (f : Nat → Nat) : (s.setStat k u i f).dsv = s.dsv := rfl
@[simp] theorem State.setStat_pcie (k u i : Nat) (f : Nat → Nat) : (s.setStat k u i f).pcie = s.pcie := rfl
@[simp] theorem State.setStat_pwr (k u i : Nat) (f : Nat → Nat) : (s.setStat k u i f).pwr = s.pwr := rfl
@[simp] theorem State.setStat_clk (k u i : Nat) (f : Nat → Nat) : (s.setStat k u i f).clk = s.clk := rfl
@[simp] theorem State.setStat_thm (k u i : Nat) (f : Nat → Nat) : (s.setStat k u i f).thm = s.thm := rfl
@[simp] theorem State.setStat_ms (k u i : Nat) (f : Nat → Nat) : (s.setStat k u i f).ms = s.ms := rfl
@[simp] theorem State.setStat_irqs (k u i : Nat) (f : Nat → Nat) : (s.setStat k u i f).irqs = s.irqs := rfl
@[simp] theorem State.setStat_resp (k u i : Nat) (f : Nat → Nat) : (s.setStat k u i f).resp = s.resp := rfl
@[simp] theorem State.setStat_fresh (k u i : Nat) (f : Nat → Nat) : (s.setStat k u i f).fresh = s.fresh := rfl
@[simp] theorem State.setStat_pending (k u i : Nat) (f : Nat → Nat) : (s.setStat k u i f).pending = s.pending := rfl
@[simp] theorem State.setStat_reg (k u i : Nat) (f : Nat → Nat) (b : Nat) : (s.setStat k u i f).reg b = s.reg b := rfl
@[simp] theorem State.setStat_dom (k u i : Nat) (f : Nat → Nat) (b : Nat) : (s.setStat k u i f).dom b = s.dom b := rfl
@[simp] theorem State.setStat_pin (k u i : Nat) (f : Nat → Nat) (b : Nat) : (s.setStat k u i f).pin b = s.pin b := rfl
@[simp] theorem State.setStat_queue (k u i : Nat) (f : Nat → Nat) (b : Nat) : (s.setStat k u i f).queue b = s.queue b := rfl
@[simp] theorem State.setStat_pool (k u i : Nat) (f : Nat → Nat) (b : Nat) : (s.setStat k u i f).pool b = s.pool b := rfl
@[simp] theorem State.setStat_core (k u i : Nat) (f : Nat → Nat) (b : Nat) : (s.setStat k u i f).core b = s.core b := rfl
@[simp] theorem State.setStat_ctx (k u i : Nat) (f : Nat → Nat) (b : Nat) : (s.setStat k u i f).ctx b = s.ctx b := rfl
@[simp] theorem State.setStat_ill (k u i : Nat) (f : Nat → Nat) (b : Nat) : (s.setStat k u i f).ill b = s.ill b := rfl
@[simp] theorem State.setStat_byte (k u i : Nat) (f : Nat → Nat) (b : Nat) : (s.setStat k u i f).byte b = s.byte b := rfl
@[simp] theorem State.setStat_secPoison (k u i : Nat) (f : Nat → Nat) (b : Nat) : (s.setStat k u i f).secPoison b = s.secPoison b := rfl
@[simp] theorem State.setStat_slice (k u i : Nat) (f : Nat → Nat) (b : Nat) : (s.setStat k u i f).slice b = s.slice b := rfl
@[simp] theorem State.setStat_chan (k u i : Nat) (f : Nat → Nat) (b : Nat) : (s.setStat k u i f).chan b = s.chan b := rfl

/-! ## `irq` -/

@[simp] theorem State.irq_now (i : Irq) : (s.irq i).now = s.now := rfl
@[simp] theorem State.irq_regs (i : Irq) : (s.irq i).regs = s.regs := rfl
@[simp] theorem State.irq_capture (i : Irq) : (s.irq i).capture = s.capture := rfl
@[simp] theorem State.irq_tod (i : Irq) : (s.irq i).tod = s.tod := rfl
@[simp] theorem State.irq_doms (i : Irq) : (s.irq i).doms = s.doms := rfl
@[simp] theorem State.irq_pins (i : Irq) : (s.irq i).pins = s.pins := rfl
@[simp] theorem State.irq_sched (i : Irq) : (s.irq i).sched = s.sched := rfl
@[simp] theorem State.irq_coll (i : Irq) : (s.irq i).coll = s.coll := rfl
@[simp] theorem State.irq_pass (i : Irq) : (s.irq i).pass = s.pass := rfl
@[simp] theorem State.irq_cores (i : Irq) : (s.irq i).cores = s.cores := rfl
@[simp] theorem State.irq_ctxs (i : Irq) : (s.irq i).ctxs = s.ctxs := rfl
@[simp] theorem State.irq_wch (i : Irq) : (s.irq i).wch = s.wch := rfl
@[simp] theorem State.irq_ills (i : Irq) : (s.irq i).ills = s.ills := rfl
@[simp] theorem State.irq_mem (i : Irq) : (s.irq i).mem = s.mem := rfl
@[simp] theorem State.irq_memPoison (i : Irq) : (s.irq i).memPoison = s.memPoison := rfl
@[simp] theorem State.irq_memUe (i : Irq) : (s.irq i).memUe = s.memUe := rfl
@[simp] theorem State.irq_sfe (i : Irq) : (s.irq i).sfe = s.sfe := rfl
@[simp] theorem State.irq_fmt (i : Irq) : (s.irq i).fmt = s.fmt := rfl
@[simp] theorem State.irq_dpp (i : Irq) : (s.irq i).dpp = s.dpp := rfl
@[simp] theorem State.irq_venc (i : Irq) : (s.irq i).venc = s.venc := rfl
@[simp] theorem State.irq_vdec (i : Irq) : (s.irq i).vdec = s.vdec := rfl
@[simp] theorem State.irq_coh (i : Irq) : (s.irq i).coh = s.coh := rfl
@[simp] theorem State.irq_eth (i : Irq) : (s.irq i).eth = s.eth := rfl
@[simp] theorem State.irq_per (i : Irq) : (s.irq i).per = s.per := rfl
@[simp] theorem State.irq_dsv (i : Irq) : (s.irq i).dsv = s.dsv := rfl
@[simp] theorem State.irq_pcie (i : Irq) : (s.irq i).pcie = s.pcie := rfl
@[simp] theorem State.irq_pwr (i : Irq) : (s.irq i).pwr = s.pwr := rfl
@[simp] theorem State.irq_clk (i : Irq) : (s.irq i).clk = s.clk := rfl
@[simp] theorem State.irq_thm (i : Irq) : (s.irq i).thm = s.thm := rfl
@[simp] theorem State.irq_ms (i : Irq) : (s.irq i).ms = s.ms := rfl
@[simp] theorem State.irq_stats (i : Irq) : (s.irq i).stats = s.stats := rfl
@[simp] theorem State.irq_resp (i : Irq) : (s.irq i).resp = s.resp := rfl
@[simp] theorem State.irq_fresh (i : Irq) : (s.irq i).fresh = s.fresh := rfl
@[simp] theorem State.irq_pending (i : Irq) : (s.irq i).pending = s.pending := rfl
@[simp] theorem State.irq_reg (i : Irq) (b : Nat) : (s.irq i).reg b = s.reg b := rfl
@[simp] theorem State.irq_dom (i : Irq) (b : Nat) : (s.irq i).dom b = s.dom b := rfl
@[simp] theorem State.irq_pin (i : Irq) (b : Nat) : (s.irq i).pin b = s.pin b := rfl
@[simp] theorem State.irq_queue (i : Irq) (b : Nat) : (s.irq i).queue b = s.queue b := rfl
@[simp] theorem State.irq_pool (i : Irq) (b : Nat) : (s.irq i).pool b = s.pool b := rfl
@[simp] theorem State.irq_core (i : Irq) (b : Nat) : (s.irq i).core b = s.core b := rfl
@[simp] theorem State.irq_ctx (i : Irq) (b : Nat) : (s.irq i).ctx b = s.ctx b := rfl
@[simp] theorem State.irq_ill (i : Irq) (b : Nat) : (s.irq i).ill b = s.ill b := rfl
@[simp] theorem State.irq_stat (i : Irq) (p q r : Nat) : (s.irq i).stat p q r = s.stat p q r := rfl
@[simp] theorem State.irq_byte (i : Irq) (b : Nat) : (s.irq i).byte b = s.byte b := rfl
@[simp] theorem State.irq_secPoison (i : Irq) (b : Nat) : (s.irq i).secPoison b = s.secPoison b := rfl
@[simp] theorem State.irq_slice (i : Irq) (b : Nat) : (s.irq i).slice b = s.slice b := rfl
@[simp] theorem State.irq_chan (i : Irq) (b : Nat) : (s.irq i).chan b = s.chan b := rfl

/-! ## `setByte` -/

@[simp] theorem State.setByte_now (a : Nat) (v : Byte) : (s.setByte a v).now = s.now := rfl
@[simp] theorem State.setByte_regs (a : Nat) (v : Byte) : (s.setByte a v).regs = s.regs := rfl
@[simp] theorem State.setByte_capture (a : Nat) (v : Byte) : (s.setByte a v).capture = s.capture := rfl
@[simp] theorem State.setByte_tod (a : Nat) (v : Byte) : (s.setByte a v).tod = s.tod := rfl
@[simp] theorem State.setByte_doms (a : Nat) (v : Byte) : (s.setByte a v).doms = s.doms := rfl
@[simp] theorem State.setByte_pins (a : Nat) (v : Byte) : (s.setByte a v).pins = s.pins := rfl
@[simp] theorem State.setByte_sched (a : Nat) (v : Byte) : (s.setByte a v).sched = s.sched := rfl
@[simp] theorem State.setByte_coll (a : Nat) (v : Byte) : (s.setByte a v).coll = s.coll := rfl
@[simp] theorem State.setByte_pass (a : Nat) (v : Byte) : (s.setByte a v).pass = s.pass := rfl
@[simp] theorem State.setByte_cores (a : Nat) (v : Byte) : (s.setByte a v).cores = s.cores := rfl
@[simp] theorem State.setByte_ctxs (a : Nat) (v : Byte) : (s.setByte a v).ctxs = s.ctxs := rfl
@[simp] theorem State.setByte_wch (a : Nat) (v : Byte) : (s.setByte a v).wch = s.wch := rfl
@[simp] theorem State.setByte_ills (a : Nat) (v : Byte) : (s.setByte a v).ills = s.ills := rfl
@[simp] theorem State.setByte_memPoison (a : Nat) (v : Byte) : (s.setByte a v).memPoison = s.memPoison := rfl
@[simp] theorem State.setByte_memUe (a : Nat) (v : Byte) : (s.setByte a v).memUe = s.memUe := rfl
@[simp] theorem State.setByte_sfe (a : Nat) (v : Byte) : (s.setByte a v).sfe = s.sfe := rfl
@[simp] theorem State.setByte_fmt (a : Nat) (v : Byte) : (s.setByte a v).fmt = s.fmt := rfl
@[simp] theorem State.setByte_dpp (a : Nat) (v : Byte) : (s.setByte a v).dpp = s.dpp := rfl
@[simp] theorem State.setByte_venc (a : Nat) (v : Byte) : (s.setByte a v).venc = s.venc := rfl
@[simp] theorem State.setByte_vdec (a : Nat) (v : Byte) : (s.setByte a v).vdec = s.vdec := rfl
@[simp] theorem State.setByte_coh (a : Nat) (v : Byte) : (s.setByte a v).coh = s.coh := rfl
@[simp] theorem State.setByte_eth (a : Nat) (v : Byte) : (s.setByte a v).eth = s.eth := rfl
@[simp] theorem State.setByte_per (a : Nat) (v : Byte) : (s.setByte a v).per = s.per := rfl
@[simp] theorem State.setByte_dsv (a : Nat) (v : Byte) : (s.setByte a v).dsv = s.dsv := rfl
@[simp] theorem State.setByte_pcie (a : Nat) (v : Byte) : (s.setByte a v).pcie = s.pcie := rfl
@[simp] theorem State.setByte_pwr (a : Nat) (v : Byte) : (s.setByte a v).pwr = s.pwr := rfl
@[simp] theorem State.setByte_clk (a : Nat) (v : Byte) : (s.setByte a v).clk = s.clk := rfl
@[simp] theorem State.setByte_thm (a : Nat) (v : Byte) : (s.setByte a v).thm = s.thm := rfl
@[simp] theorem State.setByte_ms (a : Nat) (v : Byte) : (s.setByte a v).ms = s.ms := rfl
@[simp] theorem State.setByte_stats (a : Nat) (v : Byte) : (s.setByte a v).stats = s.stats := rfl
@[simp] theorem State.setByte_irqs (a : Nat) (v : Byte) : (s.setByte a v).irqs = s.irqs := rfl
@[simp] theorem State.setByte_resp (a : Nat) (v : Byte) : (s.setByte a v).resp = s.resp := rfl
@[simp] theorem State.setByte_fresh (a : Nat) (v : Byte) : (s.setByte a v).fresh = s.fresh := rfl
@[simp] theorem State.setByte_pending (a : Nat) (v : Byte) : (s.setByte a v).pending = s.pending := rfl
@[simp] theorem State.setByte_reg (a : Nat) (v : Byte) (b : Nat) : (s.setByte a v).reg b = s.reg b := rfl
@[simp] theorem State.setByte_dom (a : Nat) (v : Byte) (b : Nat) : (s.setByte a v).dom b = s.dom b := rfl
@[simp] theorem State.setByte_pin (a : Nat) (v : Byte) (b : Nat) : (s.setByte a v).pin b = s.pin b := rfl
@[simp] theorem State.setByte_queue (a : Nat) (v : Byte) (b : Nat) : (s.setByte a v).queue b = s.queue b := rfl
@[simp] theorem State.setByte_pool (a : Nat) (v : Byte) (b : Nat) : (s.setByte a v).pool b = s.pool b := rfl
@[simp] theorem State.setByte_core (a : Nat) (v : Byte) (b : Nat) : (s.setByte a v).core b = s.core b := rfl
@[simp] theorem State.setByte_ctx (a : Nat) (v : Byte) (b : Nat) : (s.setByte a v).ctx b = s.ctx b := rfl
@[simp] theorem State.setByte_ill (a : Nat) (v : Byte) (b : Nat) : (s.setByte a v).ill b = s.ill b := rfl
@[simp] theorem State.setByte_stat (a : Nat) (v : Byte) (p q r : Nat) : (s.setByte a v).stat p q r = s.stat p q r := rfl
@[simp] theorem State.setByte_secPoison (a : Nat) (v : Byte) (b : Nat) : (s.setByte a v).secPoison b = s.secPoison b := rfl
@[simp] theorem State.setByte_slice (a : Nat) (v : Byte) (b : Nat) : (s.setByte a v).slice b = s.slice b := rfl
@[simp] theorem State.setByte_chan (a : Nat) (v : Byte) (b : Nat) : (s.setByte a v).chan b = s.chan b := rfl

/-! ## `setSecPoison` -/

@[simp] theorem State.setSecPoison_now (k : Nat) (v : Bool) : (s.setSecPoison k v).now = s.now := rfl
@[simp] theorem State.setSecPoison_regs (k : Nat) (v : Bool) : (s.setSecPoison k v).regs = s.regs := rfl
@[simp] theorem State.setSecPoison_capture (k : Nat) (v : Bool) : (s.setSecPoison k v).capture = s.capture := rfl
@[simp] theorem State.setSecPoison_tod (k : Nat) (v : Bool) : (s.setSecPoison k v).tod = s.tod := rfl
@[simp] theorem State.setSecPoison_doms (k : Nat) (v : Bool) : (s.setSecPoison k v).doms = s.doms := rfl
@[simp] theorem State.setSecPoison_pins (k : Nat) (v : Bool) : (s.setSecPoison k v).pins = s.pins := rfl
@[simp] theorem State.setSecPoison_sched (k : Nat) (v : Bool) : (s.setSecPoison k v).sched = s.sched := rfl
@[simp] theorem State.setSecPoison_coll (k : Nat) (v : Bool) : (s.setSecPoison k v).coll = s.coll := rfl
@[simp] theorem State.setSecPoison_pass (k : Nat) (v : Bool) : (s.setSecPoison k v).pass = s.pass := rfl
@[simp] theorem State.setSecPoison_cores (k : Nat) (v : Bool) : (s.setSecPoison k v).cores = s.cores := rfl
@[simp] theorem State.setSecPoison_ctxs (k : Nat) (v : Bool) : (s.setSecPoison k v).ctxs = s.ctxs := rfl
@[simp] theorem State.setSecPoison_wch (k : Nat) (v : Bool) : (s.setSecPoison k v).wch = s.wch := rfl
@[simp] theorem State.setSecPoison_ills (k : Nat) (v : Bool) : (s.setSecPoison k v).ills = s.ills := rfl
@[simp] theorem State.setSecPoison_mem (k : Nat) (v : Bool) : (s.setSecPoison k v).mem = s.mem := rfl
@[simp] theorem State.setSecPoison_memUe (k : Nat) (v : Bool) : (s.setSecPoison k v).memUe = s.memUe := rfl
@[simp] theorem State.setSecPoison_sfe (k : Nat) (v : Bool) : (s.setSecPoison k v).sfe = s.sfe := rfl
@[simp] theorem State.setSecPoison_fmt (k : Nat) (v : Bool) : (s.setSecPoison k v).fmt = s.fmt := rfl
@[simp] theorem State.setSecPoison_dpp (k : Nat) (v : Bool) : (s.setSecPoison k v).dpp = s.dpp := rfl
@[simp] theorem State.setSecPoison_venc (k : Nat) (v : Bool) : (s.setSecPoison k v).venc = s.venc := rfl
@[simp] theorem State.setSecPoison_vdec (k : Nat) (v : Bool) : (s.setSecPoison k v).vdec = s.vdec := rfl
@[simp] theorem State.setSecPoison_coh (k : Nat) (v : Bool) : (s.setSecPoison k v).coh = s.coh := rfl
@[simp] theorem State.setSecPoison_eth (k : Nat) (v : Bool) : (s.setSecPoison k v).eth = s.eth := rfl
@[simp] theorem State.setSecPoison_per (k : Nat) (v : Bool) : (s.setSecPoison k v).per = s.per := rfl
@[simp] theorem State.setSecPoison_dsv (k : Nat) (v : Bool) : (s.setSecPoison k v).dsv = s.dsv := rfl
@[simp] theorem State.setSecPoison_pcie (k : Nat) (v : Bool) : (s.setSecPoison k v).pcie = s.pcie := rfl
@[simp] theorem State.setSecPoison_pwr (k : Nat) (v : Bool) : (s.setSecPoison k v).pwr = s.pwr := rfl
@[simp] theorem State.setSecPoison_clk (k : Nat) (v : Bool) : (s.setSecPoison k v).clk = s.clk := rfl
@[simp] theorem State.setSecPoison_thm (k : Nat) (v : Bool) : (s.setSecPoison k v).thm = s.thm := rfl
@[simp] theorem State.setSecPoison_ms (k : Nat) (v : Bool) : (s.setSecPoison k v).ms = s.ms := rfl
@[simp] theorem State.setSecPoison_stats (k : Nat) (v : Bool) : (s.setSecPoison k v).stats = s.stats := rfl
@[simp] theorem State.setSecPoison_irqs (k : Nat) (v : Bool) : (s.setSecPoison k v).irqs = s.irqs := rfl
@[simp] theorem State.setSecPoison_resp (k : Nat) (v : Bool) : (s.setSecPoison k v).resp = s.resp := rfl
@[simp] theorem State.setSecPoison_fresh (k : Nat) (v : Bool) : (s.setSecPoison k v).fresh = s.fresh := rfl
@[simp] theorem State.setSecPoison_pending (k : Nat) (v : Bool) : (s.setSecPoison k v).pending = s.pending := rfl
@[simp] theorem State.setSecPoison_reg (k : Nat) (v : Bool) (b : Nat) : (s.setSecPoison k v).reg b = s.reg b := rfl
@[simp] theorem State.setSecPoison_dom (k : Nat) (v : Bool) (b : Nat) : (s.setSecPoison k v).dom b = s.dom b := rfl
@[simp] theorem State.setSecPoison_pin (k : Nat) (v : Bool) (b : Nat) : (s.setSecPoison k v).pin b = s.pin b := rfl
@[simp] theorem State.setSecPoison_queue (k : Nat) (v : Bool) (b : Nat) : (s.setSecPoison k v).queue b = s.queue b := rfl
@[simp] theorem State.setSecPoison_pool (k : Nat) (v : Bool) (b : Nat) : (s.setSecPoison k v).pool b = s.pool b := rfl
@[simp] theorem State.setSecPoison_core (k : Nat) (v : Bool) (b : Nat) : (s.setSecPoison k v).core b = s.core b := rfl
@[simp] theorem State.setSecPoison_ctx (k : Nat) (v : Bool) (b : Nat) : (s.setSecPoison k v).ctx b = s.ctx b := rfl
@[simp] theorem State.setSecPoison_ill (k : Nat) (v : Bool) (b : Nat) : (s.setSecPoison k v).ill b = s.ill b := rfl
@[simp] theorem State.setSecPoison_stat (k : Nat) (v : Bool) (p q r : Nat) : (s.setSecPoison k v).stat p q r = s.stat p q r := rfl
@[simp] theorem State.setSecPoison_byte (k : Nat) (v : Bool) (b : Nat) : (s.setSecPoison k v).byte b = s.byte b := rfl
@[simp] theorem State.setSecPoison_slice (k : Nat) (v : Bool) (b : Nat) : (s.setSecPoison k v).slice b = s.slice b := rfl
@[simp] theorem State.setSecPoison_chan (k : Nat) (v : Bool) (b : Nat) : (s.setSecPoison k v).chan b = s.chan b := rfl

/-! ## `setSlice` -/

@[simp] theorem State.setSlice_now (i : Nat) (x : MemSlice) : (s.setSlice i x).now = s.now := rfl
@[simp] theorem State.setSlice_regs (i : Nat) (x : MemSlice) : (s.setSlice i x).regs = s.regs := rfl
@[simp] theorem State.setSlice_capture (i : Nat) (x : MemSlice) : (s.setSlice i x).capture = s.capture := rfl
@[simp] theorem State.setSlice_tod (i : Nat) (x : MemSlice) : (s.setSlice i x).tod = s.tod := rfl
@[simp] theorem State.setSlice_doms (i : Nat) (x : MemSlice) : (s.setSlice i x).doms = s.doms := rfl
@[simp] theorem State.setSlice_pins (i : Nat) (x : MemSlice) : (s.setSlice i x).pins = s.pins := rfl
@[simp] theorem State.setSlice_sched (i : Nat) (x : MemSlice) : (s.setSlice i x).sched = s.sched := rfl
@[simp] theorem State.setSlice_coll (i : Nat) (x : MemSlice) : (s.setSlice i x).coll = s.coll := rfl
@[simp] theorem State.setSlice_pass (i : Nat) (x : MemSlice) : (s.setSlice i x).pass = s.pass := rfl
@[simp] theorem State.setSlice_cores (i : Nat) (x : MemSlice) : (s.setSlice i x).cores = s.cores := rfl
@[simp] theorem State.setSlice_ctxs (i : Nat) (x : MemSlice) : (s.setSlice i x).ctxs = s.ctxs := rfl
@[simp] theorem State.setSlice_wch (i : Nat) (x : MemSlice) : (s.setSlice i x).wch = s.wch := rfl
@[simp] theorem State.setSlice_ills (i : Nat) (x : MemSlice) : (s.setSlice i x).ills = s.ills := rfl
@[simp] theorem State.setSlice_mem (i : Nat) (x : MemSlice) : (s.setSlice i x).mem = s.mem := rfl
@[simp] theorem State.setSlice_memPoison (i : Nat) (x : MemSlice) : (s.setSlice i x).memPoison = s.memPoison := rfl
@[simp] theorem State.setSlice_memUe (i : Nat) (x : MemSlice) : (s.setSlice i x).memUe = s.memUe := rfl
@[simp] theorem State.setSlice_sfe (i : Nat) (x : MemSlice) : (s.setSlice i x).sfe = s.sfe := rfl
@[simp] theorem State.setSlice_fmt (i : Nat) (x : MemSlice) : (s.setSlice i x).fmt = s.fmt := rfl
@[simp] theorem State.setSlice_dpp (i : Nat) (x : MemSlice) : (s.setSlice i x).dpp = s.dpp := rfl
@[simp] theorem State.setSlice_venc (i : Nat) (x : MemSlice) : (s.setSlice i x).venc = s.venc := rfl
@[simp] theorem State.setSlice_vdec (i : Nat) (x : MemSlice) : (s.setSlice i x).vdec = s.vdec := rfl
@[simp] theorem State.setSlice_coh (i : Nat) (x : MemSlice) : (s.setSlice i x).coh = s.coh := rfl
@[simp] theorem State.setSlice_eth (i : Nat) (x : MemSlice) : (s.setSlice i x).eth = s.eth := rfl
@[simp] theorem State.setSlice_per (i : Nat) (x : MemSlice) : (s.setSlice i x).per = s.per := rfl
@[simp] theorem State.setSlice_dsv (i : Nat) (x : MemSlice) : (s.setSlice i x).dsv = s.dsv := rfl
@[simp] theorem State.setSlice_pcie (i : Nat) (x : MemSlice) : (s.setSlice i x).pcie = s.pcie := rfl
@[simp] theorem State.setSlice_pwr (i : Nat) (x : MemSlice) : (s.setSlice i x).pwr = s.pwr := rfl
@[simp] theorem State.setSlice_clk (i : Nat) (x : MemSlice) : (s.setSlice i x).clk = s.clk := rfl
@[simp] theorem State.setSlice_thm (i : Nat) (x : MemSlice) : (s.setSlice i x).thm = s.thm := rfl
@[simp] theorem State.setSlice_stats (i : Nat) (x : MemSlice) : (s.setSlice i x).stats = s.stats := rfl
@[simp] theorem State.setSlice_irqs (i : Nat) (x : MemSlice) : (s.setSlice i x).irqs = s.irqs := rfl
@[simp] theorem State.setSlice_resp (i : Nat) (x : MemSlice) : (s.setSlice i x).resp = s.resp := rfl
@[simp] theorem State.setSlice_fresh (i : Nat) (x : MemSlice) : (s.setSlice i x).fresh = s.fresh := rfl
@[simp] theorem State.setSlice_pending (i : Nat) (x : MemSlice) : (s.setSlice i x).pending = s.pending := rfl
@[simp] theorem State.setSlice_reg (i : Nat) (x : MemSlice) (b : Nat) : (s.setSlice i x).reg b = s.reg b := rfl
@[simp] theorem State.setSlice_dom (i : Nat) (x : MemSlice) (b : Nat) : (s.setSlice i x).dom b = s.dom b := rfl
@[simp] theorem State.setSlice_pin (i : Nat) (x : MemSlice) (b : Nat) : (s.setSlice i x).pin b = s.pin b := rfl
@[simp] theorem State.setSlice_queue (i : Nat) (x : MemSlice) (b : Nat) : (s.setSlice i x).queue b = s.queue b := rfl
@[simp] theorem State.setSlice_pool (i : Nat) (x : MemSlice) (b : Nat) : (s.setSlice i x).pool b = s.pool b := rfl
@[simp] theorem State.setSlice_core (i : Nat) (x : MemSlice) (b : Nat) : (s.setSlice i x).core b = s.core b := rfl
@[simp] theorem State.setSlice_ctx (i : Nat) (x : MemSlice) (b : Nat) : (s.setSlice i x).ctx b = s.ctx b := rfl
@[simp] theorem State.setSlice_ill (i : Nat) (x : MemSlice) (b : Nat) : (s.setSlice i x).ill b = s.ill b := rfl
@[simp] theorem State.setSlice_stat (i : Nat) (x : MemSlice) (p q r : Nat) : (s.setSlice i x).stat p q r = s.stat p q r := rfl
@[simp] theorem State.setSlice_byte (i : Nat) (x : MemSlice) (b : Nat) : (s.setSlice i x).byte b = s.byte b := rfl
@[simp] theorem State.setSlice_secPoison (i : Nat) (x : MemSlice) (b : Nat) : (s.setSlice i x).secPoison b = s.secPoison b := rfl

/-! ## `setChan` -/

@[simp] theorem State.setChan_now (i : Nat) (x : Chan) : (s.setChan i x).now = s.now := rfl
@[simp] theorem State.setChan_regs (i : Nat) (x : Chan) : (s.setChan i x).regs = s.regs := rfl
@[simp] theorem State.setChan_capture (i : Nat) (x : Chan) : (s.setChan i x).capture = s.capture := rfl
@[simp] theorem State.setChan_tod (i : Nat) (x : Chan) : (s.setChan i x).tod = s.tod := rfl
@[simp] theorem State.setChan_doms (i : Nat) (x : Chan) : (s.setChan i x).doms = s.doms := rfl
@[simp] theorem State.setChan_pins (i : Nat) (x : Chan) : (s.setChan i x).pins = s.pins := rfl
@[simp] theorem State.setChan_sched (i : Nat) (x : Chan) : (s.setChan i x).sched = s.sched := rfl
@[simp] theorem State.setChan_coll (i : Nat) (x : Chan) : (s.setChan i x).coll = s.coll := rfl
@[simp] theorem State.setChan_pass (i : Nat) (x : Chan) : (s.setChan i x).pass = s.pass := rfl
@[simp] theorem State.setChan_cores (i : Nat) (x : Chan) : (s.setChan i x).cores = s.cores := rfl
@[simp] theorem State.setChan_ctxs (i : Nat) (x : Chan) : (s.setChan i x).ctxs = s.ctxs := rfl
@[simp] theorem State.setChan_wch (i : Nat) (x : Chan) : (s.setChan i x).wch = s.wch := rfl
@[simp] theorem State.setChan_ills (i : Nat) (x : Chan) : (s.setChan i x).ills = s.ills := rfl
@[simp] theorem State.setChan_mem (i : Nat) (x : Chan) : (s.setChan i x).mem = s.mem := rfl
@[simp] theorem State.setChan_memPoison (i : Nat) (x : Chan) : (s.setChan i x).memPoison = s.memPoison := rfl
@[simp] theorem State.setChan_memUe (i : Nat) (x : Chan) : (s.setChan i x).memUe = s.memUe := rfl
@[simp] theorem State.setChan_sfe (i : Nat) (x : Chan) : (s.setChan i x).sfe = s.sfe := rfl
@[simp] theorem State.setChan_fmt (i : Nat) (x : Chan) : (s.setChan i x).fmt = s.fmt := rfl
@[simp] theorem State.setChan_dpp (i : Nat) (x : Chan) : (s.setChan i x).dpp = s.dpp := rfl
@[simp] theorem State.setChan_venc (i : Nat) (x : Chan) : (s.setChan i x).venc = s.venc := rfl
@[simp] theorem State.setChan_vdec (i : Nat) (x : Chan) : (s.setChan i x).vdec = s.vdec := rfl
@[simp] theorem State.setChan_coh (i : Nat) (x : Chan) : (s.setChan i x).coh = s.coh := rfl
@[simp] theorem State.setChan_eth (i : Nat) (x : Chan) : (s.setChan i x).eth = s.eth := rfl
@[simp] theorem State.setChan_per (i : Nat) (x : Chan) : (s.setChan i x).per = s.per := rfl
@[simp] theorem State.setChan_dsv (i : Nat) (x : Chan) : (s.setChan i x).dsv = s.dsv := rfl
@[simp] theorem State.setChan_pcie (i : Nat) (x : Chan) : (s.setChan i x).pcie = s.pcie := rfl
@[simp] theorem State.setChan_pwr (i : Nat) (x : Chan) : (s.setChan i x).pwr = s.pwr := rfl
@[simp] theorem State.setChan_clk (i : Nat) (x : Chan) : (s.setChan i x).clk = s.clk := rfl
@[simp] theorem State.setChan_thm (i : Nat) (x : Chan) : (s.setChan i x).thm = s.thm := rfl
@[simp] theorem State.setChan_stats (i : Nat) (x : Chan) : (s.setChan i x).stats = s.stats := rfl
@[simp] theorem State.setChan_irqs (i : Nat) (x : Chan) : (s.setChan i x).irqs = s.irqs := rfl
@[simp] theorem State.setChan_resp (i : Nat) (x : Chan) : (s.setChan i x).resp = s.resp := rfl
@[simp] theorem State.setChan_fresh (i : Nat) (x : Chan) : (s.setChan i x).fresh = s.fresh := rfl
@[simp] theorem State.setChan_pending (i : Nat) (x : Chan) : (s.setChan i x).pending = s.pending := rfl
@[simp] theorem State.setChan_reg (i : Nat) (x : Chan) (b : Nat) : (s.setChan i x).reg b = s.reg b := rfl
@[simp] theorem State.setChan_dom (i : Nat) (x : Chan) (b : Nat) : (s.setChan i x).dom b = s.dom b := rfl
@[simp] theorem State.setChan_pin (i : Nat) (x : Chan) (b : Nat) : (s.setChan i x).pin b = s.pin b := rfl
@[simp] theorem State.setChan_queue (i : Nat) (x : Chan) (b : Nat) : (s.setChan i x).queue b = s.queue b := rfl
@[simp] theorem State.setChan_pool (i : Nat) (x : Chan) (b : Nat) : (s.setChan i x).pool b = s.pool b := rfl
@[simp] theorem State.setChan_core (i : Nat) (x : Chan) (b : Nat) : (s.setChan i x).core b = s.core b := rfl
@[simp] theorem State.setChan_ctx (i : Nat) (x : Chan) (b : Nat) : (s.setChan i x).ctx b = s.ctx b := rfl
@[simp] theorem State.setChan_ill (i : Nat) (x : Chan) (b : Nat) : (s.setChan i x).ill b = s.ill b := rfl
@[simp] theorem State.setChan_stat (i : Nat) (x : Chan) (p q r : Nat) : (s.setChan i x).stat p q r = s.stat p q r := rfl
@[simp] theorem State.setChan_byte (i : Nat) (x : Chan) (b : Nat) : (s.setChan i x).byte b = s.byte b := rfl
@[simp] theorem State.setChan_secPoison (i : Nat) (x : Chan) (b : Nat) : (s.setChan i x).secPoison b = s.secPoison b := rfl

/-! ## `raiseC` -/

@[simp] theorem State.raiseC_now (c : Code) (k : Cls) (u i : Nat) (d : Option Nat) (l : List (Nat × Nat)) : (s.raiseC c k u i d l).now = s.now := rfl
@[simp] theorem State.raiseC_regs (c : Code) (k : Cls) (u i : Nat) (d : Option Nat) (l : List (Nat × Nat)) : (s.raiseC c k u i d l).regs = s.regs := rfl
@[simp] theorem State.raiseC_capture (c : Code) (k : Cls) (u i : Nat) (d : Option Nat) (l : List (Nat × Nat)) : (s.raiseC c k u i d l).capture = s.capture := rfl
@[simp] theorem State.raiseC_tod (c : Code) (k : Cls) (u i : Nat) (d : Option Nat) (l : List (Nat × Nat)) : (s.raiseC c k u i d l).tod = s.tod := rfl
@[simp] theorem State.raiseC_doms (c : Code) (k : Cls) (u i : Nat) (d : Option Nat) (l : List (Nat × Nat)) : (s.raiseC c k u i d l).doms = s.doms := rfl
@[simp] theorem State.raiseC_pins (c : Code) (k : Cls) (u i : Nat) (d : Option Nat) (l : List (Nat × Nat)) : (s.raiseC c k u i d l).pins = s.pins := rfl
@[simp] theorem State.raiseC_sched (c : Code) (k : Cls) (u i : Nat) (d : Option Nat) (l : List (Nat × Nat)) : (s.raiseC c k u i d l).sched = s.sched := rfl
@[simp] theorem State.raiseC_pass (c : Code) (k : Cls) (u i : Nat) (d : Option Nat) (l : List (Nat × Nat)) : (s.raiseC c k u i d l).pass = s.pass := rfl
@[simp] theorem State.raiseC_cores (c : Code) (k : Cls) (u i : Nat) (d : Option Nat) (l : List (Nat × Nat)) : (s.raiseC c k u i d l).cores = s.cores := rfl
@[simp] theorem State.raiseC_ctxs (c : Code) (k : Cls) (u i : Nat) (d : Option Nat) (l : List (Nat × Nat)) : (s.raiseC c k u i d l).ctxs = s.ctxs := rfl
@[simp] theorem State.raiseC_wch (c : Code) (k : Cls) (u i : Nat) (d : Option Nat) (l : List (Nat × Nat)) : (s.raiseC c k u i d l).wch = s.wch := rfl
@[simp] theorem State.raiseC_ills (c : Code) (k : Cls) (u i : Nat) (d : Option Nat) (l : List (Nat × Nat)) : (s.raiseC c k u i d l).ills = s.ills := rfl
@[simp] theorem State.raiseC_mem (c : Code) (k : Cls) (u i : Nat) (d : Option Nat) (l : List (Nat × Nat)) : (s.raiseC c k u i d l).mem = s.mem := rfl
@[simp] theorem State.raiseC_memPoison (c : Code) (k : Cls) (u i : Nat) (d : Option Nat) (l : List (Nat × Nat)) : (s.raiseC c k u i d l).memPoison = s.memPoison := rfl
@[simp] theorem State.raiseC_memUe (c : Code) (k : Cls) (u i : Nat) (d : Option Nat) (l : List (Nat × Nat)) : (s.raiseC c k u i d l).memUe = s.memUe := rfl
@[simp] theorem State.raiseC_sfe (c : Code) (k : Cls) (u i : Nat) (d : Option Nat) (l : List (Nat × Nat)) : (s.raiseC c k u i d l).sfe = s.sfe := rfl
@[simp] theorem State.raiseC_fmt (c : Code) (k : Cls) (u i : Nat) (d : Option Nat) (l : List (Nat × Nat)) : (s.raiseC c k u i d l).fmt = s.fmt := rfl
@[simp] theorem State.raiseC_dpp (c : Code) (k : Cls) (u i : Nat) (d : Option Nat) (l : List (Nat × Nat)) : (s.raiseC c k u i d l).dpp = s.dpp := rfl
@[simp] theorem State.raiseC_venc (c : Code) (k : Cls) (u i : Nat) (d : Option Nat) (l : List (Nat × Nat)) : (s.raiseC c k u i d l).venc = s.venc := rfl
@[simp] theorem State.raiseC_vdec (c : Code) (k : Cls) (u i : Nat) (d : Option Nat) (l : List (Nat × Nat)) : (s.raiseC c k u i d l).vdec = s.vdec := rfl
@[simp] theorem State.raiseC_coh (c : Code) (k : Cls) (u i : Nat) (d : Option Nat) (l : List (Nat × Nat)) : (s.raiseC c k u i d l).coh = s.coh := rfl
@[simp] theorem State.raiseC_eth (c : Code) (k : Cls) (u i : Nat) (d : Option Nat) (l : List (Nat × Nat)) : (s.raiseC c k u i d l).eth = s.eth := rfl
@[simp] theorem State.raiseC_per (c : Code) (k : Cls) (u i : Nat) (d : Option Nat) (l : List (Nat × Nat)) : (s.raiseC c k u i d l).per = s.per := rfl
@[simp] theorem State.raiseC_dsv (c : Code) (k : Cls) (u i : Nat) (d : Option Nat) (l : List (Nat × Nat)) : (s.raiseC c k u i d l).dsv = s.dsv := rfl
@[simp] theorem State.raiseC_pcie (c : Code) (k : Cls) (u i : Nat) (d : Option Nat) (l : List (Nat × Nat)) : (s.raiseC c k u i d l).pcie = s.pcie := rfl
@[simp] theorem State.raiseC_pwr (c : Code) (k : Cls) (u i : Nat) (d : Option Nat) (l : List (Nat × Nat)) : (s.raiseC c k u i d l).pwr = s.pwr := rfl
@[simp] theorem State.raiseC_clk (c : Code) (k : Cls) (u i : Nat) (d : Option Nat) (l : List (Nat × Nat)) : (s.raiseC c k u i d l).clk = s.clk := rfl
@[simp] theorem State.raiseC_thm (c : Code) (k : Cls) (u i : Nat) (d : Option Nat) (l : List (Nat × Nat)) : (s.raiseC c k u i d l).thm = s.thm := rfl
@[simp] theorem State.raiseC_ms (c : Code) (k : Cls) (u i : Nat) (d : Option Nat) (l : List (Nat × Nat)) : (s.raiseC c k u i d l).ms = s.ms := rfl
@[simp] theorem State.raiseC_stats (c : Code) (k : Cls) (u i : Nat) (d : Option Nat) (l : List (Nat × Nat)) : (s.raiseC c k u i d l).stats = s.stats := rfl
@[simp] theorem State.raiseC_irqs (c : Code) (k : Cls) (u i : Nat) (d : Option Nat) (l : List (Nat × Nat)) : (s.raiseC c k u i d l).irqs = s.irqs := rfl
@[simp] theorem State.raiseC_resp (c : Code) (k : Cls) (u i : Nat) (d : Option Nat) (l : List (Nat × Nat)) : (s.raiseC c k u i d l).resp = s.resp := rfl
@[simp] theorem State.raiseC_fresh (c : Code) (k : Cls) (u i : Nat) (d : Option Nat) (l : List (Nat × Nat)) : (s.raiseC c k u i d l).fresh = s.fresh := rfl
@[simp] theorem State.raiseC_pending (c : Code) (k : Cls) (u i : Nat) (d : Option Nat) (l : List (Nat × Nat)) : (s.raiseC c k u i d l).pending = s.pending := rfl
@[simp] theorem State.raiseC_reg (c : Code) (k : Cls) (u i : Nat) (d : Option Nat) (l : List (Nat × Nat)) (b : Nat) : (s.raiseC c k u i d l).reg b = s.reg b := rfl
@[simp] theorem State.raiseC_dom (c : Code) (k : Cls) (u i : Nat) (d : Option Nat) (l : List (Nat × Nat)) (b : Nat) : (s.raiseC c k u i d l).dom b = s.dom b := rfl
@[simp] theorem State.raiseC_pin (c : Code) (k : Cls) (u i : Nat) (d : Option Nat) (l : List (Nat × Nat)) (b : Nat) : (s.raiseC c k u i d l).pin b = s.pin b := rfl
@[simp] theorem State.raiseC_queue (c : Code) (k : Cls) (u i : Nat) (d : Option Nat) (l : List (Nat × Nat)) (b : Nat) : (s.raiseC c k u i d l).queue b = s.queue b := rfl
@[simp] theorem State.raiseC_pool (c : Code) (k : Cls) (u i : Nat) (d : Option Nat) (l : List (Nat × Nat)) (b : Nat) : (s.raiseC c k u i d l).pool b = s.pool b := rfl
@[simp] theorem State.raiseC_core (c : Code) (k : Cls) (u i : Nat) (d : Option Nat) (l : List (Nat × Nat)) (b : Nat) : (s.raiseC c k u i d l).core b = s.core b := rfl
@[simp] theorem State.raiseC_ctx (c : Code) (k : Cls) (u i : Nat) (d : Option Nat) (l : List (Nat × Nat)) (b : Nat) : (s.raiseC c k u i d l).ctx b = s.ctx b := rfl
@[simp] theorem State.raiseC_ill (c : Code) (k : Cls) (u i : Nat) (d : Option Nat) (l : List (Nat × Nat)) (b : Nat) : (s.raiseC c k u i d l).ill b = s.ill b := rfl
@[simp] theorem State.raiseC_stat (c : Code) (k : Cls) (u i : Nat) (d : Option Nat) (l : List (Nat × Nat)) (p q r : Nat) : (s.raiseC c k u i d l).stat p q r = s.stat p q r := rfl
@[simp] theorem State.raiseC_byte (c : Code) (k : Cls) (u i : Nat) (d : Option Nat) (l : List (Nat × Nat)) (b : Nat) : (s.raiseC c k u i d l).byte b = s.byte b := rfl
@[simp] theorem State.raiseC_secPoison (c : Code) (k : Cls) (u i : Nat) (d : Option Nat) (l : List (Nat × Nat)) (b : Nat) : (s.raiseC c k u i d l).secPoison b = s.secPoison b := rfl
@[simp] theorem State.raiseC_slice (c : Code) (k : Cls) (u i : Nat) (d : Option Nat) (l : List (Nat × Nat)) (b : Nat) : (s.raiseC c k u i d l).slice b = s.slice b := rfl
@[simp] theorem State.raiseC_chan (c : Code) (k : Cls) (u i : Nat) (d : Option Nat) (l : List (Nat × Nat)) (b : Nat) : (s.raiseC c k u i d l).chan b = s.chan b := rfl

/-! ## `raise` -/

@[simp] theorem State.raise_now (c : Code) (u i : Nat) (d : Option Nat) (l : List (Nat × Nat)) : (s.raise c u i d l).now = s.now := rfl
@[simp] theorem State.raise_regs (c : Code) (u i : Nat) (d : Option Nat) (l : List (Nat × Nat)) : (s.raise c u i d l).regs = s.regs := rfl
@[simp] theorem State.raise_capture (c : Code) (u i : Nat) (d : Option Nat) (l : List (Nat × Nat)) : (s.raise c u i d l).capture = s.capture := rfl
@[simp] theorem State.raise_tod (c : Code) (u i : Nat) (d : Option Nat) (l : List (Nat × Nat)) : (s.raise c u i d l).tod = s.tod := rfl
@[simp] theorem State.raise_doms (c : Code) (u i : Nat) (d : Option Nat) (l : List (Nat × Nat)) : (s.raise c u i d l).doms = s.doms := rfl
@[simp] theorem State.raise_pins (c : Code) (u i : Nat) (d : Option Nat) (l : List (Nat × Nat)) : (s.raise c u i d l).pins = s.pins := rfl
@[simp] theorem State.raise_sched (c : Code) (u i : Nat) (d : Option Nat) (l : List (Nat × Nat)) : (s.raise c u i d l).sched = s.sched := rfl
@[simp] theorem State.raise_pass (c : Code) (u i : Nat) (d : Option Nat) (l : List (Nat × Nat)) : (s.raise c u i d l).pass = s.pass := rfl
@[simp] theorem State.raise_cores (c : Code) (u i : Nat) (d : Option Nat) (l : List (Nat × Nat)) : (s.raise c u i d l).cores = s.cores := rfl
@[simp] theorem State.raise_ctxs (c : Code) (u i : Nat) (d : Option Nat) (l : List (Nat × Nat)) : (s.raise c u i d l).ctxs = s.ctxs := rfl
@[simp] theorem State.raise_wch (c : Code) (u i : Nat) (d : Option Nat) (l : List (Nat × Nat)) : (s.raise c u i d l).wch = s.wch := rfl
@[simp] theorem State.raise_ills (c : Code) (u i : Nat) (d : Option Nat) (l : List (Nat × Nat)) : (s.raise c u i d l).ills = s.ills := rfl
@[simp] theorem State.raise_mem (c : Code) (u i : Nat) (d : Option Nat) (l : List (Nat × Nat)) : (s.raise c u i d l).mem = s.mem := rfl
@[simp] theorem State.raise_memPoison (c : Code) (u i : Nat) (d : Option Nat) (l : List (Nat × Nat)) : (s.raise c u i d l).memPoison = s.memPoison := rfl
@[simp] theorem State.raise_memUe (c : Code) (u i : Nat) (d : Option Nat) (l : List (Nat × Nat)) : (s.raise c u i d l).memUe = s.memUe := rfl
@[simp] theorem State.raise_sfe (c : Code) (u i : Nat) (d : Option Nat) (l : List (Nat × Nat)) : (s.raise c u i d l).sfe = s.sfe := rfl
@[simp] theorem State.raise_fmt (c : Code) (u i : Nat) (d : Option Nat) (l : List (Nat × Nat)) : (s.raise c u i d l).fmt = s.fmt := rfl
@[simp] theorem State.raise_dpp (c : Code) (u i : Nat) (d : Option Nat) (l : List (Nat × Nat)) : (s.raise c u i d l).dpp = s.dpp := rfl
@[simp] theorem State.raise_venc (c : Code) (u i : Nat) (d : Option Nat) (l : List (Nat × Nat)) : (s.raise c u i d l).venc = s.venc := rfl
@[simp] theorem State.raise_vdec (c : Code) (u i : Nat) (d : Option Nat) (l : List (Nat × Nat)) : (s.raise c u i d l).vdec = s.vdec := rfl
@[simp] theorem State.raise_coh (c : Code) (u i : Nat) (d : Option Nat) (l : List (Nat × Nat)) : (s.raise c u i d l).coh = s.coh := rfl
@[simp] theorem State.raise_eth (c : Code) (u i : Nat) (d : Option Nat) (l : List (Nat × Nat)) : (s.raise c u i d l).eth = s.eth := rfl
@[simp] theorem State.raise_per (c : Code) (u i : Nat) (d : Option Nat) (l : List (Nat × Nat)) : (s.raise c u i d l).per = s.per := rfl
@[simp] theorem State.raise_dsv (c : Code) (u i : Nat) (d : Option Nat) (l : List (Nat × Nat)) : (s.raise c u i d l).dsv = s.dsv := rfl
@[simp] theorem State.raise_pcie (c : Code) (u i : Nat) (d : Option Nat) (l : List (Nat × Nat)) : (s.raise c u i d l).pcie = s.pcie := rfl
@[simp] theorem State.raise_pwr (c : Code) (u i : Nat) (d : Option Nat) (l : List (Nat × Nat)) : (s.raise c u i d l).pwr = s.pwr := rfl
@[simp] theorem State.raise_clk (c : Code) (u i : Nat) (d : Option Nat) (l : List (Nat × Nat)) : (s.raise c u i d l).clk = s.clk := rfl
@[simp] theorem State.raise_thm (c : Code) (u i : Nat) (d : Option Nat) (l : List (Nat × Nat)) : (s.raise c u i d l).thm = s.thm := rfl
@[simp] theorem State.raise_ms (c : Code) (u i : Nat) (d : Option Nat) (l : List (Nat × Nat)) : (s.raise c u i d l).ms = s.ms := rfl
@[simp] theorem State.raise_stats (c : Code) (u i : Nat) (d : Option Nat) (l : List (Nat × Nat)) : (s.raise c u i d l).stats = s.stats := rfl
@[simp] theorem State.raise_irqs (c : Code) (u i : Nat) (d : Option Nat) (l : List (Nat × Nat)) : (s.raise c u i d l).irqs = s.irqs := rfl
@[simp] theorem State.raise_resp (c : Code) (u i : Nat) (d : Option Nat) (l : List (Nat × Nat)) : (s.raise c u i d l).resp = s.resp := rfl
@[simp] theorem State.raise_fresh (c : Code) (u i : Nat) (d : Option Nat) (l : List (Nat × Nat)) : (s.raise c u i d l).fresh = s.fresh := rfl
@[simp] theorem State.raise_pending (c : Code) (u i : Nat) (d : Option Nat) (l : List (Nat × Nat)) : (s.raise c u i d l).pending = s.pending := rfl
@[simp] theorem State.raise_reg (c : Code) (u i : Nat) (d : Option Nat) (l : List (Nat × Nat)) (b : Nat) : (s.raise c u i d l).reg b = s.reg b := rfl
@[simp] theorem State.raise_dom (c : Code) (u i : Nat) (d : Option Nat) (l : List (Nat × Nat)) (b : Nat) : (s.raise c u i d l).dom b = s.dom b := rfl
@[simp] theorem State.raise_pin (c : Code) (u i : Nat) (d : Option Nat) (l : List (Nat × Nat)) (b : Nat) : (s.raise c u i d l).pin b = s.pin b := rfl
@[simp] theorem State.raise_queue (c : Code) (u i : Nat) (d : Option Nat) (l : List (Nat × Nat)) (b : Nat) : (s.raise c u i d l).queue b = s.queue b := rfl
@[simp] theorem State.raise_pool (c : Code) (u i : Nat) (d : Option Nat) (l : List (Nat × Nat)) (b : Nat) : (s.raise c u i d l).pool b = s.pool b := rfl
@[simp] theorem State.raise_core (c : Code) (u i : Nat) (d : Option Nat) (l : List (Nat × Nat)) (b : Nat) : (s.raise c u i d l).core b = s.core b := rfl
@[simp] theorem State.raise_ctx (c : Code) (u i : Nat) (d : Option Nat) (l : List (Nat × Nat)) (b : Nat) : (s.raise c u i d l).ctx b = s.ctx b := rfl
@[simp] theorem State.raise_ill (c : Code) (u i : Nat) (d : Option Nat) (l : List (Nat × Nat)) (b : Nat) : (s.raise c u i d l).ill b = s.ill b := rfl
@[simp] theorem State.raise_stat (c : Code) (u i : Nat) (d : Option Nat) (l : List (Nat × Nat)) (p q r : Nat) : (s.raise c u i d l).stat p q r = s.stat p q r := rfl
@[simp] theorem State.raise_byte (c : Code) (u i : Nat) (d : Option Nat) (l : List (Nat × Nat)) (b : Nat) : (s.raise c u i d l).byte b = s.byte b := rfl
@[simp] theorem State.raise_secPoison (c : Code) (u i : Nat) (d : Option Nat) (l : List (Nat × Nat)) (b : Nat) : (s.raise c u i d l).secPoison b = s.secPoison b := rfl
@[simp] theorem State.raise_slice (c : Code) (u i : Nat) (d : Option Nat) (l : List (Nat × Nat)) (b : Nat) : (s.raise c u i d l).slice b = s.slice b := rfl
@[simp] theorem State.raise_chan (c : Code) (u i : Nat) (d : Option Nat) (l : List (Nat × Nat)) (b : Nat) : (s.raise c u i d l).chan b = s.chan b := rfl

/-! ## Reading what was written -/

theorem State.setReg_reg (a : Nat) (v : Word) (b : Nat) : (s.setReg a v).reg b = if b = a then v else s.reg b :=
  tget_tset resetOf s.regs b a v
@[simp] theorem State.setReg_reg_same (a : Nat) (v : Word) : (s.setReg a v).reg a = v := by simp [State.setReg_reg]
theorem State.setReg_reg_other {a b : Nat} (v : Word) (h : b ≠ a) : (s.setReg a v).reg b = s.reg b := by
  simp [State.setReg_reg, h]
theorem State.setRf_reg (a hi lo v b : Nat) :
    (s.setRf a hi lo v).reg b = if b = a then setFld (s.reg a) hi lo v else s.reg b := s.setReg_reg _ _ _
theorem State.inc_reg (a n b : Nat) : (s.inc a n).reg b = if b = a then satInc (s.reg a) n else s.reg b := s.setReg_reg _ _ _
theorem State.incWrap_reg (a n b : Nat) : (s.incWrap a n).reg b = if b = a then s.reg a + w32 n else s.reg b :=
  s.setReg_reg _ _ _
theorem State.setDom_dom (d : Nat) (x : Dom) (b : Nat) : (s.setDom d x).dom b = if b = d then x else s.dom b :=
  tget_tset _ s.doms b d x
theorem State.setPin_pin (i : Nat) (x : Pin) (b : Nat) : (s.setPin i x).pin b = if b = i then x else s.pin b :=
  tget_tset _ s.pins b i x
theorem State.setQueue_queue (n : Nat) (x : Queue) (b : Nat) : (s.setQueue n x).queue b = if b = n then x else s.queue b :=
  tget_tset _ s.pass.queues b n x
@[simp] theorem State.setQueue_pool (n : Nat) (x : Queue) (b : Nat) : (s.setQueue n x).pool b = s.pool b := rfl
theorem State.setPool_pool (n : Nat) (x : Pool) (b : Nat) : (s.setPool n x).pool b = if b = n then x else s.pool b :=
  tget_tset _ s.pass.pools b n x
@[simp] theorem State.setPool_queue (n : Nat) (x : Pool) (b : Nat) : (s.setPool n x).queue b = s.queue b := rfl
theorem State.setCore_core (n : Nat) (x : Core) (b : Nat) : (s.setCore n x).core b = if b = n then x else s.core b :=
  tget_tset _ s.cores b n x
theorem State.setCtx_ctx (k : Nat) (x : Ctx) (b : Nat) : (s.setCtx k x).ctx b = if b = k then x else s.ctx b :=
  tget_tset _ s.ctxs b k x
theorem State.setIll_ill (n : Nat) (x : Illum) (b : Nat) : (s.setIll n x).ill b = if b = n then x else s.ill b :=
  tget_tset _ s.ills b n x
theorem State.setByte_byte (a : Nat) (v : Byte) (b : Nat) : (s.setByte a v).byte b = if b = a then v else s.byte b :=
  tget_tset _ s.mem b a v
theorem State.setSecPoison_secPoison (k : Nat) (v : Bool) (b : Nat) :
    (s.setSecPoison k v).secPoison b = if b = k then v else s.secPoison b := tget_tset _ s.memPoison b k v
theorem State.setSlice_slice (i : Nat) (x : MemSlice) (b : Nat) : (s.setSlice i x).slice b = if b = i then x else s.slice b :=
  tget_tset _ s.ms.slices b i x
@[simp] theorem State.setSlice_chan (i : Nat) (x : MemSlice) (b : Nat) : (s.setSlice i x).chan b = s.chan b := rfl
theorem State.setChan_chan (i : Nat) (x : Chan) (b : Nat) : (s.setChan i x).chan b = if b = i then x else s.chan b :=
  tget_tset _ s.ms.chans b i x
@[simp] theorem State.setChan_slice (i : Nat) (x : Chan) (b : Nat) : (s.setChan i x).slice b = s.slice b := rfl
@[simp] theorem State.draw_value : s.draw.1 = Config.freeWord s.fresh := rfl
@[simp] theorem State.draw_fresh : s.draw.2.fresh = s.fresh + 1 := rfl
/-- A record posted stands last among those that wait for the collector. -/
@[simp] theorem State.raise_posted (c : Code) (u i : Nat) (d : Option Nat) (l : List (Nat × Nat)) :
    (s.raise c u i d l).coll.posted = s.coll.posted ++ [s.mkRec c c.cls u i d l] := rfl

end Sys2Proof.Machine
end

