-- ==== Sys2Proof/Laws/Memory.lean ====
section
/-! SUPPORT. What the shared accesses to DRAM do: which bytes a write reaches, and what a read gives. -/

namespace Sys2Proof.Machine

open Sys2Proof

variable (s : State)

/-! ## Writing -/

/-- The bytes after a run of writes. -/
theorem State.setBytes_byte (a : Nat) (l : Bytes) (b : Nat) :
    (s.setBytes a l).byte b = if a ≤ b ∧ b < a + l.length then lget 0 l (b - a) else s.byte b := by
  induction l generalizing s a with
  | nil => rw [if_neg (by simp only [List.length_nil]; omega)]; rfl
  | cons x r ih =>
    rw [State.setBytes, ih, State.setByte_byte]
    by_cases h : b = a
    · subst h
      have : ¬ (b + 1 ≤ b ∧ b < b + 1 + r.length) := by omega
      simp only [this, if_false, if_true, Nat.sub_self, lget, List.length_cons]
      rw [if_pos (by omega)]
    · by_cases hi : a + 1 ≤ b ∧ b < a + 1 + r.length
      · obtain ⟨k, hk⟩ : ∃ k, b - a = k + 1 := ⟨b - a - 1, by omega⟩
        have hk' : b - (a + 1) = k := by omega
        have : a ≤ b ∧ b < a + (x :: r).length := by simp only [List.length_cons]; omega
        simp only [hi, this, and_self, if_true, hk, hk', lget]
      · have : ¬ (a ≤ b ∧ b < a + (x :: r).length) := by simp only [List.length_cons]; omega
        simp only [hi, this, if_false, h]

@[simp] theorem State.sweepPoison_mem (a e : Nat) (p : Bool) (k n : Nat) : (s.sweepPoison a e p k n).mem = s.mem := by
  induction n generalizing s k with
  | zero => rfl
  | succ n ih =>
    rw [State.sweepPoison, ih]
    split
    · rfl
    · split <;> rfl

@[simp] theorem State.sweepUe_mem (a e k n : Nat) : (s.sweepUe a e k n).mem = s.mem := by
  induction n generalizing s k with
  | zero => rfl
  | succ n ih =>
    rw [State.sweepUe, ih]
    split <;> rfl

/-- A write to DRAM stores its bytes and no other. -/
theorem State.dramPut_byte (a : Nat) (l : Bytes) (p : Bool) (b : Nat) :
    (s.dramPut a l p).byte b = if a ≤ b ∧ b < a + l.length then lget 0 l (b - a) else s.byte b := by
  unfold State.dramPut
  by_cases h : l = []
  · subst h
    have : ¬ (a ≤ b ∧ b < a + ([] : Bytes).length) := by simp
    simp only [if_true, this, if_false]
  · simp only [h, if_false, State.byte, State.sweepUe_mem, State.sweepPoison_mem]
    exact State.setBytes_byte _ a l b

@[simp] theorem State.ueReport_mem (k : Nat) : (s.ueReport k).mem = s.mem :=
  State.ueReport_only.same .mem rfl

theorem State.dramWrite_mem (a : Nat) (l : Bytes) (p : Bool) : (s.dramWrite a l p).mem = (s.dramPut a l p).mem := by
  unfold State.dramWrite
  generalize s.ueMerge a l.length = bad
  generalize s.dramPut a l p = t
  induction bad generalizing t with
  | nil => rfl
  | cons k r ih => rw [List.foldl_cons, ih, State.ueReport_mem]; rfl

/-- A read-modify-write of DRAM stores its bytes and no other (R649). -/
theorem State.dramWrite_byte (a : Nat) (l : Bytes) (p : Bool) (b : Nat) :
    (s.dramWrite a l p).byte b = if a ≤ b ∧ b < a + l.length then lget 0 l (b - a) else s.byte b := by
  have : (s.dramWrite a l p).byte b = (s.dramPut a l p).byte b := by simp only [State.byte, State.dramWrite_mem]
  rw [this, State.dramPut_byte]

@[simp] theorem State.fwDeny_mem (who : Initiator) (w : Option Nat) (a : Nat) (wr : Bool) :
    (s.fwDeny who w a wr).mem = s.mem :=
  State.fwDeny_only.same .mem rfl

@[simp] theorem State.rangeErr_mem (a : Nat) : (s.rangeErr a).mem = s.mem := State.rangeErr_only.same .mem rfl

@[simp] theorem State.lineUse_mem (cls : Qos) (a n : Nat) : (s.lineUse cls a n).mem = s.mem := State.lineUse_only.same .mem rfl

/-- A unit's write of part of a line leaves every byte outside it alone. -/
theorem State.writeLine_byte_outside (who : Initiator) (cls : Qos) (a : Nat) (l : Bytes) (p : Bool) {b : Nat}
    (h : b < a ∨ a + l.length ≤ b) : (s.writeLine who cls a l p).byte b = s.byte b := by
  unfold State.writeLine
  split
  · simp [State.byte]
  · split
    · simp [State.byte]
    · split
      · simp [State.byte]
      · rw [State.dramWrite_byte, if_neg (by omega)]
        simp [State.byte]

/-- Every piece of a cut run lies in it. -/
theorem cutLines_within (fuel a : Nat) (l : Bytes) : ∀ c ∈ cutLines fuel a l, a ≤ c.1 ∧ c.1 + c.2.length ≤ a + l.length := by
  induction fuel generalizing a l with
  | zero => simp [cutLines]
  | succ n ih =>
    cases l with
    | nil => simp [cutLines]
    | cons x r =>
      intro c hc
      simp only [cutLines, List.mem_cons] at hc
      rcases hc with rfl | hc
      · refine ⟨Nat.le_refl _, ?_⟩
        simp only [List.length_take]
        omega
      · have := ih _ _ c hc
        have hl : ((x :: r).drop (64 - a % 64)).length = (x :: r).length - (64 - a % 64) := List.length_drop
        by_cases hz : (x :: r).length ≤ 64 - a % 64
        · have he : (x :: r).drop (64 - a % 64) = [] := List.drop_eq_nil_of_le hz
          rw [he] at hc
          cases n <;> simp [cutLines] at hc
        · rw [hl] at this
          omega

/-- A unit's write to memory leaves every byte outside its run alone. -/
theorem State.unitWrite_byte_outside (who : Initiator) (cls : Qos) (a : Nat) (l : Bytes) (p : Bool) {b : Nat}
    (h : b < a ∨ a + l.length ≤ b) : (s.unitWrite who cls a l p).byte b = s.byte b := by
  have hw := cutLines_within (l.length + 1) a l
  unfold State.unitWrite
  generalize cutLines (l.length + 1) a l = cs at hw
  induction cs generalizing s with
  | nil => rfl
  | cons c r ih =>
    have hc := hw c (by simp)
    rw [List.foldl_cons, ih _ fun d hd => hw d (by simp [hd])]
    exact State.writeLine_byte_outside s who cls c.1 c.2 p (by omega)

/-- A unit's write of part of a line that the firewall grants, in usable memory, stores its bytes (R628, R735). -/
theorem State.writeLine_byte (who : Initiator) (cls : Qos) (a : Nat) (l : Bytes) (p : Bool) (hd : inDram a = true)
    (hf : s.fwAllow who a true = true) (hm : s.memOk a = true) (b : Nat) :
    (s.writeLine who cls a l p).byte b = if a ≤ b ∧ b < a + l.length then lget 0 l (b - a) else s.byte b := by
  unfold State.writeLine
  simp only [hd, hf, hm, Bool.not_true, Bool.false_eq_true, if_false]
  rw [State.dramWrite_byte]
  simp only [State.byte, State.lineUse_mem]

/-! ## Reading -/

@[simp] theorem State.peek_length (a n : Nat) : (s.peek a n).length = n := by
  induction n generalizing a with
  | zero => rfl
  | succ n ih => simp [State.peek, ih]

@[simp] theorem freeBytes_length (k n : Nat) : (freeBytes k n).length = n := by
  induction n with
  | zero => rfl
  | succ n ih => simp [freeBytes, ih]

/-- A read of part of a line answers as many bytes as were asked. -/
@[simp] theorem State.readLine_length (who : Initiator) (cls : Qos) (a n : Nat) : (s.readLine who cls a n).1.length = n := by
  unfold State.readLine
  split
  · simp
  · split
    · simp
    · split <;> simp

/-- The bytes that a line read gives where the firewall grants it, in usable memory. -/
theorem State.readLine_value (who : Initiator) (cls : Qos) (a n : Nat) (hd : inDram a = true) (hf : s.fwAllow who a false = true)
    (hm : s.memOk a = true) : (s.readLine who cls a n).1 = s.peek a n := by
  simp [State.readLine, hd, hf, hm]

/-- The supervisor passes the firewall (R734). -/
@[simp] theorem State.fwAllow_sup (a : Nat) (w : Bool) : s.fwAllow .sup a w = true := by simp [State.fwAllow]

end Sys2Proof.Machine
end

