-- ==== Sys2Proof/Laws/Word.lean ====
section
/-! SUPPORT. The bit fields of a register word after one of them is replaced. -/

namespace Sys2Proof.Machine

open Sys2Proof

/-- A word cut at the bounds of a field. -/
theorem cut_word (n lo hi : Nat) (h : lo ≤ hi) :
    n = n / 2 ^ (hi + 1) * 2 ^ (hi + 1) + n / 2 ^ lo % 2 ^ (hi + 1 - lo) * 2 ^ lo + n % 2 ^ lo := by
  have e : 2 ^ (hi + 1) = 2 ^ lo * 2 ^ (hi + 1 - lo) := by rw [← Nat.pow_add]; congr 1; omega
  have a := Nat.div_add_mod n (2 ^ lo)
  have b := Nat.div_add_mod (n / 2 ^ lo) (2 ^ (hi + 1 - lo))
  have c : n / 2 ^ lo / 2 ^ (hi + 1 - lo) = n / 2 ^ (hi + 1) := by rw [Nat.div_div_eq_div_mul, e]
  rw [c] at b
  generalize n / 2 ^ lo % 2 ^ (hi + 1 - lo) = f at b ⊢
  generalize n / 2 ^ (hi + 1) = q at b ⊢
  generalize n % 2 ^ lo = r at a ⊢
  rw [← b] at a
  rw [e, ← a]
  rw [Nat.mul_add, ← Nat.mul_assoc, Nat.mul_comm q, Nat.mul_comm f]

/-- A word with a field replaced, in three parts. -/
theorem setFld_toNat (w : Word) {hi lo : Nat} (v : Nat) (h : lo ≤ hi) (h31 : hi < 32) :
    (setFld w hi lo v).toNat =
      w.toNat / 2 ^ (hi + 1) * 2 ^ (hi + 1) + v % 2 ^ (hi + 1 - lo) * 2 ^ lo + w.toNat % 2 ^ lo := by
  have e : 2 ^ (hi + 1) = 2 ^ lo * 2 ^ (hi + 1 - lo) := by rw [← Nat.pow_add]; congr 1; omega
  have hp : 0 < 2 ^ lo := Nat.two_pow_pos _
  have hv : v % 2 ^ (hi + 1 - lo) < 2 ^ (hi + 1 - lo) := Nat.mod_lt _ (Nat.two_pow_pos _)
  have hr : w.toNat % 2 ^ lo < 2 ^ lo := Nat.mod_lt _ hp
  have hlt : w.toNat / 2 ^ (hi + 1) < 2 ^ (31 - hi) := by
    rw [Nat.div_lt_iff_lt_mul (Nat.two_pow_pos _), ← Nat.pow_add]
    have : 31 - hi + (hi + 1) = 32 := by omega
    rw [this]
    exact w.isLt
  have cut := cut_word w.toNat lo hi h
  have hs : w.toNat - fld w hi lo * 2 ^ lo + v % 2 ^ (hi + 1 - lo) * 2 ^ lo =
      w.toNat / 2 ^ (hi + 1) * 2 ^ (hi + 1) + v % 2 ^ (hi + 1 - lo) * 2 ^ lo + w.toNat % 2 ^ lo := by
    unfold fld
    omega
  have hb : w.toNat / 2 ^ (hi + 1) * 2 ^ (hi + 1) + v % 2 ^ (hi + 1 - lo) * 2 ^ lo + w.toNat % 2 ^ lo < 2 ^ 32 := by
    have h1 : v % 2 ^ (hi + 1 - lo) * 2 ^ lo + w.toNat % 2 ^ lo < 2 ^ (hi + 1) := by
      rw [e]
      have : (v % 2 ^ (hi + 1 - lo) + 1) * 2 ^ lo ≤ 2 ^ (hi + 1 - lo) * 2 ^ lo := Nat.mul_le_mul_right _ hv
      rw [Nat.add_mul, Nat.one_mul, Nat.mul_comm (2 ^ (hi + 1 - lo))] at this
      omega
    have h2 : (w.toNat / 2 ^ (hi + 1) + 1) * 2 ^ (hi + 1) ≤ 2 ^ (31 - hi) * 2 ^ (hi + 1) := Nat.mul_le_mul_right _ hlt
    have : 31 - hi + (hi + 1) = 32 := by omega
    rw [← Nat.pow_add, this, Nat.add_mul, Nat.one_mul] at h2
    omega
  unfold setFld
  rw [hs, BitVec.toNat_ofNat, Nat.mod_eq_of_lt hb]

/-- The field written reads as what was written. -/
theorem fld_setFld_same (w : Word) {hi lo : Nat} (v : Nat) (h : lo ≤ hi) (h31 : hi < 32) :
    fld (setFld w hi lo v) hi lo = v % 2 ^ (hi + 1 - lo) := by
  have e : 2 ^ (hi + 1) = 2 ^ (hi + 1 - lo) * 2 ^ lo := by rw [← Nat.pow_add]; congr 1; omega
  have hr : w.toNat % 2 ^ lo < 2 ^ lo := Nat.mod_lt _ (Nat.two_pow_pos _)
  rw [fld, setFld_toNat w v h h31, e, ← Nat.mul_assoc, ← Nat.add_mul, Nat.add_comm, Nat.add_mul_div_right _ _ (Nat.two_pow_pos _),
    Nat.div_eq_of_lt hr, Nat.zero_add, Nat.add_comm, Nat.add_mul_mod_self_right, Nat.mod_mod]

/-- A field wholly above the one written is kept. -/
theorem fld_setFld_above (w : Word) {hi lo i j : Nat} (v : Nat) (h : lo ≤ hi) (h31 : hi < 32) (hj : hi < j) :
    fld (setFld w hi lo v) i j = fld w i j := by
  have e : 2 ^ (hi + 1) = 2 ^ lo * 2 ^ (hi + 1 - lo) := by rw [← Nat.pow_add]; congr 1; omega
  have hv : v % 2 ^ (hi + 1 - lo) < 2 ^ (hi + 1 - lo) := Nat.mod_lt _ (Nat.two_pow_pos _)
  have hr : w.toNat % 2 ^ lo < 2 ^ lo := Nat.mod_lt _ (Nat.two_pow_pos _)
  have h1 : v % 2 ^ (hi + 1 - lo) * 2 ^ lo + w.toNat % 2 ^ lo < 2 ^ (hi + 1) := by
    rw [e]
    have : (v % 2 ^ (hi + 1 - lo) + 1) * 2 ^ lo ≤ 2 ^ (hi + 1 - lo) * 2 ^ lo := Nat.mul_le_mul_right _ hv
    rw [Nat.add_mul, Nat.one_mul, Nat.mul_comm (2 ^ (hi + 1 - lo))] at this
    omega
  have k : 2 ^ j = 2 ^ (hi + 1) * 2 ^ (j - (hi + 1)) := by rw [← Nat.pow_add]; congr 1; omega
  rw [fld, fld, setFld_toNat w v h h31, k, ← Nat.div_div_eq_div_mul, ← Nat.div_div_eq_div_mul, Nat.add_assoc, Nat.add_comm,
    Nat.add_mul_div_right _ _ (Nat.two_pow_pos _), Nat.div_eq_of_lt h1, Nat.zero_add]

/-- A field wholly below the one written is kept. -/
theorem fld_setFld_below (w : Word) {hi lo i j : Nat} (v : Nat) (h : lo ≤ hi) (h31 : hi < 32) (hi' : i < lo) :
    fld (setFld w hi lo v) i j = fld w i j := by
  by_cases hj : j ≤ i
  · have key : ∀ n : Nat, n / 2 ^ j % 2 ^ (i + 1 - j) = n % 2 ^ lo / 2 ^ j % 2 ^ (i + 1 - j) := by
      intro n
      have a : 2 ^ lo = 2 ^ j * 2 ^ (lo - j) := by rw [← Nat.pow_add]; congr 1; omega
      have b : 2 ^ (lo - j) = 2 ^ (i + 1 - j) * 2 ^ (lo - (i + 1)) := by rw [← Nat.pow_add]; congr 1; omega
      rw [a, Nat.mod_mul_right_div_self, b, Nat.mod_mul_right_mod]
    have c : (setFld w hi lo v).toNat % 2 ^ lo = w.toNat % 2 ^ lo := by
      have e : 2 ^ (hi + 1) = 2 ^ (hi + 1 - lo) * 2 ^ lo := by rw [← Nat.pow_add]; congr 1; omega
      rw [setFld_toNat w v h h31, e, ← Nat.mul_assoc, ← Nat.add_mul, Nat.add_comm, Nat.add_mul_mod_self_right, Nat.mod_mod]
    rw [fld, fld, key, c, ← key]
  · have z : i + 1 - j = 0 := by omega
    simp [fld, z, Nat.mod_one]

theorem bit_eq_fld (w : Word) (i : Nat) : bit w i = (fld w i i == 1) := by
  simp [bit, fld]

/-- A bit outside the field written is kept. -/
theorem bit_setFld_other (w : Word) {hi lo i : Nat} (v : Nat) (h : lo ≤ hi) (h31 : hi < 32) (ho : i < lo ∨ hi < i) :
    bit (setFld w hi lo v) i = bit w i := by
  rw [bit_eq_fld, bit_eq_fld]
  rcases ho with ho | ho
  · rw [fld_setFld_below w v h h31 ho]
  · rw [fld_setFld_above w v h h31 ho]

/-- A bit written on its own. -/
theorem bit_setFld_same (w : Word) {i : Nat} (v : Nat) (h31 : i < 32) : bit (setFld w i i v) i = (v % 2 == 1) := by
  rw [bit_eq_fld, fld_setFld_same w v (Nat.le_refl i) h31]
  simp

end Sys2Proof.Machine
end

