-- ==== Sys2Proof/Tests/Slice0.lean ====
section
/-! SUPPORT. The model's own tests: ill-formed commands are refused, and for every statement of
`Sys2Proof/Certificates/Slice0/Obligations.lean` that has hypotheses a state and operands that meet them together, clause by
clause. The operands are hand-made, at the ends of their ranges where the clause has one. -/

namespace Sys2Proof.Tests

open Sys2Proof Sys2Proof.Machine

set_option Elab.async false

/-! ## Well-formedness -/

/-- Ill-formed commands, one for each check of `Sys2Proof/WellFormed.lean`, are refused. -/
theorem ill_formed_refused_0 : ∀ c ∈ ([.registerWrite (.cpu 4) 0 4 0, .registerWrite .sup 0 5 0, .multiwordCaptureRead (.cpu 4) 0, .lineBoundary 8,
    .domainStart 8, .domainEnable 8 0, .domainDisable 8 0, .predictedFrameStart 8, .fsWindowEnd 8, .frameStart 16 0 true, .frameStart 0 32 true,
    .countedLine ⟨16, 0, 0, [], false, false⟩, .countedLine ⟨0, 32, 0, [], false, false⟩, .countedLine ⟨0, 0, 64, [], false, false⟩, .frameEndPacket
    16 0 true, .frameEndPacket 0 32 true, .embeddedDataPacket 16 0 [] true true, .embeddedDataPacket 0 32 [] true true, .genericShortPacket 16 0 0
    true, .genericShortPacket 0 32 0 true, .genericShortPacket 0 0 64 true, .deskewCalibration 8 true 0, .ulpsEntryExit 8 0 true, .ulpsEntryExit 0 4
    true, .groupFsBoundExpiry 16, .stripePush 16, .statsPush 16, .sfeCtxEnable 16 0, .uncorrectableHeader 16, .unmatchedPacket 16 0 0 true,
    .unmatchedPacket 0 32 0 true, .unmatchedPacket 0 0 64 true, .schedNone 512, .fsyncSet 512, .fsyncClr 512, .fsyncTrimEdge 16, .fsyncAutoPulseEnd
    16, .fsyncDomainWrite 16 0, .illOn 512, .illOff 512, .ctxWake 512, .fmtStart 512, .vencSlice 512, .irq 512, .maintOpen 512, .maintClose 512,
    .schedEntryWrite 512 0 0, .schedEntryWrite 0 4 0, .goCtx 8 0, .goCtx 0 4, .stopCtx 8 0, .stopCtx 0 4, .contextStopped 8 0, .contextStopped 0 4,
    .resumeCtx 8 0, .resumeCtx 0 4, .resetCtx 8 0, .resetCtx 0 4, .haltReq 8, .haltReqClear 8] : List Instr), c.wf = false := by decide +kernel

/-- Ill-formed commands, one for each check of `Sys2Proof/WellFormed.lean`, are refused. -/
theorem ill_formed_refused_1 : ∀ c ∈ ([.instructionFetch 8 0, .instructionFetch 0 4, .nopI 8 0 {}, .nopI 0 4 {}, .nopI 0 0 { mod := 2 ^ 48 }, .haltI 8
    0 {}, .haltI 0 4 {}, .haltI 0 0 { mod := 2 ^ 48 }, .yieldI 8 0 {}, .yieldI 0 4 {}, .yieldI 0 0 { mod := 2 ^ 48 }, .yieldTimeout 8 0, .yieldTimeout
    0 4, .fenceI 8 0 {}, .fenceI 0 4 {}, .fenceI 0 0 { mod := 2 ^ 48 }, .depmarkI 8 0 {}, .depmarkI 0 4 {}, .depmarkI 0 0 { mod := 2 ^ 48 }, .barrierI
    8 0 {}, .barrierI 0 4 {}, .barrierI 0 0 { mod := 2 ^ 48 }, .drainI 8 0 {}, .drainI 0 4 {}, .drainI 0 0 { mod := 2 ^ 48 }, .nestImpliedSync 8 0,
    .nestImpliedSync 0 4, .waitlineI 8 0 {}, .waitlineI 0 4 {}, .waitlineI 0 0 { mod := 2 ^ 48 }, .waitlineSetpfx 8 0 {}, .waitlineSetpfx 0 4 {},
    .waitlineSetpfx 0 0 { mod := 2 ^ 48 }, .waitlineRelease 8 0, .waitlineRelease 0 4, .deadlineI 8 0 {}, .deadlineI 0 4 {}, .deadlineI 0 0 { mod := 2
    ^ 48 }, .deadlineMiss 8 0, .deadlineMiss 0 4, .signalI 8 0 {}, .signalI 0 4 {}, .signalI 0 0 { mod := 2 ^ 48 }, .loadI 8 0 {}, .loadI 0 4 {},
    .loadI 0 0 { mod := 2 ^ 48 }, .loadDataReturn 8 0 0, .storeI 8 0 {}, .storeI 0 4 {}, .storeI 0 0 { mod := 2 ^ 48 }, .loadwI 8 0 {}, .loadwI 0 4
    {}, .loadwI 0 0 { mod := 2 ^ 48 }, .copyI 8 0 {}, .copyI 0 4 {}, .copyI 0 0 { mod := 2 ^ 48 }, .fillI 8 0 {}, .fillI 0 4 {}, .fillI 0 0 { mod := 2
    ^ 48 }, .mmulI 8 0 {}] : List Instr), c.wf = false := by decide +kernel

/-- Ill-formed commands, one for each check of `Sys2Proof/WellFormed.lean`, are refused. -/
theorem ill_formed_refused_2 : ∀ c ∈ ([.mmulI 0 4 {}, .mmulI 0 0 { mod := 2 ^ 48 }, .convI 8 0 {}, .convI 0 4 {}, .convI 0 0 { mod := 2 ^ 48 },
    .dwconvI 8 0 {}, .dwconvI 0 4 {}, .dwconvI 0 0 { mod := 2 ^ 48 }, .cx0PreemptStart 8 .dpa, .vopI 8 0 {}, .vopI 0 4 {}, .vopI 0 0 { mod := 2 ^ 48
    }, .actI 8 0 {}, .actI 0 4 {}, .actI 0 0 { mod := 2 ^ 48 }, .reqI 8 0 {}, .reqI 0 4 {}, .reqI 0 0 { mod := 2 ^ 48 }, .reduceI 8 0 {}, .reduceI 0 4
    {}, .reduceI 0 0 { mod := 2 ^ 48 }, .shufI 8 0 {}, .shufI 0 4 {}, .shufI 0 0 { mod := 2 ^ 48 }, .poolmaxI 8 0 {}, .poolmaxI 0 4 {}, .poolmaxI 0 0
    { mod := 2 ^ 48 }, .poolavgI 8 0 {}, .poolavgI 0 4 {}, .poolavgI 0 0 { mod := 2 ^ 48 }, .pqpopI 8 0 {}, .pqpopI 0 4 {}, .pqpopI 0 0 { mod := 2 ^
    48 }, .pqpushI 8 0 {}, .pqpushI 0 4 {}, .pqpushI 0 0 { mod := 2 ^ 48 }, .hallocI 8 0 {}, .hallocI 0 4 {}, .hallocI 0 0 { mod := 2 ^ 48 }, .hrelI 8
    0 {}, .hrelI 0 4 {}, .hrelI 0 0 { mod := 2 ^ 48 }, .detsubI 8 0 {}, .detsubI 0 4 {}, .detsubI 0 0 { mod := 2 ^ 48 }, .detwaitI 8 0 {}, .detwaitI 0
    4 {}, .detwaitI 0 0 { mod := 2 ^ 48 }, .contextWakePass 8 0, .contextWakePass 0 4, .loopI 8 0 {}, .loopI 0 4 {}, .loopI 0 0 { mod := 2 ^ 48 },
    .endloopI 8 0 {}, .endloopI 0 4 {}, .endloopI 0 0 { mod := 2 ^ 48 }, .jumpI 8 0 {}, .jumpI 0 4 {}, .jumpI 0 0 { mod := 2 ^ 48 }, .brzI 8 0 {}] :
    List Instr), c.wf = false := by decide +kernel

/-- Ill-formed commands, one for each check of `Sys2Proof/WellFormed.lean`, are refused. -/
theorem ill_formed_refused_3 : ∀ c ∈ ([.brzI 0 4 {}, .brzI 0 0 { mod := 2 ^ 48 }, .brnzI 8 0 {}, .brnzI 0 4 {}, .brnzI 0 0 { mod := 2 ^ 48 }, .setsI 8
    0 {}, .setsI 0 4 {}, .setsI 0 0 { mod := 2 ^ 48 }, .addsI 8 0 {}, .addsI 0 4 {}, .addsI 0 0 { mod := 2 ^ 48 }, .bucketI 8 0 {}, .bucketI 0 4 {},
    .bucketI 0 0 { mod := 2 ^ 48 }, .operationRetire 8 0, .parityError 8 0 0, .parityReplayReissue 8 0, .accParityError 8 0 0, .debugWindowRead (.cpu
    4) 0 0, .debugWindowWrite (.cpu 4) 0 [], .spmInit 8, .spmPowerupInitDone 8, .spmResValidWrite 8 0 0, .spmResValidWrite 0 16 0, .acttabWrite 8 0 0
    0, .acttabWrite 0 8 0 0, .acttabWrite 0 0 128 0, .wchGroupFetch true 16, .wchMatchTimeout true 16, .wchPacketHop 8 0, .wchBypassSwitch 8,
    .pqEnable 64 0, .pqDisable 64 0, .pqFlush 64, .pqFlushComplete 64, .poolRevoke 32 true 0, .poolBumpComplete 32, .swPop .sup 4, .swPop (.cpu 4) 0,
    .swAlloc .sup 4, .swAlloc (.cpu 4) 0, .swRelease .sup 4, .swRelease (.cpu 4) 0, .swPush .sup 4 0, .swPush (.cpu 4) 0 0, .fmtSourcePop 16,
    .fmtStreamPush 48, .fmtDeadline 48, .fmtSourceEnable 16 0, .fmtStreamEnable 48 0, .fmtStreamDisable 48 0, .fmtSourceDisable 16 0, .fmtCoefWrite 8
    0 0, .fmtCoefWrite 0 448 0, .dppBindPop 4, .dppItemPush 8, .dppSlotAbort 8, .vencPicturePop 2 0, .vencPicturePop 0 16, .vencPictureStart 2 0] :
    List Instr), c.wf = false := by decide +kernel

/-- Ill-formed commands, one for each check of `Sys2Proof/WellFormed.lean`, are refused. -/
theorem ill_formed_refused_4 : ∀ c ∈ ([.vencPictureStart 0 16, .vencRowBoundary 2, .vencPictureComplete 2 0, .vencPictureComplete 0 16, .vencDeadline
    2 0, .vencDeadline 0 16, .vencSessionEnable 2 0 0, .vencSessionEnable 0 16 0, .vencSessionDisable 2 0 0, .vencSessionDisable 0 16 0,
    .vencCmdTailWrite 2 0, .forceIdr 2, .markLong 2, .unmark 2, .holdCmd 2, .releaseCmd 2, .setRate 2, .setQp 2, .endSession 2, .vdecInputPop 8,
    .vdecNalUnit 8 ⟨0, .other, none⟩, .vdecBudgetExhausted 8 true, .vdecPictureComplete 8, .vdecOutput 8 0, .vdecOutput 0 64, .vdecDrain 8,
    .vdecSessionDisable 8 0, .getS 4 0, .getM 4 0 true, .upgrade 4 0, .putDirty 4 0, .syncKeep 4 0, .syncDrop 4 0, .dropLine 4 0, .cboClean 4 0,
    .cboFlush 4 0, .cboInval 4 0 0, .cboInval 0 0 4, .cpuPoisonAccess 4 0 .load, .snoopTimeout 4 0 0 .getS 0, .snoopTimeout 0 0 4 .getS 0, .flushAll
    4, .flushAllDone 4, .cpuStoreHit 4 0 [], .cacheLineEviction 4 0, .memRead (.cpu 4) .ctrl 0 0 0, .memWrite (.cpu 4) .ctrl 0 [] 0 0 0 true,
    .memStarve 8, .memLineWindow 8, .mr4Poll 16 0 0, .refreshDue 16 0 true, .refreshDue 0 16 true, .refreshForced 16 0, .refreshForced 0 16,
    .retrainDue 16, .retrainComplete 16 true, .dramWriteComplete 8, .pcieLinkTrain 2, .pcieInboundRequest 2 true 0 0 [] true, .pcieInboundRequest 0
    true 6 0 [] true] : List Instr), c.wf = false := by decide +kernel

/-- Ill-formed commands, one for each check of `Sys2Proof/WellFormed.lean`, are refused. -/
theorem ill_formed_refused_5 : ∀ c ∈ ([.pcieCompletionTimeout 2 0, .pcieCompletionTimeout 0 256, .pcieLinkDown 2 0, .msixUnmask 64,
    .pcieOutboundRequest (.cpu 4) 0 true, .pcieCompletionReceived 2 0 true, .pcieCompletionReceived 0 256 true, .pcieLinkUp 2 0 0,
    .pcieInterruptReceived true 64, .ethTailWrite 2 0 0, .ethTailWrite 0 4 0, .ethTxFrame 2, .ethRxFrame 2 ⟨[], false⟩, .mdioGo 2 0, .ethLinkChange 2
    true 0 true, .i3cCommand 8 0, .i3cWaitRelease 8, .i3cTransferComplete 8 0 0 [], .i3cIbi 8 0, .i3cAbort 8, .i3cRespRead 8, .i3cIbiRead 8,
    .uartRxByte 2 0, .gpioEdge 40 true, .gpioCapFrameRead 8, .illBlankEnd 8, .illFastTrip 8, .illNormalTrip 8, .illMaxonExpiry 8, .illFaultClear 8 0,
    .illChannelDisable 8 0, .evidItemPop 2, .segmentTimeout 2 0, .segmentTimeout 0 16, .pgTimeout 13, .pgFall 13, .hardwareTrip 24, .unitResetTc 8,
    .unitResetCpu 4, .unitResetVenc 2, .unitResetEth 2, .unitResetRelease 22, .tcPowerUp 8, .cpuGateTimeout 4, .wfiEntry 4, .multiwordCaptureRead (.tc
    8) 0, .multiwordCaptureRead (.venc 2) 0, .multiwordCaptureRead (.eth 2) 0, .nopI 0 0 { flags := 2 ^ 8 }, .nopI 0 0 { opa := 2 ^ 16 }, .nopI 0 0 {
    opb := 2 ^ 16 }, .nopI 0 0 { dst := 2 ^ 16 }, .nopI 0 0 { nest := 2 ^ 16 }] : List Instr), c.wf = false := by decide +kernel

/-- Commands with the lowest operands are well formed. -/
theorem well_formed_accepted_0 : ∀ c ∈ ([.registerWrite .sup 0 4 0, .multiwordCaptureRead .sup 0, .lineBoundary 0, .domainStart 0, .domainEnable 0 0,
    .domainDisable 0 0, .predictedFrameStart 0, .fsWindowEnd 0, .frameStart 0 0 true, .countedLine ⟨0, 0, 0, [], false, false⟩, .frameEndPacket 0 0
    true, .embeddedDataPacket 0 0 [] true true, .genericShortPacket 0 0 0 true, .deskewCalibration 0 true 0, .ulpsEntryExit 0 0 true,
    .groupFsBoundExpiry 0, .stripePush 0, .statsPush 0, .sfeCtxEnable 0 0, .uncorrectableHeader 0, .unmatchedPacket 0 0 0 true, .schedNone 0,
    .fsyncSet 0, .fsyncClr 0, .fsyncTrimEdge 0, .fsyncAutoPulseEnd 0, .fsyncDomainWrite 0 0, .illOn 0, .illOff 0, .ctxWake 0, .fmtStart 0, .vencSlice
    0, .irq 0, .maintOpen 0, .maintClose 0, .schedEntryWrite 0 0 0, .goCtx 0 0, .stopCtx 0 0, .contextStopped 0 0, .resumeCtx 0 0, .resetCtx 0 0,
    .haltReq 0, .haltReqClear 0, .instructionFetch 0 0, .nopI 0 0 {}, .haltI 0 0 {}, .yieldI 0 0 {}, .yieldTimeout 0 0, .fenceI 0 0 {}, .depmarkI 0 0
    {}, .barrierI 0 0 {}, .drainI 0 0 {}, .nestImpliedSync 0 0, .waitlineI 0 0 {}, .waitlineSetpfx 0 0 {}, .waitlineRelease 0 0, .deadlineI 0 0 {},
    .deadlineMiss 0 0, .signalI 0 0 {}, .loadI 0 0 {}] : List Instr), c.wf = true := by decide +kernel

/-- Commands with the lowest operands are well formed. -/
theorem well_formed_accepted_1 : ∀ c ∈ ([.loadDataReturn 0 0 0, .storeI 0 0 {}, .loadwI 0 0 {}, .copyI 0 0 {}, .fillI 0 0 {}, .mmulI 0 0 {}, .convI 0
    0 {}, .dwconvI 0 0 {}, .cx0PreemptStart 0 .dpa, .vopI 0 0 {}, .actI 0 0 {}, .reqI 0 0 {}, .reduceI 0 0 {}, .shufI 0 0 {}, .poolmaxI 0 0 {},
    .poolavgI 0 0 {}, .pqpopI 0 0 {}, .pqpushI 0 0 {}, .hallocI 0 0 {}, .hrelI 0 0 {}, .detsubI 0 0 {}, .detwaitI 0 0 {}, .contextWakePass 0 0, .loopI
    0 0 {}, .endloopI 0 0 {}, .jumpI 0 0 {}, .brzI 0 0 {}, .brnzI 0 0 {}, .setsI 0 0 {}, .addsI 0 0 {}, .bucketI 0 0 {}, .operationRetire 0 0,
    .parityError 0 0 0, .parityReplayReissue 0 0, .accParityError 0 0 0, .debugWindowRead .sup 0 0, .debugWindowWrite .sup 0 [], .spmInit 0,
    .spmPowerupInitDone 0, .spmResValidWrite 0 0 0, .acttabWrite 0 0 0 0, .wchGroupFetch true 0, .wchMatchTimeout true 0, .wchPacketHop 0 0,
    .wchBypassSwitch 0, .pqEnable 0 0, .pqDisable 0 0, .pqFlush 0, .pqFlushComplete 0, .poolRevoke 0 true 0, .poolBumpComplete 0, .swPop .sup 0,
    .swAlloc .sup 0, .swRelease .sup 0, .swPush .sup 0 0, .fmtSourcePop 0, .fmtStreamPush 0, .fmtDeadline 0, .fmtSourceEnable 0 0, .fmtStreamEnable 0
    0] : List Instr), c.wf = true := by decide +kernel

/-- Commands with the lowest operands are well formed. -/
theorem well_formed_accepted_2 : ∀ c ∈ ([.fmtStreamDisable 0 0, .fmtSourceDisable 0 0, .fmtCoefWrite 0 0 0, .dppBindPop 0, .dppItemPush 0,
    .dppSlotAbort 0, .vencPicturePop 0 0, .vencPictureStart 0 0, .vencRowBoundary 0, .vencPictureComplete 0 0, .vencDeadline 0 0, .vencSessionEnable 0
    0 0, .vencSessionDisable 0 0 0, .vencCmdTailWrite 0 0, .forceIdr 0, .markLong 0, .unmark 0, .holdCmd 0, .releaseCmd 0, .setRate 0, .setQp 0,
    .endSession 0, .vdecInputPop 0, .vdecNalUnit 0 ⟨0, .other, none⟩, .vdecBudgetExhausted 0 true, .vdecPictureComplete 0, .vdecOutput 0 0, .vdecDrain
    0, .vdecSessionDisable 0 0, .getS 0 0, .getM 0 0 true, .upgrade 0 0, .putDirty 0 0, .syncKeep 0 0, .syncDrop 0 0, .dropLine 0 0, .cboClean 0 0,
    .cboFlush 0 0, .cboInval 0 0 0, .cpuPoisonAccess 0 0 .load, .snoopTimeout 0 0 0 .getS 0, .flushAll 0, .flushAllDone 0, .cpuStoreHit 0 0 [],
    .cacheLineEviction 0 0, .memRead .sup .ctrl 0 0 0, .memWrite .sup .ctrl 0 [] 0 0 0 true, .memStarve 0, .memLineWindow 0, .mr4Poll 0 0 0,
    .refreshDue 0 0 true, .refreshForced 0 0, .retrainDue 0, .retrainComplete 0 true, .dramWriteComplete 0, .pcieLinkTrain 0, .pcieInboundRequest 0
    true 0 0 [] true, .pcieCompletionTimeout 0 0, .pcieLinkDown 0 0, .msixUnmask 0] : List Instr), c.wf = true := by decide +kernel

/-- Commands with the lowest operands are well formed. -/
theorem well_formed_accepted_3 : ∀ c ∈ ([.pcieOutboundRequest .sup 0 true, .pcieCompletionReceived 0 0 true, .pcieLinkUp 0 0 0, .pcieInterruptReceived
    true 0, .ethTailWrite 0 0 0, .ethTxFrame 0, .ethRxFrame 0 ⟨[], false⟩, .mdioGo 0 0, .ethLinkChange 0 true 0 true, .i3cCommand 0 0, .i3cWaitRelease
    0, .i3cTransferComplete 0 0 0 [], .i3cIbi 0 0, .i3cAbort 0, .i3cRespRead 0, .i3cIbiRead 0, .uartRxByte 0 0, .gpioEdge 0 true, .gpioCapFrameRead 0,
    .illBlankEnd 0, .illFastTrip 0, .illNormalTrip 0, .illMaxonExpiry 0, .illFaultClear 0 0, .illChannelDisable 0 0, .evidItemPop 0, .segmentTimeout 0
    0, .pgTimeout 0, .pgFall 0, .hardwareTrip 0, .unitResetTc 0, .unitResetCpu 0, .unitResetVenc 0, .unitResetEth 0, .unitResetRelease 0, .tcPowerUp
    0, .cpuGateTimeout 0, .wfiEntry 0] : List Instr), c.wf = true := by decide +kernel

/-! ## The states of the witnesses -/

/-- A state whose registers hold the values listed, the others their reset values. -/
def wReg (l : List (Nat × Word)) (s : State) : State := l.foldl (fun t p => t.setReg p.1 p.2) s
/-- A master domain that runs. -/
def wDom : Dom := { running := true, issued := true, frame := 7, line := 5, lineAt := 327680000, period := 65536000, flenM1 := 99 }
/-- A slaved domain that runs, before its first interval. -/
def wSlave : Dom := { running := true, issued := true, slaved := true, frame := 9, line := 4, flenM1 := 9, period := 65536000, floor := 1024 }
/-- Entry `n` armed on domain 1 at line `line`, position 3/256 of it, with an action and its words. -/
def wEnt (n code line : Nat) (w2 w3 : Word) (s : State) : State :=
  wReg [(Addr.lptCtrl, 1), (Addr.lptSchedEnt n, w32 (2 ^ 31 + 2 ^ 28 + code * 2 ^ 24 + 3 * 2 ^ 16 + line)),
    (Addr.lptSchedEnt n + 4, w32 (5 * 2 ^ 16)), (Addr.lptSchedEnt n + 8, w2), (Addr.lptSchedEnt n + 12, w3)] s
/-- Such an entry with its domain a running master. -/
def wDue (n code : Nat) (w2 w3 : Word) (s : State) : State := (wEnt n code 5 w2 w3 s).setDom 1 wDom
/-- Such an entry with its domain a running slave. -/
def wDueS (n code : Nat) (w2 w3 : Word) (s : State) : State := (wEnt n code 4 w2 w3 s).setDom 1 wSlave
/-- The register at an address, one that exists. -/
def wRef (a : Nat) : RegRef := (regAt a).getD ⟨⟨.sfeCtrl, 0, [], 0, .ro, 0, []⟩, [], 0⟩
/-- A field of it. -/
def wField (a i : Nat) : Field := lget ⟨31, 0, [], none⟩ (wRef a).fields i
/-- Every domain powered. -/
def wUp : State := { pwr := { step := 10 } }
/-- Pool 2 with 8 buffers of 64 KiB, generation 5, index 3 held by `who`; queue 4 enabled with 4 credits. -/
def wPass (who : Nat) (s : State) : State :=
  wReg [(Addr.passCtrl, 1), (Addr.passPlCfg 2, 8), (Addr.passPlSize 2, 0x10000), (Addr.passPlBaseLo 2, 0x10000000), (Addr.passPlBaseHi 2, 1),
      (Addr.passPqCfg 4, 0x80000004)]
    { s with pass := { queues := [(4, { credits := 4 })], pools := [(2, { free := [0, 1, 2, 4, 5, 6, 7], held := [(3, who)], gen := 5 })] } }
/-- A frame of 256 x 8 of RAW12 being received into 16-bit pixels. -/
def wFrame : SfeFrame := { fid := 1, frame := 7, domain := 1, cfg := [0x80000001, 0x00080100, 0, 0, 0, 0, 0, 64], bits := 12 }
/-- SFE, link 15 and context 15 enabled, the context on that link and VC 2 for RAW12. -/
def wSfe (s : State) : State :=
  wReg [(Addr.sfeCtrl, 1), (Addr.sfeLnkCfg 15, 0x80000000), (Addr.sfeCtxCtrl 15, 0x80000001), (Addr.sfeCtxSrc 15, 0x000F022C),
      (Addr.sfeCtxSize 15, 0x00080100)] s
/-- That context receiving a frame. -/
def wRecv (f : SfeFrame) (s : State) : State := (wSfe s).setSc 15 { frames := [f], recv := true, lines := 2, height := f.height, lineB := lineBytes f.width f.bits }
/-- DRAM that answers, one firewall window over all of it that grants every access. -/
def wDram (s : State) : State :=
  wReg [(Addr.memStatus, 0x80000000), (Addr.dsvFwLimit 0, 0x0FFFFFFF), (Addr.dsvFwPerm 0, 0xFFFFFFFF), (Addr.dsvFwCtrl 0, 0x80000000)] s
/-- MOD of an instruction from the values of its fields, each with its lowest bit. -/
def wMod (l : List (Nat × Nat)) : Insn := { mod := (l.map fun p => p.2 * 2 ^ (p.1 - 80)).foldl (· + ·) 0 }
/-- A window entry of context 3 of core 7. -/
def wSlot (op : Nat) (w : Insn) : Slot := { id := 9, cx := 3, idx := 5, op := op, w := w, unit := opUnit op }
/-- That entry alone in the window of a READY context. -/
def wIss (op : Nat) (w : Insn) (x : Ctx) (s : State) : State :=
  (s.setCore 7 { s.core 7 with slots := [wSlot op w], nextId := 10 }).setCtx 31 { x with state := .ready, fetchIdx := 6, nInstr := 9, hold := holdsFetch op }
/-- The header of an image of one NOP (R253). -/
def wImage (crc : Nat) : Bytes :=
  leBytes 4 0x3149504B ++ leBytes 2 1 ++ leBytes 2 64 ++ leBytes 4 80 ++ leBytes 4 1 ++ leBytes 4 64 ++ List.replicate 36 0 ++ leBytes 4 crc ++
    List.replicate 20 0
/-- An operand of 32 bytes by 2 rows, dense, in a space. -/
def wOpd (space addr : Nat) : Desc := { addr := addr, space := space, ext := [32, 2, 1, 1], str := [32, 64, 64] }
/-- Operands 0 and 255 of a movement. -/
def wOps (a d : Desc) : Ctx := { descs := [(0, a), (255, d)] }
/-- The fields of such a movement. -/
def wMv (md : Insn) : Insn := { md with opa := 0, dst := 255, nest := 65535 }
/-- A scratchpad with two bytes and a poisoned sector. -/
def wSpm (s : State) : State := s.setCore 7 { s.core 7 with spm := [(0, 5), (33, 6)], spmPoison := [(1, true)] }
/-- An array instruction's operands: 1 x 1 pixel of 4 channels in a tray, 4 x 2 weights, an accumulator of 2. -/
def wArr : Ctx :=
  { descs := [(0, { space := 2, ext := [4, 1, 1, 1], str := [4, 4, 4] }), (1, { ext := [4, 1, 1, 2], str := [4, 4, 4] }),
      (2, { space := 1, dtype := 4, ext := [2, 1, 1, 1], str := [8, 8, 8] })] }
/-- An operation of context 3 in flight on a unit. -/
def wFly (op : Nat) (w : Insn) : Slot := { wSlot op w with issued := true, running := true }
/-- A write of an element. -/
def wW (na nib bits : Nat) (p : Bool) : EWrite := ⟨na, nib, bits, p⟩
/-- Pool 2 and queue 4 as before, the queue holding index 3 of the pool. -/
def wQd (s : State) : State :=
  let s := wPass 31 s
  { s with pass := { queues := [(4, { items := [⟨s.handle 2 3, 0x1122334455667788, 0x00050006⟩], credits := 3 })],
                     pools := [(2, { free := [0, 1, 2, 4, 5, 6, 7], queued := [3], gen := 5 })] } }
/-- The handle of index 3 of pool 2. -/
def wHd : Word := mkHandle 2 5 3
/-- Core 7's domain up. -/
def wTc (s : State) : State := wReg [(Addr.pwrTcStatus, 0x8080)] s
/-- A pop that waits on queue 4. -/
def wWait : Slot := { wSlot 0x40 (wMod [(80, 4), (86, 12)]) with issued := true, waits := true }
/-- A push to queue 4 that waits. -/
def wPushW : Slot := { wSlot 0x41 (wMod [(80, 4), (94, 12)]) with issued := true, waits := true, item := some { handle := wHd, md := 5 } }
/-- A COPY of context 3 of core 7 in flight, of 64 bytes from byte 64 to byte 512 of the scratchpad. -/
def wCopy : Slot := wFly 0x13 (wMv {})
/-- Core 7 with the operations listed, the descriptors of context 3 those of that COPY. -/
def wPar (l : List Slot) : State := ({ cores := [(7, { slots := l })] } : State).setCtx 31 (wOps (wOpd 0 64) (wOpd 0 512))
/-- The same of a COPY that reads entries 32 to 95 of the accumulator. -/
def wParAcc (l : List Slot) : State := ({ cores := [(7, { slots := l })] } : State).setCtx 31 (wOps { wOpd 1 32 with dtype := 4 } { wOpd 0 512 with dtype := 4 })
/-- A fill group of cores 5 and 7 for 8,192 bytes of DRAM, asked for by core 7. -/
def wGrp : FillGrp := { gid := 3, src := 0x100000040, len := 8192, mask := 0xA0, reqs := [⟨7, 3, 9⟩], since := 0 }
/-- That group, fetching for core 7. -/
def wGrpF : FillGrp := { wGrp with fetching := true, targets := 0x80 }
/-- A packet of two bytes of the group for a mask of cores. -/
def wPkt (m : Nat) : ChainPkt := ⟨m, 3, 0x100000040, none, [7, 8], [false]⟩
/-- The chain enabled and split. -/
def wSplit (s : State) : State := wReg [(Addr.wchCtrl, 0x80000001)] s
/-- Source 15 of the formatter on queue 4, 16 columns of Y8 by 8 rows. -/
def wSrc (s : State) : State :=
  wReg [(Addr.fmtCtrl, 1), (Addr.fmtSrcCfg 15, 0x84040010), (Addr.fmtSrcSize 15, 8), (Addr.fmtSrcStride 15, 64)] s
/-- Stream 47 of that source: 16 x 8 out of 16 x 8 into pool 2 and queue 4, format `f`. -/
def wStr (f : Nat) (s : State) : State :=
  wReg [(Addr.fmtOsCtrl 47, 0x80000F00), (Addr.fmtOsFmt 47, w32 (f * 2 ^ 28)), (Addr.fmtOsCropWh 47, 0x80010), (Addr.fmtOsOutWh 47, 0x80010),
    (Addr.fmtOsStride 47, 64), (Addr.fmtOsDest 47, 0x04020000)] s
/-- Queue 4 with an item of pool 2 whose metadata are `md`. -/
def wItem (md : BitVec 64) (s : State) : State :=
  let s := wPass 31 s
  { s with pass := { queues := [(4, { items := [⟨s.handle 2 3, md, 0xFFFFFFFF⟩], credits := 3 })],
                     pools := [(2, { free := [0, 1, 2, 4, 5, 6, 7], queued := [3], gen := 5 })] } }
/-- A finished output in index 3 of pool 2. -/
def wFin : FmtDone := ⟨0x7F, 9, some (2, 3)⟩
/-- The DPP enabled, its binding 3 on queue 4. -/
def wDpp (s : State) : State := wReg [(Addr.dppCtrl, 1), (Addr.dppBindCfg 3, 0x84040402)] s
/-- A slot of the DPP that runs a job of binding 3. -/
def wRun : DppSlot := { phase := .running, src := 7, seq := 5, out := some (2, 3), status := 0, recs := 3 }
/-- Session 15 of engine 1, AVC of 64 x 64, on queue 4 and pool 2; `who` holds index 3 of the pool. -/
def wVenc (who : Nat) (s : State) : State :=
  wReg [(Addr.vencCtrl 1, 1), (Addr.vencSCtrl 1 15, 0x840A0100), (Addr.vencSSize 1 15, 0x400040), (Addr.vencSGop 1 15, 0x10100000),
    (Addr.vencSFps 1 15, 0x1E0001), (Addr.vencSIo 1 15, 0x04040002), (Addr.passPlSize 2, 0x20000)] (wPass who s)
/-- A picture of the session. -/
def wPic : VPic := { item := ⟨wHd, 0x0020000800070000, 0xFFFFFFFF⟩, todSec := 1, todTick := 2, posFrame := 7, pos := 5, frame := 0, order := 0 }
/-- That picture in progress. -/
def wPrg : VRun := { pic := wPic, idr := true, recon := none, pool := 2, buf := 3, q := 4, refs := [], poc := 0, key := 0 }
/-- An item of the session that waits to be pushed. -/
def wOut : VDone := ⟨0x7F, 2, 3, 4, false⟩
/-- Engine 1's ring with an entry at its head, 64 reference buffers, and session 15 on. -/
def wRing (l : Bytes) (s : State) : State :=
  (wReg [(Addr.vencCmdBaseLo 1, 0x10000), (Addr.vencCmdBaseHi 1, 1), (Addr.vencCmdTail 1, 1), (Addr.vencRefCfg 1, 64), (Addr.vencSGop 1 15, 0x11100000)]
    (wVenc 3 (wDram s))).setBytes 0x100010000 l
/-- Decoder session 7 on queue 4 and pool 2. -/
def wVdec (s : State) : State :=
  wReg [(Addr.vdecCtrl, 1), (Addr.vdecSCtrl 7, 0x80000000), (Addr.vdecSIo 7, 0x04040002), (Addr.vdecSMaxsize 7, 0x400040)] s
/-- A parameter set of 64 x 64. -/
def wSps : SpsInfo := ⟨3, true, 30, 64, 64, 0, 0, 64, 64, 1, false, none⟩
/-- A later slice of two areas without references. -/
def wSl : SliceInfo := ⟨3, true, false, true, false, false, true, true, true, 0, [], [], [0, 15], []⟩
/-- A picture of the decoder in progress. -/
def wDpic : VdPic := { buf := 1, sps := wSps, intra := true, ref0 := none, isRef := true, out := true }
/-- Input of 16 bytes in index 3 of pool 2. -/
def wIn : VdIn := { item := ⟨wHd, 0x0020000800070000, 0xFFFFFFFF⟩, len := 16, cut := false }
/-- Session 7 with given contents, the engine on it. -/
def wVd (x : VdSess) (s : State) : State := wVdec (wDram (wPass hVdec { s with vdec := { sess := [(7, x)], cur := some 7 } }))
/-- Cores 0-3 joined, with copies of the line at 0x100000040 in the states given. -/
def wCoh (l : List (Nat × Moesi)) (s : State) : State :=
  let s := wReg [(Addr.cohStatus, 0xF)] (wDram s)
  l.foldl (fun t p => t.setCl p.1 0x100000040 (some ⟨p.2, List.replicate 64 7, (false, true)⟩)) s
/-- A link of port 0 of an endpoint. -/
def wLink (m : Nat) (s : State) : State := wReg [(Addr.pcieCtrl, 0x80000003), (Addr.pcieStatus, w32 (m * 2 ^ 28 + 0xC4C4))] s
/-- A MAC enabled with its link up, ring `q` with a descriptor at 0x100000000 and its tail behind it. -/
def wEth (q : Nat) (d : Bytes) (s : State) : State :=
  (wReg [(Addr.ethCtrl 1, 0x80000004), (Addr.ethStatus 1, 0x80000200), (Addr.ethQBase 1 q + 4, 1), (Addr.ethQTail 1 q, 1)] (wDram s)).setBytes 0x100000000 d
/-- A descriptor of a buffer of `n` bytes at 0x100001000 with flags. -/
def wDesc (n fl : Nat) : Bytes := leBytes 8 0x100001000 ++ leBytes 2 n ++ leBytes 2 fl ++ List.replicate 20 0
/-- The ACTIVE state with every core powered. -/
def wAct (s : State) : State := wReg [(Addr.pwrState, 2), (Addr.pwrTcStatus, 0xFFFF), (Addr.pwrCpuStatus, 0xF)] { s with pwr := { s.pwr with step := 10 } }
/-- An ACTIVE device with the supervisor's image running and a command of `n` bytes with payload `l` in page `p`. -/
def wMail (p : Page) (cmd n : Nat) (l : Bytes) (s : State) : State :=
  let s := wAct { s with dsv := { s.dsv with fw := some ⟨false, 3, [1, 2]⟩, order := p :: s.dsv.order } }
  ((wReg [(Addr.dsvMbstatus (pageNum p), 0xC0000000), (Addr.dsvCmdbuf (pageNum p), w32 (n * 65536 + cmd)), (Addr.dsvCmdbuf (pageNum p) + 4, 0x12345678)] s).putWords
    (Addr.dsvCmdbuf (pageNum p) + 16) (toWords l)).takeCmd p
/-- A record of one operation for proposal `id` at PROT_SEQ `q`. -/
def wRec (id q op a v m : Nat) : Bytes :=
  leBytes 4 0x44504352 ++ leBytes 2 1 ++ [1, 0] ++ List.replicate 8 0 ++ leBytes 4 id ++ leBytes 4 q ++ leBytes 4 60 ++ List.replicate 4 0 ++ List.replicate 32 7
    ++ leBytes 4 op ++ leBytes 4 a ++ leBytes 4 v ++ leBytes 4 m
/-- Proposal 5 with operation `op` pending, KS0 set to a P-256 key, and an endorsement of proposal `id` with a signature of `n` bytes in the driver's page. -/
def wEnd (id n op a v m : Nat) (s : State) : State :=
  wMail .driver 0x11 (n + 4) (leBytes 4 id ++ List.replicate n 9)
    { s with dsv := { s.dsv with keys := [(0, (1, List.replicate 64 3))], proposal := some ⟨5, wRec 5 0 op a v m, 100⟩ } }
/-- Queue 4 with an item of pool 2, the supervisor's forward pool 3 and queue 5; `perm` is what window 1 grants over the buffers of pool 2. -/
def wEvid (perm : Word) (s : State) : State :=
  let s := wPass 31 (wDram s)
  let s := wReg [(Addr.vencEvidCfg 1, 0x400), (Addr.dsvEvidFwd, 0x05030000), (Addr.dsvChainSize, 3), (Addr.dsvSegCfg, 0xFF0064), (Addr.passPlSize 2, 256), (Addr.passPlSize 3, 256),
    (Addr.passPlBaseHi 3, 2), (Addr.passPlCfg 3, s.reg (Addr.passPlCfg 2)), (Addr.dsvFwBase 1, 0), (Addr.dsvFwLimit 1, 0x0FFFFFFF), (Addr.dsvFwPerm 1, perm), (Addr.dsvFwCtrl 1, 0x80000000)] s
  { s with dsv := { s.dsv with booted := true },
           pass := { queues := [(4, { items := [⟨s.handle 2 3, 0x1122334455667788, 0xFFFFFFFF⟩], credits := 3 })],
                     pools := [(2, { free := [0, 1, 2, 4, 5, 6, 7], queued := [3], gen := 5 }), (3, { free := [6, 7], gen := 1 })] } }
/-- That state with a picture of 64 bytes of stream in the item's buffer, for session 15 with a segment open. -/
def wSealed : State :=
  (wEvid 0xA00 { dsv := { segs := [(31, some ⟨9, [], 98, 1, 1, 1, 1, 0, false, 0⟩)] } }).setBytes 4563403520
    (leBytes 4 64 ++ leBytes 4 16 ++ leBytes 4 77 ++ List.replicate 26 0 ++ [15] ++ List.replicate 90 5)
/-- No key slot set. -/
def wNoKeys (s : State) : State := { s with dsv := { s.dsv with keys := [] } }
/-- No core gated. -/
def wTg (s : State) : State := wReg [(Addr.pwrTcGate, 0)] s

/-- A wait that is not for a line without a position. -/
theorem wait_ne_line_none (w : CxWait) (h : (match w with | .line _ none => false | _ => true) = true) : ∀ d, w ≠ .line d none := by
  rintro d rfl; cases h
/-- A wait that is not for a line. -/
theorem wait_ne_line (w : CxWait) (d : Nat) (h : (match w with | .line _ _ => false | _ => true) = true) : ∀ p, w ≠ .line d p := by
  rintro p rfl; cases h
/-- DRAM answers over the whole buffer of the sealed picture. -/
theorem sealed_ok : ∀ x, 4563403520 ≤ x → x < 4563403520 + wSealed.plSize 2 → wSealed.memOk x = true := by
  intro x h1 h2
  have hp : wSealed.plSize 2 = 256 := by decide +kernel
  rw [hp] at h2
  obtain ⟨k, rfl⟩ := Nat.exists_eq_add_of_le h1
  exact (by decide +kernel : ∀ k, k < 256 → wSealed.memOk (4563403520 + k) = true) k (by omega)

/-! ## Witnesses -/

/-- The hypotheses of `Obligations.MasterDomainCountsLines` can be met, clause by clause. -/
theorem witness_master_domain_counts_lines :
    (∃ (d : Nat) (s : State), d < 8 ∧ (s.dom d).running = true ∧ (s.dom d).slaved = false ∧ (s.dom d).line < (s.dom d).flenM1) ∧
    (∃ (d : Nat) (s : State), d < 8 ∧ (s.dom d).running = true ∧ (s.dom d).slaved = false ∧ (s.dom d).flenM1 ≤ (s.dom d).line ∧ s.reg
      (Addr.lptLdPeriod d) ≠ 0) :=
  ⟨⟨1, (wDue 3 1 0 0 {}), by decide +kernel⟩,
   ⟨7, ((wReg [(Addr.lptLdPeriod 7, 65536000), (Addr.lptLdFlen 7, 50), (Addr.lptFsync 3, 0xB8001010), (Addr.lptFsync 4, 0xB8000010)] {}).setDom 7
      { wDom with line := 99, frame := 4294967295 }), by decide +kernel⟩⟩

/-- The hypotheses of `Obligations.PeriodZeroStopsAtFrameEnd` can be met, clause by clause. -/
theorem witness_period_zero_stops_at_frame_end :
    (∃ (d : Nat) (s : State), d < 8 ∧ (s.dom d).running = true) ∧
    (∃ (d : Nat) (s : State), d < 8 ∧ (s.dom d).running = true ∧ (s.dom d).slaved = false ∧ (s.dom d).flenM1 ≤ (s.dom d).line ∧ s.reg
      (Addr.lptLdPeriod d) = 0) ∧
    (∃ (d : Nat) (s : State) (at_ : _), d < 8 ∧ (s.dom d).running = false ∧ (s.dom d).issued = true ∧ (s.dom d).arming = some at_) :=
  ⟨⟨0, (({} : State).setDom 0 wDom), by decide +kernel⟩,
   ⟨7, (({} : State).setDom 7 { wDom with line := 99 }), by decide +kernel⟩,
   ⟨0, (({} : State).setDom 0 { issued := true, frame := 4294967295, arming := some 5 }), 5, by decide +kernel⟩⟩

/-- The hypotheses of `Obligations.DomainsStartAndStop` can be met, clause by clause. -/
theorem witness_domains_start_and_stop :
    (∃ (d : Nat) (v : Word) (s : State), d < 8 ∧ (s.dom d).running = false ∧ bit v 31 = true ∧ s.rb (Addr.lptLdCtrl d) 31 = false ∧ fld v 30 29 = 0 ∧
      fld v 30 29 = s.rf (Addr.lptLdCtrl d) 30 29 ∧ s.rb Addr.lptCtrl 0 = true ∧ s.reg (Addr.lptLdPeriod d) ≠ 0 ∧ s.ldFlen d ≠ 0 ∧ (s.dom d).arming =
      none) ∧
    (∃ (d : Nat) (v : Word) (s : State), d < 8 ∧ (s.dom d).running = false ∧ bit v 31 = true ∧ s.rb (Addr.lptLdCtrl d) 31 = false ∧ fld v 30 29 = 1 ∧
      fld v 30 29 = s.rf (Addr.lptLdCtrl d) 30 29 ∧ s.rb Addr.lptCtrl 0 = true ∧ s.ldFlen d ≠ 0) ∧
    (∃ (d : Nat) (at_ : Nat) (s : State), d < 8 ∧ (s.dom d).running = false ∧ (s.dom d).arming = some at_) ∧
    (∃ (d : Nat) (v : Word) (s : State), d < 8 ∧ (s.dom d).running = true ∧ bit v 31 = false ∧ s.rb (Addr.lptLdCtrl d) 31 = true) ∧
    (∃ (d : Nat) (s : State), d < 8 ∧ s.rb Addr.lptCtrl 0 = false ∧ (s.dom d).running = false ∧ (s.dom d).arming = none ∧ s.rb (Addr.lptLdCtrl d) 31 =
      true ∧ s.ldSlaved d = false ∧ s.reg (Addr.lptLdPeriod d) ≠ 0 ∧ s.ldFlen d ≠ 0) ∧
    (∃ (s : State), s.rb Addr.lptCtrl 0 = true) :=
  ⟨⟨0, 0x80000000, (wReg [(Addr.lptCtrl, 1), (Addr.lptLdPeriod 0, 5), (Addr.lptLdFlen 0, 9)] {}), by decide +kernel⟩,
   ⟨7, 0xA0000000, (wReg [(Addr.lptCtrl, 1), (Addr.lptLdCtrl 7, 0x20000000), (Addr.lptLdFlen 7, 1)] {}), by decide +kernel⟩,
   ⟨0, 100, ((wReg [(Addr.lptLdPeriod 0, 5), (Addr.lptLdFlen 0, 9)] {}).setDom 0 { arming := some 100 }), by decide +kernel⟩,
   ⟨0, 0, ((wReg [(Addr.lptLdCtrl 0, 0x80000000)] {}).setDom 0 wDom), by decide +kernel⟩,
   ⟨7, (wReg [(Addr.lptLdCtrl 7, 0x80000000), (Addr.lptLdPeriod 7, 65536000), (Addr.lptLdFlen 7, 1)] {}), by decide +kernel⟩,
   ⟨((wReg [(Addr.lptCtrl, 1), (Addr.lptLdCtrl 7, 0x80000000)] { pins := [(15, { active := true, edges := [(4, true)] })] }).setDom 7 wDom),
      by decide +kernel⟩⟩

/-- The hypotheses of `Obligations.SlavedDomainPredictsAndCoasts` can be met, clause by clause. -/
theorem witness_slaved_domain_predicts_and_coasts :
    (∃ (d : Nat) (s : State), d < 8 ∧ (s.dom d).predicts = true) ∧
    (∃ (d : Nat) (w : Nat) (s : State), d < 8 ∧ (s.dom d).running = true ∧ (s.dom d).slaved = true ∧ (s.dom d).nextEnd = some w ∧ (s.dom d).coasted <
      4) ∧
    (∃ (d : Nat) (w : Nat) (s : State), d < 8 ∧ (s.dom d).running = true ∧ (s.dom d).slaved = true ∧ (s.dom d).nextEnd = some w ∧ 4 ≤ (s.dom
      d).coasted) :=
  ⟨⟨0, ((wReg [(Addr.lptLdFlen 0, 12)] {}).setDom 0 { wSlave with accepted := true }), by decide +kernel⟩,
   ⟨0, 67174400, (({} : State).setDom 0 { wSlave with provisional := true, open_ := [67174400, 99999999] }), by decide +kernel⟩,
   ⟨7, 67174400, ((wReg [(Addr.lptLdCtrl 7, 0xA0000000)] {}).setDom 7 { wSlave with provisional := true, coasted := 4, open_ := [67174400] }),
      by decide +kernel⟩⟩

/-- The hypotheses of `Obligations.DueEntryFires` can be met, clause by clause. -/
theorem witness_due_entry_fires : ∃ (n : Nat) (code : Nat) (s : State) (c : _), s.entDue n code ∧ s.namesFaulted (s.ent n) = false ∧ (c, code) ∈
    [(Instr.schedNone n, 0), (.fsyncSet n, 1), (.fsyncClr n, 2), (.illOn n, 3), (.illOff n, 4), (.ctxWake n, 5), (.fmtStart n, 6), (.vencSlice n, 7),
    (.irq n, 8), (.maintOpen n, 9), (.maintClose n, 10)] :=
  ⟨0, 1, (wDue 0 1 0x8001 0 {}), (Instr.fsyncSet 0), by unfold State.entDue; decide +kernel⟩

/-- The hypotheses of `Obligations.PinActionsDriveTheirPins` can be met, clause by clause. -/
theorem witness_pin_actions_drive_their_pins :
    (∃ (n : Nat) (s : State), s.entDue n 0) ∧
    (∃ (n : Nat) (s : State), s.entDue n 1) ∧
    (∃ (n : Nat) (s : State), s.entDue n 2) ∧
    (∃ (i : Nat) (at_ : Nat) (level : Bool) (rest : List (Nat × Bool)) (s : State), i < 16 ∧ (s.pin i).edges = (at_, level) :: rest) ∧
    (∃ (i : Nat) (at_ : Nat) (rest : List Nat) (s : State), i < 16 ∧ (s.pin i).ends = at_ :: rest) ∧
    (∃ (i : Nat) (v : Word) (s : State), i < 16 ∧ fld v 29 27 ≠ s.rf (Addr.lptFsync i) 29 27) :=
  ⟨⟨0, (wDue 0 0 0xffff 0 {}), by unfold State.entDue; decide +kernel⟩,
   ⟨511, (wReg [(Addr.lptFsync 0, 0x08000000), (Addr.lptFsync 15, 0x08001000)] (wDue 511 1 0x8001 0 {})), by unfold State.entDue; decide +kernel⟩,
   ⟨511, (wReg [(Addr.lptFsync 0, 0x08000000), (Addr.lptFsync 15, 0x08001000)] (wDue 511 2 0x8001 0 {})), by unfold State.entDue; decide +kernel⟩,
   ⟨15, 9, true, [(10, false)], (({ pins := [(15, { edges := [(9, true), (10, false)] })] } : State)), by decide +kernel⟩,
   ⟨15, 9, [12], (({ pins := [(15, { ends := [9, 12], active := true })] } : State)), by decide +kernel⟩,
   ⟨15, 0x38000000, (({ pins := [(15, { ends := [9], active := true })] } : State)), by decide +kernel⟩⟩

/-- The hypotheses of `Obligations.CtxWakeOnlyWakesItsDomain` can be met, clause by clause. -/
theorem witness_ctx_wake_only_wakes_its_domain :
    (∃ (n : Nat) (k : Nat) (s : State), (∀ p, (s.ctx k).wait ≠ .line (s.ent n).dom p) ∧ s.entDue n 5 ∧ fld (s.ent n).w2 4 0 = k) ∧
    (∃ (n : Nat) (k : Nat) (s : State) (p : _), s.entDue n 5 ∧ fld (s.ent n).w2 4 0 = k ∧ (s.ctx k).wait = .line (s.ent n).dom p ∧ (s.ctx
      k).state.live = true ∧ (s.ctx k).sync = none) :=
  ⟨⟨0, 31, (wDue 0 5 31 0 {}), wait_ne_line _ _ (by decide +kernel), by unfold State.entDue; decide +kernel⟩,
   ⟨511, 3, (wDue 511 5 3 0 { ctxs := [(3, { state := .waitLine, wait := .line 1 (some (7, 3)) })] }), (some (7, 3)),
      by unfold State.entDue; decide +kernel⟩⟩

/-- The hypotheses of `Obligations.InternalActionsReachTheirTargets` can be met, clause by clause. -/
theorem witness_internal_actions_reach_their_targets :
    (∃ (n : Nat) (s : State), s.entDue n 6 ∧ fld (s.ent n).w2 5 0 < 48) ∧
    (∃ (n : Nat) (s : State), s.entDue n 7) ∧
    (∃ (n : Nat) (s : State), s.entDue n 8) ∧
    (∃ (n : Nat) (s : State), s.entDue n 9) ∧
    (∃ (n : Nat) (s : State), s.entDue n 10) :=
  ⟨⟨0, (wDue 0 6 47 0 {}), by unfold State.entDue; decide +kernel⟩,
   ⟨0, (wReg [(Addr.vencSliceCredit 1, 65000)] (wDue 0 7 1 0xFFFF {})), by unfold State.entDue; decide +kernel⟩,
   ⟨511, (wReg [(Addr.lptEvtMask, 0x80000000)] (wDue 511 8 31 0 {})), by unfold State.entDue; decide +kernel⟩,
   ⟨0, (wDue 0 9 1 0xFFFF {}), by unfold State.entDue; decide +kernel⟩,
   ⟨0, (wDueS 0 10 1 0xFFFF {}), by unfold State.entDue; decide +kernel⟩⟩

/-- The hypotheses of `Obligations.IllOnSkipsFaultedChannels` can be met, clause by clause. -/
theorem witness_ill_on_skips_faulted_channels : ∃ (n : Nat) (s : State), s.entDue n 3 :=
  ⟨0, (wReg [(Addr.illCtrl, 1), (Addr.illCfg 0, 0x80000000), (Addr.illCfg 7, 0x80000000), (Addr.illCfg 1, 0x80000000)] (wDue 0 3 0x83 0
    { ills := [(1, {faulted := true})] })), by unfold State.entDue; decide +kernel⟩

/-- The hypotheses of `Obligations.IlluminatorChannelsAreProtected` can be met, clause by clause. -/
theorem witness_illuminator_channels_are_protected :
    (∃ (n : Nat) (s : State), s.entDue n 4) ∧
    (∃ (ch : Nat) (s : State), ch < 8 ∧ (s.ill ch).blank = true) ∧
    (∃ (ch : Nat) (s : State), ch < 8 ∧ (s.ill ch).isOn = true) ∧
    (∃ (ch : Nat) (s : State), ch < 8 ∧ (s.ill ch).isOn = true ∧ (s.ill ch).blank = false ∧ (s.ill ch).faulted = false) ∧
    (∃ (s : State), s.illUv = false) ∧
    (∃ (ch : Nat) (v : Word) (s : State), ch < 8 ∧ bit v 0 = true ∧ (s.ill ch).faulted = true ∧ ((s.ill ch).cause ≠ 3 ∨ s.illUv = false)) ∧
    (∃ (ch : Nat) (v : Word) (s : State), ch < 8 ∧ bit v 0 = true ∧ (s.ill ch).faulted = true ∧ (s.ill ch).cause = 3 ∧ s.illUv = true) ∧
    (∃ (ch : Nat) (v : Word) (s : State), ch < 8 ∧ bit v 31 = false ∧ (s.ill ch).isOn = true) :=
  ⟨⟨0, (wDue 0 4 0x83 0 { ills := [(1, { gate := .rampUp, onAt := 5}), (2, { gate := .rampUp, onAt := 5}), (7, { gate := .rampDown, onAt := 5})] }),
      by unfold State.entDue; decide +kernel⟩,
   ⟨7, (({ ills := [(7, { gate := .rampUp, onAt := 5, blank := true, cfg := 0xF0000})] } : State)), by decide +kernel⟩,
   ⟨7, (({ ills := [(7, { gate := .rampUp, onAt := 5, blank := true, cfg := 0xF0000})] } : State)), by decide +kernel⟩,
   ⟨7, (({ ills := [(7, { gate := .rampUp, onAt := 5, cfg := 0xF0000})] } : State)), by decide +kernel⟩,
   ⟨(wReg [(Addr.illCtrl, 1), (Addr.illCfg 0, 0x80000000), (Addr.illCfg 7, 0x80000000)]
      { ills := [(1, { gate := .rampUp}), (7, { gate := .rampUp}), (0, {faulted := true})] }), by decide +kernel⟩,
   ⟨7, 9, (({ ills := [(7, { faulted := true, cause := 2, maxonHit := true })] } : State)), by decide +kernel⟩,
   ⟨7, 1, (wReg [(Addr.illStatus, 0x80000000)] { ills := [(7, { faulted := true, cause := 3, maxonHit := true })] }), by decide +kernel⟩,
   ⟨7, 0x00F00000, (wReg [(Addr.illCfg 7, 0x80000000)] { ills := [(7, { gate := .rampUp})] }), by decide +kernel⟩⟩

/-- The hypotheses of `Obligations.TimeOfDayIsKept` can be met, clause by clause. -/
theorem witness_time_of_day_is_kept :
    (∃ (v : Word) (s : State), fld v 1 0 = 0 ∧ s.tod.holdover = false) ∧
    (∃ (s : State), s.rf Addr.lptTodSrc 1 0 ≠ 3) ∧
    (∃ (s : State), s.rf Addr.lptTodSrc 1 0 = 3 ∧ s.ppsMissAt < s.now) ∧
    (∃ (s : State), s.rb Addr.lptPpsOutCtrl 31 = true ∧ s.pwr.refLost = none) ∧
    (∃ (s : State), s.tod.ppsOut = true) :=
  ⟨⟨0, (wReg [(Addr.lptTodSrc, 3)] { tod := { sec := 0, tick := 5, holdover := false } }), by decide +kernel⟩,
   ⟨(({ tod := { sec := 2 ^ 47, tick := 5, holdover := false } } : State)), by decide +kernel⟩,
   ⟨(wReg [(Addr.lptTodSrc, 3)] { now := 10000000000, tod := { sec := 9, tick := 5, holdover := false } }), by decide +kernel⟩,
   ⟨(wReg [(Addr.lptPpsOutCtrl, 0x80000005)] {}), by decide +kernel⟩,
   ⟨(({ tod := { ppsOut := true, ppsOutEnd := 9 } } : State)), by decide +kernel⟩⟩

/-- The hypotheses of `Obligations.EntriesTakeEffectAsCommitted` can be met, clause by clause. -/
theorem witness_entries_take_effect_as_committed :
    (∃ (n : Nat) (word : Nat) (s : State), n < 512 ∧ word < 4 ∧ s.rb Addr.lptSchedCtrl 0 = false) ∧
    (∃ (n : Nat) (word : Nat) (s : State), n < 512 ∧ word < 4 ∧ s.rb Addr.lptSchedCtrl 0 = true) ∧
    (∃ (n : Nat) (e : Ent) (s : State), n < 512 ∧ s.shadow n = some e) :=
  ⟨⟨511, 0, (({ sched := { shadow := [(511, some {})] } } : State)), by decide +kernel⟩,
   ⟨511, 3, (wReg [(Addr.lptSchedCtrl, 1)] { sched := { committed := [(511, some { w0 := 5 })] } }), by decide +kernel⟩,
   ⟨511, { w0 := 0x90000003 }, ((wReg [(Addr.lptSchedCtrl, 1), (Addr.lptSchedEnt 511, 0x90000001)]
      { sched := { shadow := [(511, some { w0 := 0x90000003 })] } }).setDom 1 wDom), by decide +kernel⟩⟩

/-- The hypotheses of `Obligations.MaintenanceIsGrantedInOrder` can be met, clause by clause. -/
theorem witness_maintenance_is_granted_in_order :
    (∃ (e : Nat) (s : State), s.unplaced = false ∧ s.sched.jobEnd = some e ∧ s.now < e) ∧
    (∃ (j : Job) (s : State), (∀ e, s.sched.jobEnd = some e → e ≤ s.now) ∧ ([Job.retrain, .refresh, .calibrate, .telemetry].find? fun j => s.jobDue j
      && s.jobFits j) = some j) ∧
    (∃ (c : Nat) (s : State), (∃ k u, k < 16 ∧ (s.chan k).due = some u ∧ u + 2 * tickHz ≤ s.now) ∧ s.ms.train = [] ∧ s.dueChans.head? = some c) :=
  ⟨⟨6, (wReg [(Addr.lptLdCtrl 3, 0x88000000)] { now := 5, sched := { jobEnd := some 6 }, doms := [(3, wDom)] }), by decide +kernel⟩,
   ⟨.retrain, (wReg [(Addr.lptLdCtrl 1, 0x88000000), (Addr.lptSchedEnt 3, 0x9A000032), (Addr.lptSchedEnt 7, 0x9A000033)]
      { now := 7, sched := { jobEnd := some 7}, doms := [(1, { wDom with maintOpen := true })], ms := { chans := [(0, { due := some 6 })] } }),
      by decide +kernel⟩,
   ⟨0, (({ now := 3000000000, ms := { chans := [(0, { due := some 0 })] } } : State)), ⟨0, 0, by decide +kernel⟩, by decide +kernel⟩⟩

/-- The hypotheses of `Obligations.WritesGoByField` can be met, clause by clause. -/
theorem witness_writes_go_by_field :
    (∃ (a : Nat) (v : Word) (r : RegRef) (f : _), regAt a = some r ∧ a ≠ Addr.dsvRsvdStatus ∧ a ≠ Addr.dsvRsvdLast ∧ f ∈ r.fields ∧ f.acc.getD
      r.desc.acc = .rw ∧ f.ok (fld v f.hi f.lo) = true) ∧
    (∃ (a : Nat) (v : Word) (s : State) (r : RegRef) (f : _), regAt a = some r ∧ a ≠ Addr.dsvRsvdStatus ∧ a ≠ Addr.dsvRsvdLast ∧ f ∈ r.fields ∧
      f.acc.getD r.desc.acc = .rw ∧ f.ok (fld v f.hi f.lo) = false ∧ fld v f.hi f.lo ≠ s.rf a f.hi f.lo) ∧
    (∃ (a : Nat) (r : RegRef) (f : _), regAt a = some r ∧ a ≠ Addr.dsvRsvdStatus ∧ a ≠ Addr.dsvRsvdLast ∧ f ∈ r.fields ∧ f.acc.getD r.desc.acc = .ro)
      ∧
    (∃ (a : Nat) (r : RegRef) (i : _), regAt a = some r ∧ a ≠ Addr.dsvRsvdStatus ∧ a ≠ Addr.dsvRsvdLast ∧ i < 32 ∧ (∀ f, f ∈ r.fields → i < f.lo ∨
      f.hi < i)) ∧
    (∃ (a : Nat) (v : Word) (r : RegRef) (i : _), regAt a = some r ∧ a ≠ Addr.dsvRsvdStatus ∧ a ≠ Addr.dsvRsvdLast ∧ i < 32 ∧ (∀ f, f ∈ r.fields → i <
      f.lo ∨ f.hi < i) ∧ bit v i = true) ∧
    (∃ (a : Nat) (r : RegRef) (b : _), regAt a = some r ∧ a ≠ Addr.dsvRsvdStatus ∧ a ≠ Addr.dsvRsvdLast ∧ b ≠ a ∧ b ≠ Addr.dsvRsvdStatus ∧ b ≠
      Addr.dsvRsvdLast) ∧
    (∃ (a : Nat) (r : RegRef), regAt a = some r ∧ a ≠ Addr.dsvRsvdStatus ∧ a ≠ Addr.dsvRsvdLast) :=
  ⟨⟨(Addr.lptLdCtrl 7), 0x20000003, (wRef (Addr.lptLdCtrl 7)), (wField (Addr.lptLdCtrl 7) 1), by decide +kernel⟩,
   ⟨(Addr.lptLdCtrl 7), 0x60000003, (({} : State)), (wRef (Addr.lptLdCtrl 7)), (wField (Addr.lptLdCtrl 7) 1), by decide +kernel⟩,
   ⟨Addr.lptTodSrc, (wRef Addr.lptTodSrc), (wField Addr.lptTodSrc 1), by decide +kernel⟩,
   ⟨Addr.lptCtrl, (wRef Addr.lptCtrl), 31, by decide +kernel⟩,
   ⟨Addr.lptCtrl, 0xffffffff, (wRef Addr.lptCtrl), 31, by decide +kernel⟩,
   ⟨Addr.lptCtrl, (wRef Addr.lptCtrl), Addr.sfeCtrl, by decide +kernel⟩,
   ⟨Addr.lptCtrl, (wRef Addr.lptCtrl), by decide +kernel⟩⟩

/-- The hypotheses of `Obligations.AccessesAreChecked` can be met, clause by clause. -/
theorem witness_accesses_are_checked :
    (∃ (a : Nat) (size : Nat), ¬ (size = 4 ∧ a % 4 = 0) ∧ ¬ (size = 8 ∧ a % 8 = 0)) ∧
    (∃ (a : Nat), a % 4 ≠ 0) ∧
    (∃ (a : Nat) (s : State) (r : RegRef), s.up a ∧ s.wf ∧ dsvPart a = .no ∧ regAt a = some r ∧ r.desc.id ∈ [.sfeLnkCfg, .sfeCtxBl, .sfeCtxSatThr,
      .lptTodStepTick, .lptTodStepSec, .lptEvtMask, .lptLdAnchor, .lptLdTag, .tcArb, .tcCxEntry, .tcCxTag, .passPqWmark, .wchMatchTo, .fmtOsCropXy,
      .fmtOsFscale, .dppTag, .vencSGop, .vencSRc, .vencSQp, .vdecSPicbud, .memStarve, .memRetrain, .pcieCto, .ethTsLat, .i3cCmdLo, .uartBaud,
      .illMaxon, .thmPump, .pwrGrace]) ∧
    (∃ (a : Nat) (s : State), s.up a ∧ dsvPart a = .no ∧ regAt a = none) ∧
    (∃ (who : Initiator) (a : Nat) (s : State), a % 4 = 0 ∧ inRegs a = true ∧ (inSpan a = false ∨ s.reaches who a = false)) ∧
    (∃ (s : State), s.up Addr.lptTodSec ∧ s.tod.sec < 2 ^ 48 ∧ s.tod.tick < tickHz) ∧
    (∃ (s : State), s.up Addr.lptTodTick) :=
  ⟨⟨(Addr.lptCtrl + 2), 4, by decide +kernel⟩,
   ⟨(Addr.lptCtrl + 1), by decide +kernel⟩,
   ⟨(Addr.sfeCtxSatThr 15), wUp, (wRef (Addr.sfeCtxSatThr 15)), ⟨by decide +kernel, by decide +kernel, by decide +kernel, by decide +kernel, fun _ _
      => rfl⟩, by unfold State.wf; decide +kernel⟩,
   ⟨0x110FFFFC, wUp, ⟨by decide +kernel, by decide +kernel, by decide +kernel, by decide +kernel, fun _ _ => rfl⟩, by decide +kernel⟩,
   ⟨.host, 0x1B0113F0, wUp, by decide +kernel⟩,
   ⟨(({ wUp with tod := { sec := 2 ^ 48 - 1, tick := 1228799999 } } : State)), ⟨by decide +kernel, by decide +kernel, by decide +kernel,
      by decide +kernel, fun _ _ => rfl⟩, by decide +kernel⟩,
   ⟨(({ wUp with capture := [(Addr.lptTodTick, 77)] } : State)), ⟨by decide +kernel, by decide +kernel, by decide +kernel, by decide +kernel, fun _ _
      => rfl⟩⟩⟩

/-- The hypotheses of `Obligations.SensorPacketsAreReceived` can be met, clause by clause. -/
theorem witness_sensor_packets_are_received :
    (∃ (link : Nat) (vc : Nat) (i : Nat) (s : State), s.lnkOn link = true ∧ (s.hear link).scMatch link vc = [i] ∧ (s.sc i).recv = false ∧ (∀ d, d < 8
      → s.ldSlaved d = false) ∧ s.memberOf i = none ∧ s.rb (Addr.sfeCtxCtrl i) 27 = false) ∧
    (∃ (p : Packet) (i : Nat) (rest : List Nat) (f : SfeFrame) (s : State), s.lnkOn p.link = true ∧ p.fixed = false ∧ (dtBits p.dt).isSome = true ∧
      (((s.hear p.link).scMatch p.link p.vc).filter fun i => (s.hear p.link).rf (Addr.sfeCtxSrc i) 5 0 == p.dt) = i :: rest ∧ (∀ d, d < 8 → s.ldSlaved
      d = false) ∧ (s.sc i).rx = some f ∧ f.null = false ∧ f.drop = false ∧ f.closed = false ∧ (s.sc i).lines < f.height ∧ (s.sc i).fifoBytes +
      lineBytes f.width f.bits ≤ 32768 ∧ (s.sc i).lineB = p.payload.length ∧ p.crcBad = false) ∧
    (∃ (link : Nat) (vc : Nat) (i : Nat) (f : SfeFrame) (s : State), s.lnkOn link = true ∧ (s.hear link).scMatch link vc = [i] ∧ (s.sc i).recv = true
      ∧ (s.sc i).frames = [f] ∧ f.null = false ∧ f.closed = false ∧ f.fifo ≠ [] ∧ f.height ≤ f.rows) ∧
    (∃ (link : Nat) (vc : Nat) (i : Nat) (f : SfeFrame) (s : State), s.lnkOn link = true ∧ (s.hear link).scMatch link vc = [i] ∧ (s.sc i).rx = some f
      ∧ f.closed = false ∧ f.drop = false) ∧
    (∃ (link : Nat) (dt : Nat) (s : State), s.lnkOn link = true ∧ 8 ≤ dt ∧ dt ≤ 15) ∧
    (∃ (link : Nat) (dt : Nat) (s : State), s.lnkOn link = true ∧ dtBits dt = none ∧ dt ≠ 0x12) ∧
    (∃ (link : Nat) (i : Nat) (s : State) (f : _), s.lnkOn link = true ∧ ((List.range 16).filter fun i => s.scOn i && s.rf (Addr.sfeCtxSrc i) 19 16 ==
      link) = [i] ∧ (s.sc i).recv = true ∧ (s.sc i).frames = [f] ∧ f.null = false ∧ f.closed = false ∧ f.drop = false ∧ s.memberOf i = none) ∧
    (∃ (link : Nat) (i : Nat) (s : State), s.lnkOn link = true ∧ ((List.range 16).filter fun i => s.scOn i && s.rf (Addr.sfeCtxSrc i) 19 16 == link) =
      [i] ∧ (s.sc i).recv = false ∧ (s.sc i).told.contains .csiSync = false) ∧
    (∃ (phy : Nat) (s : State), phy < 8 ∧ s.rf (Addr.sfePhyCfg phy) 1 0 < 2) ∧
    (∃ (phy : Nat) (lane : Nat), phy < 8 ∧ lane < 4) :=
  ⟨⟨15, 2, 15, ((wSfe {}).setDom 1 wDom), by decide +kernel⟩,
   ⟨{ link := 15, vc := 2, dt := 0x2C, payload := List.replicate 384 0xFF }, 15, [], wFrame, (wRecv wFrame {}), by decide +kernel⟩,
   ⟨15, 2, 15, { wFrame with rows := 8, fifo := [⟨0, [1,2], false, 0, []⟩] }, (wRecv { wFrame with rows := 8, fifo := [⟨0, [1,2], false, 0, []⟩] }
      {}), by decide +kernel⟩,
   ⟨15, 2, 15, wFrame, (wRecv wFrame {}), by decide +kernel⟩,
   ⟨15, 8, (wSfe {}), by decide +kernel⟩,
   ⟨15, 0x30, (wSfe {}), by decide +kernel⟩,
   ⟨15, 15, (wRecv { wFrame with rows := 3, fifo := [⟨0, [1,2], false, 0, []⟩] } {}), { wFrame with rows := 3, fifo := [⟨0, [1,2], false, 0, []⟩] },
      by decide +kernel⟩,
   ⟨15, 15, (wSfe {}), by decide +kernel⟩,
   ⟨7, (wReg [(Addr.sfePhyCfg 7, 0x80000001)] {}), by decide +kernel⟩,
   ⟨7, 3, by decide +kernel⟩⟩

/-- The hypotheses of `Obligations.SensorFramesAreDelivered` can be met, clause by clause. -/
theorem witness_sensor_frames_are_delivered :
    (∃ (i : Nat) (f : SfeFrame) (fs : List SfeFrame) (r : SfeRow) (rest : List SfeRow) (st : SfeStripe) (s : State), s.burstCtx = some i ∧ (s.sc
      i).frames = f :: fs ∧ f.fifo = r :: rest ∧ f.stripe = some st ∧ r.col + 192 < r.px.length) ∧
    (∃ (i : Nat) (it : SfeItem) (r : List SfeItem) (p : Nat) (b : Nat) (s : State), s.pushReady (hSc i) it.q (s.handle p b) ∧ i < 16 ∧ (s.sc i).held =
      it :: r ∧ s.gateHolds it.domain it.gated = false ∧ it.buf = some (p, b)) ∧
    (∃ (i : Nat) (it : SfeStat) (r : List SfeStat) (b : Nat) (s : State), s.pushReady (hSc i) it.q (s.handle it.pool b) ∧ i < 16 ∧ (s.sc i).stats = it
      :: r ∧ s.gateHolds it.domain it.gated = false ∧ it.buf = some b) ∧
    (∃ (i : Nat) (d : Nat) (at_ : Nat) (b : Nat) (g : SfeGroup) (s : State), i < 16 ∧ s.memberOf i = some d ∧ ((s.dom d).slaved = false ∨ i ≠ s.lead
      d) ∧ s.grp d = some g ∧ g.frame = (s.dom d).frame ∧ (s.dom d).running = true ∧ s.groupMode d = 1 ∧ s.scOn i = true ∧ s.rf (Addr.sfeCtxCtrl i) 2
      0 = d ∧ g.late = false ∧ g.missed.contains i = false ∧ (g.arrived.any (·.cx == i)) = false ∧ g.origin = some at_ ∧ s.groupBound d = some b) ∧
    (∃ (i : Nat) (v : Word) (s : State), i < 16 ∧ s.rb (Addr.sfeCtxCtrl i) 31 = true ∧ bit v 31 = false) ∧
    (∃ (i : Nat) (v : Word) (s : State), i < 16 ∧ s.rb (Addr.sfeCtxCtrl i) 31 = false ∧ bit v 31 = true ∧ ((s.noteRsvd (Addr.sfeCtxCtrl i) v).setReg
      (Addr.sfeCtxCtrl i) (setFld v 24 3 0)).scCanEnable i = true) :=
  ⟨⟨15, { wFrame with fifo := [⟨1, List.replicate 256 7, false, 0, []⟩], stripe := some { pool := 2, buf := 3, first := 0, count := 1 } }, [], ⟨1,
      List.replicate 256 7, false, 0, []⟩, [], { pool := 2, buf := 3, first := 0, count := 1 }, (wPass 0x2F (wReg [(Addr.memStatus, 0x80000000),
      (Addr.memCtrl, 1)] (wRecv
      { wFrame with fifo := [⟨1, List.replicate 256 7, false, 0, []⟩], stripe := some { pool := 2, buf := 3, first := 0, count := 1 } } {}))),
      by decide +kernel⟩,
   ⟨15, ⟨1, 1, false, 4, 5, some (2, 3), none⟩, [⟨1, 1, false, 4, 6, none, none⟩], 2, 3, ((wPass 0x2F (wSfe {})).setSc 15
      { held := [⟨1, 1, false, 4, 5, some (2, 3), none⟩, ⟨1, 1, false, 4, 6, none, none⟩] }), ⟨fun _ => ⟨by decide +kernel, ⟨_, rfl⟩,
      by decide +kernel⟩, by decide +kernel, by decide +kernel, by decide +kernel⟩, by decide +kernel⟩,
   ⟨15, ⟨1, 1, false, 4, 2, 5, [], some 3⟩, [], 3, ((wPass 0x2F (wSfe {})).setSc 15 { stats := [⟨1, 1, false, 4, 2, 5, [], some 3⟩] }), ⟨fun _ =>
      ⟨by decide +kernel, ⟨_, rfl⟩, by decide +kernel⟩, by decide +kernel, by decide +kernel, by decide +kernel⟩, by decide +kernel⟩,
   ⟨15, 1, wDom.frameAt, 65536000, ⟨7, some 0, [], [], false, false, false⟩, (((wReg [(Addr.lptLdCtrl 1, 0x88000000)] (wSfe {})).setDom 1
      { wDom with members := 0x8000 }).setGrp 1 (some ⟨7, some 0, [], [], false, false, false⟩)), by decide +kernel⟩,
   ⟨15, 0x0, (wPass 0x2F (wRecv { wFrame with stripe := some { pool := 2, buf := 3, first := 0, count := 1 } } {})), by decide +kernel⟩,
   ⟨0, 0x81000000, (wReg [(Addr.sfeCtxSize 0, 0x00080100), (Addr.sfeCtxOut 0, 0x00020002), (Addr.sfeCtxLsc 0, 0x02020808)] (wPass 1 {})),
      by decide +kernel⟩⟩

/-- The hypotheses of `Obligations.ContextsObeyCommands` can be met, clause by clause. -/
theorem witness_contexts_obey_commands :
    (∃ (n : Nat) (m : Nat) (a : Nat) (h : Bytes) (l : Bytes) (s : State), a = s.rf (Addr.tcCxEntry n m + 4) 7 0 * 2 ^ 32 + s.rf (Addr.tcCxEntry n m)
      31 6 * 64 ∧ h = plain (s.unitRead (.tc n) (cxQos m) a 64).1 ∧ l = h ++ plain ((s.unitRead (.tc n) (cxQos m) a 64).2.unitRead (.tc n) (cxQos m)
      (a + 64) (at_ h 8 4 - 64)).1 ∧ isCx n m ∧ (s.ctx (4 * n + m)).state = .off ∧ (s.core n).initBusy = false) ∧
    (∃ (n : Nat) (m : Nat) (s : State), isCx n m ∧ (s.ctx (4 * n + m)).state.live = true ∧ (s.ctx (4 * n + m)).stopping = false) ∧
    (∃ (n : Nat) (m : Nat) (s : State), isCx n m ∧ (s.ctx (4 * n + m)).stopping = true ∧ ((s.core n).slots.all fun e => e.cx != m || !e.issued ||
      e.retired || e.unit == .seq) = true) ∧
    (∃ (n : Nat) (m : Nat) (s : State), ((s.ctx (4 * n + m)).saved = .none ∨ (∃ d f p, (s.ctx (4 * n + m)).saved = .line d (some (f, p)) ∧
      s.posReached d f p = false)) ∧ isCx n m ∧ (s.ctx (4 * n + m)).state = .stopped) ∧
    (∃ (n : Nat) (m : Nat) (s : State), isCx n m ∧ s.pass.barriers = [] ∧ ((s.ctx (4 * n + m)).state = .stopped ∨ (s.ctx (4 * n + m)).state = .done ∨
      (s.ctx (4 * n + m)).state = .halted)) ∧
    (∃ (n : Nat), n < 8) ∧
    (∃ (n : Nat) (m : Nat) (op : Nat) (w : Insn) (slots : List Slot) (l : List (Byte × Bool)) (s : State), l = (s.unitRead (.tc n) (cxQos m) ((s.ctx
      (4 * n + m)).image + (s.ctx (4 * n + m)).instrAt + 16 * (s.ctx (4 * n + m)).fetchIdx) 16).1 ∧ isCx n m ∧ s.mayFetch n m = true ∧ makeRoom
      (s.core n).slots m (s.winShare n m) = some slots ∧ (s.ctx (4 * n + m)).fetchIdx < (s.ctx (4 * n + m)).nInstr ∧ anyPoison l = false ∧ (op, w) =
      decodeInsn (leNat (plain l)) ∧ insnErr op (4 * n + m) w = none ∧ nbit w.flags 0 = 0) ∧
    (∃ (n : Nat) (m : Nat) (op : Nat) (w : Insn) (slots : List Slot) (l : List (Byte × Bool)) (s : State) (d : _) (f : _) (p : _), l = (s.unitRead
      (.tc n) (cxQos m) ((s.ctx (4 * n + m)).image + (s.ctx (4 * n + m)).instrAt + 16 * (s.ctx (4 * n + m)).fetchIdx) 16).1 ∧ isCx n m ∧ s.mayFetch n
      m = true ∧ makeRoom (s.core n).slots m (s.winShare n m) = some slots ∧ (s.ctx (4 * n + m)).fetchIdx < (s.ctx (4 * n + m)).nInstr ∧ anyPoison l =
      false ∧ (op, w) = decodeInsn (leNat (plain l)) ∧ insnErr op (4 * n + m) w = none ∧ nbit w.flags 0 = 1 ∧ ((s.core n).waiting m).all (fun e =>
      !(e.op == 0x07 && mo e.w 120 120 == 1)) = true ∧ (s.ctx (4 * n + m)).prefixPos = some (d, f, p) ∧ s.posReached d f p = false ∧ (s.ctx (4 * n +
      m)).released = false ∧ (s.ctx (4 * n + m)).state = .ready) :=
  ⟨⟨7, 3, _, _, _, ((wReg [(Addr.tcCxEntry 7 3 + 4, 1)] (wDram {})).setBytes 0x100000000 (wImage 0xECBB4B55)), rfl, rfl, rfl,
      by unfold isCx; decide +kernel⟩,
   ⟨0, 0, (({ ctxs := [(0, { state := .waitPass, wait := .pass 3 true }), (1, { state := .ready })] } : State)), by unfold isCx; decide +kernel⟩,
   ⟨7, 3, (({ ctxs := [(31, { state := .waitLine, stopping := true })], cores := [(7, { slots := [{ wSlot 0 {} with issued := false }] })] } :
      State)), by unfold isCx; decide +kernel⟩,
   ⟨7, 3, (({ ctxs := [(31, { state := .stopped, resume := .ready })] } : State)), .inl rfl, by unfold isCx; decide +kernel⟩,
   ⟨7, 3, (wReg [(Addr.tcCxS 7 3 15, 7)]
      { ctxs := [(31, { state := .stopped, late := true, descs := [(5, { addr := 7 })] })], cores := [(7, { slots := [wSlot 0 {}] })] }),
      by unfold isCx; decide +kernel⟩,
   ⟨7, by decide +kernel⟩,
   ⟨7, 3, 1, { opa := 65535, opb := 65535, dst := 65535, nest := 65535 }, [{ wSlot 3 {} with id := 3 }], _, ((wReg [(Addr.pwrTcStatus, 0xFF)] (wDram
      { ctxs := [(31, { state := .waitLine, image := 0x100000000, instrAt := 64, fetchIdx := 4, nInstr := 16777216 })], cores := [(7, { slots := [{ wSlot 3 {} with id := 3 }], nextId := 4 })] })).setBytes
      0x100000080 [1,0,255,255,255,255,255,255,255,255,0]), rfl, by unfold isCx; decide +kernel⟩,
   ⟨7, 3, 1, { flags := 1, opa := 65535, opb := 65535, dst := 65535, nest := 65535 }, [{ wSlot 3 {} with id := 3 }], _, (((wReg [(Addr.pwrTcStatus,
      0xFF)] (wDram
      { ctxs := [(31, { state := .ready, prefixPos := some (1, 8, 3), image := 0x100000000, instrAt := 64, fetchIdx := 4, nInstr := 16777216 })], cores := [(7, { slots := [{ wSlot 3 {} with id := 3 }], nextId := 4 })] })).setBytes
      0x100000080 [1,1,255,255,255,255,255,255,255,255,0]).setDom 1 wDom), 1, 8, 3, rfl, by unfold isCx; decide +kernel⟩⟩

/-- The hypotheses of `Obligations.ControlInstructionsTakeEffect` can be met, clause by clause. -/
theorem witness_control_instructions_take_effect :
    (∃ (n : Nat) (m : Nat) (op : Nat) (w : Insn) (sl : Slot) (s : State), op = 0x00 ∧ s.issueAt n m op w = some sl ∧ (s.ctx (4 * n + m)).sync = none)
      ∧
    (∃ (n : Nat) (m : Nat) (op : Nat) (w : Insn) (sl : Slot) (s : State), op = 0x03 ∧ s.issueAt n m op w = some sl ∧ (s.ctx (4 * n + m)).sync = none)
      ∧
    (∃ (n : Nat) (m : Nat) (op : Nat) (w : Insn) (sl : Slot) (s : State), op = 0x02 ∧ s.issueAt n m op w = some sl ∧ (s.ctx (4 * n + m)).sync = none)
      ∧
    (∃ (n : Nat) (m : Nat) (op : Nat) (w : Insn) (sl : Slot) (s : State), op = 0x04 ∧ s.issueAt n m op w = some sl ∧ (s.ctx (4 * n + m)).sync = none)
      ∧
    (∃ (n : Nat) (m : Nat) (op : Nat) (w : Insn) (sl : Slot) (s : State) (j : _), op = 0x05 ∧ s.issueAt n m op w = some sl ∧ (s.ctx (4 * n + m)).sync
      = none ∧ j < 32 ∧ tget (fun _ => none) s.pass.barriers (mo w 83 80) = none ∧ nbit (mo w 115 84) j = 1 ∧ j ≠ 4 * n + m ∧ s.absent j = false) ∧
    (∃ (n : Nat) (m : Nat) (op : Nat) (w : Insn) (sl : Slot) (s : State) (b : _), op = 0x05 ∧ s.issueAt n m op w = some sl ∧ (s.ctx (4 * n + m)).sync
      = none ∧ tget (fun _ => none) s.pass.barriers (mo w 83 80) = some b ∧ b.mask = mo w 115 84 ∧ (∀ j, j < 32 → nbit b.mask j = 1 → j ∈ b.arrived ∨
      j = 4 * n + m) ∧ (∀ j, j ∈ b.arrived → (s.ctx j).state.live = true ∧ (s.ctx j).sync = none)) ∧
    (∃ (n : Nat) (m : Nat) (op : Nat) (w : Insn) (sl : Slot) (s : State), op = 0x07 ∧ s.issueAt n m op w = some sl ∧ (s.ctx (4 * n + m)).sync = none ∧
      mo w 120 120 = 0 ∧ noPos w = false ∧ s.posReached (s.resolvePos n m w).1 (s.resolvePos n m w).2.1 (s.resolvePos n m w).2.2 = true) ∧
    (∃ (n : Nat) (m : Nat) (op : Nat) (w : Insn) (sl : Slot) (s : State), op = 0x07 ∧ s.issueAt n m op w = some sl ∧ (s.ctx (4 * n + m)).sync = none ∧
      mo w 120 120 = 0 ∧ noPos w = false ∧ s.posReached (s.resolvePos n m w).1 (s.resolvePos n m w).2.1 (s.resolvePos n m w).2.2 = false) ∧
    (∃ (n : Nat) (m : Nat) (op : Nat) (w : Insn) (sl : Slot) (s : State), op = 0x07 ∧ s.issueAt n m op w = some sl ∧ (s.ctx (4 * n + m)).sync = none ∧
      mo w 120 120 = 0 ∧ noPos w = true ∧ (s.ctx (4 * n + m)).signal = true) ∧
    (∃ (n : Nat) (m : Nat) (op : Nat) (w : Insn) (sl : Slot) (s : State), op = 0x07 ∧ s.issueAt n m op w = some sl ∧ (s.ctx (4 * n + m)).sync = none ∧
      mo w 120 120 = 0 ∧ noPos w = true ∧ (s.ctx (4 * n + m)).signal = false ∧ (s.dom (mo w 82 80)).running = false) ∧
    (∃ (n : Nat) (m : Nat) (op : Nat) (w : Insn) (sl : Slot) (s : State), op = 0x07 ∧ s.issueAt n m op w = some sl ∧ (s.ctx (4 * n + m)).sync = none ∧
      mo w 120 120 = 0 ∧ noPos w = true ∧ (s.ctx (4 * n + m)).signal = false ∧ (s.dom (mo w 82 80)).running = true) ∧
    (∃ (n : Nat) (m : Nat) (op : Nat) (w : Insn) (sl : Slot) (s : State), op = 0x07 ∧ s.issueAt n m op w = some sl ∧ (s.ctx (4 * n + m)).sync = none ∧
      mo w 120 120 = 1) ∧
    (∃ (n : Nat) (m : Nat) (op : Nat) (w : Insn) (sl : Slot) (s : State), op = 0x01 ∧ s.issueAt n m op w = some sl ∧ (s.ctx (4 * n + m)).sync = none ∧
      (s.core n).slots = [sl] ∧ sl.retired = false ∧ s.pass.barriers = [] ∧ (s.ctx (4 * n + m)).fault = none) ∧
    (∃ (n : Nat) (m : Nat) (op : Nat) (w : Insn) (sl : Slot) (s : State), op = 0x06 ∧ s.issueAt n m op w = some sl ∧ (s.ctx (4 * n + m)).sync = none ∧
      (s.core n).slots = [sl] ∧ sl.retired = false ∧ s.pass.barriers = [] ∧ (s.ctx (4 * n + m)).fault = none) ∧
    (∃ (n : Nat) (m : Nat) (op : Nat) (w : Insn) (sl : Slot) (s : State), op = 0x08 ∧ s.issueAt n m op w = some sl ∧ (s.ctx (4 * n + m)).sync = none ∧
      (s.core n).slots = [sl] ∧ sl.retired = false ∧ s.pass.barriers = [] ∧ (s.ctx (4 * n + m)).fault = none) ∧
    (∃ (n : Nat) (m : Nat) (op : Nat) (w : Insn) (sl : Slot) (s : State) (k : _), op = 0x09 ∧ k = 4 * mo w 82 80 + mo w 84 83 ∧ (∀ d, (s.ctx k).wait ≠
      .line d none) ∧ s.issueAt n m op w = some sl ∧ (s.ctx (4 * n + m)).sync = none ∧ (s.core n).slots = [sl] ∧ sl.retired = false ∧ s.pass.barriers
      = [] ∧ (s.ctx (4 * n + m)).fault = none ∧ s.absent k = false) ∧
    (∃ (n : Nat) (m : Nat), isCx n m) ∧
    (∃ (n : Nat) (m : Nat) (kind : Nat) (id : Nat) (cores : Nat) (sid : Nat) (s : State), kind = 1 ∧ isCx n m ∧ (s.ctx (4 * n + m)).sync = some (kind,
      id, cores, sid) ∧ (s.ctx (4 * n + m)).state = .waitSync ∧ (s.ctx (4 * n + m)).wait = .nest ∧ (s.ctx (4 * n + m)).fault = none ∧ ((s.core
      n).slots.all fun e => e.cx != m || decide (sid < e.id) || e.retired) = true ∧ (∀ e, e ∈ (s.core n).slots → e.id = sid → e.retired = true)) ∧
    (∃ (n : Nat) (m : Nat) (kind : Nat) (id : Nat) (cores : Nat) (sid : Nat) (s : State) (j : _), isCx n m ∧ (s.ctx (4 * n + m)).sync = some (kind,
      id, cores, sid) ∧ (s.ctx (4 * n + m)).state = .waitSync ∧ (s.ctx (4 * n + m)).wait = .nest ∧ (s.ctx (4 * n + m)).fault = none ∧ ((s.core
      n).slots.all fun e => e.cx != m || decide (sid < e.id) || e.retired) = true ∧ (∀ e, e ∈ (s.core n).slots → e.id = sid → e.retired = true) ∧ kind
      ≠ 1 ∧ tget (fun _ => none) s.pass.barriers id = none ∧ j < 32 ∧ nbit (nestMask cores m) j = 1 ∧ j ≠ 4 * n + m ∧ s.absent j = false) ∧
    (∃ (n : Nat) (m : Nat) (d : Nat) (f : Nat) (p : Nat) (s : State), isCx n m ∧ (s.ctx (4 * n + m)).state.live = true ∧ (s.ctx (4 * n + m)).sync =
      none ∧ s.posReached d f p = true ∧ (s.ctx (4 * n + m)).wait = .line d (some (f, p))) ∧
    (∃ (n : Nat) (m : Nat) (d : Nat) (f : Nat) (p : Nat) (s : State), isCx n m ∧ (s.ctx (4 * n + m)).state.live = true ∧ (s.ctx (4 * n + m)).sync =
      none ∧ s.posReached d f p = true ∧ (s.ctx (4 * n + m)).wait = .timed d f p) ∧
    (∃ (n : Nat) (m : Nat) (d : Nat) (f : Nat) (p : Nat) (s : State), isCx n m ∧ (s.ctx (4 * n + m)).deadline = some (d, f, p) ∧ (s.dom d).running =
      true ∧ s.posReached d f p = true ∧ s.absent (4 * n + m) = false) :=
  ⟨⟨7, 3, _, {}, (wSlot 0 {}), (wIss 0 {} {} {}), rfl, by decide +kernel⟩,
   ⟨7, 3, _, {}, (wSlot 3 {}), (wIss 3 {} {} {}), rfl, by decide +kernel⟩,
   ⟨7, 3, _, {}, (wSlot 2 {}), (wIss 2 {} {} { ctxs := [(28, { state := .ready, yieldFor := [3] })] }), rfl, by decide +kernel⟩,
   ⟨7, 3, _, (wMod [(80, 1)]), (wSlot 4 (wMod [(80, 1)])), (wIss 4 (wMod [(80, 1)]) { depOpen := [3, 8, 11], marks := [(2, [1])] } {}), rfl,
      by decide +kernel⟩,
   ⟨7, 3, _, (wMod [(80, 15), (84, 0x80000001)]), (wSlot 5 (wMod [(80, 15), (84, 0x80000001)])), (wIss 5 (wMod [(80, 15), (84, 0x80000001)]) {}
      { ctxs := [(0, { state := .ready })] }), 0, rfl, by decide +kernel⟩,
   ⟨7, 3, _, (wMod [(80, 15), (84, 0x80000001)]), (wSlot 5 (wMod [(80, 15), (84, 0x80000001)])), (wIss 5 (wMod [(80, 15), (84, 0x80000001)]) {}
      { ctxs := [(0, { state := .waitSync, wait := .barrier 15 })], pass := { barriers := [(15, some ⟨0x80000001, [0]⟩)] } }), ⟨0x80000001, [0]⟩, rfl,
      by decide +kernel⟩,
   ⟨7, 3, _, (wMod [(80, 1), (84, 2), (86, 15)]), (wSlot 7 (wMod [(80, 1), (84, 2), (86, 15)])), ((wIss 7 (wMod [(80, 1), (84, 2), (86, 15)]) {}
      {}).setDom 1 wDom), rfl, by decide +kernel⟩,
   ⟨7, 3, _, (wMod [(80, 1), (84, 1), (98, 65535)]), (wSlot 7 (wMod [(80, 1), (84, 1), (98, 65535)])), ((wIss 7 (wMod [(80, 1), (84, 1), (98, 65535)])
      {} {}).setDom 1 wDom), rfl, by decide +kernel⟩,
   ⟨7, 3, _, (wMod [(80, 1), (84, 2 ^ 30 - 1)]), (wSlot 7 (wMod [(80, 1), (84, 2 ^ 30 - 1)])), ((wIss 7 (wMod [(80, 1), (84, 2 ^ 30 - 1)])
      { signal := true } {}).setDom 1 wDom), rfl, by decide +kernel⟩,
   ⟨7, 3, _, (wMod [(80, 1), (84, 2 ^ 30 - 1)]), (wSlot 7 (wMod [(80, 1), (84, 2 ^ 30 - 1)])), (wIss 7 (wMod [(80, 1), (84, 2 ^ 30 - 1)]) {} {}), rfl,
      by decide +kernel⟩,
   ⟨7, 3, _, (wMod [(80, 1), (84, 2 ^ 30 - 1)]), (wSlot 7 (wMod [(80, 1), (84, 2 ^ 30 - 1)])), ((wIss 7 (wMod [(80, 1), (84, 2 ^ 30 - 1)]) {}
      {}).setDom 1 wDom), rfl, by decide +kernel⟩,
   ⟨7, 3, _, (wMod [(80, 1), (84, 1), (98, 65535), (120, 1)]), (wSlot 7 (wMod [(80, 1), (84, 1), (98, 65535), (120, 1)])), ((wIss 7 (wMod [(80, 1),
      (84, 1), (98, 65535), (120, 1)]) {} {}).setDom 1 wDom), rfl, by decide +kernel⟩,
   ⟨7, 3, _, {}, (wSlot 1 {}), (wIss 1 {} {} {}), rfl, by decide +kernel⟩,
   ⟨7, 3, _, {}, (wSlot 6 {}), (wIss 6 {} {} {}), rfl, by decide +kernel⟩,
   ⟨7, 3, _, (wMod [(80, 1), (84, 1), (98, 65535)]), (wSlot 8 (wMod [(80, 1), (84, 1), (98, 65535)])), ((wIss 8 (wMod [(80, 1), (84, 1), (98, 65535)])
      { late := true } {}).setDom 1 wDom), rfl, by decide +kernel⟩,
   ⟨7, 3, _, (wMod [(80, 7), (83, 2)]), (wSlot 9 (wMod [(80, 7), (83, 2)])), (wIss 9 (wMod [(80, 7), (83, 2)]) {}
      { ctxs := [(30, { state := .waitLine, wait := .line 3 (some (2, 3)) })] }), _, rfl, rfl, wait_ne_line_none _ (by decide +kernel),
      by decide +kernel⟩,
   ⟨7, 3, by unfold isCx; decide +kernel⟩,
   ⟨7, 3, _, 5, 255, 9,
      (({ ctxs := [(31, { state := .waitSync, wait := .nest, sync := some (1, 5, 255, 9) })], cores := [(7, { slots := [{ wSlot 0x20 {} with retired := true }, { wSlot 0 {} with id := 10 }] })] }
      : State)), rfl, by unfold isCx; decide +kernel⟩,
   ⟨7, 3, 2, 15, 3, 9,
      (({ ctxs := [(7, { state := .ready }), (31, { state := .waitSync, wait := .nest, sync := some (2, 15, 3, 9) })], cores := [(7, { slots := [{ wSlot 0x20 {} with retired := true }, { wSlot 0 {} with id := 10 }] })] }
      : State)), 7, by unfold isCx; decide +kernel⟩,
   ⟨7, 3, 1, 7, 1280,
      (({ ctxs := [(31, { state := .waitLine, wait := .line 1 (some (7, 1280)) })], cores := [(7, { slots := [{ wSlot 7 {} with issued := true }] })] }
      : State).setDom 1 { wDom with lineAt := 0, line := 5 }), by unfold isCx; decide +kernel⟩,
   ⟨0, 0, 1, 7, 1280, (({ ctxs := [(0, { state := .waitLine, wait := .timed 1 7 1280 })] } : State).setDom 1 { wDom with lineAt := 0, line := 5 }),
      by unfold isCx; decide +kernel⟩,
   ⟨7, 3, 1, 6, 1280, (({ ctxs := [(31, { state := .waitLine, deadline := some (1, 6, 1280) })] } : State).setDom 1 wDom),
      by unfold isCx; decide +kernel⟩⟩

/-- The hypotheses of `Obligations.FlowInstructionsTakeEffect` can be met, clause by clause. -/
theorem witness_flow_instructions_take_effect :
    (∃ (n : Nat) (m : Nat) (op : Nat) (w : Insn) (sl : Slot) (s : State), op = 0x55 ∧ s.issueAt n m op w = some sl) ∧
    (∃ (n : Nat) (m : Nat) (op : Nat) (w : Insn) (sl : Slot) (s : State), op = 0x56 ∧ s.issueAt n m op w = some sl) ∧
    (∃ (n : Nat) (m : Nat) (op : Nat) (w : Insn) (sl : Slot) (s : State), op = 0x52 ∧ s.issueAt n m op w = some sl ∧ 0 ≤ (sl.idx : Int) + sx 32 (mo w
      111 80)) ∧
    (∃ (n : Nat) (m : Nat) (op : Nat) (w : Insn) (sl : Slot) (s : State), op = 0x52 ∧ s.issueAt n m op w = some sl ∧ (sl.idx : Int) + sx 32 (mo w 111
      80) < 0 ∧ s.pass.barriers = []) ∧
    (∃ (n : Nat) (m : Nat) (op : Nat) (w : Insn) (sl : Slot) (s : State), op = 0x53 ∧ s.issueAt n m op w = some sl ∧ s.sreg n m (mo w 83 80) = 0 ∧ 0 ≤
      (sl.idx : Int) + sx 32 (mo w 115 84)) ∧
    (∃ (n : Nat) (m : Nat) (op : Nat) (w : Insn) (sl : Slot) (s : State), op = 0x53 ∧ s.issueAt n m op w = some sl ∧ s.sreg n m (mo w 83 80) ≠ 0) ∧
    (∃ (n : Nat) (m : Nat) (op : Nat) (w : Insn) (sl : Slot) (s : State), op = 0x54 ∧ s.issueAt n m op w = some sl ∧ s.sreg n m (mo w 83 80) ≠ 0 ∧ 0 ≤
      (sl.idx : Int) + sx 32 (mo w 115 84)) ∧
    (∃ (n : Nat) (m : Nat) (op : Nat) (w : Insn) (sl : Slot) (s : State), op = 0x54 ∧ s.issueAt n m op w = some sl ∧ s.sreg n m (mo w 83 80) = 0) ∧
    (∃ (n : Nat) (m : Nat) (op : Nat) (w : Insn) (sl : Slot) (s : State) (c : Int), op = 0x50 ∧ s.issueAt n m op w = some sl ∧ c = (if mo w 84 84 = 0
      then ((mo w 104 89 : Nat) : Int) else sx 32 (s.sreg n m (mo w 88 85)).toNat) ∧ c ≤ 0) ∧
    (∃ (n : Nat) (m : Nat) (op : Nat) (w : Insn) (sl : Slot) (s : State) (c : Int), op = 0x50 ∧ s.issueAt n m op w = some sl ∧ c = (if mo w 84 84 = 0
      then ((mo w 104 89 : Nat) : Int) else sx 32 (s.sreg n m (mo w 88 85)).toNat) ∧ 0 < c) ∧
    (∃ (n : Nat) (m : Nat) (op : Nat) (w : Insn) (sl : Slot) (s : State), op = 0x51 ∧ s.issueAt n m op w = some sl ∧ mo w 127 112 ≤ sl.idx) ∧
    (∃ (n : Nat) (m : Nat) (op : Nat) (w : Insn) (sl : Slot) (s : State) (h : _) (v : _) (b : _) (idx : _), op = 0x57 ∧ h = (s.sreg n m (mo w 87
      84)).toNat ∧ v = (s.sreg n m (mo w 91 88)).toNat ∧ s.issueAt n m op w = some sl ∧ coverOf (s.ctx (4 * n + m)).buckets 0 h v = some (b, idx)) ∧
    (∃ (n : Nat) (m : Nat) (op : Nat) (w : Insn) (sl : Slot) (s : State) (h : _) (v : _), op = 0x57 ∧ h = (s.sreg n m (mo w 87 84)).toNat ∧ v =
      (s.sreg n m (mo w 91 88)).toNat ∧ s.issueAt n m op w = some sl ∧ coverOf (s.ctx (4 * n + m)).buckets 0 h v = none) :=
  ⟨⟨7, 3, _, (wMod [(80, 15), (84, 0xFFFFFFFF)]), (wSlot 0x55 (wMod [(80, 15), (84, 0xFFFFFFFF)])), (wIss 0x55 (wMod [(80, 15), (84, 0xFFFFFFFF)]) {}
      {}), rfl, by decide +kernel⟩,
   ⟨7, 3, _, (wMod [(80, 15), (84, 15), (88, 7), (92, 14)]), (wSlot 0x56 (wMod [(80, 15), (84, 15), (88, 7), (92, 14)])), (wReg [(Addr.tcCxS 7 3 15,
      0x80000000), (Addr.tcCxS 7 3 14, 33)] (wIss 0x56 (wMod [(80, 15), (84, 15), (88, 7), (92, 14)]) {} {})), rfl, by decide +kernel⟩,
   ⟨7, 3, _, (wMod [(80, 0xFFFFFFFB)]), (wSlot 0x52 (wMod [(80, 0xFFFFFFFB)])), (wIss 0x52 (wMod [(80, 0xFFFFFFFB)]) {} {}), rfl, by decide +kernel⟩,
   ⟨7, 3, _, (wMod [(80, 0xFFFFFFFA)]), (wSlot 0x52 (wMod [(80, 0xFFFFFFFA)])), (wIss 0x52 (wMod [(80, 0xFFFFFFFA)]) {} {}), rfl, by decide +kernel⟩,
   ⟨7, 3, _, (wMod [(80, 15), (84, 4)]), (wSlot 0x53 (wMod [(80, 15), (84, 4)])), (wIss 0x53 (wMod [(80, 15), (84, 4)]) {} {}), rfl,
      by decide +kernel⟩,
   ⟨7, 3, _, (wMod [(80, 15), (84, 4)]), (wSlot 0x53 (wMod [(80, 15), (84, 4)])), (wReg [(Addr.tcCxS 7 3 15, 1)] (wIss 0x53 (wMod [(80, 15), (84, 4)])
      {} {})), rfl, by decide +kernel⟩,
   ⟨7, 3, _, (wMod [(80, 15), (84, 4)]), (wSlot 0x54 (wMod [(80, 15), (84, 4)])), (wReg [(Addr.tcCxS 7 3 15, 1)] (wIss 0x54 (wMod [(80, 15), (84, 4)])
      {} {})), rfl, by decide +kernel⟩,
   ⟨7, 3, _, (wMod [(80, 15), (84, 4)]), (wSlot 0x54 (wMod [(80, 15), (84, 4)])), (wIss 0x54 (wMod [(80, 15), (84, 4)]) {} {}), rfl,
      by decide +kernel⟩,
   ⟨7, 3, _, (wMod [(80, 15), (112, 65535)]), (wSlot 0x50 (wMod [(80, 15), (112, 65535)])), (wIss 0x50 (wMod [(80, 15), (112, 65535)]) {} {}), 0, rfl,
      by decide +kernel⟩,
   ⟨7, 3, _, (wMod [(80, 15), (89, 65535), (112, 65535)]), (wSlot 0x50 (wMod [(80, 15), (89, 65535), (112, 65535)])), (wIss 0x50 (wMod [(80, 15), (89,
      65535), (112, 65535)]) {} {}), 65535, rfl, by decide +kernel⟩,
   ⟨7, 3, _, (wMod [(80, 15), (112, 5)]), (wSlot 0x51 (wMod [(80, 15), (112, 5)])), (wReg [(Addr.tcCxS 7 3 15, 2)] (wIss 0x51 (wMod [(80, 15), (112,
      5)]) {} {})), rfl, by decide +kernel⟩,
   ⟨7, 3, _, (wMod [(80, 15), (84, 14), (88, 13), (92, 1)]), (wSlot 0x57 (wMod [(80, 15), (84, 14), (88, 13), (92, 1)])), (wReg [(Addr.tcCxS 7 3 14,
      8), (Addr.tcCxS 7 3 13, 16)] (wIss 0x57 (wMod [(80, 15), (84, 14), (88, 13), (92, 1)]) { buckets := [(4, 16, 2), (8, 16, 3)] } {})), _, _, 1, 3,
      rfl, rfl, rfl, by decide +kernel⟩,
   ⟨7, 3, _, (wMod [(80, 15), (84, 14), (88, 13), (92, 1)]), (wSlot 0x57 (wMod [(80, 15), (84, 14), (88, 13), (92, 1)])), (wReg [(Addr.tcCxS 7 3 14,
      9), (Addr.tcCxS 7 3 13, 16)] (wIss 0x57 (wMod [(80, 15), (84, 14), (88, 13), (92, 1)])
      { buckets := [(4, 16, 2), (8, 16, 3)], valid := some (1, 1) } {})), _, _, rfl, rfl, rfl, by decide +kernel⟩⟩

/-- The hypotheses of `Obligations.ElementWritesReadBack` can be met, clause by clause. -/
theorem witness_element_writes_read_back :
    (∃ (sp : Nat) (l : List EWrite) (w : _), sp ≤ 2 ∧ (∀ w, w ∈ l → w.na % 2 = 0 ∧ w.nib % 2 = 0 ∧ 2 ≤ w.nib) ∧ l.Pairwise (fun v w => v.na + v.nib ≤
      w.na ∨ w.na + w.nib ≤ v.na) ∧ w ∈ l) ∧
    (∃ (sp : Nat) (l : List EWrite) (sp' : _) (a : _), sp ≤ 2 ∧ (∀ w, w ∈ l → w.na % 2 = 0 ∧ w.nib % 2 = 0 ∧ 2 ≤ w.nib) ∧ l.Pairwise (fun v w => v.na
      + v.nib ≤ w.na ∨ w.na + w.nib ≤ v.na) ∧ sp' ≤ 2 ∧ (sp' ≠ sp ∨ ∀ w, w ∈ l → 2 * a < w.na ∨ w.na + w.nib ≤ 2 * a)) ∧
    (∃ (sp : Nat) (w : EWrite), sp ≤ 2 ∧ w.nib = 1) ∧
    (∃ (sp : Nat) (w : EWrite) (k : _), sp ≤ 2 ∧ w.nib = 1 ∧ k ≠ w.na) ∧
    (∃ (c : Core) (sp : Nat) (l : List EWrite), sp ≤ 2 ∧ c.taint = none ∧ (sp = 0 → c.spmBad = []) ∧ (∀ w, w ∈ l → 1 ≤ w.nib ∧ w.na % 64 + w.nib ≤
      64)) :=
  ⟨⟨0, [wW 0 2 0x1ff false, wW 8 8 0x123456789 true, wW 2 4 0xabcd false], (wW 2 4 0xabcd false), by decide +kernel⟩,
   ⟨0, [wW 0 2 0x1ff false], 0, 8, by decide +kernel⟩,
   ⟨0, (wW 1 1 0x13 false), by decide +kernel⟩,
   ⟨1, (wW 6 1 0x13 false), 7, by decide +kernel⟩,
   ⟨{ spmPoison := [(1, true)] }, 0, [wW 64 64 5 false], by decide +kernel⟩⟩

/-- The hypotheses of `Obligations.MovementInstructionsMoveBytes` can be met, clause by clause. -/
theorem witness_movement_instructions_move_bytes :
    (∃ (n : Nat) (m : Nat) (op : Nat) (w : Insn) (sl : Slot) (s : State) (a : Desc) (d : Desc) (l : List (Nat × Nat)), a = (s.ctx (4 * n + m)).desc
      w.opa ∧ d = (s.ctx (4 * n + m)).desc w.dst ∧ l = s.movePairs n m op w ∧ op = 0x10 ∧ s.issues n m op w sl ∧ s.checks n m sl [] = none ∧ sameShape
      a d = true ∧ a.space = 3 ∧ (d.space = 0 ∨ d.space = 2)) ∧
    (∃ (n : Nat) (m : Nat) (op : Nat) (w : Insn) (sl : Slot) (s : State) (a : Desc) (d : Desc) (l : List (Nat × Nat)), a = (s.ctx (4 * n + m)).desc
      w.opa ∧ d = (s.ctx (4 * n + m)).desc w.dst ∧ l = s.movePairs n m op w ∧ op = 0x11 ∧ s.issues n m op w sl ∧ s.checks n m sl [] = none ∧ sameShape
      a d = true ∧ a.space = 0 ∧ d.space = 3) ∧
    (∃ (n : Nat) (m : Nat) (op : Nat) (w : Insn) (sl : Slot) (s : State) (a : Desc) (d : Desc) (l : List (Nat × Nat)), a = (s.ctx (4 * n + m)).desc
      w.opa ∧ d = (s.ctx (4 * n + m)).desc w.dst ∧ l = s.movePairs n m op w ∧ op = 0x13 ∧ s.issues n m op w sl ∧ s.checks n m sl [] = none ∧ sameShape
      a d = true ∧ onChip a.space = true ∧ onChip d.space = true) ∧
    (∃ (n : Nat) (m : Nat) (op : Nat) (w : Insn) (sl : Slot) (s : State) (a : Desc) (d : Desc) (l : List (Nat × Nat)), a = (s.ctx (4 * n + m)).desc
      w.opa ∧ d = (s.ctx (4 * n + m)).desc w.dst ∧ l = s.movePairs n m op w ∧ op = 0x14 ∧ s.issues n m op w sl ∧ s.checks n m sl [] = none ∧ onChip
      d.space = true) ∧
    (∃ (n : Nat) (m : Nat) (op : Nat) (w : Insn) (sl : Slot) (s : State) (a : Desc) (d : Desc) (l : List (Nat × Nat)), a = (s.ctx (4 * n + m)).desc
      w.opa ∧ d = (s.ctx (4 * n + m)).desc w.dst ∧ l = s.movePairs n m op w ∧ op = 0x12 ∧ s.issues n m op w sl ∧ s.checks n m sl [] = none ∧ sameShape
      a d = true ∧ a.space = 3 ∧ d.space = 0 ∧ nbit (mo w 87 80) n = 1 ∧ s.rb Addr.wchCtrl 0 = false ∧ a.dense = true ∧ l ≠ [] ∧ (s.fillSrc n m w).1 %
      64 = 0 ∧ (s.fillSrc n m w).2 % 64 = 0 ∧ s.rb Addr.wchCtrl 31 = true ∧ s.wch.bypass = 0 ∧ s.wch.groupsA = []) ∧
    (∃ (n : Nat) (m : Nat) (op : Nat) (w : Insn) (sl : Slot) (s : State) (a : Desc) (d : Desc) (l : List (Nat × Nat)), a = (s.ctx (4 * n + m)).desc
      w.opa ∧ d = (s.ctx (4 * n + m)).desc w.dst ∧ l = s.movePairs n m op w ∧ op = 0x12 ∧ s.issues n m op w sl ∧ s.checks n m sl [] = none ∧ sameShape
      a d = true ∧ a.space = 3 ∧ d.space = 0 ∧ nbit (mo w 87 80) n = 1 ∧ s.rb Addr.wchCtrl 0 = false ∧ a.dense = true ∧ l ≠ [] ∧ (s.fillSrc n m w).1 %
      64 = 0 ∧ (s.fillSrc n m w).2 % 64 = 0 ∧ s.rb Addr.wchCtrl 31 = false) ∧
    (∃ (n : Nat) (m : Nat) (op : Nat) (w : Insn) (sl : Slot) (s : State) (a : Desc) (d : Desc) (l : List (Nat × Nat)), a = (s.ctx (4 * n + m)).desc
      w.opa ∧ d = (s.ctx (4 * n + m)).desc w.dst ∧ l = s.movePairs n m op w ∧ op = 0x10 ∧ s.issues n m op w sl ∧ s.pass.barriers = [] ∧ a.space ≠ 3) ∧
    (∃ (n : Nat) (m : Nat) (op : Nat) (w : Insn) (sl : Slot) (s : State) (a : Desc) (d : Desc) (l : List (Nat × Nat)), a = (s.ctx (4 * n + m)).desc
      w.opa ∧ d = (s.ctx (4 * n + m)).desc w.dst ∧ l = s.movePairs n m op w ∧ op = 0x11 ∧ s.issues n m op w sl ∧ s.pass.barriers = [] ∧ d.space ≠ 3) ∧
    (∃ (n : Nat) (m : Nat) (op : Nat) (w : Insn) (sl : Slot) (s : State) (a : Desc) (d : Desc) (l : List (Nat × Nat)), a = (s.ctx (4 * n + m)).desc
      w.opa ∧ d = (s.ctx (4 * n + m)).desc w.dst ∧ l = s.movePairs n m op w ∧ op = 0x12 ∧ s.issues n m op w sl ∧ s.pass.barriers = [] ∧ a.space ≠ 3) ∧
    (∃ (n : Nat) (m : Nat) (op : Nat) (w : Insn) (sl : Slot) (s : State) (a : Desc) (d : Desc) (l : List (Nat × Nat)), a = (s.ctx (4 * n + m)).desc
      w.opa ∧ d = (s.ctx (4 * n + m)).desc w.dst ∧ l = s.movePairs n m op w ∧ op = 0x13 ∧ s.issues n m op w sl ∧ s.pass.barriers = [] ∧ onChip d.space
      = false) ∧
    (∃ (n : Nat) (m : Nat) (op : Nat) (w : Insn) (sl : Slot) (s : State) (a : Desc) (d : Desc) (l : List (Nat × Nat)), a = (s.ctx (4 * n + m)).desc
      w.opa ∧ d = (s.ctx (4 * n + m)).desc w.dst ∧ l = s.movePairs n m op w ∧ op = 0x14 ∧ s.issues n m op w sl ∧ s.pass.barriers = [] ∧ onChip d.space
      = false) ∧
    (∃ (n : Nat) (id : Nat) (sl : Slot) (p : Pend) (s : State), n < 8 ∧ (s.core n).slot? id = some sl ∧ sl.op = 0x10 ∧ sl.retired = false ∧ sl.space ≤
      2 ∧ sl.sent.find? (·.line == p.line) = some p ∧ inDram p.line = true ∧ s.fwAllow (.tc n) p.line false = true ∧ s.memOk p.line = true ∧
      (p.bytes.map (·.1)).Nodup ∧ (∀ b, b ∈ p.bytes → p.line ≤ b.2 ∧ b.2 < p.line + 64)) :=
  ⟨⟨7, 3, _, (wMv {}), (wSlot 0x10 (wMv {})), (wSpm (wIss 0x10 (wMv {}) (wOps (wOpd 3 0x100000020) (wOpd 0 64)) {})), _, _, _, rfl, rfl, rfl, rfl,
      by unfold State.issues Slot.fresh; decide +kernel⟩,
   ⟨7, 3, _, (wMv {}), (wSlot 0x11 (wMv {})), (wDram (wSpm (wIss 0x11 (wMv {}) (wOps (wOpd 0 0) (wOpd 3 0x100000020)) {}))), _, _, _, rfl, rfl, rfl,
      rfl, by unfold State.issues Slot.fresh; decide +kernel⟩,
   ⟨7, 3, _, (wMv {}), (wSlot 0x13 (wMv {})), (wDram (wSpm (wIss 0x13 (wMv {}) (wOps (wOpd 0 0) (wOpd 0 64)) {}))), _, _, _, rfl, rfl, rfl, rfl,
      by unfold State.issues Slot.fresh; decide +kernel⟩,
   ⟨7, 3, _, (wMv (wMod [(80, 0xA5)])), (wSlot 0x14 (wMv (wMod [(80, 0xA5)]))), (wDram (wSpm (wIss 0x14 (wMv (wMod [(80, 0xA5)])) (wOps (wOpd 2 0)
      (wOpd 0 16)) {}))), _, _, _, rfl, rfl, rfl, rfl, by unfold State.issues Slot.fresh; decide +kernel⟩,
   ⟨7, 3, _, (wMv (wMod [(80, 0x80)])), (wSlot 0x12 (wMv (wMod [(80, 0x80)]))), (wReg [(Addr.wchCtrl, 0x80000000)] (wSpm (wIss 0x12 (wMv (wMod [(80,
      0x80)])) (wOps (wOpd 3 0x100000040) (wOpd 0 64)) {}))), _, _, _, rfl, rfl, rfl, rfl, by unfold State.issues Slot.fresh; decide +kernel⟩,
   ⟨7, 3, _, (wMv (wMod [(80, 0x80)])), (wSlot 0x12 (wMv (wMod [(80, 0x80)]))), (wSpm (wIss 0x12 (wMv (wMod [(80, 0x80)])) (wOps (wOpd 3 0x100000040)
      (wOpd 0 64)) {})), _, _, _, rfl, rfl, rfl, rfl, by unfold State.issues Slot.fresh; decide +kernel⟩,
   ⟨7, 3, _, (wMv {}), (wSlot 0x10 (wMv {})), (wSpm (wIss 0x10 (wMv {}) (wOps (wOpd 2 0) (wOpd 0 64)) {})), _, _, _, rfl, rfl, rfl, rfl,
      by unfold State.issues Slot.fresh; decide +kernel⟩,
   ⟨7, 3, _, (wMv {}), (wSlot 0x11 (wMv {})), (wSpm (wIss 0x11 (wMv {}) (wOps (wOpd 2 0) (wOpd 0 64)) {})), _, _, _, rfl, rfl, rfl, rfl,
      by unfold State.issues Slot.fresh; decide +kernel⟩,
   ⟨7, 3, _, (wMv {}), (wSlot 0x12 (wMv {})), (wSpm (wIss 0x12 (wMv {}) (wOps (wOpd 2 0) (wOpd 0 64)) {})), _, _, _, rfl, rfl, rfl, rfl,
      by unfold State.issues Slot.fresh; decide +kernel⟩,
   ⟨7, 3, _, (wMv {}), (wSlot 0x13 (wMv {})), (wSpm (wIss 0x13 (wMv {}) (wOps (wOpd 2 0) (wOpd 3 64)) {})), _, _, _, rfl, rfl, rfl, rfl,
      by unfold State.issues Slot.fresh; decide +kernel⟩,
   ⟨7, 3, _, (wMv {}), (wSlot 0x14 (wMv {})), (wSpm (wIss 0x14 (wMv {}) (wOps (wOpd 2 0) (wOpd 3 64)) {})), _, _, _, rfl, rfl, rfl, rfl,
      by unfold State.issues Slot.fresh; decide +kernel⟩,
   ⟨7, 9, { wFly 0x10 {} with sent := [⟨0x100000000, [(5, 0x10000003f), (6, 0x100000000)]⟩] }, ⟨0x100000000, [(5, 0x10000003f), (6, 0x100000000)]⟩,
      ((wDram { cores := [(7, { slots := [{ wFly 0x10 {} with sent := [⟨0x100000000, [(5, 0x10000003f), (6, 0x100000000)]⟩] }] })] }).setByte
      0x10000003f 9), by decide +kernel⟩⟩

/-- The hypotheses of `Obligations.ComputeInstructionsComplete` can be met, clause by clause. -/
theorem witness_compute_instructions_complete :
    (∃ (n : Nat) (m : Nat) (op : Nat) (w : Insn) (sl : Slot) (c : Instr) (x : Ctx) (a : Desc) (b : Desc) (d : Desc) (own : List (Option Nat)) (s :
      State), x = s.ctx (4 * n + m) ∧ a = x.desc w.opa ∧ b = x.desc w.opb ∧ d = x.desc w.dst ∧ own = vecChecks op w a b d ∧ s.issues n m op w sl ∧ (c,
      op) ∈ [(Instr.mmulI n m w, 0x20), (.convI n m w, 0x21), (.dwconvI n m w, 0x22), (.vopI n m w, 0x30), (.actI n m w, 0x31), (.reqI n m w, 0x32),
      (.reduceI n m w, 0x33), (.shufI n m w, 0x34), (.poolmaxI n m w, 0x38), (.poolavgI n m w, 0x39)] ∧ s.checks n m sl own = none) ∧
    (∃ (n : Nat) (m : Nat) (op : Nat) (w : Insn) (sl : Slot) (c : Instr) (x : Ctx) (a : Desc) (b : Desc) (d : Desc) (own : List (Option Nat)) (s :
      State) (k : _), x = s.ctx (4 * n + m) ∧ a = x.desc w.opa ∧ b = x.desc w.opb ∧ d = x.desc w.dst ∧ own = vecChecks op w a b d ∧ s.issues n m op w
      sl ∧ (c, op) ∈ [(Instr.mmulI n m w, 0x20), (.convI n m w, 0x21), (.dwconvI n m w, 0x22), (.vopI n m w, 0x30), (.actI n m w, 0x31), (.reqI n m w,
      0x32), (.reduceI n m w, 0x33), (.shufI n m w, 0x34), (.poolmaxI n m w, 0x38), (.poolavgI n m w, 0x39)] ∧ s.checks n m sl own = some k ∧
      s.pass.barriers = []) ∧
    (∃ (n : Nat) (u : TcUnit) (o : Slot) (s : State), n < 8 ∧ serialUnit u = true ∧ (s.core n).preempts u = some o) :=
  ⟨⟨7, 3, 0x20, { opa := 0, opb := 1, dst := 2, nest := 65535 }, (wSlot 0x20 ({ opa := 0, opb := 1, dst := 2, nest := 65535 })), (.mmulI 7 3
      ({ opa := 0, opb := 1, dst := 2, nest := 65535 })), _, _, _, _, _, (wIss 0x20 { opa := 0, opb := 1, dst := 2, nest := 65535 } wArr
      { cores := [(7, { spm := [(0, 3), (5, 7)], tray := [(0, 2), (1, 250)], trayPoison := [] })] }), rfl, rfl, rfl, rfl, rfl,
      by unfold State.issues Slot.fresh; decide +kernel⟩,
   ⟨7, 3, 0x20, { opa := 0, opb := 1, dst := 3, nest := 65535 }, (wSlot 0x20 ({ opa := 0, opb := 1, dst := 3, nest := 65535 })), (.mmulI 7 3
      ({ opa := 0, opb := 1, dst := 3, nest := 65535 })), _, _, _, _, _, (wIss 0x20 { opa := 0, opb := 1, dst := 3, nest := 65535 } wArr
      { cores := [(7, { spm := [(0, 3), (5, 7)], tray := [(0, 2), (1, 250)], trayPoison := [] })] }), 1, rfl, rfl, rfl, rfl, rfl,
      by unfold State.issues Slot.fresh; decide +kernel⟩,
   ⟨7, .dpa, { wFly 0x20 {} with id := 2, cx := 0, running := false },
      (({ cores := [(7, { slots := [{ wFly 0x20 {} with id := 1 }, { wFly 0x20 {} with id := 2, cx := 0, running := false }], spm := [(3, 4)] })] } :
      State)), by decide +kernel⟩⟩

/-- The hypotheses of `Obligations.PassInstructionsUseTheQueues` can be met, clause by clause. -/
theorem witness_pass_instructions_use_the_queues :
    (∃ (n : Nat) (m : Nat) (op : Nat) (w : Insn) (sl : Slot) (s : State) (q : _) (d : _) (it : _) (r : _), op = 0x40 ∧ q = mo w 85 80 ∧ d = mo w 89 86
      ∧ s.issues n m op w sl ∧ (s.queue q).items = it :: r ∧ s.canPop (hCtx n m) q = true ∧ s.whyStale it.handle HState.isQueued = none ∧ hdPool
      it.handle ≠ 63) ∧
    (∃ (n : Nat) (m : Nat) (op : Nat) (w : Insn) (sl : Slot) (s : State) (q : _) (d : _), op = 0x40 ∧ q = mo w 85 80 ∧ d = mo w 89 86 ∧ s.issues n m
      op w sl ∧ (s.queue q).items = [] ∧ nbit w.flags 3 = 0) ∧
    (∃ (n : Nat) (m : Nat) (op : Nat) (w : Insn) (sl : Slot) (s : State) (q : _) (d : _), op = 0x40 ∧ q = mo w 85 80 ∧ d = mo w 89 86 ∧ s.issues n m
      op w sl ∧ (s.queue q).items = [] ∧ nbit w.flags 3 = 1) ∧
    (∃ (n : Nat) (m : Nat) (op : Nat) (w : Insn) (sl : Slot) (s : State) (it : _) (q : _), op = 0x41 ∧ it = s.pushItem n m w ∧ q = mo w 85 80 ∧
      s.pushReady (hCtx n m) q it.handle ∧ s.issues n m op w sl ∧ s.whyStale it.handle HState.isHeld = none) ∧
    (∃ (n : Nat) (m : Nat) (op : Nat) (w : Insn) (sl : Slot) (s : State) (it : _) (q : _) (det : _), op = 0x41 ∧ it = s.pushItem n m w ∧ q = mo w 85
      80 ∧ s.issues n m op w sl ∧ s.whyStale it.handle HState.isHeld = some det ∧ s.pass.barriers = []) ∧
    (∃ (n : Nat) (m : Nat) (op : Nat) (w : Insn) (sl : Slot) (s : State) (p : _) (d : _) (i : _) (r : _), op = 0x42 ∧ p = mo w 84 80 ∧ d = mo w 89 86
      ∧ s.issues n m op w sl ∧ s.bumping p = false ∧ s.plOn p = true ∧ (s.pool p).free = i :: r) ∧
    (∃ (n : Nat) (m : Nat) (op : Nat) (w : Insn) (sl : Slot) (s : State) (p : _) (d : _), op = 0x42 ∧ p = mo w 84 80 ∧ d = mo w 89 86 ∧ s.issues n m
      op w sl ∧ s.bumping p = false ∧ (s.plOn p = false ∨ (s.pool p).free = [])) ∧
    (∃ (n : Nat) (m : Nat) (op : Nat) (w : Insn) (sl : Slot) (s : State) (h : _), op = 0x43 ∧ h = s.sreg n m (mo w 89 86) ∧ s.issues n m op w sl ∧
      hdPool h = 63) ∧
    (∃ (n : Nat) (m : Nat) (op : Nat) (w : Insn) (sl : Slot) (s : State) (h : _), op = 0x43 ∧ h = s.sreg n m (mo w 89 86) ∧ s.issues n m op w sl ∧
      hdPool h ≠ 63 ∧ s.whyStale h HState.isHeld = none ∧ s.bumping (hdPool h) = false ∧ hdIdx h ∉ (s.pool (hdPool h)).queued) ∧
    (∃ (n : Nat) (m : Nat) (op : Nat) (w : Insn) (sl : Slot) (s : State), op = 0x48 ∧ s.issues n m op w sl) ∧
    (∃ (n : Nat) (m : Nat) (op : Nat) (w : Insn) (sl : Slot) (s : State) (k : _) (v : _), op = 0x49 ∧ k = s.sreg n m (mo w 83 80) ∧ s.issues n m op w
      sl ∧ s.ticketStatus k = some v) ∧
    (∃ (n : Nat) (m : Nat) (op : Nat) (w : Insn) (sl : Slot) (s : State) (k : _), op = 0x49 ∧ k = s.sreg n m (mo w 83 80) ∧ s.issues n m op w sl ∧
      s.ticketStatus k = none) ∧
    (∃ (n : Nat) (m : Nat) (q : Nat) (sl : Slot) (s : State) (it : _) (r : _), q = mo sl.w 85 80 ∧ isCx n m ∧ (s.core n).passSlot m = some sl ∧ (s.ctx
      (4 * n + m)).sync = none ∧ sl.op = 0x40 ∧ (s.queue q).items = it :: r ∧ s.canPop (hCtx n m) q = true ∧ s.whyStale it.handle HState.isQueued =
      none) ∧
    (∃ (n : Nat) (m : Nat) (q : Nat) (sl : Slot) (s : State) (it : _), q = mo sl.w 85 80 ∧ s.pushReady (hCtx n m) q it.handle ∧ isCx n m ∧ (s.core
      n).passSlot m = some sl ∧ (s.ctx (4 * n + m)).sync = none ∧ sl.op = 0x41 ∧ sl.item = some it ∧ s.whyStale it.handle HState.isHeld = none) :=
  ⟨⟨7, 3, _, (wMod [(80, 4), (86, 12)]), (wSlot 0x40 (wMod [(80, 4), (86, 12)])), (wQd (wIss 0x40 (wMod [(80, 4), (86, 12)]) {} {})), _, _, ⟨wHd,
      0x1122334455667788, 0x00050006⟩, [], rfl, rfl, rfl, by unfold State.issues Slot.fresh; decide +kernel⟩,
   ⟨7, 3, _, (wMod [(80, 63), (86, 12)]), (wSlot 0x40 (wMod [(80, 63), (86, 12)])), (wIss 0x40 (wMod [(80, 63), (86, 12)]) {} {}), _, _, rfl, rfl,
      rfl, by unfold State.issues Slot.fresh; decide +kernel⟩,
   ⟨7, 3, _, { wMod [(80, 63), (86, 12)] with flags := 8 }, (wSlot 0x40 ({ wMod [(80, 63), (86, 12)] with flags := 8 })), (wIss 0x40
      { wMod [(80, 63), (86, 12)] with flags := 8 } {} {}), _, _, rfl, rfl, rfl, by unfold State.issues Slot.fresh; decide +kernel⟩,
   ⟨7, 3, _, (wMod [(80, 4), (86, 15), (90, 13), (94, 12)]), (wSlot 0x41 (wMod [(80, 4), (86, 15), (90, 13), (94, 12)])), (wReg [(Addr.tcCxS 7 3 15,
      wHd)] (wPass 31 (wIss 0x41 (wMod [(80, 4), (86, 15), (90, 13), (94, 12)]) { excluded := true, valid := some (4, 5) } {}))), _, _, rfl, rfl, rfl,
      ⟨fun _ => ⟨by decide +kernel, ⟨_, rfl⟩, by decide +kernel⟩, by decide +kernel, by decide +kernel, by decide +kernel⟩,
      by unfold State.issues Slot.fresh; decide +kernel⟩,
   ⟨7, 3, _, (wMod [(80, 4), (86, 15), (90, 13), (94, 12)]), (wSlot 0x41 (wMod [(80, 4), (86, 15), (90, 13), (94, 12)])), (wReg [(Addr.tcCxS 7 3 15,
      3)] (wPass 31 (wIss 0x41 (wMod [(80, 4), (86, 15), (90, 13), (94, 12)]) { excluded := true, valid := some (4, 5) } {}))), _, _, [], rfl, rfl,
      rfl, by unfold State.issues Slot.fresh; decide +kernel⟩,
   ⟨7, 3, _, (wMod [(80, 2), (86, 14)]), (wSlot 0x42 (wMod [(80, 2), (86, 14)])), (wPass 31 (wIss 0x42 (wMod [(80, 2), (86, 14)]) {} {})), _, _, 0,
      [1, 2, 4, 5, 6, 7], rfl, rfl, rfl, by unfold State.issues Slot.fresh; decide +kernel⟩,
   ⟨7, 3, _, (wMod [(80, 31), (86, 14)]), (wSlot 0x42 (wMod [(80, 31), (86, 14)])), (wPass 31 (wIss 0x42 (wMod [(80, 31), (86, 14)]) {} {})), _, _,
      rfl, rfl, rfl, by unfold State.issues Slot.fresh; decide +kernel⟩,
   ⟨7, 3, _, (wMod [(86, 15)]), (wSlot 0x43 (wMod [(86, 15)])), (wReg [(Addr.tcCxS 7 3 15, placeholder)] (wIss 0x43 (wMod [(86, 15)]) {} {})), _, rfl,
      rfl, by unfold State.issues Slot.fresh; decide +kernel⟩,
   ⟨7, 3, _, (wMod [(86, 15)]), (wSlot 0x43 (wMod [(86, 15)])), (wReg [(Addr.tcCxS 7 3 15, wHd)] (wPass 3 (wIss 0x43 (wMod [(86, 15)]) {} {}))), _,
      rfl, rfl, by unfold State.issues Slot.fresh; decide +kernel⟩,
   ⟨7, 3, _, (wMod [(80, 15), (84, 14)]), (wSlot 0x48 (wMod [(80, 15), (84, 14)])), (wReg [(Addr.tcCxS 7 3 15, 0x4000000)] (wIss 0x48 (wMod [(80, 15),
      (84, 14)]) {} {})), rfl, by unfold State.issues Slot.fresh; decide +kernel⟩,
   ⟨7, 3, _, (wMod [(80, 15), (84, 14)]), (wSlot 0x49 (wMod [(80, 15), (84, 14)])), (wReg [(Addr.tcCxS 7 3 15, 0xFFFFFFFF)] (wIss 0x49 (wMod [(80,
      15), (84, 14)]) {} {})), _, 0xFFFFFFFF, rfl, rfl, by unfold State.issues Slot.fresh; decide +kernel⟩,
   ⟨7, 3, _, (wMod [(80, 15), (84, 14)]), (wSlot 0x49 (wMod [(80, 15), (84, 14)])), (wReg [(Addr.tcCxS 7 3 15, 0x507)] (wIss 0x49 (wMod [(80, 15),
      (84, 14)]) {} { dpp := { slots := [(7, { phase := .running, seq := 5 })] } })), _, rfl, rfl, by unfold State.issues Slot.fresh; decide +kernel⟩,
   ⟨7, 3, _, wWait, (wQd { ctxs := [(31, { state := .waitPass, wait := .pass 4 false })], cores := [(7, { slots := [wWait] })] }), ⟨wHd,
      0x1122334455667788, 0x00050006⟩, [], rfl, by unfold isCx; decide +kernel⟩,
   ⟨7, 3, _, wPushW, (wPass 31 { ctxs := [(31, { state := .waitPass, wait := .pass 4 true })], cores := [(7, { slots := [wPushW] })] }),
      { handle := wHd, md := 5 }, rfl, ⟨fun _ => ⟨by decide +kernel, ⟨_, rfl⟩, by decide +kernel⟩, by decide +kernel, by decide +kernel,
      by decide +kernel⟩, by unfold isCx; decide +kernel⟩⟩

/-- The hypotheses of `Obligations.PassUnitObeysItsCommands` can be met, clause by clause. -/
theorem witness_pass_unit_obeys_its_commands :
    (∃ (q : Nat) (v : Word) (s : State), q < 64 ∧ s.pqLocked q = false ∧ s.rb (Addr.passPqCfg q) 31 = false ∧ bit v 31 = true ∧ 1 ≤ fld v 4 0 ∧ fld v
      4 0 ≤ 16) ∧
    (∃ (q : Nat) (v : Word) (s : State), q < 64 ∧ s.pqLocked q = false ∧ s.rb (Addr.passPqCfg q) 31 = false ∧ bit v 31 = true ∧ fld v 4 0 = 0 ∧
      s.pqDepth q = 0) ∧
    (∃ (q : Nat) (v : Word) (s : State), q < 64 ∧ s.pqLocked q = false ∧ s.rb (Addr.passPqCfg q) 31 = true ∧ bit v 31 = false ∧ fld v 4 0 = s.pqDepth
      q) ∧
    (∃ (q : Nat) (s : State), q < 64 ∧ s.pqLocked q = false) ∧
    (∃ (q : Nat) (s : State), q < 64 ∧ s.pqLocked q = true) ∧
    (∃ (q : Nat) (s : State), q < 64 ∧ (s.queue q).flushing = true) ∧
    (∃ (p : Nat) (mask : Word) (s : State), p < 32 ∧ (s.pool p).bump = none ∧ (∀ k, k ∈ maskBits mask.toNat 32 → (s.ctx k).state.live = false)) ∧
    (∃ (p : Nat) (mask : Word) (s : State), p < 32 ∧ (s.pool p).bump = none ∧ (∃ k, k ∈ maskBits mask.toNat 32 ∧ (s.ctx k).state.live = true)) ∧
    (∃ (p : Nat) (names : List Nat) (s : State), p < 32 ∧ (s.pool p).bump = some names ∧ s.flushHolds p = false) ∧
    (∃ (s : State), (∀ q, q < 64 → s.rb (Addr.passPqCfg q) 31 = false) ∧ (∀ p, p < 32 → (s.pool p).held = [] ∧ (s.pool p).queued = [])) ∧
    (∃ (v : Word) (s : State), s.rb Addr.passCtrl 0 = true ∧ bit v 0 = false ∧ (∃ q, q < 64 ∧ s.rb (Addr.passPqCfg q) 31 = true)) ∧
    (∃ (k : Nat) (s : State) (it : _) (r : _), k < 4 ∧ (s.queue (s.swPq k)).items = it :: r ∧ (s.pool (hdPool it.handle)).bump = none ∧ s.canPop (hCpu
      k) (s.swPq k) = true ∧ s.whyStale it.handle HState.isQueued = none) ∧
    (∃ (k : Nat) (s : State), k < 4 ∧ (s.queue (s.swPq k)).items = []) ∧
    (∃ (k : Nat) (s : State) (i : _) (r : _), k < 4 ∧ s.plOn (s.swPl k) = true ∧ (s.pool (s.swPl k)).bump = none ∧ (s.pool (s.swPl k)).free = i :: r)
      ∧
    (∃ (k : Nat) (s : State) (h : _) (w : _), h = s.reg (Addr.passSwHandle k) ∧ k < 4 ∧ hdPool h ≠ 63 ∧ (s.pool (hdPool h)).bump = none ∧ s.fresh? h =
      true ∧ (s.pool (hdPool h)).state (hdIdx h) = .held w) ∧
    (∃ (k : Nat) (s : State) (h : _), h = s.reg (Addr.passSwHandle k) ∧ s.pushReady (hCpu k) (s.swPq k) h ∧ k < 4 ∧ hdPool h ≠ 63 ∧ (s.pool (hdPool
      h)).bump = none) ∧
    (∃ (k : Nat) (who : _) (v : _) (c : _), k < 4 ∧ who ≠ .cpu k ∧ (c = Instr.swPop who k ∨ c = .swAlloc who k ∨ c = .swRelease who k ∨ c = .swPush
      who k v)) ∧
    (∃ (s : State), s.pass.audit = none) ∧
    (∃ (s : State), s.wch.audit = none) ∧
    (∃ (s : State), s.ms.audit = none) ∧
    (∃ (s : State) (x : _), s.pass.audit = some x) :=
  ⟨⟨63, 0x80000010, (({ pass := { queues := [(63, { items := [{}] })] } } : State)), by decide +kernel⟩,
   ⟨63, 0x80000000, (({ pass := { queues := [(63, { items := [{}] })] } } : State)), by decide +kernel⟩,
   ⟨63, 0x0000000f, (wReg [(Addr.passPqCfg 63, 0x8000000f)] { pass := { queues := [(63, { items := [{}], credits := 14 })] } }), by decide +kernel⟩,
   ⟨63, (({} : State)), by decide +kernel⟩,
   ⟨63, (wReg [(Addr.passPqLockHi, 0x80000000)] {}), by decide +kernel⟩,
   ⟨63, (({ pass := { queues := [(63, { items := [{}, { handle := wHd }], credits := 14, flushing := true })] } } : State)), by decide +kernel⟩,
   ⟨31, 0x80000001, (({} : State)), by decide +kernel⟩,
   ⟨31, 0x80000001, (({ ctxs := [(31, { state := .waitSync })] } : State)), by decide +kernel⟩,
   ⟨31, [0, 31], (({ pass := { pools := [(31, { gen := 255, held := [(3, 31), (4, 5), (6, 31)], queued := [9], bump := some [0, 31] })] } } : State)),
      by decide +kernel⟩,
   ⟨(({} : State)), by decide +kernel⟩,
   ⟨0, (wReg [(Addr.passCtrl, 1), (Addr.passPqCfg 63, 0x80000001)] {}), by decide +kernel⟩,
   ⟨3, (wReg [(Addr.passSwSel 3, 4)] (wQd {})), ⟨wHd, 0x1122334455667788, 0x00050006⟩, [], by decide +kernel⟩,
   ⟨0, (({} : State)), by decide +kernel⟩,
   ⟨3, (wReg [(Addr.passSwSel 3, 0x20004)] (wPass 3 {})), 0, [1, 2, 4, 5, 6, 7], by decide +kernel⟩,
   ⟨3, (wReg [(Addr.passSwHandle 3, wHd)] (wPass 0x67 {})), _, 0x67, rfl, by decide +kernel⟩,
   ⟨3, (wReg [(Addr.passSwHandle 3, wHd), (Addr.passSwSel 3, 4), (Addr.passSwMetaLo 3, 7)] (wPass 0x67 {})), _, rfl, ⟨fun _ => ⟨by decide +kernel, ⟨_,
      rfl⟩, by decide +kernel⟩, by decide +kernel, by decide +kernel, by decide +kernel⟩, by decide +kernel⟩,
   ⟨3, (.cpu 2), 0, (.swPush (.cpu 2) 3 0), by decide +kernel⟩,
   ⟨(wQd {}), by decide +kernel⟩,
   ⟨(wQd {}), by decide +kernel⟩,
   ⟨(wQd {}), by decide +kernel⟩,
   ⟨(({ pass := { audit := some ⟨auditWord 2 5, [(1, 10)]⟩ } } : State)), ⟨auditWord 2 5, [(1, 10)]⟩, by decide +kernel⟩⟩

/-- The hypotheses of `Obligations.CoreEventsTakeEffect` can be met, clause by clause. -/
theorem witness_core_events_take_effect :
    (∃ (n : Nat) (id : Nat) (sl : Slot) (s : State), n < 8 ∧ (s.core n).slot? id = some sl ∧ sl.issued = true ∧ sl.retired = false ∧ sl.running = true
      ∧ sl.pend = [] ∧ sl.sent = [] ∧ sl.canDrain = true ∧ sl.found = none ∧ sl.unit ≠ .seq ∧ (sl.writes.map (·.1)).Nodup ∧ (s.ctx (4 * n +
      sl.cx)).fault = none) ∧
    (∃ (n : Nat) (id : Nat) (a : Nat) (sl : Slot) (s : State), n < 8 ∧ (s.core n).slot? id = some sl ∧ sl.issued = true ∧ sl.retired = false ∧
      sl.running = true ∧ s.readsAt n sl 0 (a / 4 * 4) 4 = true ∧ (s.core n).spois 0 a = true) ∧
    (∃ (n : Nat) (id : Nat) (a : Nat) (sl : Slot) (s : State), n < 8 ∧ (s.core n).slot? id = some sl ∧ sl.issued = true ∧ sl.retired = false ∧
      sl.running = true ∧ s.readsAt n sl 0 (a / 4 * 4) 4 = true ∧ (s.core n).spois 0 a = false) ∧
    (∃ (n : Nat) (id : Nat) (a : Nat) (sl : Slot) (s : State), n < 8 ∧ (s.core n).slot? id = some sl ∧ sl.bad = some a ∧ sl.refill = false ∧
      sl.producer = none) ∧
    (∃ (n : Nat) (id : Nat) (a : Nat) (sl : Slot) (s : State) (p : _) (e : _), n < 8 ∧ (s.core n).slot? id = some sl ∧ sl.bad = some a ∧ sl.refill =
      false ∧ sl.producer = some p ∧ (s.core n).slot? p = some e ∧ (e.op = 0x10 ∨ e.stale = false) ∧ (s.asIssued n e.cx e).badRead n e.cx e.op e.w =
      none) ∧
    (∃ (n : Nat) (id : Nat) (e : Nat) (sl : Slot) (s : State), n < 8 ∧ (s.core n).slot? id = some sl ∧ sl.issued = true ∧ sl.retired = false ∧
      sl.running = true ∧ s.readsAt n sl 1 (4 * e) 4 = true ∧ (s.core n).spois 1 (4 * e) = false) ∧
    (∃ (who : Initiator) (a : Nat) (n : Nat) (x : Nat) (len : Nat) (s : State), inDbg a = true ∧ (n, x) = dbgAt a ∧ s.fwAllow who a false = true ∧
      dbgShape x len = true ∧ s.dbgOn n = true ∧ (s.core n).spmBad = []) ∧
    (∃ (who : Initiator) (a : Nat) (n : Nat) (x : Nat) (len : Nat) (s : State), inDbg a = true ∧ (n, x) = dbgAt a ∧ s.fwAllow who a false = true ∧
      (dbgShape x len = false ∨ s.dbgOn n = false)) ∧
    (∃ (who : Initiator) (a : Nat) (n : Nat) (x : Nat) (s : State), inDbg a = true ∧ (n, x) = dbgAt a ∧ s.fwAllow who a false = false) ∧
    (∃ (who : Initiator) (a : Nat) (n : Nat) (x : Nat) (data : Bytes) (s : State), inDbg a = true ∧ (n, x) = dbgAt a ∧ s.fwAllow who a true = true ∧
      dbgShape x data.length = true ∧ s.dbgOn n = true ∧ (s.rb (Addr.spmCtrl n) 31 = true ∨ ∀ m, m < 4 → (s.ctx (4 * n + m)).state.live = false)) ∧
    (∃ (who : Initiator) (a : Nat) (n : Nat) (x : Nat) (data : Bytes) (s : State), inDbg a = true ∧ (n, x) = dbgAt a ∧ s.fwAllow who a true = true ∧
      dbgShape x data.length = true ∧ s.dbgOn n = true ∧ s.rb (Addr.spmCtrl n) 31 = false ∧ (∃ m, m < 4 ∧ (s.ctx (4 * n + m)).state.live = true)) ∧
    (∃ (who : Initiator) (a : Nat) (n : Nat) (x : Nat) (s : State), inDbg a = true ∧ (n, x) = dbgAt a ∧ s.fwAllow who a true = false) ∧
    (∃ (n : Nat) (s : State), n < 8 ∧ s.tcOn n = true ∧ (∀ m, m < 4 → (s.ctx (4 * n + m)).state = .off ∨ (s.ctx (4 * n + m)).state = .done ∨ (s.ctx (4
      * n + m)).state = .halted)) ∧
    (∃ (n : Nat) (s : State), n < 8 ∧ s.tcOn n = true ∧ (∃ m, m < 4 ∧ (s.ctx (4 * n + m)).state.live = true)) ∧
    (∃ (n : Nat), n < 8) ∧
    (∃ (n : Nat) (k : Nat) (v : Word) (s : State), n < 8 ∧ k < 16 ∧ s.tcOn n = true ∧ s.resValid n k = false ∧ (bit v 31 = true → s.resOk n k (fld v
      21 0) = true)) ∧
    (∃ (n : Nat) (k : Nat) (v : Word) (s : State), n < 8 ∧ k < 16 ∧ s.tcOn n = true ∧ s.resValid n k = false ∧ bit v 31 = true ∧ s.resOk n k (fld v 21
      0) = false) ∧
    (∃ (n : Nat) (k : Nat) (v : Word) (s : State), n < 8 ∧ k < 16 ∧ s.tcOn n = true ∧ s.resValid n k = true ∧ fld v 21 0 = s.resBase n k) ∧
    (∃ (n : Nat) (j : Nat) (i : Nat) (s : State), n < 8 ∧ j < 8 ∧ i < 128 ∧ s.tcOn n = true ∧ (∀ m, m < 4 → (s.ctx (4 * n + m)).state.live = false)) ∧
    (∃ (n : Nat) (j : Nat) (i : Nat) (s : State), n < 8 ∧ j < 8 ∧ i < 128 ∧ s.tcOn n = true ∧ (∃ m, m < 4 ∧ (s.ctx (4 * n + m)).state.live = true)) :=
  ⟨⟨7, 9, { wFly 0x40 {} with writes := [(15, 5), (14, 6)], item := some { vreg := 7 } },
      (({ cores := [(7, { slots := [{ wFly 0x40 {} with writes := [(15, 5), (14, 6)], item := some { vreg := 7 } }, { wSlot 6 {} with id := 10, issued := true }] })], ctxs := [(31, { state := .waitSync, wait := .drain })] }
      : State)), by decide +kernel⟩,
   ⟨7, 9, 64, wCopy, ((wPar [wCopy]).setCore 7 { slots := [wCopy], spmPoison := [(2, true)] }), by decide +kernel⟩,
   ⟨7, 9, 64, wCopy, (wPar [wCopy]), by decide +kernel⟩,
   ⟨7, 9, 127, { wCopy with running := false, bad := some 127, aborts := 1 }, ((wPar []).setCore 7
      { slots := [{ wCopy with running := false, bad := some 127, aborts := 1 }], spmBad := [(31, true)], spm := [(64, 3), (127, 9)] }),
      by decide +kernel⟩,
   ⟨7, 9, 127, { wCopy with running := false, bad := some 127, producer := some 3 }, (wPar [{ wFly 0x10 (wMv {}) with id := 3, retired := true },
      { wCopy with running := false, bad := some 127, producer := some 3 }]), 3, { wFly 0x10 (wMv {}) with id := 3, retired := true },
      by decide +kernel⟩,
   ⟨7, 9, 63, wCopy, (wParAcc [wCopy]), by decide +kernel⟩,
   ⟨.sup, 0x21FFFFC0, 7, 0x3FFFC0, 64, (wTc { cores := [(7, { spm := [(0x3FFFC0, 4)] })] }), by decide +kernel⟩,
   ⟨.jtag, 0x21FFFFC1, 7, 0x3FFFC1, 64, (wDram {}), by decide +kernel⟩,
   ⟨.jtag, 0x20000000, 0, 0, (({} : State)), by decide +kernel⟩,
   ⟨.sup, 0x21FFFFFC, 7, 0x3FFFFC, [1, 2, 3, 4], (wTc {}), by decide +kernel⟩,
   ⟨.sup, 0x21FFFFFC, 7, 0x3FFFFC, [1, 2, 3, 4], (wTc { ctxs := [(31, { state := .ready })] }), by decide +kernel⟩,
   ⟨.host, 0x20000000, 0, 0, (({} : State)), by decide +kernel⟩,
   ⟨7, (wReg [(Addr.spmResCtrl 7 15, 0x80000000), (Addr.spmResSize 7 15, 64), (Addr.spmResCtrl 7 14, 0x803FFFC0)] (wTc (wSpm {}))),
      by decide +kernel⟩,
   ⟨7, (wTc { ctxs := [(28, { state := .ready })] }), by decide +kernel⟩,
   ⟨7, by decide +kernel⟩,
   ⟨7, 15, 0x803FFFC0, (wReg [(Addr.spmResSize 7 15, 64), (Addr.spmResOrgHi 7 15, 1)] (wTc {})), by decide +kernel⟩,
   ⟨7, 15, 0x803FFFC0, (wReg [(Addr.spmResSize 7 15, 128), (Addr.spmResOrgHi 7 15, 1)] (wTc {})), by decide +kernel⟩,
   ⟨7, 15, 0x003FFFC0, (wReg [(Addr.spmResCtrl 7 15, 0x803FFFC0), (Addr.spmResSize 7 15, 64), (Addr.spmResOrgHi 7 15, 1)] (wTc {})),
      by decide +kernel⟩,
   ⟨7, 7, 127, (wTc {}), by decide +kernel⟩,
   ⟨7, 7, 127, (wTc { ctxs := [(31, { state := .waitLine })] }), by decide +kernel⟩⟩

/-- The hypotheses of `Obligations.WeightChainMovesPackets` can be met, clause by clause. -/
theorem witness_weight_chain_moves_packets :
    (∃ (hd : Bool) (h : Nat) (i : Nat) (g : FillGrp) (s : State), h = b2n hd ∧ i < 16 ∧ s.wch.refills = [] ∧ s.rb Addr.wchCtrl 31 = true ∧ s.group h i
      = some g ∧ g.fetching = false ∧ s.grpFull g = false) ∧
    (∃ (hd : Bool) (h : Nat) (i : Nat) (g : FillGrp) (s : State), h = b2n hd ∧ i < 16 ∧ s.wch.refills = [] ∧ s.rb Addr.wchCtrl 31 = true ∧ s.group h i
      = some g ∧ g.fetching = true ∧ s.grpTurn h g = true ∧ s.hopFree (headHop h) ≠ 0 ∧ g.targets ≠ 0 ∧ g.sent < g.len) ∧
    (∃ (hd : Bool) (h : Nat) (i : Nat) (g : FillGrp) (s : State), h = b2n hd ∧ i < 16 ∧ s.group h i = some g ∧ g.fetching = false ∧ s.grpFull g =
      false ∧ g.since + usTicks (s.rf Addr.wchMatchTo 15 0) < s.now ∧ (s.fetching h).length < 4) ∧
    (∃ (i : Nat) (later : Nat) (p : ChainPkt) (r : List ChainPkt) (s : State), later = p.mask / 2 ^ (i + 1) * 2 ^ (i + 1) ∧ later = 0 ∧ i < 8 ∧ s.hop
      i = p :: r) ∧
    (∃ (i : Nat) (later : Nat) (p : ChainPkt) (r : List ChainPkt) (s : State) (j : _), later = p.mask / 2 ^ (i + 1) * 2 ^ (i + 1) ∧ i < 8 ∧ s.hop i =
      p :: r ∧ later ≠ 0 ∧ s.nextHop i = some j ∧ s.hopFree j ≠ 0) ∧
    (∃ (i : Nat) (later : Nat) (p : ChainPkt) (r : List ChainPkt) (s : State) (j : _), later = p.mask / 2 ^ (i + 1) * 2 ^ (i + 1) ∧ i < 8 ∧ s.hop i =
      p :: r ∧ later ≠ 0 ∧ s.nextHop i = some j ∧ s.hopFree j = 0) ∧
    (∃ (i : Nat) (later : Nat) (p : ChainPkt) (r : List ChainPkt) (s : State) (u : _), later = p.mask / 2 ^ (i + 1) * 2 ^ (i + 1) ∧ later = 0 ∧ i < 8
      ∧ s.hop i = p :: r ∧ u ≠ 0) ∧
    (∃ (i : Nat) (later : Nat) (p : ChainPkt) (r : List ChainPkt) (s : State) (sl : _) (line : _) (bytes : _), later = p.mask / 2 ^ (i + 1) * 2 ^ (i +
      1) ∧ later = 0 ∧ i < 8 ∧ s.hop i = p :: r ∧ nbit p.mask i = 1 ∧ s.bypassed i = false ∧ p.refill = none ∧ (s.core i).slots = [sl] ∧ sl.op = 0x12
      ∧ sl.group = some p.gid ∧ sl.pend = [⟨line, bytes⟩] ∧ p.src ≤ line ∧ line < p.src + p.data.length ∧ (bytes.map (·.1)).Nodup) ∧
    (∃ (n : Nat) (s : State), n < 8 ∧ s.bypassWanted n = s.bypassed n) ∧
    (∃ (n : Nat) (s : State), n < 8 ∧ s.bypassWanted n ≠ s.bypassed n) ∧
    (∃ (s : State), s.chainIdle = true) ∧
    (∃ (v : Word) (s : State), s.chainIdle = false ∧ bit v 0 ≠ s.rb Addr.wchCtrl 0) :=
  ⟨⟨true, _, 15, wGrp, (wSplit (({} : State).setGroup 1 15 (some wGrp))), rfl, by decide +kernel⟩,
   ⟨false, _, 15, wGrpF, (wSplit (wDram (({} : State).setGroup 0 15 (some wGrpF)))), rfl, by decide +kernel⟩,
   ⟨true, _, 15, wGrp, (wSplit (({ now := 10000000 } : State).setGroup 1 15 (some wGrp))), rfl, by decide +kernel⟩,
   ⟨7, _, (wPkt 0x80), [wPkt 0x80], (({ wch := { hops := [(7, [wPkt 0x80, wPkt 0x80])], freeBuf := [(7, 0)] } } : State)), rfl, rfl,
      by decide +kernel⟩,
   ⟨3, _, (wPkt 0xFF), [], (({ wch := { hops := [(3, [wPkt 0xFF])], freeBuf := [(3, 1), (4, 1)] } } : State)), 4, rfl, by decide +kernel⟩,
   ⟨6, _, (wPkt 0xFF), [], (({ wch := { hops := [(6, [wPkt 0xFF])], freeBuf := [(7, 0)] } } : State)), 7, rfl, by decide +kernel⟩,
   ⟨7, _, (wPkt 0xFF), [], (({ wch := { hops := [(7, [wPkt 0xFF])], freeBuf := [(7, 1)] } } : State)), 65, rfl, rfl, by decide +kernel⟩,
   ⟨7, _, (wPkt 0x80), [],
      (({ cores := [(7, { slots := [{ wFly 0x12 {} with group := some 3, pend := [⟨0x100000041, [(0, 0x100000041), (4194303, 0x100000040)]⟩] }] })], wch := { hops := [(7, [wPkt 0x80])], freeBuf := [(7, 1)] } }
      : State)), { wFly 0x12 {} with group := some 3, pend := [⟨0x100000041, [(0, 0x100000041), (4194303, 0x100000040)]⟩] }, 0x100000041, [(0,
      0x100000041), (4194303, 0x100000040)], rfl, rfl, by decide +kernel⟩,
   ⟨7, (wTc {}), by decide +kernel⟩,
   ⟨7, (({} : State)), by decide +kernel⟩,
   ⟨(({} : State)), by decide +kernel⟩,
   ⟨0x80000001, (({ wch := { hops := [(7, [wPkt 0xFF])], freeBuf := [(7, 1)] } } : State)), by decide +kernel⟩⟩

/-- The hypotheses of `Obligations.FormatterSourcesTakeItems` can be met, clause by clause. -/
theorem witness_formatter_sources_take_items :
    (∃ (i : Nat) (q : Nat) (s : State), q = s.rf (Addr.fmtSrcCfg i) 21 16 ∧ i < 16 ∧ s.rb (Addr.fmtSrcCfg i) 31 = false) ∧
    (∃ (i : Nat) (q : Nat) (s : State), q = s.rf (Addr.fmtSrcCfg i) 21 16 ∧ i < 16 ∧ s.rb (Addr.fmtSrcCfg i) 31 = true ∧ s.rb Addr.fmtCtrl 0 = true ∧
      (s.queue q).items = []) ∧
    (∃ (i : Nat) (q : Nat) (s : State) (it : _) (r : _), q = s.rf (Addr.fmtSrcCfg i) 21 16 ∧ i < 16 ∧ s.rb (Addr.fmtSrcCfg i) 31 = true ∧ s.rb
      Addr.fmtCtrl 0 = true ∧ (s.queue q).items = it :: r ∧ s.canPop (hSrc i) q = true) :=
  ⟨⟨15, _, (wReg [(Addr.fmtCtrl, 1)] {}), rfl, by decide +kernel⟩,
   ⟨15, _, (wSrc {}), rfl, by decide +kernel⟩,
   ⟨15, _, (wDram (wStr 0 (wSrc (wItem 0x0020000800070000 {})))), ⟨wHd, 0x0020000800070000, 0xFFFFFFFF⟩, [], rfl, by decide +kernel⟩⟩

/-- The hypotheses of `Obligations.FormatterStreamsDeliver` can be met, clause by clause. -/
theorem witness_formatter_streams_deliver :
    (∃ (n : Nat) (q : Nat) (o : FmtOut) (d : FmtDone) (h : Word) (s : State), o = s.fout n ∧ q = s.rf (Addr.fmtOsDest n) 29 24 ∧ h = s.doneHandle d ∧
      n < 48 ∧ o.done = none) ∧
    (∃ (n : Nat) (q : Nat) (o : FmtOut) (d : FmtDone) (h : Word) (s : State), o = s.fout n ∧ q = s.rf (Addr.fmtOsDest n) 29 24 ∧ h = s.doneHandle d ∧
      s.pushReady (hOs n) q h ∧ n < 48 ∧ o.done = some d) ∧
    (∃ (n : Nat) (q : Nat) (o : FmtOut) (d : FmtDone) (h : Word) (s : State), o = s.fout n ∧ q = s.rf (Addr.fmtOsDest n) 29 24 ∧ h = s.doneHandle d ∧
      n < 48 ∧ o.done = some d ∧ d.buf = none ∧ s.pqOn q = true ∧ (s.queue q).flushing = false ∧ (s.queue q).credits = 0) ∧
    (∃ (n : Nat) (q : Nat) (o : FmtOut) (d : FmtDone) (h : Word) (s : State) (dm : _) (f : _) (p : _), o = s.fout n ∧ q = s.rf (Addr.fmtOsDest n) 29
      24 ∧ h = s.doneHandle d ∧ n < 48 ∧ o.done = some d ∧ o.deadline = some (dm, f, p) ∧ (s.dom dm).running = true ∧ s.posReached dm f p = true) ∧
    (∃ (i : Nat) (v : Word) (s : State), i < 16 ∧ s.rb (Addr.fmtSrcCfg i) 31 = false ∧ bit v 31 = true ∧ (s.putReg (Addr.fmtSrcCfg i) v).lsUsed ≤
      983040) ∧
    (∃ (i : Nat) (v : Word) (s : State), i < 16 ∧ s.rb (Addr.fmtSrcCfg i) 31 = false ∧ bit v 31 = true ∧ 983040 < (s.putReg (Addr.fmtSrcCfg i)
      v).lsUsed) ∧
    (∃ (i : Nat) (v : Word) (s : State), i < 16 ∧ s.rb (Addr.fmtSrcCfg i) 31 = true ∧ bit v 31 = false) ∧
    (∃ (n : Nat) (v : Word) (u : State) (s : State), n < 48 ∧ s.rb (Addr.fmtOsCtrl n) 31 = false ∧ bit v 31 = true ∧ fld v 23 20 ≤ fld v 27 24 ∧ fld v
      19 16 ≤ 7 ∧ u = (s.noteRsvd (Addr.fmtOsCtrl n) v).setReg (Addr.fmtOsCtrl n) (setFld (setFld v 29 28 0) 15 12 0) ∧ u.fmtCanEnable n = true) ∧
    (∃ (n : Nat) (v : Word) (u : State) (s : State), n < 48 ∧ s.rb (Addr.fmtOsCtrl n) 31 = false ∧ bit v 31 = true ∧ fld v 23 20 ≤ fld v 27 24 ∧ fld v
      19 16 ≤ 7 ∧ u = (s.noteRsvd (Addr.fmtOsCtrl n) v).setReg (Addr.fmtOsCtrl n) (setFld (setFld v 29 28 0) 15 12 0) ∧ u.fmtCanEnable n = false) ∧
    (∃ (n : Nat) (v : Word) (s : State), n < 48 ∧ s.rb (Addr.fmtOsCtrl n) 31 = true ∧ bit v 31 = false ∧ (s.fout n).done = none) ∧
    (∃ (b : Nat) (word : Nat) (s : State), b < 8 ∧ word < 448 ∧ b ≠ 0 ∧ (∀ n, n < 48 → s.rb (Addr.fmtOsCtrl n) 31 = true → s.rf (Addr.fmtOsCtrl n) 18
      16 ≠ b)) ∧
    (∃ (b : Nat) (word : Nat) (s : State), b < 8 ∧ word < 448 ∧ (b = 0 ∨ (∃ n, n < 48 ∧ s.rb (Addr.fmtOsCtrl n) 31 = true ∧ s.rf (Addr.fmtOsCtrl n) 18
      16 = b))) :=
  ⟨⟨47, _, _, wFin, _, (({} : State)), rfl, rfl, rfl, by decide +kernel⟩,
   ⟨47, _, _, wFin, _, (wStr 0 (wPass (hOs 47) { fmt := { outs := [(47, { done := some wFin, deadline := some (0, 1, 2) }), (48, { y := 1 })] } })),
      rfl, rfl, rfl, ⟨fun _ => ⟨by decide +kernel, ⟨_, rfl⟩, by decide +kernel⟩, by decide +kernel, by decide +kernel, by decide +kernel⟩,
      by decide +kernel⟩,
   ⟨47, _, _, { wFin with buf := none }, _, ((wStr 0 (wPass (hOs 47)
      { fmt := { outs := [(47, { done := some { wFin with buf := none } })] } })).setQueue 4 {}), rfl, rfl, rfl, by decide +kernel⟩,
   ⟨47, _, _, wFin, _, ((wStr 0 (wPass (hOs 47) { fmt := { outs := [(47, { done := some wFin, deadline := some (1, 7, 1280) })] } })).setDom 1 wDom),
      1, 7, 1280, rfl, rfl, rfl, by decide +kernel⟩,
   ⟨15, 0x80002000, (({} : State)), by decide +kernel⟩,
   ⟨15, 0x80002000, (wReg [(Addr.fmtSrcCfg 0, 0x80002000), (Addr.fmtSrcCfg 1, 0x80002000), (Addr.fmtSrcCfg 2, 0x80002000), (Addr.fmtSrcCfg 3,
      0x80002000)] {}), by decide +kernel⟩,
   ⟨15, 0x7FFFFFFF, (wSrc (wStr 2 (wPass (hOs 47)
      { fmt := { srcs := [(14, { next := 2}), (15, { inFrame := true })], outs := [(46, { active := true }), (47, { active := true, buf := some (2, 3) })] } }))),
      by decide +kernel⟩,
   ⟨47, 0xC0000F00, (((wSrc (wReg [(Addr.fmtOsCtrl 47, 0)] (wStr 0 (wPass 3 {})))).noteRsvd (Addr.fmtOsCtrl 47) 0xC0000F00).setReg (Addr.fmtOsCtrl 47)
      (setFld (setFld 0xC0000F00 29 28 0) 15 12 0)), (wSrc (wReg [(Addr.fmtOsCtrl 47, 0)] (wStr 0 (wPass 3 {})))), by decide +kernel⟩,
   ⟨47, 0x80000F00, (((wSrc (wReg [(Addr.fmtOsCtrl 47, 0), (Addr.fmtOsCropXy 47, 1)] (wStr 0 (wPass 3 {})))).noteRsvd (Addr.fmtOsCtrl 47)
      0x80000F00).setReg (Addr.fmtOsCtrl 47) (setFld (setFld 0x80000F00 29 28 0) 15 12 0)), (wSrc (wReg [(Addr.fmtOsCtrl 47, 0), (Addr.fmtOsCropXy 47,
      1)] (wStr 0 (wPass 3 {})))), by decide +kernel⟩,
   ⟨47, 0x7FFFF0FF, (wStr 2 (wPass (hOs 47) { fmt := { outs := [(46, { active := true }), (47, { active := true, buf := some (2, 3) })] } })),
      by decide +kernel⟩,
   ⟨7, 447, (wStr 2 {}), by decide +kernel⟩,
   ⟨7, 447, (wReg [(Addr.fmtOsCtrl 47, 0x80070000)] {}), by decide +kernel⟩⟩

/-- The hypotheses of `Obligations.OneToOneScalingReproducesTheSource` can be met, clause by clause. -/
theorem witness_one_to_one_scaling_reproduces_the_source : ∃ (g : Scale) (rows : List FmtRow) (x : Nat) (y : Nat) (r : FmtRow) (p : Px), g.ow = g.cw ∧
    g.oh = g.ch ∧ g.bank = 0 ∧ x < g.cw ∧ y < g.ch ∧ g.cx + x < g.hiX ∧ g.cy + y < g.hiY ∧ rowOf rows (g.cy + y) = r ∧ lget ([], true) r.px (g.cx + x)
    = p ∧ p.1.length = g.nc ∧ (∀ c, c ∈ p.1 → c < 65536) :=
  ⟨⟨1, 1, 3, 2, 3, 2, 4, 4, 0, 3⟩, [⟨1, false, []⟩, ⟨2, false, [([0, 0, 0], false), ([0, 0, 0], false), ([0, 0, 0], false), ([65535, 1, 0], false)]⟩,
    ⟨3, false, []⟩], 2, 1, ⟨2, false, [([0, 0, 0], false), ([0, 0, 0], false), ([0, 0, 0], false), ([65535, 1, 0], false)]⟩, (([65535, 1, 0], false)),
    by decide +kernel⟩

/-- The hypotheses of `Obligations.DetectionJobsRunTheirCourse` can be met, clause by clause. -/
theorem witness_detection_jobs_run_their_course :
    (∃ (s : State) (i : _), s.freeDslot = some i ∧ s.rb Addr.dppCtrl 0 = true) ∧
    (∃ (s : State), (s.freeDslot = none ∨ s.rb Addr.dppCtrl 0 = false)) ∧
    (∃ (k : Nat) (q : Nat) (i : Nat) (b : Nat × Nat) (s : State) (it : _) (r : _), q = s.rf (Addr.dppBindCfg k) 29 24 ∧ k < 4 ∧ s.freeDslot = some i ∧
      (s.dbind k).out = some b ∧ s.jobCtrlBit { src := 4 + k } 5 = false ∧ s.rb (Addr.dppBindCfg k) 31 = true ∧ s.rb Addr.dppCtrl 0 = true ∧ (s.queue
      q).items = it :: r ∧ s.canPop hDpp q = true ∧ hdPool it.handle ≠ 63 ∧ s.fresh? it.handle = true) ∧
    (∃ (k : Nat) (q : Nat) (i : Nat) (b : Nat × Nat) (s : State), q = s.rf (Addr.dppBindCfg k) 29 24 ∧ k < 4 ∧ s.freeDslot = some i ∧ (s.dbind k).out
      = some b ∧ s.jobCtrlBit { src := 4 + k } 5 = false ∧ s.rb (Addr.dppBindCfg k) 31 = true ∧ s.rb Addr.dppCtrl 0 = true ∧ (s.queue q).items = []) ∧
    (∃ (s : State), s.rb Addr.dppCtrl 0 = false) ∧
    (∃ (s : State) (i : _), i < 8 ∧ (s.dslot i).phase = .running) ∧
    (∃ (s : State) (i : _), (∀ k, k < 8 → (s.dslot k).phase ≠ .running) ∧ s.rb Addr.dppCtrl 0 = true ∧ s.nextJob = some i) ∧
    (∃ (s : State) (i : _) (x : _), x = s.dslot i ∧ i < 8 ∧ x.phase = .running ∧ (∀ k, k < i → (s.dslot k).phase ≠ .running)) ∧
    (∃ (i : Nat) (q : Nat) (p : Nat) (j : Nat) (x : DppSlot) (s : State), x = s.dslot i ∧ q = s.rf (Addr.dppBindCfg (x.src - 4)) 21 16 ∧ s.pushReady
      hDpp q (s.handle p j) ∧ i < 8 ∧ x.phase = .pushOut ∧ x.out = some (p, j)) ∧
    (∃ (i : Nat) (s : State), i < 8 ∧ (s.dslot i).phase = .free) ∧
    (∃ (i : Nat) (s : State), i < 8 ∧ (s.dslot i).phase ≠ .free) ∧
    (∃ (s : State), s.rb Addr.dppCtrl 0 = true) :=
  ⟨⟨(wReg [(Addr.dppCtrl, 1), (Addr.dppSubmitHi, 3)]
      { dpp := { slots := [(0, wRun), (1, wRun), (2, wRun), (3, wRun), (4, wRun), (5, wRun), (6, wRun), (7, { seq := 16777215 })] } }), 7,
      by decide +kernel⟩,
   ⟨(({} : State)), by decide +kernel⟩,
   ⟨3, _, 0, ((2, 6)), (wDpp (wItem 0x0020000800070000 { dpp := { binds := [(3, { out := some (2, 6) })] } })), ⟨wHd, 0x0020000800070000, 0xFFFFFFFF⟩,
      [], rfl, by decide +kernel⟩,
   ⟨3, _, 0, ((2, 6)), (wDpp { dpp := { binds := [(3, { out := some (2, 6) })] } }), rfl, by decide +kernel⟩,
   ⟨(({ dpp := { slots := [(7, { phase := .queued })] } } : State)), by decide +kernel⟩,
   ⟨(wDpp { dpp := { slots := [(7, wRun)] } }), 7, by decide +kernel⟩,
   ⟨(wDpp { dpp := { slots := [(7, { phase := .queued, src := 1, seq := 4, addr := 0x100000000 })] } }), 7, by decide +kernel⟩,
   ⟨(({ dpp := { slots := [(6, { wRun with phase := .pushOut }), (7, wRun)] } } : State)), 7, _, rfl, by decide +kernel⟩,
   ⟨7, _, 2, 3, _, (wDpp (wPass hDpp { dpp := { slots := [(7, { wRun with phase := .pushOut })] } })), rfl, rfl, ⟨fun _ => ⟨by decide +kernel, ⟨_,
      rfl⟩, by decide +kernel⟩, by decide +kernel, by decide +kernel, by decide +kernel⟩, by decide +kernel⟩,
   ⟨7, (({} : State)), by decide +kernel⟩,
   ⟨7, (wPass hDpp
      { dpp := { slots := [(6, { wRun with phase := .queued }), (7, wRun)] }, ctxs := [(31, { state := .waitSync, wait := .det 0x507 })] }),
      by decide +kernel⟩,
   ⟨(wDpp (wPass hDpp { dpp := { slots := [(6, { wRun with phase := .queued }), (7, wRun)], binds := [(3, { out := some (2, 3) })] } })),
      by decide +kernel⟩⟩

/-- The hypotheses of `Obligations.EncoderPicturesRunTheirCourse` can be met, clause by clause. -/
theorem witness_encoder_pictures_run_their_course :
    (∃ (e : Nat) (ss : Nat) (k : Nat) (x : VSess) (s : State) (q : _) (it : _) (r : _), k = 16 * e + ss ∧ x = s.vsess k ∧ q = s.rf (Addr.vencSIo e ss)
      29 24 ∧ e < 2 ∧ ss < 16 ∧ s.rb (Addr.vencCtrl e) 0 = true ∧ s.vOn e ss = true ∧ x.pic = none ∧ x.run = none ∧ x.done = none ∧ (s.queue q).items
      = it :: r ∧ s.canPop (hVenc e) q = true ∧ hdPool it.handle ≠ 63 ∧ s.fresh? it.handle = true ∧ tiledSize (s.vDim e ss).1 (s.vDim e ss).2 (s.vB e
      ss) ≤ s.plSize (hdPool it.handle)) ∧
    (∃ (e : Nat) (ss : Nat) (k : Nat) (x : VSess) (s : State) (p : _) (pool : _), k = 16 * e + ss ∧ x = s.vsess k ∧ pool = s.rf (Addr.vencSIo e ss) 4
      0 ∧ e < 2 ∧ ss < 16 ∧ s.rb (Addr.vencCtrl e) 0 = true ∧ s.vcur e = none ∧ s.vNext e = some ss ∧ x.pic = some p ∧ s.vEvid e ss = false ∧ (s.alloc
      (hVenc e) pool).1 = none) ∧
    (∃ (e : Nat) (ss : Nat) (k : Nat) (x : VSess) (s : State) (p : _) (pool : _) (b : _), k = 16 * e + ss ∧ x = s.vsess k ∧ pool = s.rf (Addr.vencSIo
      e ss) 4 0 ∧ e < 2 ∧ ss < 16 ∧ s.rb (Addr.vencCtrl e) 0 = true ∧ s.vcur e = none ∧ s.vNext e = some ss ∧ x.pic = some p ∧ s.vEvid e ss = false ∧
      (s.alloc (hVenc e) pool).1 = some b ∧ x.done = none ∧ mfld p.item.md 34 34 = 0 ∧ bit (s.reg (Addr.vencSMap e ss)) 31 = false) ∧
    (∃ (e : Nat) (ss : Nat) (k : Nat) (x : VSess) (s : State) (r : _), k = 16 * e + ss ∧ x = s.vsess k ∧ e < 2 ∧ ss < 16 ∧ s.rb (Addr.vencCtrl e) 0 =
      true ∧ s.vcur e = some ss ∧ x.run = some r ∧ r.row < s.vRows e ss) ∧
    (∃ (e : Nat) (ss : Nat) (k : Nat) (x : VSess) (s : State) (r : _), k = 16 * e + ss ∧ x = s.vsess k ∧ e < 2 ∧ ss < 16 ∧ s.rb (Addr.vencCtrl e) 0 =
      true ∧ s.vcur e = some ss ∧ x.run = some r ∧ s.vRows e ss ≤ r.row ∧ s.vOn e ss = true) ∧
    (∃ (e : Nat) (ss : Nat) (k : Nat) (x : VSess) (s : State) (d : _), k = 16 * e + ss ∧ x = s.vsess k ∧ s.pushReady (hVenc e) d.q (s.handle d.pool
      d.buf) ∧ e < 2 ∧ ss < 16 ∧ s.rb (Addr.vencCtrl e) 0 = true ∧ s.vOn e ss = true ∧ x.run = none ∧ x.ending = false ∧ x.done = some d ∧ d.last =
      false) ∧
    (∃ (e : Nat) (ss : Nat) (k : Nat) (x : VSess) (s : State) (p : _), k = 16 * e + ss ∧ x = s.vsess k ∧ e < 2 ∧ ss < 16 ∧ x.run = none ∧ x.pic = some
      p ∧ s.vLate e ss p = true) ∧
    (∃ (e : Nat) (ss : Nat) (k : Nat) (x : VSess) (s : State) (p : _), k = 16 * e + ss ∧ x = s.vsess k ∧ e < 2 ∧ ss < 16 ∧ x.run = none ∧ x.pic = some
      p ∧ s.vLate e ss p = false) ∧
    (∃ (e : Nat) (ss : Nat) (k : Nat) (x : VSess) (s : State) (v : _) (u : _), k = 16 * e + ss ∧ x = s.vsess k ∧ u = s.putReg (Addr.vencSCtrl e ss)
      (setFld v 31 31 0) ∧ e < 2 ∧ ss < 16 ∧ s.vOn e ss = false ∧ bit v 31 = true ∧ u.vOk e ss = true) ∧
    (∃ (e : Nat) (ss : Nat) (k : Nat) (x : VSess) (s : State) (v : _) (u : _), k = 16 * e + ss ∧ x = s.vsess k ∧ u = s.putReg (Addr.vencSCtrl e ss)
      (setFld v 31 31 0) ∧ e < 2 ∧ ss < 16 ∧ s.vOn e ss = false ∧ bit v 31 = true ∧ u.vOk e ss = false) ∧
    (∃ (e : Nat) (ss : Nat) (k : Nat) (x : VSess) (s : State) (v : _), k = 16 * e + ss ∧ x = s.vsess k ∧ e < 2 ∧ ss < 16 ∧ s.vOn e ss = true ∧ bit v
      31 = false ∧ setFld v 31 31 1 = s.vctrl e ss ∧ s.vEvid e ss = false) ∧
    (∃ (e : Nat) (ss : Nat) (k : Nat) (x : VSess) (s : State) (v : _), k = 16 * e + ss ∧ x = s.vsess k ∧ e < 2 ∧ ss < 16 ∧ s.vOn e ss = true ∧ bit v
      31 = false ∧ setFld v 31 31 1 = s.vctrl e ss ∧ s.vEvid e ss = true) :=
  ⟨⟨1, 15, _, _, (wReg [(Addr.passPlSize 2, 0x20000)] (let t := wVenc 3 {}; { t with pass := (wItem 0x0020000800070000 {}).pass })), _, ⟨wHd,
      0x0020000800070000, 0xFFFFFFFF⟩, [], rfl, rfl, rfl, by decide +kernel⟩,
   ⟨1, 15, _, _, (let t := wVenc 3 { venc := { sess := [(31, { pic := some wPic })] } }; { t with pass := { pools := [(2, { gen := 5 })] } }), wPic,
      _, rfl, rfl, rfl, by decide +kernel⟩,
   ⟨1, 15, _, _, (wVenc 3 { venc := { sess := [(31, { pic := some wPic })] } }), wPic, _, 0, rfl, rfl, rfl, by decide +kernel⟩,
   ⟨1, 15, _, _, (wDram (wVenc (hVenc 1) { venc := { sess := [(31, { run := some wPrg })], cur := [(1, some 15)] } })), wPrg, rfl, rfl,
      by decide +kernel⟩,
   ⟨1, 15, _, _, (wDram (wVenc (hVenc 1)
      { venc := { sess := [(31, { run := some { wPrg with row := 4, recon := some 1 } })], cur := [(1, some 15)] } })),
      { wPrg with row := 4, recon := some 1 }, rfl, rfl, by decide +kernel⟩,
   ⟨1, 15, _, _, (wVenc (hVenc 1) { venc := { sess := [(31, { done := some wOut })] } }), wOut, rfl, rfl, ⟨fun _ => ⟨by decide +kernel, ⟨_, rfl⟩,
      by decide +kernel⟩, by decide +kernel, by decide +kernel, by decide +kernel⟩, by decide +kernel⟩,
   ⟨1, 15, _, _, ((wVenc (hVenc 1) { venc := { sess := [(31, { pic := some wPic, cfg := [0, 0, 0, 0, 0, 0, 0x80000003] })] } }).setDom 1 wDom), wPic,
      rfl, rfl, by decide +kernel⟩,
   ⟨1, 15, _, _, (({ venc := { sess := [(31, { pic := some wPic })] } } : State)), wPic, rfl, rfl, by decide +kernel⟩,
   ⟨1, 15, _, _, (wReg [(Addr.vencSCtrl 1 15, 0)] (wVenc 3 {})), 0x840A0100, _, rfl, rfl, rfl, by decide +kernel⟩,
   ⟨1, 15, _, _, (({} : State)), 0x840A0100, _, rfl, rfl, rfl, by decide +kernel⟩,
   ⟨1, 15, _, _, (wVenc (hVenc 1)
      { venc := { sess := [(31, { run := some { wPrg with recon := some 1 }, done := some wOut, map := some (2, 4, 0, 0) })], cur := [(1, some 15)] } }),
      0x040A0100, rfl, rfl, by decide +kernel⟩,
   ⟨1, 15, _, _, (wReg [(Addr.vencEvidSess 1, 0x8000)] (wVenc (hVenc 1) { venc := { sess := [(31, { done := some wOut })] } })), 0x040A0100, rfl, rfl,
      by decide +kernel⟩⟩

/-- The hypotheses of `Obligations.EncoderCommandsTakeEffect` can be met, clause by clause. -/
theorem witness_encoder_commands_take_effect :
    (∃ (e : Nat) (v : Word) (s : State), e < 2 ∧ fld v 11 0 < 2 ^ s.rf (Addr.vencCmdSize e) 3 0) ∧
    (∃ (e : Nat) (v : Word) (s : State), e < 2 ∧ 2 ^ s.rf (Addr.vencCmdSize e) 3 0 ≤ fld v 11 0) ∧
    (∃ (e : Nat) (op : Nat) (ss : Nat) (b : Nat) (l : Bytes) (u : State) (s : State) (c : _), ss = at_ l 1 1 ∧ b = at_ l 2 1 ∧ e < 2 ∧ s.vRing e =
      true ∧ s.vEntry e = (l, u) ∧ at_ l 0 1 = op ∧ ((op = 1 ∧ c = Instr.forceIdr e) ∨ (op = 2 ∧ c = .markLong e) ∨ (op = 3 ∧ c = .unmark e) ∨ (op = 4
      ∧ c = .holdCmd e) ∨ (op = 5 ∧ c = .releaseCmd e) ∨ (op = 6 ∧ c = .setRate e) ∨ (op = 7 ∧ c = .setQp e) ∨ (op = 8 ∧ c = .endSession e)) ∧
      u.vWellFormed e op l = false) ∧
    (∃ (e : Nat) (op : Nat) (ss : Nat) (b : Nat) (l : Bytes) (u : State) (s : State) (c : _), ss = at_ l 1 1 ∧ b = at_ l 2 1 ∧ e < 2 ∧ s.vRing e =
      true ∧ s.vEntry e = (l, u) ∧ at_ l 0 1 = op ∧ ((op = 1 ∧ c = Instr.forceIdr e) ∨ (op = 2 ∧ c = .markLong e) ∨ (op = 3 ∧ c = .unmark e) ∨ (op = 4
      ∧ c = .holdCmd e) ∨ (op = 5 ∧ c = .releaseCmd e) ∨ (op = 6 ∧ c = .setRate e) ∨ (op = 7 ∧ c = .setQp e) ∨ (op = 8 ∧ c = .endSession e)) ∧
      u.vWellFormed e op l = true ∧ (op = 1 ∨ 6 ≤ op) ∧ (u.vsess (16 * e + ss)).run ≠ none) ∧
    (∃ (e : Nat) (op : Nat) (ss : Nat) (b : Nat) (l : Bytes) (u : State) (s : State), ss = at_ l 1 1 ∧ b = at_ l 2 1 ∧ op = 1 ∧ e < 2 ∧ s.vRing e =
      true ∧ s.vEntry e = (l, u) ∧ at_ l 0 1 = op ∧ u.vWellFormed e op l = true ∧ (u.vsess (16 * e + ss)).run = none ∧ u.vOn e ss = true) ∧
    (∃ (e : Nat) (op : Nat) (ss : Nat) (b : Nat) (l : Bytes) (u : State) (s : State), ss = at_ l 1 1 ∧ b = at_ l 2 1 ∧ op = 6 ∧ e < 2 ∧ s.vRing e =
      true ∧ s.vEntry e = (l, u) ∧ at_ l 0 1 = op ∧ u.vWellFormed e op l = true ∧ (u.vsess (16 * e + ss)).run = none ∧ u.vOn e ss = true ∧ at_ l 4 3 ≠
      0) ∧
    (∃ (e : Nat) (op : Nat) (ss : Nat) (b : Nat) (l : Bytes) (u : State) (s : State), ss = at_ l 1 1 ∧ b = at_ l 2 1 ∧ op = 7 ∧ e < 2 ∧ s.vRing e =
      true ∧ s.vEntry e = (l, u) ∧ at_ l 0 1 = op ∧ u.vWellFormed e op l = true ∧ (u.vsess (16 * e + ss)).run = none ∧ u.vOn e ss = true ∧ at_ l 4 1 %
      64 ≤ 51 ∧ at_ l 5 1 % 64 ≤ 51) ∧
    (∃ (e : Nat) (op : Nat) (ss : Nat) (b : Nat) (l : Bytes) (u : State) (s : State), ss = at_ l 1 1 ∧ b = at_ l 2 1 ∧ op = 8 ∧ e < 2 ∧ s.vRing e =
      true ∧ s.vEntry e = (l, u) ∧ at_ l 0 1 = op ∧ u.vWellFormed e op l = true ∧ (u.vsess (16 * e + ss)).run = none ∧ u.vOn e ss = true ∧ (u.vsess
      (16 * e + ss)).pic ≠ none ∧ (u.vsess (16 * e + ss)).done = none) ∧
    (∃ (e : Nat) (op : Nat) (ss : Nat) (b : Nat) (l : Bytes) (u : State) (s : State) (x : _), ss = at_ l 1 1 ∧ b = at_ l 2 1 ∧ x = u.vref e b ∧ op = 2
      ∧ e < 2 ∧ s.vRing e = true ∧ s.vEntry e = (l, u) ∧ at_ l 0 1 = op ∧ u.vWellFormed e op l = true ∧ (u.vsess (16 * e + x.owner)).run = none ∧
      x.mark = .short ∧ at_ l 3 1 ≤ 3 ∧ (∀ i, i ∈ u.vMarked e x.owner (· == .long) → (u.vref e i).long ≠ at_ l 3 1) ∧ (u.vMarked e x.owner (· ==
      .long)).length + 1 ≤ u.rf (Addr.vencSGop e x.owner) 27 24) ∧
    (∃ (e : Nat) (op : Nat) (ss : Nat) (b : Nat) (l : Bytes) (u : State) (s : State) (x : _), ss = at_ l 1 1 ∧ b = at_ l 2 1 ∧ x = u.vref e b ∧ op = 3
      ∧ e < 2 ∧ s.vRing e = true ∧ s.vEntry e = (l, u) ∧ at_ l 0 1 = op ∧ u.vWellFormed e op l = true ∧ (u.vsess (16 * e + x.owner)).run = none ∧
      x.mark.isRef = true) ∧
    (∃ (e : Nat) (op : Nat) (ss : Nat) (b : Nat) (l : Bytes) (u : State) (s : State) (x : _), ss = at_ l 1 1 ∧ b = at_ l 2 1 ∧ x = u.vref e b ∧ op = 4
      ∧ e < 2 ∧ s.vRing e = true ∧ s.vEntry e = (l, u) ∧ at_ l 0 1 = op ∧ u.vWellFormed e op l = true ∧ (u.vsess (16 * e + x.owner)).run = none ∧
      x.mark ≠ .free) ∧
    (∃ (e : Nat) (op : Nat) (ss : Nat) (b : Nat) (l : Bytes) (u : State) (s : State) (x : _), ss = at_ l 1 1 ∧ b = at_ l 2 1 ∧ x = u.vref e b ∧ op = 5
      ∧ e < 2 ∧ s.vRing e = true ∧ s.vEntry e = (l, u) ∧ at_ l 0 1 = op ∧ u.vWellFormed e op l = true ∧ (u.vsess (16 * e + x.owner)).run = none ∧
      x.mark = .held) ∧
    (∃ (e : Nat) (op : Nat) (ss : Nat) (b : Nat) (l : Bytes) (u : State) (s : State) (c : _), ss = at_ l 1 1 ∧ b = at_ l 2 1 ∧ e < 2 ∧ s.vRing e =
      true ∧ s.vEntry e = (l, u) ∧ at_ l 0 1 = op ∧ u.vWellFormed e op l = true ∧ ((op = 1 ∧ c = Instr.forceIdr e ∧ u.vOn e ss = false) ∨ (op = 6 ∧ c
      = .setRate e ∧ (u.vOn e ss = false ∨ at_ l 4 3 = 0)) ∨ (op = 7 ∧ c = .setQp e ∧ (51 < at_ l 4 1 % 64 ∨ 51 < at_ l 5 1 % 64)) ∨ (op = 8 ∧ c =
      .endSession e ∧ u.vOn e ss = false)) ∧ (u.vsess (16 * e + ss)).run = none) ∧
    (∃ (e : Nat) (op : Nat) (ss : Nat) (b : Nat) (l : Bytes) (u : State) (s : State) (x : _) (c : _), ss = at_ l 1 1 ∧ b = at_ l 2 1 ∧ x = u.vref e b
      ∧ e < 2 ∧ s.vRing e = true ∧ s.vEntry e = (l, u) ∧ at_ l 0 1 = op ∧ u.vWellFormed e op l = true ∧ ((op = 2 ∧ c = Instr.markLong e ∧ (x.mark ≠
      .short ∨ 3 < at_ l 3 1 ∨ (∃ i, i ∈ u.vMarked e x.owner (· == .long) ∧ (u.vref e i).long = at_ l 3 1) ∨ u.rf (Addr.vencSGop e x.owner) 27 24 <
      (u.vMarked e x.owner (· == .long)).length + 1)) ∨ (op = 3 ∧ c = .unmark e ∧ x.mark.isRef = false) ∨ (op = 4 ∧ c = .holdCmd e ∧ x.mark = .free) ∨
      (op = 5 ∧ c = .releaseCmd e ∧ x.mark ≠ .held)) ∧ (x.mark = .free ∨ (u.vsess (16 * e + x.owner)).run = none)) ∧
    (∃ (e : Nat) (op : Nat) (ss : Nat) (b : Nat) (l : Bytes) (u : State) (s : State) (x : _) (c : _), ss = at_ l 1 1 ∧ b = at_ l 2 1 ∧ x = u.vref e b
      ∧ e < 2 ∧ s.vRing e = true ∧ s.vEntry e = (l, u) ∧ at_ l 0 1 = op ∧ u.vWellFormed e op l = true ∧ ((op = 2 ∧ c = Instr.markLong e) ∨ (op = 3 ∧ c
      = .unmark e) ∨ (op = 4 ∧ c = .holdCmd e) ∨ (op = 5 ∧ c = .releaseCmd e)) ∧ x.mark ≠ .free ∧ (u.vsess (16 * e + x.owner)).run ≠ none) :=
  ⟨⟨1, 0x0000000F, (({} : State)), by decide +kernel⟩,
   ⟨1, 0x10, (({} : State)), by decide +kernel⟩,
   ⟨1, 1, _, _, ((wRing [1, 16] {}).vEntry 1 |>.1), (((wRing [1, 16] {}).vEntry 1).2), (wRing [1, 16] {}), (.forceIdr 1), rfl, rfl,
      by decide +kernel⟩,
   ⟨1, 8, _, _, ((wRing [8, 15] { venc := { sess := [(31, { run := some wPrg })] } }).vEntry 1 |>.1), (((wRing [8, 15]
      { venc := { sess := [(31, { run := some wPrg })] } }).vEntry 1).2), (wRing [8, 15] { venc := { sess := [(31, { run := some wPrg })] } }),
      (.endSession 1), rfl, rfl, by decide +kernel⟩,
   ⟨1, _, _, _, ((wRing [1, 15] {}).vEntry 1 |>.1), (((wRing [1, 15] {}).vEntry 1).2), (wRing [1, 15] {}), rfl, rfl, rfl, by decide +kernel⟩,
   ⟨1, _, _, _, ((wRing [6, 15, 0, 0, 255, 255, 255] {}).vEntry 1 |>.1), (((wRing [6, 15, 0, 0, 255, 255, 255] {}).vEntry 1).2), (wRing [6, 15, 0, 0,
      255, 255, 255] {}), rfl, rfl, rfl, by decide +kernel⟩,
   ⟨1, _, _, _, ((wRing [7, 15, 0, 0, 0xF3, 51, 255] {}).vEntry 1 |>.1), (((wRing [7, 15, 0, 0, 0xF3, 51, 255] {}).vEntry 1).2), (wRing [7, 15, 0, 0,
      0xF3, 51, 255] {}), rfl, rfl, rfl, by decide +kernel⟩,
   ⟨1, _, _, _, ((wRing [8, 15] { venc := { sess := [(31, { pic := some wPic })] } }).vEntry 1 |>.1), (((wRing [8, 15]
      { venc := { sess := [(31, { pic := some wPic })] } }).vEntry 1).2), (wRing [8, 15] { venc := { sess := [(31, { pic := some wPic })] } }), rfl,
      rfl, rfl, by decide +kernel⟩,
   ⟨1, _, _, _, ((wRing [2, 0, 63, 3] { venc := { refs := [(127, { mark := .short, owner := 15, poc := 4 })] } }).vEntry 1 |>.1), (((wRing [2, 0, 63,
      3] { venc := { refs := [(127, { mark := .short, owner := 15, poc := 4 })] } }).vEntry 1).2), (wRing [2, 0, 63, 3]
      { venc := { refs := [(127, { mark := .short, owner := 15, poc := 4 })] } }), _, rfl, rfl, rfl, rfl, by decide +kernel⟩,
   ⟨1, _, _, _, ((wRing [3, 0, 63, 3] { venc := { refs := [(127, { mark := .long, owner := 15, poc := 4 })] } }).vEntry 1 |>.1), (((wRing [3, 0, 63,
      3] { venc := { refs := [(127, { mark := .long, owner := 15, poc := 4 })] } }).vEntry 1).2), (wRing [3, 0, 63, 3]
      { venc := { refs := [(127, { mark := .long, owner := 15, poc := 4 })] } }), _, rfl, rfl, rfl, rfl, by decide +kernel⟩,
   ⟨1, _, _, _, ((wRing [4, 0, 63, 3] { venc := { refs := [(127, { mark := .long, owner := 15, poc := 4 })] } }).vEntry 1 |>.1), (((wRing [4, 0, 63,
      3] { venc := { refs := [(127, { mark := .long, owner := 15, poc := 4 })] } }).vEntry 1).2), (wRing [4, 0, 63, 3]
      { venc := { refs := [(127, { mark := .long, owner := 15, poc := 4 })] } }), _, rfl, rfl, rfl, rfl, by decide +kernel⟩,
   ⟨1, _, _, _, ((wRing [5, 0, 0, 3] { venc := { refs := [(64, { mark := .held, owner := 15, poc := 4 })] } }).vEntry 1 |>.1), (((wRing [5, 0, 0, 3]
      { venc := { refs := [(64, { mark := .held, owner := 15, poc := 4 })] } }).vEntry 1).2), (wRing [5, 0, 0, 3]
      { venc := { refs := [(64, { mark := .held, owner := 15, poc := 4 })] } }), _, rfl, rfl, rfl, rfl, by decide +kernel⟩,
   ⟨1, 6, _, _, ((wRing [6, 15] {}).vEntry 1 |>.1), (((wRing [6, 15] {}).vEntry 1).2), (wRing [6, 15] {}), (.setRate 1), rfl, rfl, by decide +kernel⟩,
   ⟨1, 2, _, _, ((wRing [2, 0, 63, 4] { venc := { refs := [(127, { mark := .short, owner := 15, poc := 4 })] } }).vEntry 1 |>.1), (((wRing [2, 0, 63,
      4] { venc := { refs := [(127, { mark := .short, owner := 15, poc := 4 })] } }).vEntry 1).2), (wRing [2, 0, 63, 4]
      { venc := { refs := [(127, { mark := .short, owner := 15, poc := 4 })] } }), _, (.markLong 1), rfl, rfl, rfl, by decide +kernel⟩,
   ⟨1, 3, _, _, ((wRing [3, 0, 63]
      { venc := { sess := [(31, { run := some wPrg })], refs := [(127, { mark := .short, owner := 15, poc := 4 })] } }).vEntry 1 |>.1), (((wRing [3,
      0, 63] { venc := { sess := [(31, { run := some wPrg })], refs := [(127, { mark := .short, owner := 15, poc := 4 })] } }).vEntry 1).2), (wRing
      [3, 0, 63] { venc := { sess := [(31, { run := some wPrg })], refs := [(127, { mark := .short, owner := 15, poc := 4 })] } }), _, (.unmark 1),
      rfl, rfl, rfl, by decide +kernel⟩⟩

/-- The hypotheses of `Obligations.DecoderSessionsRunTheirCourse` can be met, clause by clause. -/
theorem witness_decoder_sessions_run_their_course :
    (∃ (s : State), s.vdec.cur ≠ none) ∧
    (∃ (s : State), s.vdec.cur = none) ∧
    (∃ (k : Nat) (x : VdSess) (s : State) (q : _) (it : _) (r : _), x = s.vd k ∧ q = s.rf (Addr.vdecSIo k) 29 24 ∧ s.vdOn k = true ∧ x.inp.length < 2
      ∧ (s.queue q).items = it :: r ∧ s.canPop hVdec q = true) ∧
    (∃ (k : Nat) (x : VdSess) (s : State) (n : _), x = s.vd k ∧ s.vdOn k = true ∧ s.vdTakes k n = false) ∧
    (∃ (k : Nat) (x : VdSess) (s : State) (n : _) (y : _), x = s.vd k ∧ y = { x with inp := (vdEat n.bytes x.inp).1, off := x.off + n.bytes } ∧ s.vdOn
      k = true ∧ s.vdTakes k n = true ∧ nalErr n (s.vdRead n.bytes x.inp).1 0 = none ∧ n.body = .other) ∧
    (∃ (k : Nat) (x : VdSess) (s : State) (n : _) (y : _) (i : _), x = s.vd k ∧ y = { x with inp := (vdEat n.bytes x.inp).1, off := x.off + n.bytes }
      ∧ s.vdOn k = true ∧ s.vdTakes k n = true ∧ nalErr n (s.vdRead n.bytes x.inp).1 0 = none ∧ n.body = .sps i) ∧
    (∃ (k : Nat) (x : VdSess) (s : State) (n : _) (y : _) (i : _) (p : _), x = s.vd k ∧ y =
      { x with inp := (vdEat n.bytes x.inp).1, off := x.off + n.bytes } ∧ s.vdOn k = true ∧ s.vdTakes k n = true ∧ nalErr n (s.vdRead n.bytes x.inp).1
      0 = none ∧ n.body = .slice i ∧ i.first = false ∧ x.pic = some p ∧ p.stopped = true) ∧
    (∃ (k : Nat) (x : VdSess) (s : State) (n : _) (y : _) (i : _) (p : _), x = s.vd k ∧ y =
      { x with inp := (vdEat n.bytes x.inp).1, off := x.off + n.bytes } ∧ s.vdOn k = true ∧ s.vdTakes k n = true ∧ nalErr n (s.vdRead n.bytes x.inp).1
      0 = none ∧ n.body = .slice i ∧ i.first = false ∧ x.pic = some p ∧ p.stopped = false ∧ i.reads = [] ∧ (∀ a, a ∈ i.areas → a < spsAreas p.sps)) ∧
    (∃ (k : Nat) (x : VdSess) (s : State) (p : _), x = s.vd k ∧ s.vdOn k = true ∧ s.vdec.cur = some k ∧ x.pic = some p ∧ p.bad = true) ∧
    (∃ (k : Nat) (x : VdSess) (s : State) (p : _), x = s.vd k ∧ s.vdOn k = true ∧ s.vdec.cur = some k ∧ x.pic = some p ∧ p.bad = false ∧ s.vdStrict k
      = false) ∧
    (∃ (k : Nat) (x : VdSess) (s : State) (p : _), x = s.vd k ∧ s.vdOn k = true ∧ s.vdec.cur = some k ∧ x.pic = some p ∧ p.bad = false ∧ s.vdStrict k
      = true) ∧
    (∃ (k : Nat) (x : VdSess) (s : State) (p : _), x = s.vd k ∧ s.vdOn k = true ∧ s.vdec.cur = some k ∧ x.pic = some p ∧ x.drain = false) ∧
    (∃ (k : Nat) (x : VdSess) (s : State) (i : _), x = s.vd k ∧ s.vdOn k = true ∧ x.out = none ∧ x.holes = [] ∧ x.drain = false ∧ s.vdFirst k = some i
      ∧ (s.alloc hVdec (s.vdPl k)).1 = none) ∧
    (∃ (k : Nat) (x : VdSess) (s : State) (i : _) (h : _), x = s.vd k ∧ s.vdOn k = true ∧ x.out = none ∧ x.holes = [] ∧ x.drain = false ∧ s.vdFirst k
      = some i ∧ (s.alloc hVdec (s.vdPl k)).1 = some h) ∧
    (∃ (k : Nat) (x : VdSess) (s : State), x = s.vd k ∧ s.vdOn k = true ∧ x.holes = [] ∧ x.out = none ∧ x.inp ≠ []) ∧
    (∃ (k : Nat) (x : VdSess) (s : State), x = s.vd k ∧ s.vdOn k = true ∧ x.holes = [] ∧ x.out = none ∧ x.inp = [] ∧ (s.queue (s.rf (Addr.vdecSIo k)
      29 24)).items = [] ∧ x.pic = none ∧ s.vdFirst k = none) ∧
    (∃ (k : Nat) (x : VdSess) (s : State) (v : _), x = s.vd k ∧ s.vdOn k = true ∧ bit v 31 = false) :=
  ⟨⟨(({ vdec := { cur := some 7 } } : State)), by decide +kernel⟩,
   ⟨(wVd { inp := [wIn], bufs := [1] } {} |> fun t => { t with vdec := { t.vdec with cur := none } }), by decide +kernel⟩,
   ⟨7, _, (let t := wVd {} {}; { t with pass := (wItem 0x0020000800070000 {}).pass }), _, ⟨wHd, 0x0020000800070000, 0xFFFFFFFF⟩, [], rfl, rfl,
      by decide +kernel⟩,
   ⟨7, _, (wVd { inp := [wIn] } {}), ⟨17, .other, none⟩, rfl, by decide +kernel⟩,
   ⟨7, _, (wVd { inp := [wIn, wIn], off := 4 } {}), ⟨17, .other, none⟩, _, rfl, rfl, by decide +kernel⟩,
   ⟨7, _, (wVd { inp := [wIn], off := 4, told := [3, 2] } {}), ⟨16, .sps wSps, none⟩, _, wSps, rfl, rfl, by decide +kernel⟩,
   ⟨7, _, (wVd { inp := [wIn], off := 4, pic := some { wDpic with stopped := true } } {}), ⟨16, .slice wSl, none⟩, _, wSl,
      { wDpic with stopped := true }, rfl, rfl, by decide +kernel⟩,
   ⟨7, _, (wVd { inp := [wIn], off := 4, pic := some wDpic } {}), ⟨16, .slice wSl, none⟩, _, wSl, wDpic, rfl, rfl, by decide +kernel⟩,
   ⟨7, _, (wVd { pic := some { wDpic with bad := true } } {}), { wDpic with bad := true }, rfl, by decide +kernel⟩,
   ⟨7, _, (wVd { pic := some wDpic } {}), wDpic, rfl, by decide +kernel⟩,
   ⟨7, _, (wReg [(Addr.vdecSCtrl 7, 0x82000000)] (wVd { pic := some wDpic } {})), wDpic, rfl, by decide +kernel⟩,
   ⟨7, _, (wReg [(Addr.vdecSCtrl 7, 0x82000000)] (wVd { pic := some wDpic } {})), wDpic, rfl, by decide +kernel⟩,
   ⟨7, _, (let t := wVd { bufs := [0, 1] } {};
      { t with pass := {}, vdec := { t.vdec with bufs := [(1, { used := true, out := true, sps := some wSps })] } }), 1, rfl, by decide +kernel⟩,
   ⟨7, _, (let t := wVd { bufs := [0, 1] } {}; { t with vdec := { t.vdec with bufs := [(1, { used := true, out := true, sps := some wSps })] } }), 1,
      0, rfl, by decide +kernel⟩,
   ⟨7, _, (wVd { inp := [wIn] } {}), rfl, by decide +kernel⟩,
   ⟨7, _, (wVd { spss := [(3, some wSps)], skip := .none } {}), rfl, by decide +kernel⟩,
   ⟨7, _, (wVd { inp := [wIn], bufs := [1], out := some { buf := 1, held := some 3 } } {}), 0, rfl, by decide +kernel⟩⟩

/-- The hypotheses of `Obligations.TransactionsFollowTheTable` can be met, clause by clause. -/
theorem witness_transactions_follow_the_table :
    (∃ (cpu : Nat) (line : Nat) (s : State), s.cohMay cpu line = true ∧ s.cl cpu line = none ∧ s.fwAllow (.cpu cpu) line false = true) ∧
    (∃ (cpu : Nat) (line : Nat) (s : State), s.cohMay cpu line = true ∧ s.fwAllow (.cpu cpu) line true = true ∧ s.cl cpu line = none) ∧
    (∃ (cpu : Nat) (line : Nat) (s : State) (c : _), s.cohMay cpu line = true ∧ s.fwAllow (.cpu cpu) line true = true ∧ s.cl cpu line = some c ∧ (c.st
      = .s ∨ c.st = .o)) ∧
    (∃ (cpu : Nat) (line : Nat) (s : State) (c : _), s.cohMay cpu line = true ∧ (s.fwAllow (.cpu cpu) line false = true ∨ s.fwAllow (.cpu cpu) line
      true = true) ∧ (c = Instr.syncKeep cpu line ∨ c = .cboClean cpu line)) ∧
    (∃ (cpu : Nat) (line : Nat) (s : State) (c : _), s.cohMay cpu line = true ∧ (s.fwAllow (.cpu cpu) line false = true ∨ s.fwAllow (.cpu cpu) line
      true = true) ∧ (c = Instr.syncDrop cpu line ∨ c = .cboFlush cpu line ∨ c = .cboInval cpu line 1)) ∧
    (∃ (cpu : Nat) (line : Nat) (s : State) (c : _), s.cohMay cpu line = true ∧ (s.fwAllow (.cpu cpu) line false = true ∨ s.fwAllow (.cpu cpu) line
      true = true) ∧ (c = Instr.dropLine cpu line ∨ c = .cboInval cpu line 3)) ∧
    (∃ (cpu : Nat) (line : Nat) (s : State) (b : _), s.cohMay cpu line = true ∧ b ≠ 1 ∧ b ≠ 3) ∧
    (∃ (cpu : Nat) (line : Nat) (s : State) (c : _), s.cohMay cpu line = true ∧ s.fwAllow (.cpu cpu) line false = false ∧ s.fwAllow (.cpu cpu) line
      true = false ∧ (c = Instr.getS cpu line ∨ c = .getM cpu line false ∨ c = .upgrade cpu line ∨ c = .syncKeep cpu line ∨ c = .syncDrop cpu line ∨ c
      = .dropLine cpu line)) :=
  ⟨⟨3, 0x100000040, (wCoh [(0, .m)] {}), by decide +kernel⟩,
   ⟨3, 0x100000040, (wCoh [(1, .o), (2, .s)] {}), by decide +kernel⟩,
   ⟨3, 0x100000040, (wCoh [(1, .s), (3, .o)] {}), ⟨.o, List.replicate 64 7, (false, true)⟩, by decide +kernel⟩,
   ⟨3, 0x100000040, (wCoh [(1, .s), (3, .o)] {}), (.syncKeep 3 0x100000040), by decide +kernel⟩,
   ⟨3, 0x100000040, (wCoh [(1, .m)] {}), (.cboInval 3 0x100000040 1), by decide +kernel⟩,
   ⟨3, 0x100000040, (wCoh [(3, .m)] {}), (.dropLine 3 0x100000040), by decide +kernel⟩,
   ⟨3, 0x100000040, (wCoh [(0, .o), (3, .s)] {}), 2, by decide +kernel⟩,
   ⟨3, 0x100000040, (wReg [(Addr.dsvFwPerm 0, 0)] (wCoh [(0, .o), (3, .s)] {})), (.syncDrop 3 0x100000040), by decide +kernel⟩⟩

/-- The hypotheses of `Obligations.CacheEventsTakeEffect` can be met, clause by clause. -/
theorem witness_cache_events_take_effect :
    (∃ (cpu : Nat) (line : Nat) (c : CLine) (s : State), s.cl cpu line = some c) ∧
    (∃ (cpu : Nat) (line : Nat) (c : CLine) (s : State) (l : Bytes), s.cl cpu line = some c ∧ s.joined cpu = true ∧ line % 64 + l.length ≤ 64 ∧ l ≠ []
      ∧ (c.st = .m ∨ c.st = .e) ∧ touchesBad c.bad (line % 64) l.length = false ∧ s.fwAllow (.cpu cpu) line true = true) ∧
    (∃ (cpu : Nat) (line : Nat) (c : CLine) (s : State), s.cl cpu line = some c ∧ touchesBad c.bad (line % 64) 1 = true) ∧
    (∃ (cpu : Nat) (line : Nat) (c : CLine) (s : State), s.cl cpu line = some c ∧ touchesBad c.bad (line % 64) 1 = false) ∧
    (∃ (cpu : Nat) (line : Nat) (w : WLine) (s : State), s.coh.wbuf.find? (fun w => w.cpu == cpu && decide (w.line / 64 = line / 64)) = some w ∧
      s.joined cpu = true) ∧
    (∃ (cpu : Nat) (line : Nat) (w : WLine) (s : State), s.coh.wbuf.find? (fun w => w.cpu == cpu && decide (w.line / 64 = line / 64)) = some w ∧
      s.joined cpu = false) ∧
    (∃ (core : Nat) (line : Nat) (r : Nat) (sent : Nat) (k : CohKind) (s : State), s.joined core = true ∧ inDram line = true ∧ s.snoopLate sent = true
      ∧ (k = .scrub ∨ (core ≠ r ∧ s.joined r = true))) ∧
    (∃ (core : Nat) (line : Nat) (r : Nat) (sent : Nat) (k : CohKind) (s : State), s.joined core = true ∧ inDram line = true ∧ (s.snoopLate sent =
      false ∨ (k ≠ .scrub ∧ (core = r ∨ s.joined r = false)))) ∧
    (∃ (v : Word) (line : Nat) (s : State), line = fld v 7 0 * 2 ^ 32 + s.rf Addr.cohScrubLo 31 6 * 64 ∧ s.rb Addr.cohScrubStatus 31 = false ∧ inDram
      line = true) ∧
    (∃ (v : Word) (line : Nat) (s : State), line = fld v 7 0 * 2 ^ 32 + s.rf Addr.cohScrubLo 31 6 * 64 ∧ s.rb Addr.cohScrubStatus 31 = false ∧ inDram
      line = false) ∧
    (∃ (cpu : Nat) (s : State), cpu < 4 ∧ s.isolated cpu = true) ∧
    (∃ (cpu : Nat) (s : State), cpu < 4 ∧ s.isolated cpu = false ∧ s.rb (Addr.cohCpuStatus cpu) 2 = false) ∧
    (∃ (cpu : Nat) (s : State), cpu < 4 ∧ s.rb (Addr.cohCpuStatus cpu) 2 = true) :=
  ⟨⟨3, 0x10000007F, ⟨.m, List.replicate 64 7, (false, true)⟩, (wCoh [(3, .m)] {}), by decide +kernel⟩,
   ⟨3, 0x10000005F, ⟨.e, List.replicate 64 7, (false, true)⟩, (wCoh [(3, .e)] {}), [1], by decide +kernel⟩,
   ⟨3, 0x100000060, ⟨.e, List.replicate 64 7, (false, true)⟩, (wCoh [(3, .e)] {}), by decide +kernel⟩,
   ⟨3, 0x10000005F, ⟨.e, List.replicate 64 7, (false, true)⟩, (wCoh [(3, .e)] {}), by decide +kernel⟩,
   ⟨3, 0x100000040, ⟨3, 0x100000040, List.replicate 64 5, (false, false), true⟩, (wCoh []
      { coh := { wbuf := [⟨3, 0x100000040, List.replicate 64 5, (false, false), true⟩, ⟨2, 0x100000040, [], (false, false), false⟩] } }),
      by decide +kernel⟩,
   ⟨3, 0x100000040, ⟨3, 0x100000040, [], (false, false), false⟩, (({ coh := { wbuf := [⟨3, 0x100000040, [], (false, false), false⟩] } } : State)),
      by decide +kernel⟩,
   ⟨3, 0x100000040, 0, 5, .scrub, (wCoh [(3, .m)] { now := 10 ^ 13, coh := { wbuf := [⟨3, 0x100000040, [], (false, false), false⟩] } }),
      by decide +kernel⟩,
   ⟨0, 0x100000040, 0, 5, .getS, (wCoh [(1, .m)] { now := 10 ^ 13 }), by decide +kernel⟩,
   ⟨0x1, _, (wReg [(Addr.cohScrubLo, 0x40), (Addr.cohScrubStatus, 0xFFFF)] (wCoh [(1, .m), (3, .s)] {})), rfl, by decide +kernel⟩,
   ⟨0x0, _, (wReg [(Addr.cohScrubLo, 0x40)] (wCoh [(1, .m), (3, .s)] {})), rfl, by decide +kernel⟩,
   ⟨3, (wReg [(Addr.cohStatus, 0x80000)] {}), by decide +kernel⟩,
   ⟨3, (wCoh [(3, .m)] {}), by decide +kernel⟩,
   ⟨3, (wReg [(Addr.cohCpuStatus 3, 5)] (wCoh [(1, .s), (3, .o)]
      { coh := { flush := [(3, [0x4000001])], wbuf := [⟨3, 0x100000080, List.replicate 64 5, (true, false), false⟩, ⟨2, 0x100000040, [], (false, false), false⟩] } })),
      by decide +kernel⟩⟩

/-- The hypotheses of `Obligations.MemorySlicesServeRequests` can be met, clause by clause. -/
theorem witness_memory_slices_serve_requests :
    (∃ (s : State), s.ms.training = false ∧ s.rb Addr.memStatus 31 = false) ∧
    (∃ (s : State), (s.ms.training = true ∨ s.rb Addr.memStatus 31 = true)) ∧
    (∃ (s : State), s.ms.training = true) ∧
    (∃ (s : State), s.ms.training = false) ∧
    (∃ (who : Initiator) (want : Qos) (cls : Qos) (x : Nat) (i : Nat) (s : State), i = sliceOf x ∧ cls = qosFor who want ∧ inDram x = true ∧ s.fwAllow
      who x false = true ∧ s.memOk x = true ∧ credOk (fun c => (qosReserve c).1) 240 (s.slice i).reads cls = true ∧ s.chBusy (physChan x) = false ∧
      s.lineOpen x = false) ∧
    (∃ (who : Initiator) (want : Qos) (cls : Qos) (x : Nat) (i : Nat) (s : State), i = sliceOf x ∧ cls = qosFor who want ∧ inDram x = true ∧ s.fwAllow
      who x false = true ∧ s.memOk x = true ∧ credOk (fun c => (qosReserve c).1) 240 (s.slice i).reads cls = true ∧ (s.chBusy (physChan x) = true ∨
      s.lineOpen x = true)) ∧
    (∃ (who : Initiator) (want : Qos) (cls : Qos) (x : Nat) (i : Nat) (s : State), i = sliceOf x ∧ cls = qosFor who want ∧ inDram x = true ∧ s.fwAllow
      who x false = true ∧ s.memOk x = true ∧ credOk (fun c => (qosReserve c).1) 240 (s.slice i).reads cls = false) ∧
    (∃ (who : Initiator) (want : Qos) (cls : Qos) (x : Nat) (i : Nat) (s : State), i = sliceOf x ∧ cls = qosFor who want ∧ inDram x = true ∧ s.fwAllow
      who x false = true ∧ s.memOk x = false) ∧
    (∃ (who : Initiator) (want : Qos) (cls : Qos) (x : Nat) (i : Nat) (s : State) (l : Bytes), i = sliceOf x ∧ cls = qosFor who want ∧ inDram x = true
      ∧ l ≠ [] ∧ x % 64 + l.length ≤ 64 ∧ s.fwAllow who x true = true ∧ s.memOk x = true ∧ (s.ms.opens.find? fun o => decide (o.who = who) && decide
      (o.addr + o.done = x)) = none ∧ s.chBusy (physChan x) = false ∧ s.lineOpen x = false ∧ credOk (fun c => (qosReserve c).2) 168 (s.slice
      i).entries cls = true) ∧
    (∃ (who : Initiator) (want : Qos) (cls : Qos) (x : Nat) (i : Nat) (s : State) (l : Bytes), i = sliceOf x ∧ cls = qosFor who want ∧ inDram x = true
      ∧ l ≠ [] ∧ x % 64 + l.length ≤ 64 ∧ s.fwAllow who x true = true ∧ s.memOk x = true ∧ (s.ms.opens.find? fun o => decide (o.who = who) && decide
      (o.addr + o.done = x)) = none ∧ (s.chBusy (physChan x) = true ∨ s.lineOpen x = true ∨ credOk (fun c => (qosReserve c).2) 168 (s.slice i).entries
      cls = false)) ∧
    (∃ (i : Nat) (x : MemSlice) (s : State), x = s.slice i ∧ i < 8) :=
  ⟨⟨(({} : State)), by decide +kernel⟩,
   ⟨(({ ms := { training := true } } : State)), by decide +kernel⟩,
   ⟨(({ ms := { training := true }, mem := [(0x100000000, 5)] } : State)), by decide +kernel⟩,
   ⟨(({} : State)), by decide +kernel⟩,
   ⟨.fmt, .line, _, 0x10000007F, _, (wDram { mem := [(0x100000041, 7)], memPoison := [(0x8000002, true)] }), rfl, rfl, by decide +kernel⟩,
   ⟨.fmt, .line, _, 0x10000007F, _, (wDram { ms := { train := [physChan 0x10000007F] } }), rfl, rfl, by decide +kernel⟩,
   ⟨(.tc 3), .bulk, _, 0x10000007F, _, (wDram
      { ms := { slices := [(sliceOf 0x10000007F, { waiting := List.replicate 240 { who := .fmt, cls := .bulk, line := 0, bank := 0, since := 0, starve := 0 } })] } }),
      rfl, rfl, by decide +kernel⟩,
   ⟨(.tc 3), .bulk, _, 0x10FFFFFFFF, _, (wReg [(Addr.dsvFwLimit 0, 0x0FFFFFFF)] (wDram {})), rfl, rfl, by decide +kernel⟩,
   ⟨.pcie, .line, _, 0x10000001D, _, (wReg [(Addr.memCtrl, 2)] (wDram { mem := [(0x10000001E, 9)] })), [1, 2, 3, 4, 5], rfl, rfl, by decide +kernel⟩,
   ⟨.pcie, .bulk, _, 0x10000003F, _, (wDram { ms := { slices := [(sliceOf 0x10000003F, { entries := List.replicate 168 .bulk })] } }), [1], rfl, rfl,
      by decide +kernel⟩,
   ⟨7, _,
      (({ now := 99, ms := { slices := [(7, { entries := [.line, .bulk], lineBytes := 300000, waiting := [{ who := .fmt, cls := .bulk, line := 0, bank := 0, since := 0, starve := 0 }, { who := .fmt, cls := .line, line := 0, bank := 0, since := 0, starve := 0 }] })] } }
      : State)), rfl, by decide +kernel⟩⟩

/-- The hypotheses of `Obligations.ChannelsRefreshAndRetrain` can be met, clause by clause. -/
theorem witness_channels_refresh_and_retrain :
    (∃ (c : Nat) (x : Chan) (s : State) (b : _) (w : _), x = s.chan c ∧ c < 16 ∧ b < s.banks ∧ s.rb Addr.memStatus 31 = true ∧ s.owed c b < 8 ∧ (w =
      true ∨ s.lineWaits c b = true ∨ s.chBusy c = true)) ∧
    (∃ (c : Nat) (x : Chan) (s : State) (b : _), x = s.chan c ∧ c < 16 ∧ b < s.banks ∧ s.rb Addr.memStatus 31 = true ∧ s.owed c b < 8 ∧ s.lineWaits c
      b = false ∧ s.chBusy c = false) ∧
    (∃ (c : Nat) (x : Chan) (s : State) (b : _), x = s.chan c ∧ c < 16 ∧ s.owed c b = 8 ∧ s.chBusy c = false) ∧
    (∃ (c : Nat) (x : Chan) (s : State) (b : _), x = s.chan c ∧ c < 16 ∧ s.owed c b < 8) ∧
    (∃ (c : Nat) (x : Chan) (s : State), x = s.chan c ∧ c < 16 ∧ s.rb Addr.memStatus 31 = true) ∧
    (∃ (c : Nat) (x : Chan) (s : State) (e : _), x = s.chan c ∧ e =
      (match x.retry with | some r => r | none => x.last + msTicks (s.rf Addr.memRetrain 15 0)) ∧ c < 16 ∧ s.rb Addr.memStatus 31 = true ∧ e ≤ s.now) ∧
    (∃ (c : Nat) (x : Chan) (s : State) (e : _), x = s.chan c ∧ e =
      (match x.retry with | some r => r | none => x.last + msTicks (s.rf Addr.memRetrain 15 0)) ∧ c < 16 ∧ s.rb Addr.memStatus 31 = true ∧ s.now < e) ∧
    (∃ (c : Nat) (x : Chan) (s : State), x = s.chan c ∧ c < 16 ∧ s.chBusy c = true) ∧
    (∃ (c : Nat) (x : Chan) (s : State), x = s.chan c ∧ c < 16 ∧ s.chBusy c = false) :=
  ⟨⟨15, _, (wReg [(Addr.memCfg, 1)] (wDram { ms := { chans := [(15, { owed := [(31, 7)] })] } })), 31, true, rfl, by decide +kernel⟩,
   ⟨15, _, (wReg [(Addr.memCfg, 1)] (wDram {})), 31, rfl, by decide +kernel⟩,
   ⟨15, _, (({ ms := { chans := [(15, { owed := [(31, 8)] })] } } : State)), 31, rfl, by decide +kernel⟩,
   ⟨15, _, (({ ms := { chans := [(15, { owed := [(31, 7)] })] } } : State)), 31, rfl, by decide +kernel⟩,
   ⟨15, _, (wReg [(Addr.memRetrain, 0x800000)] (wDram {})), rfl, by decide +kernel⟩,
   ⟨15, _, (wDram { now := 5, ms := { chans := [(15, { retry := some 5 })] } }), _, rfl, rfl, by decide +kernel⟩,
   ⟨15, _, (wDram { now := 4, ms := { chans := [(15, { retry := some 5 })] } }), _, rfl, rfl, by decide +kernel⟩,
   ⟨15, _, (wDram
      { now := 9, ms := { train := [15], chans := [(15, { due := some 3, retry := some 4 })], slices := [(7, { waiting := [{ who := .fmt, cls := .bulk, line := 0x4000000, bank := 0, since := 0, starve := 0 }] })] } }),
      rfl, by decide +kernel⟩,
   ⟨15, _, (({} : State)), rfl, by decide +kernel⟩⟩

/-- The hypotheses of `Obligations.PortsCarryRequests` can be met, clause by clause. -/
theorem witness_ports_carry_requests :
    (∃ (p : Nat) (s : State), p < 2 ∧ s.hasPort p = true ∧ s.rb Addr.pcieCtrl 31 = true ∧ s.rb Addr.pcieCtrl p = true ∧ s.linkUp p = false) ∧
    (∃ (p : Nat) (s : State), p < 2 ∧ s.linkUp p = true) ∧
    (∃ (p : Nat) (s : State), p < 2 ∧ s.linkTrains p = true) ∧
    (∃ (p : Nat) (s : State), p < 2 ∧ s.linkTrains p = false) ∧
    (∃ (p : Nat) (s : State), p < 2 ∧ s.linkUp p = false) ∧
    (∃ (p : Nat) (s : State) (g : _), p < 2 ∧ s.pcie.out.find? (fun o => o.port == p && o.tag == g) = none) ∧
    (∃ (p : Nat) (s : State) (g : _) (o : _), p < 2 ∧ s.pcie.out.find? (fun o => o.port == p && o.tag == g) = some o) ∧
    (∃ (p : Nat) (s : State) (g : _) (o : _), p < 2 ∧ s.pcie.out.find? (fun o => o.port == p && o.tag == g) = some o ∧ s.now < o.since + msTicks (s.rf
      Addr.pcieCto 9 0)) ∧
    (∃ (p : Nat) (s : State) (g : _) (o : _), p < 2 ∧ s.pcie.out.find? (fun o => o.port == p && o.tag == g) = some o ∧ o.since + msTicks (s.rf
      Addr.pcieCto 9 0) ≤ s.now) ∧
    (∃ (s : State), s.isEndpoint = true) ∧
    (∃ (s : State), s.isEndpoint = false) ∧
    (∃ (n : Nat) (a : Nat) (p : Nat) (base : Nat) (w : Bool) (s : State), 0x2000000000 ≤ a ∧ a < 0x10000000000 ∧ s.obWindow a = some (p, base) ∧
      0x10000000 ≤ a - base ∧ s.fwAllow (.cpu n) a w = true ∧ s.linkUp p = false) ∧
    (∃ (n : Nat) (a : Nat) (p : Nat) (base : Nat) (w : Bool) (s : State), w = true ∧ 0x2000000000 ≤ a ∧ a < 0x10000000000 ∧ s.obWindow a = some (p,
      base) ∧ 0x10000000 ≤ a - base ∧ s.fwAllow (.cpu n) a w = true ∧ s.linkUp p = true) ∧
    (∃ (n : Nat) (a : Nat) (p : Nat) (base : Nat) (w : Bool) (s : State) (g : _), w = false ∧ 0x2000000000 ≤ a ∧ a < 0x10000000000 ∧ s.obWindow a =
      some (p, base) ∧ 0x10000000 ≤ a - base ∧ s.fwAllow (.cpu n) a w = true ∧ s.linkUp p = true ∧ s.freeTag p = some g) ∧
    (∃ (p : Nat) (s : State), s.linkUp p = false) ∧
    (∃ (p : Nat) (x : Nat) (w : Bool) (s : State), s.linkUp p = true ∧ s.isEndpoint = false ∧ inDram x = false ∧ (w = true → x ≠ (s.reg
      Addr.pcieMsiTgt).toNat + 2 ^ 32 * (s.reg (Addr.pcieMsiTgt + 4)).toNat)) ∧
    (∃ (p : Nat) (x : Nat) (w : Bool) (l : Bytes) (s : State), w = true ∧ s.linkUp p = true ∧ s.isEndpoint = false ∧ inDram x = true ∧ s.fwAllow .pcie
      x true = true ∧ s.memOk x = true ∧ l ≠ [] ∧ x % 64 + l.length ≤ 64 ∧ x ≠ (s.reg Addr.pcieMsiTgt).toNat + 2 ^ 32 * (s.reg (Addr.pcieMsiTgt +
      4)).toNat) :=
  ⟨⟨1, (wReg [(Addr.pcieCtrl, 0x80000003), (Addr.pcieStatus, 0x200000C4)] {}), by decide +kernel⟩,
   ⟨1, (wLink 2 {}), by decide +kernel⟩,
   ⟨1, (({ pcie := { train := [(1, true)] } } : State)), by decide +kernel⟩,
   ⟨1, (({} : State)), by decide +kernel⟩,
   ⟨1, (wLink 0 {}), by decide +kernel⟩,
   ⟨1, (({} : State)), 3, by decide +kernel⟩,
   ⟨1, (({ pcie := { out := [⟨0, 3, .sup, false, 0, false, 0⟩, ⟨1, 3, .sup, false, 0, false, 5⟩] } } : State)), 3, ⟨1, 3, .sup, false, 0, false, 5⟩,
      by decide +kernel⟩,
   ⟨1, (wReg [(Addr.pcieCto, 50)] { now := 7, pcie := { out := [⟨0, 3, .sup, false, 0, false, 0⟩, ⟨1, 3, .sup, false, 0, false, 5⟩] } }), 3, ⟨1, 3,
      .sup, false, 0, false, 5⟩, by decide +kernel⟩,
   ⟨1, (({ now := 700000000, pcie := { out := [⟨0, 3, .sup, false, 0, false, 0⟩, ⟨1, 3, .sup, false, 0, false, 5⟩] } } : State)), 3, ⟨1, 3, .sup,
      false, 0, false, 5⟩, by decide +kernel⟩,
   ⟨(wReg [(Addr.pcieBar2Cfg, 0x80000014), (Addr.pcieMsiTgt, 5)] (wLink 0 { pcie := { msix := [(3, 0)] } })), by decide +kernel⟩,
   ⟨(wLink 2 {}), by decide +kernel⟩,
   ⟨3, 0xFFFFFFFFFF, 1, 0x9000000000, true, (wReg [(Addr.pcieStatus, 0x20000000), (Addr.dsvFwLimit 0, 0x0FFFFFFF)] (wDram {})), by decide +kernel⟩,
   ⟨3, 0x2010000000, 0, 0x2000000000, _, (wDram (wLink 0 {})), rfl, by decide +kernel⟩,
   ⟨3, 0xFFFFFFFFFF, 1, 0x9000000000, _, (wReg [(Addr.pcieObOffset 1 + 4, 0xFFFFFFFF)] (wDram (wLink 2
      { pcie := { out := [⟨1, 0, .sup, false, 0, false, 0⟩] } }))), 1, rfl, by decide +kernel⟩,
   ⟨1, (wLink 0 {}), by decide +kernel⟩,
   ⟨1, 0, true, (wReg [(Addr.pcieMsiTgt, 4)] (wLink 2 {})), by decide +kernel⟩,
   ⟨1, 0x10000001D, _, [1, 2, 3, 4, 5], (wReg [(Addr.pcieMsiTgt, 4)] (wDram (wLink 2 {}))), rfl, by decide +kernel⟩⟩

/-- The hypotheses of `Obligations.PortInterruptsArrive` can be met, clause by clause. -/
theorem witness_port_interrupts_arrive :
    (∃ (v : Word) (n : Nat) (s : State), n = fld v 5 0 ∧ 2 ≤ n ∧ s.isEndpoint = true ∧ bit (s.msixWord (4 * n + 3)) 0 = true) ∧
    (∃ (v : Word) (n : Nat) (s : State), n = fld v 5 0 ∧ 2 ≤ n ∧ s.isEndpoint = true ∧ bit (s.msixWord (4 * n + 3)) 0 = false) ∧
    (∃ (v : Word), fld v 5 0 < 2) ∧
    (∃ (n : Nat) (s : State), n < 64 ∧ s.isEndpoint = true) ∧
    (∃ (n : Nat) (s : State), n < 64 ∧ (s.pcieMode = 1 ∨ s.pcieMode = 2)) ∧
    (∃ (n : Nat) (s : State), n < 64 ∧ (s.pcieMode = 1 ∨ s.pcieMode = 2) ∧ n < 4) ∧
    (∃ (n : Nat) (s : State), n < 64 ∧ s.pcieMode = 0) :=
  ⟨⟨0xFFFFFFFF, _, (({} : State)), rfl, by decide +kernel⟩,
   ⟨2, _, (({ pcie := { msix := [(11, 0)], pba := [(2, true)] } } : State)), rfl, by decide +kernel⟩,
   ⟨1, by decide +kernel⟩,
   ⟨63, (({ pcie := { pba := [(63, true)] } } : State)), by decide +kernel⟩,
   ⟨63, (wLink 2 {}), by decide +kernel⟩,
   ⟨3, (wLink 1 {}), by decide +kernel⟩,
   ⟨3, (wLink 0 {}), by decide +kernel⟩⟩

/-- The hypotheses of `Obligations.MacsCarryFrames` can be met, clause by clause. -/
theorem witness_macs_carry_frames :
    (∃ (n : Nat) (s : State) (q : _) (v : _), n < 2 ∧ q < 4 ∧ fld v 11 0 < 2 ^ s.rf (Addr.ethQSize n q) 3 0) ∧
    (∃ (n : Nat) (s : State) (q : _) (v : _), n < 2 ∧ q < 4 ∧ 2 ^ s.rf (Addr.ethQSize n q) 3 0 ≤ fld v 11 0) ∧
    (∃ (n : Nat), n < 2) ∧
    (∃ (n : Nat) (v : _), n < 2 ∧ bit v 31 = true) ∧
    (∃ (n : Nat) (s : State), n < 2 ∧ (s.rb (Addr.ethCtrl n) 31 = false ∨ s.rb (Addr.ethStatus n) 31 = false ∨ s.now < tget (fun _ => 0) s.eth.pause
      n)) ∧
    (∃ (n : Nat) (s : State) (ds : _) (u : _) (g : _), g = u.ethGather n ds ∧ n < 2 ∧ s.rb (Addr.ethCtrl n) 31 = true ∧ s.rb (Addr.ethStatus n) 31 =
      true ∧ tget (fun _ => 0) s.eth.pause n ≤ s.now ∧ s.ethFrame n 0 (s.rf (Addr.ethQHead n 0) 11 0) 4096 = (some ds, u) ∧ (∀ d, d ∈ ds → dflag d.2 3
      = false ∧ dflag d.2 4 = false)) ∧
    (∃ (n : Nat) (s : State), n < 2 ∧ s.rb (Addr.ethCtrl n) 31 = false) ∧
    (∃ (n : Nat) (s : State) (f : EthFrame), n < 2 ∧ s.rb (Addr.ethCtrl n) 31 = true ∧ f.crcBad = true ∧ s.rb (Addr.ethCtrl n) 5 = false) ∧
    (∃ (n : Nat) (s : State) (f : EthFrame), n < 2 ∧ s.rb (Addr.ethCtrl n) 31 = true ∧ f.crcBad = false ∧ be16 f.data 12 = 0x8808 ∧ be16 f.data 14 = 1
      ∧ s.rb (Addr.ethCtrl n) 1 = true) ∧
    (∃ (n : Nat) (s : State) (f : EthFrame), n < 2 ∧ s.rb (Addr.ethCtrl n) 31 = true ∧ f.crcBad = false ∧ be16 f.data 12 ≠ 0x8808 ∧ s.ethTakes n
      f.data = false) ∧
    (∃ (n : Nat) (s : State) (f : EthFrame) (q : _) (h : _), q = 3 ∧ h = s.rf (Addr.ethQHead n q) 11 0 ∧ h = s.rf (Addr.ethQTail n q) 11 0 ∧ n < 2 ∧
      s.rb (Addr.ethCtrl n) 31 = true ∧ f.crcBad = false ∧ be16 f.data 12 ≠ 0x8808 ∧ s.ethTakes n f.data = true ∧ s.rb (Addr.ethCtrl n) 0 = false) ∧
    (∃ (n : Nat) (s : State) (f : EthFrame) (q : _) (h : _) (d : _), q = 3 ∧ h = s.rf (Addr.ethQHead n q) 11 0 ∧ d = plain (s.unitRead (.eth n) .bulk
      (s.ethAt n q h) 32).1 ∧ n < 2 ∧ s.rb (Addr.ethCtrl n) 31 = true ∧ f.crcBad = false ∧ be16 f.data 12 ≠ 0x8808 ∧ s.ethTakes n f.data = true ∧ s.rb
      (Addr.ethCtrl n) 0 = false ∧ h ≠ s.rf (Addr.ethQTail n q) 11 0 ∧ dflag d 15 = true ∧ f.data.length ≤ dget d 8 2) :=
  ⟨⟨1, (({} : State)), 3, 15, by decide +kernel⟩,
   ⟨1, (({} : State)), 3, 16, by decide +kernel⟩,
   ⟨1, by decide +kernel⟩,
   ⟨1, 0xFFFFFFFF, by decide +kernel⟩,
   ⟨1, (({} : State)), by decide +kernel⟩,
   ⟨1, (wEth 0 (wDesc 60 0x8002) {}), [(0, wDesc 60 0x8002)], (((wEth 0 (wDesc 60 0x8002) {}).ethFrame 1 0 0 4096).2), _, rfl, by decide +kernel⟩,
   ⟨1, (({} : State)), by decide +kernel⟩,
   ⟨1, (wEth 3 [] {}), ⟨[], true⟩, by decide +kernel⟩,
   ⟨1, (wReg [(Addr.ethCtrl 1, 0x80000202)] {}), ⟨List.replicate 12 0 ++ [0x88, 8, 0, 1, 0xFF, 0xFF], false⟩, by decide +kernel⟩,
   ⟨1, (wReg [(Addr.ethCtrl 1, 0x80000202)] {}), ⟨[2, 0, 0, 0, 0, 0], false⟩, by decide +kernel⟩,
   ⟨1, (wReg [(Addr.ethQTail 1 3, 5), (Addr.ethQHead 1 3, 5)] (wEth 3 [] {})), ⟨[2, 0, 0, 0, 0, 0], false⟩, _, _, rfl, rfl, rfl, by decide +kernel⟩,
   ⟨1, (wEth 3 (wDesc 6 0x8000) {}), ⟨[2, 0, 0, 0, 0, 0], false⟩, _, _, _, rfl, rfl, rfl, by decide +kernel⟩⟩

/-- The hypotheses of `Obligations.SlowPortsTakeEffect` can be met, clause by clause. -/
theorem witness_slow_ports_take_effect :
    (∃ (n : Nat) (x : I3c) (s : State), x = s.i3c n ∧ n < 8 ∧ s.rb (Addr.i3cCtrl n) 31 = true ∧ x.cmds.length < 16) ∧
    (∃ (n : Nat) (x : I3c) (s : State), x = s.i3c n ∧ n < 8 ∧ (s.rb (Addr.i3cCtrl n) 31 = false ∨ 16 ≤ x.cmds.length)) ∧
    (∃ (n : Nat) (x : I3c) (s : State) (c : _) (r : _) (k : _), x = s.i3c n ∧ n < 8 ∧ x.cmds = c :: r ∧ c.run = false ∧ c.evt = some k ∧ k <
      s.evtCount (fld c.lo 28 24)) ∧
    (∃ (n : Nat) (x : I3c) (s : State) (c : _) (r : _) (k : _), x = s.i3c n ∧ n < 8 ∧ x.cmds = c :: r ∧ c.run = false ∧ c.evt = some k ∧ s.evtCount
      (fld c.lo 28 24) ≤ k) ∧
    (∃ (n : Nat) (x : I3c) (s : State) (c : _) (r : _), x = s.i3c n ∧ n < 8 ∧ x.cmds = c :: r ∧ c.run = true) ∧
    (∃ (n : Nat) (x : I3c) (s : State) (c : _) (r : _), x = s.i3c n ∧ n < 8 ∧ x.cmds = c :: r ∧ c.run = false) ∧
    (∃ (n : Nat) (x : I3c) (s : State) (c : _) (r : _), x = s.i3c n ∧ n < 8 ∧ x.cmds = c :: r) ∧
    (∃ (n : Nat) (x : I3c) (s : State), x = s.i3c n ∧ n < 8 ∧ s.rb (Addr.i3cCtrl n) 31 = true ∧ x.ibis.length < 16) ∧
    (∃ (n : Nat) (x : I3c) (s : State), x = s.i3c n ∧ n < 8 ∧ s.rb (Addr.i3cCtrl n) 31 = true ∧ 16 ≤ x.ibis.length) ∧
    (∃ (n : Nat) (x : I3c) (s : State) (w : _) (r : _), x = s.i3c n ∧ n < 8 ∧ x.resps = w :: r) ∧
    (∃ (n : Nat) (x : I3c) (s : State) (w : _) (r : _), x = s.i3c n ∧ n < 8 ∧ x.ibis = w :: r) ∧
    (∃ (n : Nat) (s : State), n < 2 ∧ s.rb (Addr.uartCtrl n) 31 = true ∧ (s.uart n).length < 64) ∧
    (∃ (n : Nat) (s : State), n < 2 ∧ s.rb (Addr.uartCtrl n) 31 = true ∧ 64 ≤ (s.uart n).length) ∧
    (∃ (n : Nat) (s : State), s.up (Addr.uartData n) ∧ n < 2 ∧ s.rb (Addr.uartCtrl n) 31 = true ∧ (s.uartOut n).length < 64) ∧
    (∃ (p : Nat), p < 40) ∧
    (∃ (k : Nat), k < 8) :=
  ⟨⟨7, _, (wReg [(Addr.i3cCtrl 7, 0x80000000), (Addr.i3cCmdLo 7, 0xDFFFFFFF)] {}), rfl, by decide +kernel⟩,
   ⟨7, _, (({} : State)), rfl, by decide +kernel⟩,
   ⟨7, _, (({ sched := { evts := [(31, 1)] }, per := { i3c := [(7, { cmds := [{ lo := 0x9F000000, hi := 0, evt := some 0 }] })] } } : State)),
      { lo := 0x9F000000, hi := 0, evt := some 0 }, [], 0, rfl, by decide +kernel⟩,
   ⟨7, _, (({ per := { i3c := [(7, { cmds := [{ lo := 0x9F000000, hi := 0, evt := some 0 }] })] } } : State)),
      { lo := 0x9F000000, hi := 0, evt := some 0 }, [], 0, rfl, by decide +kernel⟩,
   ⟨7, _, (({ per := { i3c := [(7, { cmds := [{ lo := 0x4, hi := 0xFFFF0000, run := true }, { lo := 0x9F000000, hi := 0 }] })] } } : State)),
      { lo := 0x4, hi := 0xFFFF0000, run := true }, [{ lo := 0x9F000000, hi := 0 }], rfl, by decide +kernel⟩,
   ⟨7, _, (({ per := { i3c := [(7, { cmds := [{ lo := 0x4, hi := 0xFFFF0000 }] })] } } : State)), { lo := 0x4, hi := 0xFFFF0000 }, [], rfl,
      by decide +kernel⟩,
   ⟨7, _, (({ per := { i3c := [(7, { cmds := [{ lo := 0x4, hi := 0xFFFF0000, run := true }, { lo := 0x9F000000, hi := 0 }] })] } } : State)),
      { lo := 0x4, hi := 0xFFFF0000, run := true }, [{ lo := 0x9F000000, hi := 0 }], rfl, by decide +kernel⟩,
   ⟨7, _, (wReg [(Addr.i3cCtrl 7, 0x80000000)] { per := { i3c := [(7, { ibis := List.replicate 15 3 })] } }), rfl, by decide +kernel⟩,
   ⟨7, _, (wReg [(Addr.i3cCtrl 7, 0x80000000), (Addr.i3cCnt 7, 0xFFFFFFFF)] { per := { i3c := [(7, { ibis := List.replicate 16 3 })] } }), rfl,
      by decide +kernel⟩,
   ⟨7, _, (({ per := { i3c := [(7, { resps := [5, 6] })] } } : State)), 5, [6], rfl, by decide +kernel⟩,
   ⟨7, _, (({ per := { i3c := [(7, { ibis := [5, 6] })] } } : State)), 5, [6], rfl, by decide +kernel⟩,
   ⟨1, (wReg [(Addr.uartCtrl 1, 0x80000000)] { per := { uart := [(1, List.replicate 63 1)] } }), by decide +kernel⟩,
   ⟨1, (wReg [(Addr.uartCtrl 1, 0x80000000)] { per := { uart := [(1, List.replicate 64 1)] } }), by decide +kernel⟩,
   ⟨1, (wReg [(Addr.uartCtrl 1, 0x80000000)] { pwr := { step := 10 }, per := { uartTx := [(1, [(0x40, 9)])] } }), ⟨by decide +kernel,
      by decide +kernel, by decide +kernel, by decide +kernel, fun _ _ => rfl⟩, by decide +kernel⟩,
   ⟨39, by decide +kernel⟩,
   ⟨7, by decide +kernel⟩⟩

/-- The hypotheses of `Obligations.UnitResetsTakeEffect` can be met, clause by clause. -/
theorem witness_unit_resets_take_effect :
    (∃ (c : Instr) (b : Nat) (tc : Nat) (cpu : Nat) (venc : Nat) (eth : Nat) (s : State), (∀ e, b = 15 + e → e < 2 → s.reg (Addr.vencEvidSess e) = 0)
      ∧ tc < 8 ∧ cpu < 4 ∧ venc < 2 ∧ eth < 2 ∧ (c, b) ∈ [(Instr.unitResetTc tc, tc), (.unitResetCpu cpu, 8 + cpu), (.unitResetSfe, 12),
      (.unitResetFmt, 13), (.unitResetDpp, 14), (.unitResetVenc venc, 15 + venc), (.unitResetVdec, 17), (.unitResetPcie, 18), (.unitResetEth eth, 19 +
      eth), (.unitResetI3c, 21)] ∧ s.pwrSt = 2 ∧ (s.gatedUnit b = true ∨ s.rb Addr.pwrRstStatus b = true)) ∧
    (∃ (c : Instr) (b : Nat) (tc : Nat) (cpu : Nat) (venc : Nat) (eth : Nat) (s : State), (∀ e, b = 15 + e → e < 2 → s.reg (Addr.vencEvidSess e) = 0)
      ∧ tc < 8 ∧ cpu < 4 ∧ venc < 2 ∧ eth < 2 ∧ (c, b) ∈ [(Instr.unitResetTc tc, tc), (.unitResetCpu cpu, 8 + cpu), (.unitResetSfe, 12),
      (.unitResetFmt, 13), (.unitResetDpp, 14), (.unitResetVenc venc, 15 + venc), (.unitResetVdec, 17), (.unitResetPcie, 18), (.unitResetEth eth, 19 +
      eth), (.unitResetI3c, 21)] ∧ s.pwrSt = 2 ∧ s.gatedUnit b = false ∧ s.rb Addr.pwrRstStatus b = false) ∧
    (∃ (c : Instr) (b : Nat) (tc : Nat) (cpu : Nat) (venc : Nat) (eth : Nat) (s : State), tc < 8 ∧ cpu < 4 ∧ venc < 2 ∧ eth < 2 ∧ (c, b) ∈
      [(Instr.unitResetTc tc, tc), (.unitResetCpu cpu, 8 + cpu), (.unitResetSfe, 12), (.unitResetFmt, 13), (.unitResetDpp, 14), (.unitResetVenc venc,
      15 + venc), (.unitResetVdec, 17), (.unitResetPcie, 18), (.unitResetEth eth, 19 + eth), (.unitResetI3c, 21)] ∧ s.pwrSt ≠ 2) ∧
    (∃ (e : Nat) (s : State), e < 2 ∧ s.pwrSt = 2 ∧ s.reg (Addr.vencEvidSess e) ≠ 0) ∧
    (∃ (b : Nat) (s : State), b < 22 ∧ tget (fun _ => none) s.pwr.held b = none) ∧
    (∃ (b : Nat) (s : State) (t0 : _), b < 22 ∧ tget (fun _ => none) s.pwr.held b = some t0 ∧ s.now < t0) ∧
    (∃ (b : Nat) (s : State) (t0 : _), b < 22 ∧ tget (fun _ => none) s.pwr.held b = some t0 ∧ t0 ≤ s.now) :=
  ⟨⟨(.unitResetTc 7), 7, 7, 0, 0, 0, (wReg [(Addr.pwrTcStatus, 0x7F)] (wAct {})), by intro e h; omega, by decide +kernel⟩,
   ⟨(.unitResetTc 7), 7, 7, 0, 0, 0, (wAct
      { ctxs := [(31, { state := .ready }), (28, { state := .waitSync, wait := .barrier 3 })], cores := [(7, { slots := [wFly 0x10 {}] })], pass := { barriers := [(3, some ⟨0xFF, [28]⟩)] } }),
      by intro e h; omega, by decide +kernel⟩,
   ⟨(.unitResetVenc 0), 15, 0, 0, 0, 0, (({} : State)), by decide +kernel⟩,
   ⟨1, (wReg [(Addr.vencEvidSess 1, 0x8000)] (wAct {})), by decide +kernel⟩,
   ⟨21, (({} : State)), by decide +kernel⟩,
   ⟨21, (({ now := 4, pwr := { held := [(21, some 5)] } } : State)), 5, by decide +kernel⟩,
   ⟨11, (wReg [(Addr.pwrRstStatus, 0xFFFFFFFF)] (wAct { now := 5, pwr := { held := [(11, some 5)] } })), 5, by decide +kernel⟩⟩

/-- The hypotheses of `Obligations.CoresArePoweredAsGated` can be met, clause by clause. -/
theorem witness_cores_are_powered_as_gated :
    (∃ (n : Nat) (v : Word) (s : State), n < 8 ∧ (∀ k, k < 8 → k ≠ n → bit v k = s.rb Addr.pwrTcGate k) ∧ s.pwrSt ≠ 2) ∧
    (∃ (n : Nat) (v : Word) (s : State), n < 8 ∧ (∀ k, k < 8 → k ≠ n → bit v k = s.rb Addr.pwrTcGate k) ∧ s.pwrSt = 2 ∧ bit v n = false) ∧
    (∃ (n : Nat) (v : Word) (s : State), n < 8 ∧ (∀ k, k < 8 → k ≠ n → bit v k = s.rb Addr.pwrTcGate k) ∧ s.pwrSt = 2 ∧ bit v n = true ∧ s.rb
      Addr.pwrTcGate n = false ∧ s.rb Addr.pwrTcStatus n = true ∧ s.tcQuiet n = true) ∧
    (∃ (n : Nat) (v : Word) (s : State), n < 8 ∧ (∀ k, k < 8 → k ≠ n → bit v k = s.rb Addr.pwrTcGate k) ∧ s.pwrSt = 2 ∧ bit v n = true ∧ s.rb
      Addr.pwrTcGate n = false ∧ s.rb Addr.pwrTcStatus n = true ∧ s.tcQuiet n = false) ∧
    (∃ (n : Nat) (s : State), s.pwrSt = 2 ∧ n < 8 ∧ s.tcWants n = true ∧ (∀ k, k < n → s.tcWants k = false)) ∧
    (∃ (n : Nat) (s : State), (s.pwrSt ≠ 2 ∨ 8 ≤ n ∨ s.tcWants n = false ∨ (∃ k, k < n ∧ s.tcWants k = true))) ∧
    (∃ (n : Nat) (v : Word) (s : State) (j : _), n < 4 ∧ (∀ k, k < 4 → k ≠ n → bit v k = s.rb Addr.pwrCpuGate k) ∧ s.pwrSt = 2 ∧ bit v n = true ∧ s.rb
      Addr.pwrCpuGate n = false ∧ j < 4 ∧ j ≠ n ∧ s.rb Addr.cohStatus j = true ∧ s.rb Addr.pwrCpuGate j = false ∧ s.inWfi n = true) ∧
    (∃ (n : Nat) (v : Word) (s : State) (j : _), n < 4 ∧ (∀ k, k < 4 → k ≠ n → bit v k = s.rb Addr.pwrCpuGate k) ∧ s.pwrSt = 2 ∧ bit v n = true ∧ s.rb
      Addr.pwrCpuGate n = false ∧ j < 4 ∧ j ≠ n ∧ s.rb Addr.cohStatus j = true ∧ s.rb Addr.pwrCpuGate j = false ∧ s.inWfi n = false) ∧
    (∃ (n : Nat) (v : Word) (s : State), n < 4 ∧ (∀ k, k < 4 → k ≠ n → bit v k = s.rb Addr.pwrCpuGate k) ∧ s.pwrSt = 2 ∧ bit v n = true ∧ s.rb
      Addr.pwrCpuGate n = false ∧ (∀ j, j < 4 → j ≠ n → s.rb Addr.cohStatus j = true → s.rb Addr.pwrCpuGate j = true)) ∧
    (∃ (n : Nat) (v : Word) (s : State), n < 4 ∧ (∀ k, k < 4 → k ≠ n → bit v k = s.rb Addr.pwrCpuGate k) ∧ s.pwrSt = 2 ∧ bit v n = false ∧ s.rb
      Addr.pwrCpuGate n = true) ∧
    (∃ (n : Nat) (s : State) (t0 : _), n < 4 ∧ tget (fun _ => none) s.coh.gate n = some t0 ∧ s.now < t0) ∧
    (∃ (n : Nat) (s : State) (t0 : _), n < 4 ∧ tget (fun _ => none) s.coh.gate n = some t0 ∧ t0 ≤ s.now) ∧
    (∃ (n : Nat) (s : State), n < 4 ∧ s.rb Addr.pwrCpuStatus n = true ∧ s.rb Addr.pwrRstStatus (8 + n) = false ∧ tget (fun _ => none) s.coh.gate n =
      none) ∧
    (∃ (n : Nat) (s : State) (t0 : _), n < 4 ∧ s.rb Addr.pwrCpuStatus n = true ∧ s.rb Addr.pwrRstStatus (8 + n) = false ∧ tget (fun _ => none)
      s.coh.gate n = some t0 ∧ s.now ≤ t0) ∧
    (∃ (n : Nat) (s : State), n < 4 ∧ (s.rb Addr.pwrCpuStatus n = false ∨ s.rb Addr.pwrRstStatus (8 + n) = true)) :=
  ⟨⟨7, 0x80, (wTg (wReg [(Addr.pwrState, 5)] (wAct {}))), by decide +kernel⟩,
   ⟨7, 0x101, (wReg [(Addr.pwrTcGate, 0x81), (Addr.pwrTcStatus, 0x7E7E)] (wAct {})), by decide +kernel⟩,
   ⟨7, 0xFFFFFF80, (wTg (wAct
      { cores := [(7, { halted := true, acc := [(0, 1)] })], ctxs := [(28, { state := .done }), (31, { state := .halted })] })), by decide +kernel⟩,
   ⟨7, 0x80, (wTg (wAct { ctxs := [(31, { state := .ready })] })), by decide +kernel⟩,
   ⟨7, (wTg (wReg [(Addr.pwrTcStatus, 0x7F7F)] (wAct {}))), by decide +kernel⟩,
   ⟨7, (wTg (wReg [(Addr.pwrTcStatus, 0)] (wAct {}))), by decide +kernel⟩,
   ⟨3, 0x8, (wReg [(Addr.cohStatus, 0x9)] (wAct { coh := { wfi := [(3, true)] } })), 0, by decide +kernel⟩,
   ⟨3, 0x8, (wReg [(Addr.cohStatus, 0xC)] (wAct {})), 2, by decide +kernel⟩,
   ⟨3, 0x8, (wReg [(Addr.cohStatus, 0x8)] (wAct {})), by decide +kernel⟩,
   ⟨3, 0x0, (wReg [(Addr.pwrCpuGate, 0x8), (Addr.pwrCpuStatus, 0x7)] (wAct {})), by decide +kernel⟩,
   ⟨3, (({ now := 5, coh := { gate := [(3, some 6)] } } : State)), 6, by decide +kernel⟩,
   ⟨3, (wReg [(Addr.pwrCpuGate, 0xF)] { now := 5, coh := { gate := [(3, some 5)] } }), 5, by decide +kernel⟩,
   ⟨3, (wAct {}), by decide +kernel⟩,
   ⟨3, (wCoh [(3, .m)] (wAct { coh := { gate := [(3, some 13345678)] } })), 13345678, by decide +kernel⟩,
   ⟨3, (({} : State)), by decide +kernel⟩⟩

/-- The hypotheses of `Obligations.ClocksAndRailsFollow` can be met, clause by clause. -/
theorem witness_clocks_and_rails_follow :
    (∃ (s : State) (v : _), (Config.partE = false ∨ fld v 10 0 ≤ 1000) ∧ s.pwrSt = 2 ∧ fld v 10 0 % 50 = 0 ∧ 300 ≤ fld v 10 0 ∧ fld v 10 0 ≤ 1200) ∧
    (∃ (s : State) (v : _), s.pwrSt = 2 ∧ fld v 10 0 % 50 ≠ 0) ∧
    (∃ (s : State) (v : _), s.pwrSt = 2 ∧ fld v 10 0 % 100 = 0 ∧ 400 ≤ fld v 10 0 ∧ fld v 10 0 ≤ 1600) ∧
    (∃ (s : State) (v : _), s.pwrSt = 2 ∧ fld v 10 0 % 100 ≠ 0) ∧
    (∃ (s : State) (v : _) (c : _), s.pwrSt ≠ 2 ∧ (c = Instr.tclkRequest v ∨ c = .cpuClockRequest v)) ∧
    (∃ (s : State) (c : _) (f : _) (g : _), f = s.rf (clkAddr c) 10 0 ∧ g = s.clkWanted c ∧ (s.pwrSt ≠ 2 ∨ f = g)) ∧
    (∃ (s : State) (c : _) (f : _) (g : _), f = s.rf (clkAddr c) 10 0 ∧ g = s.clkWanted c ∧ s.pwrSt = 2 ∧ g < f) ∧
    (∃ (s : State) (c : _) (f : _) (g : _), f = s.rf (clkAddr c) 10 0 ∧ g = s.clkWanted c ∧ s.pwrSt = 2 ∧ f < g ∧ (s.avs (b2n c)).settled < 4 * clkMv
      c (min g (f + clkGrain c))) ∧
    (∃ (s : State) (c : _) (f : _) (g : _), f = s.rf (clkAddr c) 10 0 ∧ g = s.clkWanted c ∧ s.pwrSt = 2 ∧ f < g ∧ 4 * clkMv c (min g (f + clkGrain c))
      ≤ (s.avs (b2n c)).settled) ∧
    (∃ (s : State) (c : _) (m : _) (x : _), x = s.avsTarget c m ∧ s.pwrSt = 2 ∧ s.avsLast (b2n c) = x) ∧
    (∃ (s : State) (c : _) (m : _) (x : _), x = s.avsTarget c m ∧ s.pwrSt = 2 ∧ s.avsLast (b2n c) ≠ x ∧ s.clk.bus ≠ none) ∧
    (∃ (s : State) (c : _) (m : _) (x : _), x = s.avsTarget c m ∧ s.pwrSt = 2 ∧ s.avsLast (b2n c) ≠ x ∧ s.clk.bus = none ∧ (s.avs (1 - b2n c)).want =
      none) ∧
    (∃ (s : State) (c : _) (x : _), s.pwrSt = 2 ∧ s.clk.bus = some (b2n c, x) ∧ (s.avs 0).want = none ∧ (s.avs 1).want = none) ∧
    (∃ (s : State) (c : _) (x : _), s.pwrSt = 2 ∧ s.clk.bus = some (b2n c, x) ∧ (s.avs 0).want = none ∧ (s.avs 1).want = none ∧ (s.avs (b2n c)).tries
      < 3) ∧
    (∃ (s : State) (c : _) (x : _), s.pwrSt = 2 ∧ s.clk.bus = some (b2n c, x) ∧ (s.avs 0).want = none ∧ (s.avs 1).want = none ∧ 3 ≤ (s.avs (b2n
      c)).tries) ∧
    (∃ (s : State), s.pwrSt = 2) :=
  ⟨⟨(wAct {}), 300, Or.inr (by decide +kernel), by decide +kernel⟩,
   ⟨(wAct {}), 301, by decide +kernel⟩,
   ⟨(wAct {}), 1600, by decide +kernel⟩,
   ⟨(wAct {}), 401, by decide +kernel⟩,
   ⟨(({ pwr := { step := 10 } } : State)), 400, (.tclkRequest 400), by decide +kernel⟩,
   ⟨(({} : State)), true, _, _, rfl, rfl, by decide +kernel⟩,
   ⟨(wReg [(Addr.clkTclk, 0x3E8044C)] (wAct {})), false, _, _, rfl, rfl, by decide +kernel⟩,
   ⟨(wReg [(Addr.clkTclk, 0x320012C)] (wAct {})), false, _, _, rfl, rfl, by decide +kernel⟩,
   ⟨(wReg [(Addr.clkTclk, 0x320012C)] (wAct { clk := { rails := [(0, { settled := 2880 })] } })), false, _, _, rfl, rfl, by decide +kernel⟩,
   ⟨(wAct { clk := { rails := [(0, { ramps := [(0, 0, 2400)], want := some 3 })] } }), false, 0, _, rfl, by decide +kernel⟩,
   ⟨(wAct { clk := { bus := some (0, 700) } }), true, 2000, _, rfl, by decide +kernel⟩,
   ⟨(wAct {}), true, 700, _, rfl, by decide +kernel⟩,
   ⟨(wReg [(Addr.pwrAvsCfg, 0x1F)] (wAct
      { now := 500, clk := { rails := [(1, { ramps := [(400, 2880, 3200), (1, 3200, 2880)], tries := 2 })], bus := some (1, 700) } })), true, 700,
      by decide +kernel⟩,
   ⟨(wAct { clk := { rails := [(0, { tries := 2 })], bus := some (0, 700) } }), false, 700, by decide +kernel⟩,
   ⟨(wAct { clk := { rails := [(0, { tries := 3 })], bus := some (0, 700) } }), false, 700, by decide +kernel⟩,
   ⟨(wReg [(Addr.pwrAvsCfg, 0xFF01)] (wAct
      { now := 50000, clk := { rails := [(1, { ramps := [(40000, 2880, 3200), (1, 3200, 2880)], tries := 2 })] } })), by decide +kernel⟩⟩

/-- The hypotheses of `Obligations.GovernorSamples` can be met, clause by clause. -/
theorem witness_governor_samples :
    (∃ (s : State), s.calibrating = false) ∧
    (∃ (g : GovernorInput) (s : State) (h : _), s.calibrating = false ∧ hottest g.temps ((List.range 24).filter (sampleOk g.temps)) = some h) ∧
    (∃ (s : State), s.calibrating = true) ∧
    (∃ (s : State), s.pwrSt = 2 ∧ bit (s.thmEff 0) 0 = false) ∧
    (∃ (s : State), s.pwrSt = 2 ∧ bit (s.thmEff 0) 0 = true ∧ s.thm.higher = false) :=
  ⟨⟨(({} : State)), by decide +kernel⟩,
   ⟨⟨List.replicate 23 1190 ++ [1200], 5⟩, (wAct {}), 23, by decide +kernel⟩,
   ⟨(wAct { now := 5, thm := { calEnd := some 20000000 } }), by decide +kernel⟩,
   ⟨(wReg [(Addr.thmCtrl, 0)] (wAct { thm := { b := 3 } })), by decide +kernel⟩,
   ⟨(wReg [(Addr.thmCtrl, 1), (Addr.thmRamp, 5), (Addr.thmRth, 20)] (wAct { thm := { b := 3 } })), by decide +kernel⟩⟩

/-- The hypotheses of `Obligations.CoolantIsWatched` can be met, clause by clause. -/
theorem witness_coolant_is_watched :
    (∃ (s : State) (n : _) (f : _) (l : _), f = n * 240000 / fld (s.thmEff 6) 15 0 ∧ l = (f :: s.thm.flows).take 40 ∧ s.pwrSt ≠ 2) ∧
    (∃ (s : State) (n : _) (f : _) (l : _), f = n * 240000 / fld (s.thmEff 6) 15 0 ∧ l = (f :: s.thm.flows).take 40 ∧ s.pwrSt = 2) ∧
    (∃ (s : State) (n : _) (f : _) (l : _), f = n * 240000 / fld (s.thmEff 6) 15 0 ∧ l = (f :: s.thm.flows).take 40 ∧ s.pwrSt = 2 ∧ s.thm.loss = false
      ∧ 8 ≤ l.length ∧ (∀ x, x ∈ l.take 8 → x < 200)) ∧
    (∃ (s : State) (n : _) (f : _) (l : _), f = n * 240000 / fld (s.thmEff 6) 15 0 ∧ l = (f :: s.thm.flows).take 40 ∧ s.pwrSt = 2 ∧ s.thm.loss = true
      ∧ l.length = 40 ∧ (∀ x, x ∈ l → 300 ≤ x)) ∧
    (∃ (s : State) (n : _) (f : _) (l : _) (d : _), f = n * 240000 / fld (s.thmEff 6) 15 0 ∧ l = (f :: s.thm.flows).take 40 ∧ d = s.rf Addr.thmPump 23
      16 ∧ s.pwrSt = 2 ∧ s.thm.loss = false ∧ 200 ≤ f ∧ bit (s.thmEff 7) 31 = true ∧ f + 10 < fld (s.thmEff 7) 15 0) ∧
    (∃ (s : State) (n : _) (f : _) (l : _) (d : _), f = n * 240000 / fld (s.thmEff 6) 15 0 ∧ l = (f :: s.thm.flows).take 40 ∧ d = s.rf Addr.thmPump 23
      16 ∧ s.pwrSt = 2 ∧ s.thm.loss = false ∧ 200 ≤ f ∧ bit (s.thmEff 7) 31 = true ∧ fld (s.thmEff 7) 15 0 + 10 < f) ∧
    (∃ (s : State), s.pwrSt = 2 ∧ 64 ≤ s.duty) ∧
    (∃ (s : State), (s.pwrSt ≠ 2 ∨ s.duty < 64)) ∧
    (∃ (s : State) (p : _), p = fld (s.thmEff 5) 9 0 * tickHz ∧ s.thm.calBase + p ≤ s.now) ∧
    (∃ (s : State) (p : _), p = fld (s.thmEff 5) 9 0 * tickHz ∧ s.now < s.thm.calBase + p) ∧
    (∃ (s : State) (t0 : _), s.thm.calDue = some t0 ∧ t0 + 2 * tickHz ≤ s.now) ∧
    (∃ (s : State) (t0 : _), s.thm.calDue = some t0 ∧ s.now < t0 + 2 * tickHz) ∧
    (∃ (s : State) (t0 : _), s.thm.calEnd = some t0 ∧ t0 ≤ s.now) ∧
    (∃ (s : State) (t0 : _), s.thm.calEnd = some t0 ∧ s.now < t0) :=
  ⟨⟨(({} : State)), 3, _, _, rfl, rfl, by decide +kernel⟩,
   ⟨(wAct { thm := { flows := List.replicate 40 7 } }), 3000, _, _, rfl, rfl, by decide +kernel⟩,
   ⟨(wReg [(Addr.thmPump, 0x8000FFFF)] (wAct { thm := { flows := List.replicate 7 199 } })), 0, _, _, rfl, rfl, by decide +kernel⟩,
   ⟨(wAct { thm := { flows := List.replicate 39 300, loss := true } }), 2000, _, _, rfl, rfl, by decide +kernel⟩,
   ⟨(wReg [(Addr.thmFlowK, 1200), (Addr.thmPump, 0x80FEFFFF)] (wAct {})), 1, _, _, _, rfl, rfl, rfl, by decide +kernel⟩,
   ⟨(wReg [(Addr.thmFlowK, 1200), (Addr.thmPump, 0x80410003)] (wAct {})), 1, _, _, _, rfl, rfl, rfl, by decide +kernel⟩,
   ⟨(wReg [(Addr.thmPump, 0x400000), (Addr.thmPumpTach, 5)] (wAct {})), by decide +kernel⟩,
   ⟨(wReg [(Addr.thmPump, 0x3F0000), (Addr.thmPumpTach, 5)] (wAct {})), by decide +kernel⟩,
   ⟨(({ now := 1023 * tickHz, thm := { calDue := some 5 } } : State)), _, rfl, by decide +kernel⟩,
   ⟨(wReg [(Addr.thmCal, 600)] { now := 5 }), _, rfl, by decide +kernel⟩,
   ⟨(({ now := 5 + 2 * tickHz, thm := { calDue := some 5 } } : State)), 5, by decide +kernel⟩,
   ⟨(({ now := 4, thm := { calDue := some 5 } } : State)), 5, by decide +kernel⟩,
   ⟨(({ now := 5, thm := { calEnd := some 5 } } : State)), 5, by decide +kernel⟩,
   ⟨(({ now := 4, thm := { calEnd := some 5 } } : State)), 5, by decide +kernel⟩⟩

/-- The hypotheses of `Obligations.RecordsAreCollected` can be met, clause by clause. -/
theorem witness_records_are_collected :
    (∃ (s : State), (s.rf Addr.pwrState 2 0 ≠ 2 ∨ s.coll.posted = [])) ∧
    (∃ (s : State) (r : _) (l : _), s.rf Addr.pwrState 2 0 = 2 ∧ s.coll.posted = r :: l ∧ s.coll.fifo.length < (if r.cls = .fatal then 256 else 240))
      ∧
    (∃ (s : State) (r : _) (l : _), s.rf Addr.pwrState 2 0 = 2 ∧ s.coll.posted = r :: l ∧ (if r.cls = .fatal then 256 else 240) ≤ s.coll.fifo.length)
      ∧
    (∃ (s : State), (s.rb Addr.dsvErrCtrl 31 = false ∨ s.rf Addr.pwrState 2 0 ≠ 2)) ∧
    (∃ (s : State) (x : _) (l : _) (a : _), a = s.ringBase Addr.dsvErrDBase + 32 * s.ringHead Addr.dsvErrDBase ∧ s.rb Addr.dsvErrCtrl 31 = true ∧ s.rf
      Addr.pwrState 2 0 = 2 ∧ s.coll.owed = false ∧ s.coll.fifo = x :: l ∧ x.driver = true ∧ (∀ y, y ∈ x :: l → y.host = false) ∧ (∀ y, y ∈ l →
      y.driver = true) ∧ s.memOk a = true ∧ s.ringRoom Addr.dsvErrDBase = true) ∧
    (∃ (s : State) (x : _) (l : _) (a : _), a = s.ringBase Addr.dsvErrDBase + 32 * s.ringHead Addr.dsvErrDBase ∧ s.rb Addr.dsvErrCtrl 31 = true ∧ s.rf
      Addr.pwrState 2 0 = 2 ∧ s.coll.owed = false ∧ s.coll.fifo = x :: l ∧ x.driver = true ∧ (∀ y, y ∈ x :: l → y.host = false) ∧ (∀ y, y ∈ l →
      y.driver = true) ∧ s.memOk a = true ∧ s.ringRoom Addr.dsvErrDBase = false) ∧
    (∃ (s : State) (k : _), (s.rate k).opened = none) ∧
    (∃ (s : State) (k : _) (t0 : _), (s.rate k).opened = some t0 ∧ s.now < t0 + tickHz) ∧
    (∃ (s : State) (k : _) (t0 : _), (s.rate k).opened = some t0 ∧ t0 + tickHz ≤ s.now ∧ (s.rate k).first = none) ∧
    (∃ (s : State) (k : _) (t0 : _) (f : _), (s.rate k).opened = some t0 ∧ t0 + tickHz ≤ s.now ∧ (s.rate k).first = some f) :=
  ⟨⟨(({} : State)), by decide +kernel⟩,
   ⟨(wReg [(Addr.dsvErrCnt 5, 0xFFFFFFFF)] (wAct
      { coll := { posted := [⟨.cfg, .fatal, 1, 2, 3, none, 4, 5, true, []⟩], fifo := List.replicate 255 ⟨⟨.cfg, .fatal, 1, 2, 3, none, 4, 5, true, []⟩, false, true⟩ } })),
      ⟨.cfg, .fatal, 1, 2, 3, none, 4, 5, true, []⟩, [], by decide +kernel⟩,
   ⟨(wReg [(Addr.dsvErrLost, 0xFFFFFFFF)] (wAct
      { coll := { posted := [⟨.cfg, .fatal, 1, 2, 3, none, 4, 5, true, []⟩], fifo := List.replicate 256 ⟨⟨.cfg, .fatal, 1, 2, 3, none, 4, 5, true, []⟩, false, true⟩ } })),
      ⟨.cfg, .fatal, 1, 2, 3, none, 4, 5, true, []⟩, [], by decide +kernel⟩,
   ⟨(wReg [(Addr.dsvErrCtrl, 0x80000000)] {}), by decide +kernel⟩,
   ⟨(wReg [(Addr.dsvErrCtrl, 0xC0000000), (Addr.dsvErrDBase + 4, 1), (Addr.dsvErrDBase + 8, 15), (Addr.dsvErrDBase + 12, 0xFFF), (Addr.dsvErrDBase +
      16, 5)] (wDram (wAct
      { coll := { fifo := [⟨⟨.cfg, .fatal, 1, 2, 3, some (1, 5), 4, 5, true, [(1, 3), (4, 5), (5, 7), (4, 9)]⟩, true, false⟩, ⟨⟨.cfg, .fatal, 1, 2, 3, none, 4, 5, true, []⟩, true, false⟩] } }))),
      ⟨⟨.cfg, .fatal, 1, 2, 3, some (1, 5), 4, 5, true, [(1, 3), (4, 5), (5, 7), (4, 9)]⟩, true, false⟩, [⟨⟨.cfg, .fatal, 1, 2, 3, none, 4, 5, true,
      []⟩, true, false⟩], _, rfl, by decide +kernel⟩,
   ⟨(wReg [(Addr.dsvErrCtrl, 0x80000000), (Addr.dsvErrDBase + 4, 1), (Addr.dsvErrDBase + 8, 2), (Addr.dsvErrDBase + 12, 3)] (wDram (wAct
      { coll := { fifo := [⟨⟨.cfg, .fatal, 1, 2, 3, none, 4, 5, true, []⟩, true, false⟩] } }))), ⟨⟨.cfg, .fatal, 1, 2, 3, none, 4, 5, true, []⟩, true,
      false⟩, [], _, rfl, by decide +kernel⟩,
   ⟨(({} : State)), 3, by decide +kernel⟩,
   ⟨(({ coll := { rates := [(3, { opened := some 5, count := 3 })] } } : State)), 3, 5, by decide +kernel⟩,
   ⟨(({ now := 5 + tickHz, coll := { rates := [(3, { opened := some 5, count := 3 })] } } : State)), 3, 5, by decide +kernel⟩,
   ⟨(({ now := 5 + tickHz, coll := { rates := [(3, { opened := some 5, count := 3, first := some ⟨.cfg, .fatal, 1, 2, 3, none, 4, 5, true, [(4, 2), (1, 3)]⟩ })] } }
      : State)), 3, 5, ⟨.cfg, .fatal, 1, 2, 3, none, 4, 5, true, [(4, 2), (1, 3)]⟩, by decide +kernel⟩⟩

/-- The hypotheses of `Obligations.TelemetryIsSampled` can be met, clause by clause. -/
theorem witness_telemetry_is_sampled :
    (∃ (s : State), (s.rb Addr.dsvTelCtrl 31 = false ∨ s.now < s.coll.telDue)) ∧
    (∃ (s : State), s.rb Addr.dsvTelCtrl 31 = true ∧ s.coll.telDue ≤ s.now) ∧
    (∃ (s : State), s.coll.snaps = []) ∧
    (∃ (s : State) (x : _) (l : _), s.coll.snaps = x :: l ∧ s.now < x.at_ + 2 * tickHz) ∧
    (∃ (s : State) (x : _) (l : _), s.coll.snaps = x :: l ∧ x.at_ + 2 * tickHz ≤ s.now ∧ s.ringRoom Addr.dsvTelBase = false) ∧
    (∃ (s : State) (x : _) (l : _) (b : _), s.coll.snaps = x :: l ∧ x.at_ + 2 * tickHz ≤ s.now ∧ s.ringRoom Addr.dsvTelBase = true ∧ x.records = [b])
      :=
  ⟨⟨(({} : State)), by decide +kernel⟩,
   ⟨(wReg [(Addr.lptLdCtrl 3, 0x88000000), (Addr.dsvTelCtrl, 0x800003FF), (Addr.dsvTelPeriod, 1)] (wAct
      { now := msTicks 1, doms := [(3, wDom)], coll := { snaps := [⟨[], 3⟩], gap := true, telDue := msTicks 1 } })), by decide +kernel⟩,
   ⟨(({} : State)), by decide +kernel⟩,
   ⟨(({ now := 5, coll := { snaps := [⟨[[]], 3⟩, ⟨[], 4⟩] } } : State)), ⟨[[]], 3⟩, [⟨[], 4⟩], by decide +kernel⟩,
   ⟨(wReg [(Addr.dsvTelBase + 8, 0)] { now := 5 + 3 * tickHz, coll := { snaps := [⟨[[]], 3⟩, ⟨[], 4⟩] } }), ⟨[[]], 3⟩, [⟨[], 4⟩], by decide +kernel⟩,
   ⟨(wReg [(Addr.dsvTelBase + 4, 1), (Addr.dsvTelBase + 8, 2), (Addr.dsvTelBase + 12, 3), (Addr.dsvTelBase + 16, 1)] (wDram
      { now := 5 + 3 * tickHz, coll := { snaps := [⟨[[1, 2, 3]], 3⟩, ⟨[], 4⟩] } })), ⟨[[1, 2, 3]], 3⟩, [⟨[], 4⟩], [1, 2, 3], by decide +kernel⟩⟩

/-- The hypotheses of `Obligations.PowerMovesInSteps` can be met, clause by clause. -/
theorem witness_power_moves_in_steps :
    (∃ (s : State) (c : Instr), (c = .wakeNFall ∨ (c = .wakeAlarm ∧ s.pwr.alarm ≠ 0 ∧ s.pwr.alarm ≤ s.tod.sec)) ∧ s.pwr.refLost = none ∧ s.pwrSt ≠ 2)
      ∧
    (∃ (s : State) (c : Instr), (c = .wakeNFall ∨ (c = .wakeAlarm ∧ s.pwr.alarm ≠ 0 ∧ s.pwr.alarm ≤ s.tod.sec)) ∧ s.pwr.refLost = none ∧ s.pwrSt = 2)
      ∧
    (∃ (s : State) (c : Instr), (c = .wakeNFall ∨ (c = .wakeAlarm ∧ s.pwr.alarm ≠ 0 ∧ s.pwr.alarm ≤ s.tod.sec)) ∧ s.pwr.refLost ≠ none) ∧
    (∃ (s : State), s.pwr.alarm ≠ 0 ∧ s.pwr.alarm ≤ s.tod.sec) ∧
    (∃ (s : State), (s.pwr.alarm = 0 ∨ s.tod.sec < s.pwr.alarm)) ∧
    (∃ (s : State) (t0 : _), s.pwr.grace = some t0 ∧ s.now < t0) ∧
    (∃ (s : State) (t0 : _), s.pwr.grace = some t0 ∧ t0 ≤ s.now ∧ s.pwrSt = 2 ∧ 2 ≤ s.pwrReq) ∧
    (∃ (s : State) (t0 : _), s.pwr.grace = some t0 ∧ t0 ≤ s.now ∧ s.pwrSt = 2 ∧ s.pwrReq < 2) ∧
    (∃ (s : State) (k : _), k = (if s.pwr.step = 4 ∧ s.rb Addr.pwrRailStatus 9 = true then 8 else s.pwr.step + 1) ∧ s.now < s.pwr.ready) ∧
    (∃ (s : State) (k : _), k = (if s.pwr.step = 4 ∧ s.rb Addr.pwrRailStatus 9 = true then 8 else s.pwr.step + 1) ∧ s.pwr.ready ≤ s.now ∧ s.pwrSt = 4
      ∧ (s.pwrReq = 2 ∨ s.pwrReq = 7) ∧ k < 10) ∧
    (∃ (s : State) (k : _), k = 10 ∧ k = (if s.pwr.step = 4 ∧ s.rb Addr.pwrRailStatus 9 = true then 8 else s.pwr.step + 1) ∧ s.pwr.ready ≤ s.now ∧
      s.pwrSt = 4 ∧ (s.pwrReq = 2 ∨ s.pwrReq = 7)) ∧
    (∃ (s : State) (k : _), k = (if s.pwr.step = 4 ∧ s.rb Addr.pwrRailStatus 9 = true then 8 else s.pwr.step + 1) ∧ s.pwr.ready ≤ s.now ∧ s.mayRise =
      true ∧ s.pwrSt ≠ 4) ∧
    (∃ (s : State) (k : _) (r : _), k = (if s.pwr.step = 4 ∧ s.rb Addr.pwrRailStatus 9 = true then 8 else s.pwr.step + 1) ∧ s.pwrSt = 4 ∧ r ∈
      stepRails k ∧ s.pwr.ready + msTicks 10 ≤ s.now) ∧
    (∃ (s : State) (k : _) (r : _), k = (if s.pwr.step = 4 ∧ s.rb Addr.pwrRailStatus 9 = true then 8 else s.pwr.step + 1) ∧ (s.pwrSt ≠ 4 ∨ r ∉
      stepRails k ∨ s.now < s.pwr.ready + msTicks 10)) ∧
    (∃ (s : State) (k : _) (g : _), k = s.pwr.step ∧ g = s.pwr.target ∧ s.pwrSt = 5 ∧ g < 2 ∧ 1 < k ∧ k ≤ 10) ∧
    (∃ (s : State) (k : _) (g : _), k = s.pwr.step ∧ g = s.pwr.target ∧ s.pwrSt = 5 ∧ g < 2 ∧ k ≤ 1) ∧
    (∃ (s : State), s.pwrSt = 4 ∧ s.pwrReq < 2 ∧ 2 ≤ s.pwr.step ∧ s.pwr.step ≤ 10) ∧
    (∃ (s : State), (s.pwrSt = 2 ∨ s.pwrSt = 3 ∨ s.pwrSt = 0)) :=
  ⟨⟨(({} : State)), .wakeNFall, by decide +kernel⟩,
   ⟨(wAct { pwr := { grace := some 5 } }), .wakeNFall, by decide +kernel⟩,
   ⟨(({ pwr := { refLost := some (1, 2) } } : State)), .wakeNFall, by decide +kernel⟩,
   ⟨(({ pwr := { alarm := 1 }, tod := { sec := 1 } } : State)), by decide +kernel⟩,
   ⟨(({} : State)), by decide +kernel⟩,
   ⟨(wAct { pwr := { grace := some 5 } }), 5, by decide +kernel⟩,
   ⟨(wReg [(Addr.pwrState, 0x72)] (wAct { now := 5, pwr := { grace := some 5 } })), 5, by decide +kernel⟩,
   ⟨(wReg [(Addr.pwrState, 0x12)] (wAct { now := 5, pwr := { grace := some 5 } })), 5, by decide +kernel⟩,
   ⟨(({ pwr := { ready := 5 } } : State)), ((if (({ pwr := { ready := 5 } } : State)).pwr.step = 4 ∧ (({ pwr := { ready := 5 } } : State)).rb
      Addr.pwrRailStatus 9 = true then 8 else (({ pwr := { ready := 5 } } : State)).pwr.step + 1)), by decide +kernel⟩,
   ⟨(wReg [(Addr.pwrState, 0x24), (Addr.pwrRailStatus, 0x3FF)] { pwr := { step := 4 } }), ((if (wReg [(Addr.pwrState, 0x24), (Addr.pwrRailStatus,
      0x3FF)] { pwr := { step := 4 } }).pwr.step = 4 ∧ (wReg [(Addr.pwrState, 0x24), (Addr.pwrRailStatus, 0x3FF)] { pwr := { step := 4 } }).rb
      Addr.pwrRailStatus 9 = true then 8 else (wReg [(Addr.pwrState, 0x24), (Addr.pwrRailStatus, 0x3FF)] { pwr := { step := 4 } }).pwr.step + 1)),
      by decide +kernel⟩,
   ⟨(wReg [(Addr.pwrState, 0x124), (Addr.lptCtrl, 1)]
      { pwr := { step := 9 }, cores := [(7, { halted := true })], doms := [(7, wDom)], mem := [(0x100000000, 1)] }), _, rfl, by decide +kernel⟩,
   ⟨(wReg [(Addr.pwrState, 0x21)] {}), ((if (wReg [(Addr.pwrState, 0x21)] {}).pwr.step = 4 ∧ (wReg [(Addr.pwrState, 0x21)] {}).rb Addr.pwrRailStatus 9
      = true then 8 else (wReg [(Addr.pwrState, 0x21)] {}).pwr.step + 1)), by decide +kernel⟩,
   ⟨(wReg [(Addr.pwrState, 0x24), (Addr.pwrRailStatus, 0x3FF)] { now := msTicks 10, pwr := { step := 4 } }), ((if (wReg [(Addr.pwrState, 0x24),
      (Addr.pwrRailStatus, 0x3FF)] { now := msTicks 10, pwr := { step := 4 } }).pwr.step = 4 ∧ (wReg [(Addr.pwrState, 0x24), (Addr.pwrRailStatus,
      0x3FF)] { now := msTicks 10, pwr := { step := 4 } }).rb Addr.pwrRailStatus 9 = true then 8 else (wReg [(Addr.pwrState, 0x24),
      (Addr.pwrRailStatus, 0x3FF)] { now := msTicks 10, pwr := { step := 4 } }).pwr.step + 1)), 12, by decide +kernel⟩,
   ⟨(({} : State)), ((if (({} : State)).pwr.step = 4 ∧ (({} : State)).rb Addr.pwrRailStatus 9 = true then 8 else (({} : State)).pwr.step + 1)), 12,
      by decide +kernel⟩,
   ⟨(wReg [(Addr.pwrState, 0x05), (Addr.pwrRailStatus, 0x3FFF), (Addr.memStatus, 0x80000000), (Addr.memCtrl, 3), (Addr.memCfg, 5)]
      { mem := [(0x100000000, 1)], pwr := { step := 10 }, cores := [(7, { halted := true })] }), _, _, rfl, rfl, by decide +kernel⟩,
   ⟨(wReg [(Addr.pwrState, 0x15), (Addr.pwrRailStatus, 0x7)] { pwr := { step := 1, target := 1 } }), _, _, rfl, rfl, by decide +kernel⟩,
   ⟨(wReg [(Addr.pwrState, 0x04), (Addr.pwrRailStatus, 0x3FFF)] { pwr := { step := 10, target := 1 } }), by decide +kernel⟩,
   ⟨(({} : State)), by decide +kernel⟩⟩

/-- The hypotheses of `Obligations.LossesAndResetsTakeEffect` can be met, clause by clause. -/
theorem witness_losses_and_resets_take_effect :
    (∃ (s : State) (r : _), 2 ≤ r ∧ r ≤ 12 ∧ s.rb Addr.pwrRailStatus r = true ∧ (s.pwrSt = 2 ∨ s.pwrSt = 4 ∨ s.pwrSt = 5)) ∧
    (∃ (s : State) (r : _), (r < 2 ∨ 12 < r ∨ s.rb Addr.pwrRailStatus r = false ∨ (s.pwrSt ≠ 2 ∧ s.pwrSt ≠ 4 ∧ s.pwrSt ≠ 5))) ∧
    (∃ (s : State) (n : _), n < 24 ∧ s.pwrSt ≠ 3) ∧
    (∃ (s : State) (n : _), (24 ≤ n ∨ s.pwrSt = 3)) ∧
    (∃ (s : State), s.pwr.refLost = none) ∧
    (∃ (s : State), s.pwr.refLost ≠ none) ∧
    (∃ (s : State) (b : _), s.pwr.refLost = some b) :=
  ⟨⟨(wReg [(Addr.pwrRailStatus, 0x7)] (wAct { mem := [(0x100000000, 1)] })), 2, by decide +kernel⟩,
   ⟨(wReg [(Addr.pwrRailStatus, 0x3FFF)] (wAct {})), 13, by decide +kernel⟩,
   ⟨(wReg [(Addr.thmTripCnt, 0xFFFFFFFF)] (wAct { mem := [(0x100000000, 1)] })), 23, by decide +kernel⟩,
   ⟨(wAct {}), 24, by decide +kernel⟩,
   ⟨(wAct { tod := { sec := 3, tick := 4 } }), by decide +kernel⟩,
   ⟨(({ pwr := { refLost := some (1, 2) } } : State)), by decide +kernel⟩,
   ⟨(wAct { dsv := { fw := some ⟨true, 3, []⟩ }, pwr := { refLost := some (2 ^ 48 - 1, 122879999) } }), ((2 ^ 48 - 1, 122879999)), by decide +kernel⟩⟩

/-- The hypotheses of `Obligations.FirmwareBootsTheDevice` can be met, clause by clause. -/
theorem witness_firmware_boots_the_device :
    (∃ (s : State), s.dsv.fw ≠ none) ∧
    (∃ (a : BootImage) (s : State), s.dsv.fw = none ∧ s.rf Addr.dsvBootStatus 7 0 = 0 ∧ s.imageOk a = true) ∧
    (∃ (a : BootImage) (b : BootImage) (s : State), s.dsv.fw = none ∧ s.rf Addr.dsvBootStatus 7 0 = 0 ∧ s.imageOk a = false ∧ s.imageOk b = true) ∧
    (∃ (a : BootImage) (b : BootImage) (s : State), s.dsv.fw = none ∧ s.rf Addr.dsvBootStatus 7 0 = 0 ∧ s.imageOk a = false ∧ s.imageOk b = false) ∧
    (∃ (s : State), (s.dsv.fw = none ∨ s.dsv.booted = true ∨ s.pwrSt ≠ 2)) ∧
    (∃ (s : State), s.dsv.fw ≠ none ∧ s.dsv.booted = false ∧ s.pwrSt = 2) :=
  ⟨⟨(({ dsv := { fw := some ⟨true, 3, []⟩ } } : State)), by decide +kernel⟩,
   ⟨⟨true, true, 1, [1]⟩, (({ dsv := { otp := [(112, 1)] } } : State)), by decide +kernel⟩,
   ⟨⟨true, true, 0, [1]⟩, ⟨true, true, 5, [2]⟩, (({ dsv := { otp := [(112, 1)] } } : State)), by decide +kernel⟩,
   ⟨⟨true, false, 9, [1]⟩, ⟨false, true, 5, [2]⟩, (({} : State)), by decide +kernel⟩,
   ⟨(({} : State)), by decide +kernel⟩,
   ⟨(wAct
      { dsv := { fw := some ⟨true, 3, []⟩, tag := [4], copyB := some { seq := 3, keys := [(0, (1, [3])), (3, (3, [4]))], regs := [(Addr.dsvDcWindow, 5), (Addr.dsvFwBase 0, 9)] } } }),
      by decide +kernel⟩⟩

/-- The hypotheses of `Obligations.MailboxCommandsAreAnswered` can be met, clause by clause. -/
theorem witness_mailbox_commands_are_answered :
    (∃ (p : Page) (s : State) (c : Instr) (cmd : Nat) (n : Nat) (both : Bool) (informs : Bool), (c, cmd, n, both, informs) ∈ [(Instr.getInfo p,
      0x0001, 0, true, true), (.getDeviceCert p, 0x0002, 0, true, true), (.attest p, 0x0003, 32, true, true), (.getProtection p, 0x0013, 0, true,
      true), (.getDeviceTag p, 0x0030, 0, true, true), (.getPower p, 0x0060, 0, true, true), (.getRails p, 0x0062, 0, true, true), (.getThermal p,
      0x0070, 0, true, true), (.getTripLog p, 0x0071, 0, true, true), (.cancelProposal p, 0x0012, 0, false, false), (.chainFlush p, 0x0020, 0, false,
      false), (.setDeviceTag p, 0x0031, 512, false, false)] ∧ s.serving p cmd = false) ∧
    (∃ (p : Page) (s : State) (c : Instr) (cmd : Nat) (n : Nat) (both : Bool) (informs : Bool), (c, cmd, n, both, informs) ∈ [(Instr.getInfo p,
      0x0001, 0, true, true), (.getDeviceCert p, 0x0002, 0, true, true), (.attest p, 0x0003, 32, true, true), (.getProtection p, 0x0013, 0, true,
      true), (.getDeviceTag p, 0x0030, 0, true, true), (.getPower p, 0x0060, 0, true, true), (.getRails p, 0x0062, 0, true, true), (.getThermal p,
      0x0070, 0, true, true), (.getTripLog p, 0x0071, 0, true, true), (.cancelProposal p, 0x0012, 0, false, false), (.chainFlush p, 0x0020, 0, false,
      false), (.setDeviceTag p, 0x0031, 512, false, false)] ∧ s.mailIs p cmd n ∧ (both = true ∨ p = .driver)) ∧
    (∃ (p : Page) (s : State) (c : Instr) (cmd : Nat) (n : Nat) (both : Bool) (informs : Bool), both = false ∧ p = .host ∧ (c, cmd, n, both, informs)
      ∈ [(Instr.getInfo p, 0x0001, 0, true, true), (.getDeviceCert p, 0x0002, 0, true, true), (.attest p, 0x0003, 32, true, true), (.getProtection p,
      0x0013, 0, true, true), (.getDeviceTag p, 0x0030, 0, true, true), (.getPower p, 0x0060, 0, true, true), (.getRails p, 0x0062, 0, true, true),
      (.getThermal p, 0x0070, 0, true, true), (.getTripLog p, 0x0071, 0, true, true), (.cancelProposal p, 0x0012, 0, false, false), (.chainFlush p,
      0x0020, 0, false, false), (.setDeviceTag p, 0x0031, 512, false, false)] ∧ s.serving p cmd = true) ∧
    (∃ (p : Page) (s : State) (c : Instr) (cmd : Nat) (n : Nat) (both : Bool) (informs : Bool), (c, cmd, n, both, informs) ∈ [(Instr.getInfo p,
      0x0001, 0, true, true), (.getDeviceCert p, 0x0002, 0, true, true), (.attest p, 0x0003, 32, true, true), (.getProtection p, 0x0013, 0, true,
      true), (.getDeviceTag p, 0x0030, 0, true, true), (.getPower p, 0x0060, 0, true, true), (.getRails p, 0x0062, 0, true, true), (.getThermal p,
      0x0070, 0, true, true), (.getTripLog p, 0x0071, 0, true, true), (.cancelProposal p, 0x0012, 0, false, false), (.chainFlush p, 0x0020, 0, false,
      false), (.setDeviceTag p, 0x0031, 512, false, false)] ∧ s.serving p cmd = true ∧ (both = true ∨ p = .driver) ∧ (s.cmdWord p 2 ≠ 0 ∨ s.cmdWord p
      3 ≠ 0 ∨ fld (s.cmdWord p 0) 31 16 ≠ n)) ∧
    (∃ (p : Page) (s : State), s.mailIs p 0x0030 0) ∧
    (∃ (p : Page) (s : State), p = .driver ∧ s.mailIs p 0x0031 512) ∧
    (∃ (p : Page) (s : State), p = .driver ∧ s.mailIs p 0x0012 0) ∧
    (∃ (p : Page) (s : State), p = .driver ∧ s.mailIs p 0x0020 0) ∧
    (∃ (p : Page) (s : State) (o : _) (n : _) (ok : _), p = .driver ∧ o = fieldAt (s.cmdPayload p) 0 4 ∧ n = fieldAt (s.cmdPayload p) 4 4 ∧ ok =
      flashIn o n [1, 2] ∧ s.mailIs p 0x0040 8 ∧ n ≤ 4080) ∧
    (∃ (p : Page) (s : State) (n : _) (o : _) (d : _) (ok : _), p = .driver ∧ o = fieldAt (s.cmdPayload p) 0 4 ∧ d = (s.cmdPayload p).drop 4 ∧ ok =
      flashIn o d.length [1, match s.dsv.fw with | some f => if f.slotB then 3 else 4 | none => 0] ∧ 4 ≤ n ∧ s.mailIs p 0x0041 n) ∧
    (∃ (p : Page) (s : State) (n : _) (v : _), v = fieldAt (s.cmdPayload p) 0 1 ∧ 14 ≤ n ∧ s.mailIs p 0x0061 n ∧ 2 < v) ∧
    (∃ (p : Page) (s : State) (n : _) (v : _), v = fieldAt (s.cmdPayload p) 0 1 ∧ 14 ≤ n ∧ s.mailIs p 0x0061 n ∧ v ≤ 2) ∧
    (∃ (p : Page) (s : State) (c : _), c = fld (s.cmdWord p 0) 15 0 ∧ s.serving p c = true ∧ isCommand c = false) ∧
    (∃ (p : Page) (s : State) (c : _), c = fld (s.cmdWord p 0) 15 0 ∧ (s.serving p c = false ∨ isCommand c = true)) ∧
    (∃ (p : Page) (s : State), s.rb (Addr.dsvMbstatus (pageNum p)) 31 = true) ∧
    (∃ (p : Page) (s : State), s.rb (Addr.dsvMbstatus (pageNum p)) 31 = false) :=
  ⟨⟨.driver, (({} : State)), (Instr.getInfo .driver), 1, 0, true, true, by decide +kernel⟩,
   ⟨.driver, (wMail .driver 0x0001 0 [] {}), (Instr.getInfo .driver), 0x0001, 0, true, true, by unfold State.mailIs; decide +kernel⟩,
   ⟨_, (wMail .host 0x0012 0 [] { dsv := { proposal := some ⟨5, [], 7⟩ } }), (Instr.cancelProposal .host), 0x0012, 0, _, false, rfl, rfl,
      by decide +kernel⟩,
   ⟨.host, (wMail .host 0x0003 31 [1] {}), (Instr.attest .host), 0x0003, 32, true, true, by decide +kernel⟩,
   ⟨.driver, (wMail .driver 0x0030 0 [] { dsv := { tag := List.replicate 511 3 } }), by unfold State.mailIs; decide +kernel⟩,
   ⟨_, (wMail .driver 0x0031 512 (List.replicate 512 0xA5) {}), rfl, by unfold State.mailIs; decide +kernel⟩,
   ⟨_, (wMail .driver 0x0012 0 [] { dsv := { proposal := some ⟨5, [], 7⟩ } }), rfl, by unfold State.mailIs; decide +kernel⟩,
   ⟨_, (wReg [(Addr.dsvChainSeq, 0), (Addr.dsvChainSeq + 4, 1)] (wMail .driver 0x0020 0 []
      { dsv := { segs := [(0, some ⟨2, [], 1, 1, 1, 1, 1, 0, false, 0⟩), (31, some ⟨3, [], 1, 1, 1, 1, 1, 0, false, 0⟩)] } })), rfl,
      by unfold State.mailIs; decide +kernel⟩,
   ⟨_, (wMail .driver 0x0040 8 [5, 0, 0, 0, 4, 0, 0, 0] {}), _, _, _, rfl, rfl, rfl, rfl, by unfold State.mailIs; decide +kernel⟩,
   ⟨_, (wMail .driver 0x0041 4 [5, 0, 0, 0] {}), 4, _, _, _, rfl, rfl, rfl, rfl, by unfold State.mailIs; decide +kernel⟩,
   ⟨.driver, (wMail .driver 0x0061 14 [3] {}), 14, _, rfl, by unfold State.mailIs; decide +kernel⟩,
   ⟨.host, (wMail .host 0x0061 14 [2, 0, 0, 0, 0, 0, 0, 0, 7] {}), 14, _, rfl, by unfold State.mailIs; decide +kernel⟩,
   ⟨.host, (wMail .host 0x0004 14 [] {}), _, rfl, by decide +kernel⟩,
   ⟨.host, (wMail .host 0x0001 0 [] {}), _, rfl, by decide +kernel⟩,
   ⟨.host, (wMail .host 0x0004 14 [] {}), by decide +kernel⟩,
   ⟨.driver, (({} : State)), by decide +kernel⟩⟩

/-- The hypotheses of `Obligations.ProposalsNeedEndorsement` can be met, clause by clause. -/
theorem witness_proposals_need_endorsement :
    (∃ (s : State) (n : Nat) (m : Bytes), m = s.cmdPayload .driver ∧ 80 ≤ n ∧ s.mailIs .driver 0x0010 n ∧ s.recordOk m = false) ∧
    (∃ (s : State) (n : Nat) (m : Bytes), m = s.cmdPayload .driver ∧ 80 ≤ n ∧ s.mailIs .driver 0x0010 n ∧ s.recordOk m = true) ∧
    (∃ (s : State), s.serving .host 0x0010 = true) ∧
    (∃ (s : State) (pg : Page) (n : Nat) (id : Nat) (m : Bytes) (sig : Bytes) (code : _), m = s.cmdPayload pg ∧ id = fieldAt m 0 4 ∧ sig = m.drop 4 ∧
      ((code = 1 ∧ sig.length ≠ 64 ∧ sig.length ≠ 96) ∨ ((sig.length = 64 ∨ sig.length = 96) ∧ ((code = 3 ∧ id ∈ s.dsv.superseded) ∨ (id ∉
      s.dsv.superseded ∧ ((code = 2 ∧ (s.dsv.proposal = none ∨ ∃ p, s.dsv.proposal = some p ∧ p.id ≠ id)) ∨ ∃ p, s.dsv.proposal = some p ∧ p.id = id ∧
      s.recordOk p.data = true ∧ ((code = 4 ∧ p.ends < s.now) ∨ (s.now ≤ p.ends ∧ ((code = 5 ∧ fieldAt p.data 20 4 ≠ (s.reg Addr.dsvProtSeq).toNat) ∨
      (fieldAt p.data 20 4 = (s.reg Addr.dsvProtSeq).toNat ∧ ((code = 6 ∧ s.endorsing p.data = none) ∨ ∃ k, s.endorsing p.data = some k ∧ ((code = 7 ∧
      s.dsv.lockEnd ≠ none) ∨ (s.dsv.lockEnd = none ∧ code = 8 ∧ sig.length ≠ if k.1 = 1 then 64 else 96)))))))))))) ∧ 4 ≤ n ∧ s.mailIs pg 0x0011 n) ∧
    (∃ (s : State) (pg : Page) (n : Nat) (id : Nat) (m : Bytes) (sig : Bytes) (code : _), m = s.cmdPayload pg ∧ id = fieldAt m 0 4 ∧ sig = m.drop 4 ∧
      ((code = 1 ∧ sig.length ≠ 64 ∧ sig.length ≠ 96) ∨ ((sig.length = 64 ∨ sig.length = 96) ∧ ((code = 3 ∧ id ∈ s.dsv.superseded) ∨ (id ∉
      s.dsv.superseded ∧ ((code = 2 ∧ (s.dsv.proposal = none ∨ ∃ p, s.dsv.proposal = some p ∧ p.id ≠ id)) ∨ ∃ p, s.dsv.proposal = some p ∧ p.id = id ∧
      s.recordOk p.data = true ∧ ((code = 4 ∧ p.ends < s.now) ∨ (s.now ≤ p.ends ∧ ((code = 5 ∧ fieldAt p.data 20 4 ≠ (s.reg Addr.dsvProtSeq).toNat) ∨
      (fieldAt p.data 20 4 = (s.reg Addr.dsvProtSeq).toNat ∧ ((code = 6 ∧ s.endorsing p.data = none) ∨ ∃ k, s.endorsing p.data = some k ∧ ((code = 7 ∧
      s.dsv.lockEnd ≠ none) ∨ (s.dsv.lockEnd = none ∧ code = 8 ∧ sig.length ≠ if k.1 = 1 then 64 else 96)))))))))))) ∧ 4 ≤ n ∧ s.mailIs pg 0x0011 n) ∧
    (∃ (s : State) (pg : Page) (n : Nat) (id : Nat) (m : Bytes) (sig : Bytes) (code : _), m = s.cmdPayload pg ∧ id = fieldAt m 0 4 ∧ sig = m.drop 4 ∧
      ((code = 1 ∧ sig.length ≠ 64 ∧ sig.length ≠ 96) ∨ ((sig.length = 64 ∨ sig.length = 96) ∧ ((code = 3 ∧ id ∈ s.dsv.superseded) ∨ (id ∉
      s.dsv.superseded ∧ ((code = 2 ∧ (s.dsv.proposal = none ∨ ∃ p, s.dsv.proposal = some p ∧ p.id ≠ id)) ∨ ∃ p, s.dsv.proposal = some p ∧ p.id = id ∧
      s.recordOk p.data = true ∧ ((code = 4 ∧ p.ends < s.now) ∨ (s.now ≤ p.ends ∧ ((code = 5 ∧ fieldAt p.data 20 4 ≠ (s.reg Addr.dsvProtSeq).toNat) ∨
      (fieldAt p.data 20 4 = (s.reg Addr.dsvProtSeq).toNat ∧ ((code = 6 ∧ s.endorsing p.data = none) ∨ ∃ k, s.endorsing p.data = some k ∧ ((code = 7 ∧
      s.dsv.lockEnd ≠ none) ∨ (s.dsv.lockEnd = none ∧ code = 8 ∧ sig.length ≠ if k.1 = 1 then 64 else 96)))))))))))) ∧ 4 ≤ n ∧ s.mailIs pg 0x0011 n) ∧
    (∃ (s : State) (pg : Page) (n : Nat) (id : Nat) (m : Bytes) (sig : Bytes) (code : _), m = s.cmdPayload pg ∧ id = fieldAt m 0 4 ∧ sig = m.drop 4 ∧
      ((code = 1 ∧ sig.length ≠ 64 ∧ sig.length ≠ 96) ∨ ((sig.length = 64 ∨ sig.length = 96) ∧ ((code = 3 ∧ id ∈ s.dsv.superseded) ∨ (id ∉
      s.dsv.superseded ∧ ((code = 2 ∧ (s.dsv.proposal = none ∨ ∃ p, s.dsv.proposal = some p ∧ p.id ≠ id)) ∨ ∃ p, s.dsv.proposal = some p ∧ p.id = id ∧
      s.recordOk p.data = true ∧ ((code = 4 ∧ p.ends < s.now) ∨ (s.now ≤ p.ends ∧ ((code = 5 ∧ fieldAt p.data 20 4 ≠ (s.reg Addr.dsvProtSeq).toNat) ∨
      (fieldAt p.data 20 4 = (s.reg Addr.dsvProtSeq).toNat ∧ ((code = 6 ∧ s.endorsing p.data = none) ∨ ∃ k, s.endorsing p.data = some k ∧ ((code = 7 ∧
      s.dsv.lockEnd ≠ none) ∨ (s.dsv.lockEnd = none ∧ code = 8 ∧ sig.length ≠ if k.1 = 1 then 64 else 96)))))))))))) ∧ 4 ≤ n ∧ s.mailIs pg 0x0011 n) ∧
    (∃ (s : State) (pg : Page) (n : Nat) (id : Nat) (m : Bytes) (sig : Bytes) (code : _), m = s.cmdPayload pg ∧ id = fieldAt m 0 4 ∧ sig = m.drop 4 ∧
      ((code = 1 ∧ sig.length ≠ 64 ∧ sig.length ≠ 96) ∨ ((sig.length = 64 ∨ sig.length = 96) ∧ ((code = 3 ∧ id ∈ s.dsv.superseded) ∨ (id ∉
      s.dsv.superseded ∧ ((code = 2 ∧ (s.dsv.proposal = none ∨ ∃ p, s.dsv.proposal = some p ∧ p.id ≠ id)) ∨ ∃ p, s.dsv.proposal = some p ∧ p.id = id ∧
      s.recordOk p.data = true ∧ ((code = 4 ∧ p.ends < s.now) ∨ (s.now ≤ p.ends ∧ ((code = 5 ∧ fieldAt p.data 20 4 ≠ (s.reg Addr.dsvProtSeq).toNat) ∨
      (fieldAt p.data 20 4 = (s.reg Addr.dsvProtSeq).toNat ∧ ((code = 6 ∧ s.endorsing p.data = none) ∨ ∃ k, s.endorsing p.data = some k ∧ ((code = 7 ∧
      s.dsv.lockEnd ≠ none) ∨ (s.dsv.lockEnd = none ∧ code = 8 ∧ sig.length ≠ if k.1 = 1 then 64 else 96)))))))))))) ∧ 4 ≤ n ∧ s.mailIs pg 0x0011 n) ∧
    (∃ (s : State) (pg : Page) (n : Nat) (id : Nat) (m : Bytes) (sig : Bytes) (code : _), m = s.cmdPayload pg ∧ id = fieldAt m 0 4 ∧ sig = m.drop 4 ∧
      ((code = 1 ∧ sig.length ≠ 64 ∧ sig.length ≠ 96) ∨ ((sig.length = 64 ∨ sig.length = 96) ∧ ((code = 3 ∧ id ∈ s.dsv.superseded) ∨ (id ∉
      s.dsv.superseded ∧ ((code = 2 ∧ (s.dsv.proposal = none ∨ ∃ p, s.dsv.proposal = some p ∧ p.id ≠ id)) ∨ ∃ p, s.dsv.proposal = some p ∧ p.id = id ∧
      s.recordOk p.data = true ∧ ((code = 4 ∧ p.ends < s.now) ∨ (s.now ≤ p.ends ∧ ((code = 5 ∧ fieldAt p.data 20 4 ≠ (s.reg Addr.dsvProtSeq).toNat) ∨
      (fieldAt p.data 20 4 = (s.reg Addr.dsvProtSeq).toNat ∧ ((code = 6 ∧ s.endorsing p.data = none) ∨ ∃ k, s.endorsing p.data = some k ∧ ((code = 7 ∧
      s.dsv.lockEnd ≠ none) ∨ (s.dsv.lockEnd = none ∧ code = 8 ∧ sig.length ≠ if k.1 = 1 then 64 else 96)))))))))))) ∧ 4 ≤ n ∧ s.mailIs pg 0x0011 n) ∧
    (∃ (s : State) (pg : Page) (n : Nat) (id : Nat) (m : Bytes) (sig : Bytes) (code : _), m = s.cmdPayload pg ∧ id = fieldAt m 0 4 ∧ sig = m.drop 4 ∧
      ((code = 1 ∧ sig.length ≠ 64 ∧ sig.length ≠ 96) ∨ ((sig.length = 64 ∨ sig.length = 96) ∧ ((code = 3 ∧ id ∈ s.dsv.superseded) ∨ (id ∉
      s.dsv.superseded ∧ ((code = 2 ∧ (s.dsv.proposal = none ∨ ∃ p, s.dsv.proposal = some p ∧ p.id ≠ id)) ∨ ∃ p, s.dsv.proposal = some p ∧ p.id = id ∧
      s.recordOk p.data = true ∧ ((code = 4 ∧ p.ends < s.now) ∨ (s.now ≤ p.ends ∧ ((code = 5 ∧ fieldAt p.data 20 4 ≠ (s.reg Addr.dsvProtSeq).toNat) ∨
      (fieldAt p.data 20 4 = (s.reg Addr.dsvProtSeq).toNat ∧ ((code = 6 ∧ s.endorsing p.data = none) ∨ ∃ k, s.endorsing p.data = some k ∧ ((code = 7 ∧
      s.dsv.lockEnd ≠ none) ∨ (s.dsv.lockEnd = none ∧ code = 8 ∧ sig.length ≠ if k.1 = 1 then 64 else 96)))))))))))) ∧ 4 ≤ n ∧ s.mailIs pg 0x0011 n) ∧
    (∃ (s : State) (pg : Page) (n : Nat) (id : Nat) (m : Bytes) (sig : Bytes) (code : _), m = s.cmdPayload pg ∧ id = fieldAt m 0 4 ∧ sig = m.drop 4 ∧
      ((code = 1 ∧ sig.length ≠ 64 ∧ sig.length ≠ 96) ∨ ((sig.length = 64 ∨ sig.length = 96) ∧ ((code = 3 ∧ id ∈ s.dsv.superseded) ∨ (id ∉
      s.dsv.superseded ∧ ((code = 2 ∧ (s.dsv.proposal = none ∨ ∃ p, s.dsv.proposal = some p ∧ p.id ≠ id)) ∨ ∃ p, s.dsv.proposal = some p ∧ p.id = id ∧
      s.recordOk p.data = true ∧ ((code = 4 ∧ p.ends < s.now) ∨ (s.now ≤ p.ends ∧ ((code = 5 ∧ fieldAt p.data 20 4 ≠ (s.reg Addr.dsvProtSeq).toNat) ∨
      (fieldAt p.data 20 4 = (s.reg Addr.dsvProtSeq).toNat ∧ ((code = 6 ∧ s.endorsing p.data = none) ∨ ∃ k, s.endorsing p.data = some k ∧ ((code = 7 ∧
      s.dsv.lockEnd ≠ none) ∨ (s.dsv.lockEnd = none ∧ code = 8 ∧ sig.length ≠ if k.1 = 1 then 64 else 96)))))))))))) ∧ 4 ≤ n ∧ s.mailIs pg 0x0011 n) ∧
    (∃ (s : State) (pg : Page) (n : Nat) (id : Nat) (m : Bytes) (sig : Bytes) (code : _), m = s.cmdPayload pg ∧ id = fieldAt m 0 4 ∧ sig = m.drop 4 ∧
      ((code = 1 ∧ sig.length ≠ 64 ∧ sig.length ≠ 96) ∨ ((sig.length = 64 ∨ sig.length = 96) ∧ ((code = 3 ∧ id ∈ s.dsv.superseded) ∨ (id ∉
      s.dsv.superseded ∧ ((code = 2 ∧ (s.dsv.proposal = none ∨ ∃ p, s.dsv.proposal = some p ∧ p.id ≠ id)) ∨ ∃ p, s.dsv.proposal = some p ∧ p.id = id ∧
      s.recordOk p.data = true ∧ ((code = 4 ∧ p.ends < s.now) ∨ (s.now ≤ p.ends ∧ ((code = 5 ∧ fieldAt p.data 20 4 ≠ (s.reg Addr.dsvProtSeq).toNat) ∨
      (fieldAt p.data 20 4 = (s.reg Addr.dsvProtSeq).toNat ∧ ((code = 6 ∧ s.endorsing p.data = none) ∨ ∃ k, s.endorsing p.data = some k ∧ ((code = 7 ∧
      s.dsv.lockEnd ≠ none) ∨ (s.dsv.lockEnd = none ∧ code = 8 ∧ sig.length ≠ if k.1 = 1 then 64 else 96)))))))))))) ∧ 4 ≤ n ∧ s.mailIs pg 0x0011 n) ∧
    (∃ (s : State) (pg : Page) (n : Nat) (id : Nat) (m : Bytes) (sig : Bytes) (p : _) (k : _), m = s.cmdPayload pg ∧ id = fieldAt m 0 4 ∧ sig = m.drop
      4 ∧ 4 ≤ n ∧ s.mailIs pg 0x0011 n ∧ (sig.length = 64 ∨ sig.length = 96) ∧ id ∉ s.dsv.superseded ∧ s.dsv.proposal = some p ∧ p.id = id ∧
      s.recordOk p.data = true ∧ s.now ≤ p.ends ∧ fieldAt p.data 20 4 = (s.reg Addr.dsvProtSeq).toNat ∧ s.endorsing p.data = some k ∧ s.dsv.lockEnd =
      none ∧ sig.length = (if k.1 = 1 then 64 else 96)) ∧
    (∃ (s : State), s.dsv.lockEnd = none) ∧
    (∃ (s : State) (e : _), s.dsv.lockEnd = some e ∧ s.now < e) ∧
    (∃ (s : State) (e : _), s.dsv.lockEnd = some e ∧ e ≤ s.now) ∧
    (∃ (s : State), s.dsv.unlock = none) ∧
    (∃ (s : State) (l : _) (e : _) (id : _), s.dsv.unlock = some (l, e, id) ∧ s.now < e) ∧
    (∃ (s : State) (l : _) (e : _) (id : _), s.dsv.unlock = some (l, e, id) ∧ e ≤ s.now) :=
  ⟨⟨(wMail .driver 0x10 80 (wRec 0 0 6 0 1 0) {}), 80, _, rfl, by unfold State.mailIs; decide +kernel⟩,
   ⟨(wReg [(Addr.dsvProtSeq, 7), (Addr.dsvDcWindow, 0x1FFFF)] (wMail .driver 0x10 80 (wRec 0 0 3 0 7 0)
      { dsv := { proposal := some ⟨4, [], 7⟩, nextId := 5, superseded := [3] } })), 80, _, rfl, by unfold State.mailIs; decide +kernel⟩,
   ⟨(wMail .host 0x10 80 (wRec 0 0 3 0 7 0) { dsv := { proposal := some ⟨4, [], 7⟩, nextId := 5, superseded := [3] } }), by decide +kernel⟩,
   ⟨(wEnd 5 63 3 0 7 0 {}), .driver, 67, _, _, _, 1, rfl, rfl, rfl, .inl ⟨rfl, by decide +kernel, by decide +kernel⟩,
      by unfold State.mailIs; decide +kernel⟩,
   ⟨(wEnd 3 64 3 0 7 0 { dsv := { superseded := [3] } }), .driver, 68, _, _, _, 3, rfl, rfl, rfl, .inr ⟨by decide +kernel, .inl ⟨rfl,
      by decide +kernel⟩⟩, by unfold State.mailIs; decide +kernel⟩,
   ⟨(wEnd 6 96 3 0 7 0 {}), .driver, 100, _, _, _, 2, rfl, rfl, rfl, .inr ⟨by decide +kernel, .inr ⟨by decide +kernel, .inl ⟨rfl, .inr ⟨⟨5, wRec 5 0 3
      0 7 0, 100⟩, by decide +kernel, by decide +kernel⟩⟩⟩⟩, by unfold State.mailIs; decide +kernel⟩,
   ⟨(wEnd 5 64 3 0 7 0 { now := 101 }), .driver, 68, _, _, _, 4, rfl, rfl, rfl, .inr ⟨by decide +kernel, .inr ⟨by decide +kernel, .inr ⟨⟨5, wRec 5 0 3
      0 7 0, 100⟩, by decide +kernel, by decide +kernel, by decide +kernel, .inl ⟨rfl, by decide +kernel⟩⟩⟩⟩, by unfold State.mailIs; decide +kernel⟩,
   ⟨(wReg [(Addr.dsvProtSeq, 7)] (wEnd 5 64 3 0 7 0 { now := 100 })), .driver, 68, _, _, _, 5, rfl, rfl, rfl, .inr ⟨by decide +kernel, .inr
      ⟨by decide +kernel, .inr ⟨⟨5, wRec 5 0 3 0 7 0, 100⟩, by decide +kernel, by decide +kernel, by decide +kernel, .inr ⟨by decide +kernel, .inl
      ⟨rfl, by decide +kernel⟩⟩⟩⟩⟩, by unfold State.mailIs; decide +kernel⟩,
   ⟨(wNoKeys (wEnd 5 64 3 0 7 0 { now := 100 })), .driver, 68, _, _, _, 6, rfl, rfl, rfl, .inr ⟨by decide +kernel, .inr ⟨by decide +kernel, .inr ⟨⟨5,
      wRec 5 0 3 0 7 0, 100⟩, by decide +kernel, by decide +kernel, by decide +kernel, .inr ⟨by decide +kernel, .inr ⟨by decide +kernel, .inl ⟨rfl,
      by decide +kernel⟩⟩⟩⟩⟩⟩, by unfold State.mailIs; decide +kernel⟩,
   ⟨(wEnd 5 64 3 0 7 0 { dsv := { lockEnd := some 9 } }), .driver, 68, _, _, _, 7, rfl, rfl, rfl, .inr ⟨by decide +kernel, .inr ⟨by decide +kernel,
      .inr ⟨⟨5, wRec 5 0 3 0 7 0, 100⟩, by decide +kernel, by decide +kernel, by decide +kernel, .inr ⟨by decide +kernel, .inr ⟨by decide +kernel,
      .inr ⟨(1, List.replicate 64 3), by decide +kernel, .inl ⟨rfl, by decide +kernel⟩⟩⟩⟩⟩⟩⟩, by unfold State.mailIs; decide +kernel⟩,
   ⟨(wEnd 5 96 3 0 7 0 { dsv := { badSigs := 7 } }), .driver, 100, _, _, _, 8, rfl, rfl, rfl, .inr ⟨by decide +kernel, .inr ⟨by decide +kernel, .inr
      ⟨⟨5, wRec 5 0 3 0 7 0, 100⟩, by decide +kernel, by decide +kernel, by decide +kernel, .inr ⟨by decide +kernel, .inr ⟨by decide +kernel, .inr
      ⟨(1, List.replicate 64 3), by decide +kernel, .inr ⟨by decide +kernel, rfl, by decide +kernel⟩⟩⟩⟩⟩⟩⟩, by unfold State.mailIs; decide +kernel⟩,
   ⟨(wEnd 5 96 3 0 7 0 { dsv := { badSigs := 6 } }), .driver, 100, _, _, _, 8, rfl, rfl, rfl, .inr ⟨by decide +kernel, .inr ⟨by decide +kernel, .inr
      ⟨⟨5, wRec 5 0 3 0 7 0, 100⟩, by decide +kernel, by decide +kernel, by decide +kernel, .inr ⟨by decide +kernel, .inr ⟨by decide +kernel, .inr
      ⟨(1, List.replicate 64 3), by decide +kernel, .inr ⟨by decide +kernel, rfl, by decide +kernel⟩⟩⟩⟩⟩⟩⟩, by unfold State.mailIs; decide +kernel⟩,
   ⟨(wEnd 5 64 3 0 7 0 {}), .driver, 68, _, _, _, ⟨5, wRec 5 0 3 0 7 0, 100⟩, ((1, List.replicate 64 3)), rfl, rfl, rfl,
      by unfold State.mailIs; decide +kernel⟩,
   ⟨(({} : State)), by decide +kernel⟩,
   ⟨(({ now := 4, dsv := { lockEnd := some 5 } } : State)), 5, by decide +kernel⟩,
   ⟨(({ now := 5, dsv := { lockEnd := some 5 } } : State)), 5, by decide +kernel⟩,
   ⟨(({} : State)), by decide +kernel⟩,
   ⟨(({ now := 4, dsv := { unlock := some (1, 5, 3) } } : State)), 1, 5, 3, by decide +kernel⟩,
   ⟨(wReg [(Addr.dsvChainSeq, 0xFFFFFFFF), (Addr.dsvChainSeq + 4, 0xFFFFFFFF)]
      { now := 5, dsv := { unlock := some (1, 5, 3), segs := [(0, some ⟨2, [], 1, 1, 1, 1, 1, 0, false, 0⟩), (31, some ⟨3, [], 1, 1, 1, 1, 1, 0, false, 0⟩)] } }),
      1, 5, 3, by decide +kernel⟩⟩

/-- The hypotheses of `Obligations.EvidenceIsSealed` can be met, clause by clause. -/
theorem witness_evidence_is_sealed :
    (∃ (e : Nat) (q : Nat) (s : State), q = s.rf (Addr.vencEvidCfg e) 13 8 ∧ s.dsv.forward = none ∧ (2 ≤ e ∨ s.dsv.booted = false ∨ 2 ^ s.rf
      Addr.dsvChainSize 3 0 ≤ s.chainHeld + 1)) ∧
    (∃ (e : Nat) (q : Nat) (s : State), q = s.rf (Addr.vencEvidCfg e) 13 8 ∧ s.dsv.forward = none ∧ e < 2 ∧ s.dsv.booted = true ∧ s.chainHeld + 1 < 2
      ^ s.rf Addr.dsvChainSize 3 0 ∧ s.canPop hSup q = false) ∧
    (∃ (e : Nat) (q : Nat) (s : State) (it : _) (r : _) (b : _) (p : _), q = s.rf (Addr.vencEvidCfg e) 13 8 ∧ p = hdPool it.handle ∧ s.dsv.forward =
      none ∧ e < 2 ∧ s.dsv.booted = true ∧ s.chainHeld + 1 < 2 ^ s.rf Addr.dsvChainSize 3 0 ∧ (s.queue q).items = it :: r ∧ s.canPop hSup q = true ∧ p
      ≠ 63 ∧ s.fresh? it.handle = true ∧ (s.alloc hSup (s.rf Addr.dsvEvidFwd 20 16)).1 = some b ∧ s.rf Addr.dsvEvidFwd 20 16 ≠ p ∧ s.evidSafe
      (s.bufAddr p (hdIdx it.handle)) (s.plSize p) = false) ∧
    (∃ (e : Nat) (q : Nat) (s : State) (it : _) (r : _) (b : _) (p : _) (a : _) (h : _) (l : _) (k : _) (g : _) (fl : _), q = s.rf (Addr.vencEvidCfg
      e) 13 8 ∧ p = hdPool it.handle ∧ (∀ x, a ≤ x → x < a + s.plSize p → s.memOk x = true) ∧ h = (s.supRead .bulk a 64).1 ∧ l = (s.supRead .bulk (a +
      64) (min (fieldAt h 0 4) (s.plSize p - 64))).1 ∧ fl = fieldAt h 4 4 ∧ k = 16 * e + fieldAt h 38 1 % 16 ∧ s.dsv.forward = none ∧ e < 2 ∧
      s.dsv.booted = true ∧ s.chainHeld + 1 < 2 ^ s.rf Addr.dsvChainSize 3 0 ∧ (s.queue q).items = it :: r ∧ s.canPop hSup q = true ∧ p ≠ 63 ∧
      s.fresh? it.handle = true ∧ (s.alloc hSup (s.rf Addr.dsvEvidFwd 20 16)).1 = some b ∧ s.rf Addr.dsvEvidFwd 20 16 ≠ p ∧ s.evidSafe (s.bufAddr p
      (hdIdx it.handle)) (s.plSize p) = true ∧ a = s.bufAddr p (hdIdx it.handle) ∧ s.seg k = some g ∧ nbit fl 0 = 0 ∧ nbit fl 8 = 0 ∧ g.n + 1 < s.rf
      Addr.dsvSegCfg 23 16) ∧
    (∃ (e : Nat) (ss : Nat) (s : State), e < 2 ∧ ss < 16 ∧ s.seg (16 * e + ss) = none) ∧
    (∃ (e : Nat) (ss : Nat) (s : State) (g : _), e < 2 ∧ ss < 16 ∧ s.seg (16 * e + ss) = some g ∧ s.now < g.since + msTicks (s.rf Addr.dsvSegCfg 15
      0)) ∧
    (∃ (e : Nat) (ss : Nat) (s : State) (g : _), e < 2 ∧ ss < 16 ∧ s.seg (16 * e + ss) = some g ∧ g.since + msTicks (s.rf Addr.dsvSegCfg 15 0) ≤
      s.now) :=
  ⟨⟨1, _, (({} : State)), rfl, by decide +kernel⟩,
   ⟨1, _, (wReg [(Addr.vencEvidCfg 1, 0x500)] (wEvid 0x0 {})), rfl, by decide +kernel⟩,
   ⟨1, _, (wEvid 0x1 {}), ⟨(wEvid 0x1 {}).handle 2 3, 0x1122334455667788, 0xFFFFFFFF⟩, [], 6, _, rfl, rfl, by decide +kernel⟩,
   ⟨1, _, wSealed, ⟨wSealed.handle 2 3, 0x1122334455667788, 0xFFFFFFFF⟩, [], 6, _, 4563403520, _, _, _, ⟨9, [], 98, 1, 1, 1, 1, 0, false, 0⟩, _, rfl,
      rfl, sealed_ok, rfl, rfl, rfl, rfl, by decide +kernel⟩,
   ⟨1, 15, (({} : State)), by decide +kernel⟩,
   ⟨1, 15, (({ dsv := { segs := [(31, some ⟨9, [], 98, 1, 1, 1, 1, 0, false, 0⟩)] } } : State)), ⟨9, [], 98, 1, 1, 1, 1, 0, false, 0⟩,
      by decide +kernel⟩,
   ⟨1, 15,
      (({ now := tickHz * 70, dsv := { segs := [(0, some ⟨9, [], 98, 1, 1, 1, 1, 0, false, 0⟩), (31, some ⟨2 ^ 64, [], 98, 1, 1, 1, 1, 0, false, 0⟩)] } }
      : State)), ⟨2 ^ 64, [], 98, 1, 1, 1, 1, 0, false, 0⟩, by decide +kernel⟩⟩

/-- The hypotheses of `Obligations.StepRunsTheFrontCommand` can be met, clause by clause. -/
theorem witness_step_runs_the_front_command : ∃ (c : Instr) (rest : List Instr) (s : State), s.pending = c :: rest :=
  ⟨Instr.warmReset, [.powerOnReset], (({ pending := [.warmReset, .powerOnReset] } : State)), by decide +kernel⟩

/-- The hypotheses of `Obligations.IdleStepIsOneTick` can be met, clause by clause. -/
theorem witness_idle_step_is_one_tick : ∃ (s : State), s.pending = [] :=
  ⟨(({ pwr := { refLost := some (1, 2) } } : State)), by decide +kernel⟩

/-- The hypotheses of `Obligations.ResetHoldsItsValues` can be met, clause by clause. -/
theorem witness_reset_holds_its_values :
    (∃ (n : Nat), n < 8) ∧
    (∃ (k : Nat), k < 4) :=
  ⟨⟨7, by decide +kernel⟩,
   ⟨3, by decide +kernel⟩⟩

/-- A sound state with a command waiting, for `Obligations.StepKeepsTheStateSound`. -/
theorem witness_step_keeps_the_state_sound : ∃ s : State, s.wf ∧ s.pending = [.warmReset] :=
  ⟨{ wUp with pending := [.warmReset] }, by unfold State.wf; decide +kernel⟩

end Sys2Proof.Tests
end

section
/-! The line domains and the schedule table, one law for each operation (R55-R61, R84, R88-R95), and the statements of the line
timebase that rest on them. -/

namespace Sys2Proof.Machine

open Sys2Proof

/-! ## Time -/

/-- Time never runs backward: `goto` reaches its tick, or stays where that tick has passed. -/
@[simp] theorem State.goto_now (s : State) (t : Nat) : (s.goto t).now = max s.now t := by
  unfold State.goto
  split
  · simp only [State.ticks]; omega
  · omega

@[simp] theorem State.goto_dom (s : State) (t d : Nat) : (s.goto t).dom d = s.dom d := State.goto_only.dom rfl d

@[simp] theorem State.goto_reg (s : State) (t a : Nat) : (s.goto t).reg a = s.reg a := State.goto_only.reg rfl a

/-! ## Beginning a frame -/

/-- The programmed values in force are the registers' ones; no other domain changes (R59, R61). -/
theorem State.ldApply_dom (s : State) (d e : Nat) :
    (s.ldApply d).dom e = if e = d then { s.dom d with
      period := (s.reg (Addr.lptLdPeriod d)).toNat, flenM1 := s.ldFlen d, fswinM1 := s.rf (Addr.lptLdFlen d) 31 24 }
    else s.dom e := by
  unfold State.ldApply
  extract_lets x n t
  split
  · exact s.setDom_dom ..
  · exact (State.flenCheck_only.dom rfl e).trans (s.setDom_dom ..)

/-- The domain at line 0 of a frame: the programmed values in force, and an anchor correction for the frame (R58, R59, R61, R84, R94). -/
theorem State.beginFrame_dom_same (s : State) (d frame t16 : Nat) :
    ∃ a, (s.beginFrame d frame t16).dom d = { s.dom d with
      running := true, arming := none, waiting := false, issued := true, frame := frame % 2 ^ 32, line := 0, lineAt := t16,
      frameAt := t16, floor := 0, members := (s.dom d).membersNext.getD (s.dom d).members, membersNext := none,
      period := (s.reg (Addr.lptLdPeriod d)).toNat, flenM1 := s.ldFlen d, fswinM1 := s.rf (Addr.lptLdFlen d) 31 24, adj := a } := by
  unfold State.beginFrame
  extract_lets x s1 s2 a s3
  have h : ((s3.commitLine0 d).autoPulses d s3.now).dom d = s3.dom d :=
    (State.autoPulses_only.dom rfl d).trans (State.commitLine0_only.dom rfl d)
  refine ⟨if a.slaved then 0 else s2.anchorAdj d, h.trans ((s2.setDom_dom ..).trans ?_)⟩
  simp only [if_true, a, s2, State.ldApply_dom, s1, State.setDom_dom]
  rfl

theorem State.beginFrame_dom_other (s : State) {d e : Nat} (frame t16 : Nat) (h : e ≠ d) :
    (s.beginFrame d frame t16).dom e = s.dom e := by
  unfold State.beginFrame
  extract_lets x s1 s2 a s3
  calc ((s3.commitLine0 d).autoPulses d s3.now).dom e
      = s3.dom e := (State.autoPulses_only.dom rfl e).trans (State.commitLine0_only.dom rfl e)
    _ = s.dom e := by simp [s3, s2, s1, State.setDom_dom, State.ldApply_dom, h]

/-! ## Stopping -/

/-- The late Frame Starts of the present frame are reported and the count begins anew (R97). -/
theorem State.flushLate_dom_same (s : State) (d : Nat) : (s.flushLate d).dom d = { s.dom d with late := 0 } := by
  unfold State.flushLate
  extract_lets x
  split
  next h => rw [← h]
  next => simp [State.setDom_dom, x]

/-- A stop holds the frame number and the position it is given; the programmed values in force stay (R60, R61). -/
theorem State.stopAt_dom_same (s : State) (d hold : Nat) :
    (s.stopAt d hold).dom d = { s.dom d with
      running := false, arming := none, waiting := false, provisional := false, accepted := false, coasted := 0, ivs := [], adj := 0,
      floor := 0, hold := hold, open_ := [], members := (s.dom d).membersNext.getD (s.dom d).members, membersNext := none,
      maintOpen := false, late := 0 } := by
  unfold State.stopAt
  extract_lets s1 x s2
  have h : (((s2.pinsOff d).releaseDomain d).illStopDomain d).dom d = s2.dom d :=
    (State.illStopDomain_only.dom rfl d).trans ((State.releaseDomain_only.dom rfl d).trans (State.pinsOff_only.dom rfl d))
  rw [h, State.setDom_dom, if_pos rfl]
  simp only [x, s1, State.flushLate_dom_same]
  rfl

/-- A domain that does not run publishes the position it holds (R60, R61). -/
theorem State.pub_of_stopped {s : State} {d : Nat} (h : (s.dom d).running = false) : s.pub d = (s.dom d).hold := by
  simp [State.pub, Dom.pub, h]

/-! ## Line boundaries -/

/-- What LINE_BOUNDARY means. -/
theorem exec_lineBoundary (d : Nat) (s : State) : exec (.lineBoundary d) s = execLineBoundary d s := rfl

section LineBoundary

variable {d : Nat} {s : State} (hd : d < 8) (hr : (s.dom d).running = true) (hm : (s.dom d).slaved = false)

include hd hr hm

/-- Before the last line of its frame a running master domain counts on to the next line at that line's start. -/
theorem exec_lineBoundary_next_line (hl : (s.dom d).line < (s.dom d).flenM1) :
    exec (.lineBoundary d) s = .next ((s.goto ((s.dom d).posTick (((s.dom d).line + 1) * 256))).setDom d
      { s.dom d with line := (s.dom d).line + 1, lineAt := (s.dom d).lineStart ((s.dom d).line + 1) }) := by
  simp only [exec_lineBoundary, execLineBoundary, hd, hr, hm, hl, and_self, if_true]

/-- At the end of the last line of its frame it begins the next frame, where it has a period. -/
theorem exec_lineBoundary_next_frame (hl : (s.dom d).flenM1 ≤ (s.dom d).line) (hp : s.reg (Addr.lptLdPeriod d) ≠ 0) :
    exec (.lineBoundary d) s = .next ((s.goto ((s.dom d).posTick (((s.dom d).flenM1 + 1) * 256))).beginFrame d
      ((s.dom d).frame + 1) ((s.dom d).lineStart ((s.dom d).flenM1 + 1))) := by
  simp only [exec_lineBoundary, execLineBoundary, hd, hr, hm, Nat.not_lt.2 hl, State.goto_reg, hp, and_self, if_true, if_false]

/-- At the end of the last line of its frame it stops at the last position of the frame, where its period is zero. -/
theorem exec_lineBoundary_stop (hl : (s.dom d).flenM1 ≤ (s.dom d).line) (hp : s.reg (Addr.lptLdPeriod d) = 0) :
    exec (.lineBoundary d) s =
      .next ((s.goto ((s.dom d).posTick (((s.dom d).flenM1 + 1) * 256))).stopAt d ((s.dom d).flenM1 * 256 + 255)) := by
  simp only [exec_lineBoundary, execLineBoundary, hd, hr, hm, Nat.not_lt.2 hl, State.goto_reg, hp, and_self, if_true, if_false]

/-- R58, R84: on to the next line, on the first tick at or after its exact start. -/
theorem lineBoundary_counts_line (hl : (s.dom d).line < (s.dom d).flenM1) :
    Gives (.lineBoundary d) s fun t =>
      (t.dom d).running = true ∧ (t.dom d).line = (s.dom d).line + 1 ∧ (t.dom d).frame = (s.dom d).frame ∧
      t.now = max s.now ((s.dom d).posTick (((s.dom d).line + 1) * 256)) ∧ (t.dom d).lineAt = (s.dom d).lineStart ((s.dom d).line + 1) ∧
      (∀ e, e ≠ d → t.dom e = s.dom e) ∧ ChangesOnly [.now, .tod, .doms] s t := by
  refine ⟨_, exec_lineBoundary_next_line hd hr hm hl, ?_⟩
  generalize (s.dom d).posTick _ = p
  generalize (s.dom d).lineStart _ = l
  have hdom := fun x => (s.goto p).setDom_dom d x
  rw [hdom, if_pos rfl]
  refine ⟨hr, rfl, rfl, (State.setDom_now ..).trans (s.goto_now p), rfl, fun e he => ?_, ?_⟩
  · rw [hdom, if_neg he, State.goto_dom]
  · exact (State.setDom_only.after (m := 25) rfl (State.goto_only.mono rfl)).changes fun q => by cases q <;> decide

/-- R58: after the last line, line 0 of the next frame number. -/
theorem lineBoundary_begins_next_frame (hl : (s.dom d).flenM1 ≤ (s.dom d).line) (hp : s.reg (Addr.lptLdPeriod d) ≠ 0) :
    Gives (.lineBoundary d) s fun t =>
      (t.dom d).running = true ∧ (t.dom d).line = 0 ∧ (t.dom d).frame = ((s.dom d).frame + 1) % 2 ^ 32 ∧
      t.now = max s.now ((s.dom d).posTick (((s.dom d).flenM1 + 1) * 256)) ∧
      (∀ e, e ≠ d → t.dom e = s.dom e) ∧ ChangesOnly [.now, .tod, .regs, .doms, .pins, .sched, .coll] s t := by
  refine ⟨_, exec_lineBoundary_next_frame hd hr hm hl hp, ?_⟩
  generalize (s.dom d).posTick _ = p
  obtain ⟨a, hdom⟩ := (s.goto p).beginFrame_dom_same d ((s.dom d).frame + 1) ((s.dom d).lineStart ((s.dom d).flenM1 + 1))
  rw [hdom]
  refine ⟨rfl, rfl, rfl, (State.beginFrame_only.at_now rfl).trans (s.goto_now p), fun e he => ?_, ?_⟩
  · rw [State.beginFrame_dom_other _ _ _ he, State.goto_dom]
  · exact (State.beginFrame_only.after (m := 251) rfl (State.goto_only.mono rfl)).changes fun q => by cases q <;> decide

/-- R60: after the last line, the last position of the frame held. -/
theorem lineBoundary_stops_at_frame_end (hl : (s.dom d).flenM1 ≤ (s.dom d).line) (hp : s.reg (Addr.lptLdPeriod d) = 0) :
    Gives (.lineBoundary d) s fun t =>
      (t.dom d).running = false ∧ (t.dom d).frame = (s.dom d).frame ∧ (t.dom d).issued = (s.dom d).issued ∧
      t.pub d = (s.dom d).flenM1 * 256 + 255 := by
  refine ⟨_, exec_lineBoundary_stop hd hr hm hl hp, ?_⟩
  generalize (s.dom d).posTick _ = p
  have hdom := (s.goto p).stopAt_dom_same d ((s.dom d).flenM1 * 256 + 255)
  rw [State.goto_dom] at hdom
  have hstop : (((s.goto p).stopAt d ((s.dom d).flenM1 * 256 + 255)).dom d).running = false := by rw [hdom]
  rw [State.pub_of_stopped hstop, hdom]
  exact ⟨rfl, rfl, rfl, rfl⟩

end LineBoundary

/-- Settles O1: a boundary within the frame, and the one at its end where the period is not zero. -/
theorem masterDomainCountsLines : Obligations.MasterDomainCountsLines := by
  intro d s hd hr hm
  exact ⟨lineBoundary_counts_line hd hr hm, lineBoundary_begins_next_frame hd hr hm⟩

/-! ## The line period -/

/-- LPT_LD_PERIOD_n is one field of 32 bits that takes zero. -/
theorem regAt_lptLdPeriod : ∀ d, d < 8 → regAt (Addr.lptLdPeriod d) =
    some ⟨⟨.lptLdPeriod, 0x11000040, [(8, 0x4)], 1, .rw, 0x0, [[fr 31 0 [(0, 0), (134217728, 4294967295)]]]⟩, [d], 0⟩ := by
  decide +kernel

/-- Zero touches no reserved bit. -/
theorem State.noteRsvd_zero (s : State) (a : Nat) : s.noteRsvd a 0 = s := by
  unfold State.noteRsvd
  split <;> simp

/-- A field that is the whole word and accepts zero takes it. -/
theorem applyFields_word_zero (old : Word) (l : List (Nat × Nat)) : applyFields .rw old 0 [fr 31 0 ((0, 0) :: l)] = (0, false) := by
  have hz : fld 0#32 31 0 = 0 := by decide
  by_cases h : fld old 31 0 = 0
  · have : old = 0 := BitVec.eq_of_toNat_eq (by simpa [fld, Nat.mod_eq_of_lt old.isLt] using h)
    simp [applyFields, fr, this]
  · have hset : setFld old 31 0 0 = 0 := BitVec.eq_of_toNat_eq (by simp [setFld_toNat, Nat.div_eq_of_lt old.isLt, Nat.mod_one])
    simp [applyFields, fr, Field.ok, hz, h, hset]

theorem State.putReg_lptLdPeriod_zero (s : State) {d : Nat} (hd : d < 8) :
    s.putReg (Addr.lptLdPeriod d) 0 = s.setReg (Addr.lptLdPeriod d) 0 := by
  simp only [State.putReg, regAt_lptLdPeriod d hd, RegRef.fields, lget, applyFields_word_zero, State.noteRsvd_zero]
  rfl

/-- While a domain runs, a write that its start conditions depend on does no more than report a frame length of zero (R61). -/
theorem State.ldAfter_only_of_running {s : State} {d : Nat} (hr : (s.dom d).running = true) (before : Bool) :
    Only 128 s (s.ldAfter d before) := by
  unfold State.ldAfter
  extract_lets s1 s2
  have h1 : s1 = s := if_pos hr
  have h2 : Only 128 s s2 := by
    rw [← h1]
    exact Only.ite State.cfgErr_only Only.refl
  have harm : s2.tryArm d = s2 := if_pos ((congrArg Dom.running (h2.dom rfl d)).trans hr)
  rwa [harm]

/-- R60: the zero is stored, the frame in progress goes on. -/
theorem ldPeriodWrite_zero_of_running {d : Nat} {s : State} (hd : d < 8) (hr : (s.dom d).running = true) :
    (s.ldPeriodWrite d 0).reg (Addr.lptLdPeriod d) = 0 ∧ (s.ldPeriodWrite d 0).dom d = s.dom d := by
  unfold State.ldPeriodWrite
  rw [s.putReg_lptLdPeriod_zero hd]
  have h := State.ldAfter_only_of_running (s := s.setReg (Addr.lptLdPeriod d) 0) (d := d) hr (s.ldOthers d)
  exact ⟨(h.reg rfl _).trans (s.setReg_reg_same ..), h.dom rfl d⟩

/-! ## Starting -/

/-- An armed domain starts on its tick, as a master, with the next frame it issues (R61). -/
theorem exec_domainStart {d t : Nat} {s : State} (hd : d < 8) (hr : (s.dom d).running = false) (ha : (s.dom d).arming = some t) :
    exec (.domainStart d) s = .next (((s.goto t).setDom d { (s.goto t).dom d with slaved := false }).beginFrame d
      ((s.goto t).dom d).nextFrame (s.goto t).now16) := by
  change execDomainStart d s = _
  unfold execDomainStart
  rw [ha]
  exact congrArg _ (if_pos ⟨hd, hr⟩)

/-- A domain that has issued a frame starts again at line 0 of the next frame number (R60, R61). -/
theorem domainStart_begins_next_frame {d t : Nat} {s : State} (hd : d < 8) (hr : (s.dom d).running = false)
    (hi : (s.dom d).issued = true) (ha : (s.dom d).arming = some t) :
    Gives (.domainStart d) s fun t =>
      (t.dom d).running = true ∧ (t.dom d).line = 0 ∧ (t.dom d).frame = ((s.dom d).frame + 1) % 2 ^ 32 := by
  refine ⟨_, exec_domainStart hd hr ha, ?_⟩
  generalize (s.goto t).setDom d _ = u
  obtain ⟨a, hdom⟩ := u.beginFrame_dom_same d ((s.goto t).dom d).nextFrame (s.goto t).now16
  rw [hdom]
  exact ⟨rfl, rfl, by simp only [State.goto_dom, Dom.nextFrame, hi, if_true]⟩

/-- Settles O2: the write itself, the end of the frame, the restart. -/
theorem periodZeroStopsAtFrameEnd : Obligations.PeriodZeroStopsAtFrameEnd := by
  intro d s hd
  exact ⟨ldPeriodWrite_zero_of_running hd, lineBoundary_stops_at_frame_end hd, fun _ => domainStart_begins_next_frame hd⟩

/-! ## Firing an entry -/

/-- The words of an entry are registers. -/
theorem Only.ent {m : Nat} {s t : State} (h : Only m s t) (hm : m.testBit 1 = false) (n : Nat) : t.ent n = s.ent n := by
  simp only [State.ent, h.reg hm]

/-- An entry that is due fires on the tick of its position, its domain a master or slaved (R28, R56, R65, R73). -/
theorem State.entDue.fireAt {s : State} {n code : Nat} (h : s.entDue n code) :
    s.fireAt n code = (s.goto (s.entTick n)).fireEnt n (s.entTick n) := by
  obtain ⟨-, hlive, hcode, -, hmaster, hslaved⟩ := h
  simp only [State.fireAt, hlive, hcode, State.entTick]
  cases hx : (s.dom (s.ent n).dom).slaved with
  | true =>
    have hreach : ¬ (s.pub (s.ent n).dom < (s.ent n).pos ∧ (s.dom (s.ent n).dom).per = 0) := by have := hslaved hx; omega
    simp [hreach]
  | false => simp [hmaster hx, Dom.reachTick, hx]

/-- Around its action, an entry that fires moves the time on and changes its own words, the counts of its tick and what records
that it has fired: the action meets every other part as it was, and nothing but registers changes after it. -/
theorem State.fireEnt_effect (s : State) (n t : Nat) :
    ∃ u t', Only 75 s u ∧ Only 2 (u.schedEffect (s.ent n) t') (s.fireEnt n t) := by
  unfold State.fireEnt
  extract_lets e s1 keep got k s2 s3 s4
  have h1 : Only 75 s s1 := State.setFiredIn_only.mono rfl
  have h2 : Only 75 s s2 := (State.schedDelay_only (p := got) rfl).after rfl h1
  have h3 : Only 75 s s3 := Only.ite h2 (State.goto_only.after rfl h2)
  exact ⟨s3, t + k, h3, Only.ite Only.refl State.setEnt_only⟩

/-- What CTX_WAKE does, its entry due: the action, between changes of time, registers and the table's own counts. -/
theorem State.entDue.exec_ctxWake {s : State} {n : Nat} (h : s.entDue n 5) :
    ∃ u t v, Only 75 s u ∧ exec (.ctxWake n) s = .next v ∧ Only 2 (u.schedEffect (s.ent n) t) v := by
  obtain ⟨u, t, hu, hv⟩ := (s.goto (s.entTick n)).fireEnt_effect n (s.entTick n)
  rw [State.goto_only.ent rfl] at hv
  refine ⟨u, t, _, (State.goto_only.mono rfl).trans hu, ?_, hv⟩
  rw [← h.fireAt]
  obtain ⟨hn, -⟩ := h
  exact congrArg _ (if_pos hn)

/-! ## CTX_WAKE -/

/-- The context that an entry names waits elsewhere, or not at all (R93). -/
theorem State.schedEffect_wake_of_not_waiting {s : State} {e : Ent} (t : Nat) (ha : e.action = 5)
    (hw : ∀ p, (s.ctx (fld e.w2 4 0)).wait ≠ .line e.dom p) : s.schedEffect e t = s := by
  simp only [State.schedEffect, ha]
  split
  next d p h => exact if_neg fun hd : d = e.dom => hw p (by rw [h, hd])
  next => rfl

/-- The context that an entry names waits for a position of the entry's domain (R93, R191). -/
theorem State.schedEffect_wake_of_waiting {s : State} {e : Ent} {p : Option (Nat × Nat)} (t : Nat) (ha : e.action = 5)
    (hw : (s.ctx (fld e.w2 4 0)).wait = .line e.dom p) : s.schedEffect e t = s.wake (fld e.w2 4 0) := by
  simp [State.schedEffect, ha, hw]

/-- No nest holds a context that has no sync implied (R316, R317). -/
theorem State.holdNest_of_sync_none {s : State} {k : Nat} (h : (s.ctx k).sync = none) : s.holdNest k = s := by
  simp [State.holdNest, h]

/-- A live context released from its wait is ready, with no other context changed; a sync implied by a nest would hold it again
(R317). -/
theorem State.wake_ctx {s : State} {k : Nat} (hl : (s.ctx k).state.live = true) (hs : (s.ctx k).sync = none) (j : Nat) :
    (s.wake k).ctx j = if j = k then { s.ctx k with state := .ready, wait := .none, synced := false } else s.ctx j := by
  unfold State.wake
  extract_lets x n ops c s1
  have hsync : (if x.synced then none else x.sync) = x.sync := by simp [x, hs]
  rw [if_neg (by simp [x, hl]), hsync, State.holdNest_of_sync_none (by simp [State.setCtx_ctx, x, hs]), State.setCtx_ctx]
  rfl

/-- Settles O7: the action of an entry that is due meets the contexts as they are; it wakes the context that it names just where
that waits on the entry's domain. -/
theorem ctxWakeOnlyWakesItsDomain : Obligations.CtxWakeOnlyWakesItsDomain := by
  rintro n k s hdue rfl
  obtain ⟨u, t, v, hu, hexec, hv⟩ := hdue.exec_ctxWake
  obtain ⟨-, -, haction, -⟩ := hdue
  constructor
  · intro hw
    rw [State.schedEffect_wake_of_not_waiting t haction (by simpa only [hu.ctx rfl] using hw)] at hv
    exact ⟨v, hexec, (hv.at_ctxs rfl).trans (hu.at_ctxs rfl), (hv.at_cores rfl).trans (hu.at_cores rfl)⟩
  · intro p hw hlive hsync
    rw [State.schedEffect_wake_of_waiting (p := p) t haction (by rw [hu.ctx rfl, hw])] at hv
    have hctx : ∀ j, v.ctx j = _ := fun j =>
      (hv.ctx rfl j).trans (State.wake_ctx (by rw [hu.ctx rfl, hlive]) (by rw [hu.ctx rfl, hsync]) j)
    refine ⟨v, hexec, ?_, ?_, fun j hj => ?_⟩
    · rw [hctx, if_pos rfl]
    · rw [hctx, if_pos rfl]
    · rw [hctx, if_neg hj, hu.ctx rfl]

end Sys2Proof.Machine
end
